-- ==== Sys2Proof/Word.lean ====
section
/-! DEFINITION. Word types and the plainest arithmetic on them (00 R4, R7; 01 R39). -/
namespace Sys2Proof

/-- A 32-bit register of the register window (R39). -/
abbrev Word := BitVec 32

/-- A byte of a packet, descriptor, image or LPDDR4X slot. -/
abbrev Byte := BitVec 8

/-- An instant or a span in DT units of 1/1024 ns (R7). Instants are held unwrapped; a register read
of DT takes them modulo 2^64 (R22). -/
abbrev Time := Nat

/-- DT units in one nanosecond (R7). -/
abbrev ns : Nat := 1024

/-- DT units in one microsecond. -/
abbrev us : Nat := 1024000

/-- DT units in one millisecond. -/
abbrev ms : Nat := 1024000000

end Sys2Proof
end

