-- ==== Sys2Proof/Syntax.lean ====
section
/-! DEFINITION. The commands of the block: one constructor per row of spec/opcode_table.json, in the table's order,
with the operands the rule of the row needs. Instants `t` are DT values; what the part measures, receives or reads
from outside (sensor values, packets, pin levels, host memory) arrives as an operand. -/
namespace Sys2Proof

/-- Access paths of the register window (01 R23): host link, management port, debug bus. -/
inductive Path where
  | host | mgmt | debug
  deriving DecidableEq, Repr

/-- Straps sampled at power-on and cold resets (14 R398, R400; 13 R364, R385; 15 R438; 18 R522). -/
structure Straps where
  linkMode : Bool := false
  eqSel : Nat := 0
  pairEn : Bool := false
  cascRole : Nat := 0
  mgmtAddr : Nat := 0
  /-- Edges that REFCLK shows in the 1 ms after supplies good: no strap, but observed at the same resets (05 R125). -/
  refEdges : Nat := 0
  deriving DecidableEq, Repr

/-- A descriptor fetched from submission ring `ring` at `slot` (15 R442). `bad` is a non-zero reserved byte. -/
structure Desc where
  ring : Fin 64
  slot : Nat
  typ : Nat
  attn : Bool
  fence : Bool
  bad : Bool
  tag : Nat
  addrA : Nat
  lenA : Nat
  lenB : Nat
  addrB : Nat
  param : List Byte
  deriving DecidableEq, Repr

/-- What the part has measured over the frame that a tick ends: the mean restoration correction per channel in the
units of 04 R111 and the channels in ambient overload (04 R112); the time since the tick before in ns, as the
hard-wired logic measures it on its own clock (12 R342); and the LPDDR4X bursts that went wrong in the frame, each with whether the error is
a double-bit one (07 R222); and the last read-back of current loops, by loop, in 0.5 uA (10 R297). -/
structure TickObs where
  amb : List (Nat × Int)
  ovr : List Nat
  gap : Nat
  mem : List (Nat × Bool)
  loops : List (Nat × Nat)
  deriving DecidableEq, Repr

/-- The position samples x0-x4 of one axis in a servo sample, its common-mode monitor and excitation read-back
(03 R73, R91). -/
structure PfIn where
  x0 : Int
  x1 : Int
  x2 : Int
  x3 : Int
  x4 : Int
  cmOk : Bool
  exRead : Nat
  deriving DecidableEq, Repr

/-- What the hard-wired logic sees at the fire and LQ outputs for one shot: pulses, gate time in 0.25 ns units and
the LQ code (02 R67, 12 R342). -/
structure FireObs where
  pulses : Nat
  gate : Nat
  lq : Nat
  deriving DecidableEq, Repr

/-- A time at a capture unit: coarse count p and fine code k (05 R133). -/
structure Edge where
  p : Nat
  k : Fin 64
  deriving DecidableEq, Repr

/-- A trigger pin (07 R197). -/
inductive TrigPin where
  | in0 | in1 | bus
  deriving DecidableEq, Repr

/-- What makes a trigger event (07 R197). -/
inductive TrigIn where
  /-- LOCAL: raw codes of the trigger input up to the sample taken at instant `n`, the last of the list. -/
  | samples (n : Time) (xs : List Int)
  /-- An edge at TRIG_IN0, TRIG_IN1 or TRIG_BUS. -/
  | edge (pin : TrigPin) (t : Time) (rising : Bool)
  /-- The event that the part itself holds: a peak strobe, a fired shot, another plate's trigger or a waiting cascade
  trigger. -/
  | own
  deriving DecidableEq, Repr

/-- Raw codes of a plate's inputs, A first, from the sample with index `base` (its instant is `base` x Ts); the chain's
history before the segment is included (07 R188, R207). -/
structure Capture where
  base : Nat
  raw : List (List Int)
  deriving DecidableEq, Repr

/-- A channel's share of an epoch: range in force, auto-ranging counts, window starts for the next frame, predicted-time
history t1 and t2, and the frame's history row (13 R378). -/
structure EpochChan where
  c : Nat
  gain : Nat
  clipRun : Nat
  quietRun : Nat
  wins : List (Option Nat)
  pred : List (Option Nat)
  row : List Nat
  deriving DecidableEq, Repr

/-- A complete epoch of the active unit (13 R378): number, tick DT, family set, code seed, whether its phase counters
equal the own ones, its borrow rotation pointer, its channels, and whether its configuration digest equals the own one
(R371). -/
structure Epoch where
  num : Word
  tick : Time
  famset : Nat
  seed : Word
  phases : Bool
  key : Nat
  chans : List EpochChan
  digest : Bool
  deriving DecidableEq, Repr

/-- A channel's share of a state image: history, window starts, predictors, and the frame's coarse histogram and those of its
two windows, each bin with its count, its four sub-group counts, clipped hits and amplitude sum (13 R381; 06 R158). -/
structure ImageChan where
  c : Nat
  rows : List (List Nat)
  wins : List (Option Nat)
  pred : List (Option Nat)
  coarse : List (Nat × List Nat)
  fine : List (List (Nat × List Nat))
  deriving DecidableEq, Repr

/-- Why a received packet is not accepted (14 R403, R419, R421). -/
inductive BadPkt where
  /-- SEQ from E - 2,048 to E - 1. -/
  | duplicate
  /-- Any other SEQ. -/
  | wrongSeq
  /-- A bad CRC. -/
  | crc
  /-- The ten-bit characters received on a lane within the packet, with a code or disparity error among them. -/
  | code (lane : Fin 16) (chars : List (BitVec 10))
  /-- Ended by EBP. -/
  | ebp
  /-- Malformed with a good CRC; the tag when it is a REGRD whose tag can be read. -/
  | malformed (tag : Option Nat)
  deriving DecidableEq, Repr

/-- A trigger of recovery with an observation of its own (14 R427). -/
inductive RecTrig where
  /-- Ten-bit characters received in a row on a lane, of which the first 1,024 are judged. -/
  | codes (lane : Fin 16) (chars : List (BitVec 10))
  /-- What a lane received where two consecutive lane markers were due. -/
  | markers (lane : Fin 16) (a b : List (BitVec 10))
  /-- Deskew is lost. -/
  | deskew
  /-- ALIGN is received on a lane. -/
  | align (lane : Fin 16)
  deriving DecidableEq, Repr

/-- The commands, one constructor per row of the opcode table. -/
inductive Instr where
  /-- REGISTER_WRITE (R39). One register of a REGWR packet. -/
  | registerWrite (off : Nat) (val : Word)
  /-- INTERNAL_TICK (R11). -/
  | internalTick (o : TickObs)
  /-- ENCODER_TICK (R18). -/
  | encoderTick (o : TickObs) (t : Time)
  /-- TICK_IN_EDGE (R16). An edge at TICK_IN, timed at the pin. -/
  | tickInEdge (falling : Bool) (t : Time) (o : TickObs)
  /-- DEFERRED_TICK (R13). -/
  | deferredTick (o : TickObs)
  /-- SUBSTITUTE_TICK (R14). -/
  | substituteTick (o : TickObs)
  /-- CASCADE_TICK (R389). The scheduled cascade tick is taken. -/
  | cascadeTick (o : TickObs)
  /-- ENC_EDGE_ACCEPTED (R19). The accepted levels of ENC_A and ENC_B at a sample. -/
  | encEdgeAccepted (a b : Bool) (t : Time)
  /-- SHOT_FIRE (R60). The next planned shot of emitter e. -/
  | shotFire (e : Fin 16) (o : FireObs)
  /-- BRN_LIMIT_WRITE (R65). -/
  | brnLimitWrite (off : Nat) (val : Word)
  /-- SERVO_SAMPLE (R73). Servo sample n with the position samples of axes 0-7. -/
  | servoSample (n : Nat) (x : List PfIn)
  /-- ENGAGE (R90). -/
  | engage (a : Fin 8)
  /-- PARK (R90). -/
  | park (a : Fin 8)
  /-- DISABLE (R90). -/
  | disable (a : Fin 8)
  /-- CLEAR (R90). -/
  | clear (a : Fin 8)
  /-- ENGAGE_COMPLETE (R90). -/
  | engageComplete (a : Fin 8)
  /-- PARK_TIMEOUT (R90). -/
  | parkTimeout (a : Fin 8)
  /-- HCH_FB_LOSS (R91). -/
  | hchFbLoss (a : Fin 8)
  /-- HCH_FREEZE (R92). -/
  | hchFreeze (a : Fin 8)
  /-- HCH_TRACK_ERR (R92). -/
  | hchTrackErr (a : Fin 8)
  /-- HCH_TABLE_SWAP (R80). -/
  | hchTableSwap (a : Fin 8)
  /-- CROSSLINK_DRIVE_WORD (R95). Drive word, the axis contribution to the drive vector, and whether the sender is running. -/
  | crosslinkDriveWord (a : Fin 8) (drive contrib : Int) (run : Bool)
  /-- GAIN_SET (R106). -/
  | gainSet (c : Fin 512) (range : Fin 4) (all : Bool)
  /-- LISTEN_WINDOW_OPEN (R156). The window of the last fired shot of the bank's emitter opens. -/
  | listenWindowOpen (b : Fin 32)
  /-- LISTEN_WINDOW_CLOSE (R105). Channels of the bank whose clip and range detectors fired. -/
  | listenWindowClose (b : Fin 32) (clip seen : List Nat)
  /-- LOW_COMPARATOR_TURN_ON (R114). -/
  | lowComparatorTurnOn (c : Fin 512) (x : Edge)
  /-- HIGH_COMPARATOR_TURN_ON (R114). -/
  | highComparatorTurnOn (c : Fin 512) (x : Edge)
  /-- LOW_COMPARATOR_TURN_OFF (R114). -/
  | lowComparatorTurnOff (c : Fin 512) (x : Edge) (clip : Bool)
  /-- EVENT_TIME_LIMIT (R115). -/
  | eventTimeLimit (c : Fin 512)
  /-- PLL_LOCK (R129). -/
  | pllLock
  /-- PLL_NO_REFERENCE (R129). -/
  | pllNoReference
  /-- TIM_REF_LOSS (R130). -/
  | timRefLoss
  /-- TIM_REF_RESTORED (R131). -/
  | timRefRestored
  /-- TIM_PLL_UNLOCK (R132). -/
  | timPllUnlock
  /-- TI_EDGE (R142). -/
  | tiEdge (i : Fin 8) (rising : Bool) (x : Edge)
  /-- IU_ARM (R144). -/
  | iuArm (u : Fin 4) (t : Time)
  /-- IU_WINDOW_EXPIRY (R145). -/
  | iuWindowExpiry (u : Fin 4)
  /-- IU_GATE_END (R147). -/
  | iuGateEnd (u : Fin 4)
  /-- IU_RES_READ (R149). -/
  | iuResRead (u : Fin 4) (path : Path) (tag : Nat)
  /-- ZOOM_SPLIT (R161). -/
  | zoomSplit (e : Fin 16)
  /-- TRIGGER_EVENT (R208). -/
  | triggerEvent (p : Fin 8) (x : TrigIn)
  /-- HOLDOFF_END (R201). -/
  | holdoffEnd (p : Fin 8) (t : Time)
  /-- AUTO_TRIGGER (R202). -/
  | autoTrigger (p : Fin 8) (t : Time)
  /-- PLATE_SETUP_DONE (R207). -/
  | plateSetupDone (p : Fin 8) (t : Time)
  /-- PLATE_FILL_DONE (R207). -/
  | plateFillDone (p : Fin 8) (t : Time)
  /-- CAPTURE_COMPLETE (R207). -/
  | captureComplete (p : Fin 8) (t : Time) (x : Capture)
  /-- REARM_DONE (R207). -/
  | rearmDone (p : Fin 8) (t : Time)
  /-- SEGMENT_COMMIT (R216). -/
  | segmentCommit (p : Fin 8)
  /-- STREAM_SEGMENT_SKIP (R211). -/
  | streamSegmentSkip (p : Fin 8)
  /-- AUX_AUTORANGE (R194): raw codes of AUX input k at the range in force, as runs of equal codes; t is the instant of the
  first sample. -/
  | auxAutorange (k : Fin 16) (t : Time) (xs : List (Int × Nat))
  /-- CASC_TRIG_MESSAGE (R210). A TRIG message of a device's plate with its DT, received at t: going up the chain to the master
  or down from it; whether its CRC is right (13 R387). -/
  | cascTrigMessage (pos : Fin 16) (plate : Fin 8) (dt t : Time) (up crc : Bool)
  /-- MEM_TRAIN (R221). -/
  | memTrain
  /-- MEM_TRAIN_DONE (R221). -/
  | memTrainDone
  /-- MEM_TRAIN_FAIL (R221). -/
  | memTrainFail (mask : Nat)
  /-- SW_GO (R240). -/
  | swGo (p : Fin 8)
  /-- FLT_FADE_DONE (R242). -/
  | fltFadeDone (p : Fin 8)
  /-- SYNC_N_EDGE (R249). -/
  | syncNEdge (t : Time)
  /-- SYNC_CMD (R249). -/
  | syncCmd
  /-- CASC_SYNC_MESSAGE (R249). A SYNC message with its instant, received at t; whether its CRC is right. -/
  | cascSyncMessage (ts t : Time) (crc : Bool)
  /-- SYNC_INSTANT (R250). -/
  | syncInstant
  /-- CAL_MEASUREMENT_DONE (R269). The engine's measurement of a target of the active run. -/
  | calMeasurementDone (tgt : Nat) (v : List Int)
  /-- APPLY_GO (R271). -/
  | applyGo
  /-- APPLY_DISCARD (R271). -/
  | applyDiscard
  /-- HK_ROUND_START (R285). -/
  | hkRoundStart (t : Time)
  /-- HK_SLOT_END (R284). The conversion result in 0.1 uV for host slots, 1/64 degree for on-die slots; none when out of range. -/
  | hkSlotEnd (x : Option Int)
  /-- HK_ROUND_PUBLISH (R285). Slots in whose watch span an input used had an out-of-window sample (R290). -/
  | hkRoundPublish (out : List Nat)
  /-- HK_OPEN (R289). -/
  | hkOpen (i : Fin 32) (t : Time)
  /-- HK_OPEN_CLEARED (R289). -/
  | hkOpenCleared (i : Fin 32) (t : Time)
  /-- LOOP_FAULT (R297). Open when `dev` is false, deviation when true; the last four read-back samples, the latest at t: the
  current in 0.5 uA, and whether the regulator is at full drive. -/
  | loopFault (l : Fin 8) (dev : Bool) (t : Time) (xs : Vector (Nat × Bool) 4)
  /-- LOOP_FAULT_CLEARED (R297), with the same operands. -/
  | loopFaultCleared (l : Fin 8) (dev : Bool) (t : Time) (xs : Vector (Nat × Bool) 4)
  /-- LOOP_WDOG (R296). -/
  | loopWdog (l : Fin 8)
  /-- EL_CTL_WRITE (R299). -/
  | elCtlWrite (val : Word)
  /-- THM_SENSOR_FAIL (R314). -/
  | thmSensorFail (s : Fin 32)
  /-- CRIT_CLR (R319). -/
  | critClr
  /-- SENSOR_CLR (R317). -/
  | sensorClr (mask : Word)
  /-- SHUT_COMPARATOR_TRIP (R320). -/
  | shutComparatorTrip (s : Fin 24)
  /-- GUARD_INPUT_ACCEPTED (R330). Samples of half w of a channel of pair i, 10 us apart: whether the pin reads closed, and the
  read-back of the test output that the pair's entry names for the channel. -/
  | guardInputAccepted (w : Fin 2) (i : Fin 8) (ch : Fin 2) (xs : List (Bool × Bool))
  /-- DISCREPANCY (R332). In half w. -/
  | discrepancy (w : Fin 2) (i : Fin 8)
  /-- TEST_PULSE (R334). Samples 10 us apart, from the last before the low pulse of TPk to the first after it: the channels, by
  2 i + ch, that read closed, and the test outputs that read back high. -/
  | testPulse (k : Fin 4) (xs : List (Nat × Nat))
  /-- TP_READBACK (R335). -/
  | tpReadback (k : Fin 4) (differ : Bool)
  /-- SO_READBACK (R339). -/
  | soReadback (k : Fin 4) (w : Fin 2) (level : Bool)
  /-- LEN_READBACK (R339). -/
  | lenReadback (h : Fin 4) (w : Fin 2) (level : Bool)
  /-- SO_OFFTEST_START (R337). Whether the read-back went low before the end and high after it. -/
  | soOfftestStart (k : Fin 4) (w : Fin 2) (low high : Bool)
  /-- SCAN_STALL (R341). HWL samples of a monitored axis (0 fast, 1 slow) 10 us apart, the last at t: the differential voltage of
  its PF pins in each microsecond up to the sample, in 0.5 mV, and whether the head has fired within the preceding SCAN_WIN. -/
  | scanStall (h : Fin 4) (a : Fin 2) (t : Time) (xs : List (List Int × Bool))
  /-- STALL_CLR (R341). -/
  | stallClr (mask : Word)
  /-- SAFETY_EXCHANGE (R327). -/
  | safetyExchange
  /-- HEARTBEAT (R327). -/
  | heartbeat
  /-- DISAGREE (R327). -/
  | disagree
  /-- OSC (R327). -/
  | osc
  /-- RAM_UE (R343). -/
  | ramUe
  /-- FW_TRAP (R343). -/
  | fwTrap
  /-- SPB_CRC (R356). -/
  | spbCrc
  /-- LOCKOUT_RESET (R346). -/
  | lockoutReset (width : Nat)
  /-- SAF_OSC_READY (R328). -/
  | safOscReady
  /-- SAF_SELFTEST_DONE (R328). -/
  | safSelftestDone (pass : Bool)
  /-- PW_PRESENT (R358). -/
  | pwPresent (len : Nat)
  /-- PW_CLOSE (R358). -/
  | pwClose
  /-- PW_DERIVATION_DONE (R358). -/
  | pwDerivationDone
  /-- PW_SESSION_TIMEOUT (R358). -/
  | pwSessionTimeout
  /-- PW_REFUSAL_END (R358). -/
  | pwRefusalEnd
  /-- CLAIM_ROUND (R368). The claim number of the other unit, none when none is received. -/
  | claimRound (t : Time) (other : Option Nat)
  /-- HANDOVER (R369). -/
  | handover (t : Time)
  /-- CLAIM_WATCHDOG_EXPIRY (R370). -/
  | claimWatchdogExpiry
  /-- SELF_CHECK_FAIL (R371). -/
  | selfCheckFail (bit : Nat)
  /-- PAIR_HEARTBEAT_LOSS (R376). -/
  | pairHeartbeatLoss
  /-- DRIVE_DETECTION (R373). Whether the own and the other unit's self-check passed. -/
  | driveDetection (own other : Bool)
  /-- ECHO_COMPARE (R374). The other unit's records of a frame. -/
  | echoCompare (fr : Word) (recs : List (List Byte))
  /-- ECHO_DETECTION (R374). -/
  | echoDetection (own other : Bool)
  /-- EPOCH_RECEIVED (R379). -/
  | epochReceived (e : Epoch)
  /-- STATE_IMAGE_RECEIVED (R381). A whole state image: what it holds of Burin and AFE in the form of an epoch, with the number of
  the frame whose tick it was taken at, and the Stipple state of its channels. -/
  | stateImageReceived (e : Epoch) (xs : List ImageChan)
  /-- PAIR_LINK_UP (R381). The partner's priority, its QUALIFIED, and whether the digests agree. -/
  | pairLinkUp (prio : Nat) (qual digest : Bool)
  /-- SUSPECT_CLR (R375). -/
  | suspectClr
  /-- YIELD (R383). -/
  | yield
  /-- REQUAL (R381). -/
  | requal
  /-- CASC_CTL_WRITE (R385). -/
  | cascCtlWrite (val : Word)
  /-- CASC_TICK_MESSAGE (R389). A TICK message with its frame number and DT, received at t; whether its CRC is right. -/
  | cascTickMessage (fr : Word) (dt t : Time) (crc : Bool)
  /-- CASC_SEED_MESSAGE (R391). A SEED message received at t; whether its CRC is right. -/
  | cascSeedMessage (fam : Fin 16) (code : Word) (dt t : Time) (crc : Bool)
  /-- CASC_ALIGN (R390). A member's position and measured delay, and the step its DT takes. -/
  | cascAlign (pos : Fin 16) (delay : Nat) (step : Int)
  /-- CASC_MASTER_LOST (R393). -/
  | cascMasterLost
  /-- CASC_PEER_WAIT_EXPIRY (R392). -/
  | cascPeerWaitExpiry
  /-- LANE_ALIGNED (R408). The lane number and config byte of the ALIGN sets received on lane l. -/
  | laneAligned (l : Fin 16) (num cfg : Nat)
  /-- LNK_UP (R409). -/
  | lnkUp
  /-- CPL_RECEIVED (R424). A completion packet: its tag, STATUS and payload length. -/
  | cplReceived (tag : Nat) (status : Nat) (bytes : Nat)
  /-- DOORBELL (R440). -/
  | doorbell
  /-- FLOW_RECEIVED (R420). The credits of bytes 8-15. -/
  | flowReceived (ph nph ch pd cd : Nat)
  /-- ACK_RECEIVED (R422). -/
  | ackReceived (n : Nat)
  /-- NAK_RECEIVED (R423). -/
  | nakReceived (n : Nat)
  /-- BAD_PACKET_RECEIVED (R421). -/
  | badPacketReceived (k : BadPkt)
  /-- ACK_SEND (R422). -/
  | ackSend
  /-- FLOW_SEND (R420). -/
  | flowSend
  /-- REPLAY_TIMER (R423). -/
  | replayTimer
  /-- LNK_RECOVERY (R427). -/
  | lnkRecovery (k : RecTrig)
  /-- RETRAIN (R427). -/
  | retrain
  /-- LNK_LANE_DROP (R428). -/
  | lnkLaneDrop
  /-- LNK_DOWN (R428). -/
  | lnkDown
  /-- RETUNE (R429). -/
  | retune
  /-- LNK_RETUNE_DONE (R429). -/
  | lnkRetuneDone
  /-- LNK_RETUNE_FAIL (R429). -/
  | lnkRetuneFail
  /-- LNK_CPL_TIMEOUT (R424). -/
  | lnkCplTimeout (tag : Nat)
  /-- HOT_RESET (R430). -/
  | hotReset
  /-- ADAPT_FREEZE (R412). -/
  | adaptFreeze (l : Fin 16)
  /-- EIDLE_EXIT (R431). -/
  | eidleExit
  /-- DOORBELL_PAGE_READ_DONE (R440). Indices read for the enabled rings: (ring, value). -/
  | doorbellPageReadDone (ok : Bool) (sq cq eq : List (Nat × Nat))
  /-- DESCRIPTOR_FETCH_DONE (R443). The descriptors that the outstanding fetch of ring r read. -/
  | descriptorFetchDone (r : Fin 64) (ok : Bool) (ds : List Desc)
  /-- NOP (R445). -/
  | nop (d : Desc)
  /-- ACQ_START (R445). -/
  | acqStart (d : Desc)
  /-- ACQ_STOP (R445). -/
  | acqStop (d : Desc)
  /-- CONFIG_APPLY (R453). -/
  | configApply (d : Desc) (data : Option (List Byte))
  /-- STREAM_ECHO (R447). -/
  | streamEcho (d : Desc)
  /-- HIST_DUMP (R180). -/
  | histDump (d : Desc)
  /-- PLATE_ARM (R445). -/
  | plateArm (d : Desc)
  /-- PLATE_DRAIN (R448). -/
  | plateDrain (d : Desc)
  /-- CAL_RUN (R266). -/
  | calRun (d : Desc)
  /-- TABLE_LOAD (R445). -/
  | tableLoad (d : Desc) (data : Option (List Byte))
  /-- FW_LOAD (R490). -/
  | fwLoad (d : Desc) (data : Option (List Byte))
  /-- FW_VERIFY_DONE (R490). -/
  | fwVerifyDone
  /-- FW_SWITCH_DONE (R492). -/
  | fwSwitchDone
  /-- SPB_LOAD (R354). -/
  | spbLoad (d : Desc) (data : Option (List Byte))
  /-- POWER_VOTE (R481). -/
  | powerVote (d : Desc)
  /-- ATTN_SEND (R444). -/
  | attnSend (kind : Nat) (ring : Nat)
  /-- EVENT_RECORD_WRITE (R452). -/
  | eventRecordWrite
  /-- RING_CTL_WRITE (R460). -/
  | ringCtlWrite (off : Nat) (val : Word)
  /-- MGMT_WRITE (R438). `late`: the access is not served within 1 ms. -/
  | mgmtWrite (off : Nat) (val : Word) (late : Bool)
  /-- VOTE_WRITE (R465). -/
  | voteWrite (client : Nat) (val : Word)
  /-- ENTRY_WINDOW_END (R469). -/
  | entryWindowEnd
  /-- WAKE_SEQUENCE_COMPLETE (R470). The microseconds without device time that the AO oscillator has counted since CORE went off. -/
  | wakeSequenceComplete (us : Nat)
  /-- WAKE_ATTEMPT_TIMEOUT (R474). The rails without power-good, and whether the reference or the PLL was late. -/
  | wakeAttemptTimeout (pg : Nat) (osc : Bool)
  /-- WAKE_RETRY_TIMER (R475). -/
  | wakeRetryTimer
  /-- WAKE_RETRY (R475). -/
  | wakeRetry
  /-- PAD_RELEASE (R470). -/
  | padRelease (val : Word)
  /-- DRST (R476). -/
  | drst (val : Word)
  /-- AO_TIMER_WRITE (R482). -/
  | aoTimerWrite (val : Word)
  /-- AO_TIMER_EXPIRY (R471). -/
  | aoTimerExpiry
  /-- WAKE_N_LOW (R471). -/
  | wakeNLow
  /-- CASCADE_ACTIVITY_WAKE (R471). -/
  | cascadeActivityWake
  /-- PG_LOST (R475). -/
  | pgLost (i : Fin 6)
  /-- POWER_ON_RESET (R476). The straps as sampled. -/
  | powerOnReset (x : Straps)
  /-- COLD_RESET (R476). The straps as sampled. -/
  | coldReset (x : Straps)
  /-- SUPPLY_DROOP (R513). The straps as sampled. -/
  | supplyDroop (x : Straps)
  /-- POWER_OFF (R513). -/
  | powerOff
  /-- CORE_WATCHDOG (R476). -/
  | coreWatchdog
  /-- CHAL_NEW (R486). -/
  | chalNew
  /-- TOKEN_SUBMIT (R487). -/
  | tokenSubmit
  /-- TOKEN_VERIFY_DONE (R487). -/
  | tokenVerifyDone
  /-- TOKEN_REFUSAL_END (R487). -/
  | tokenRefusalEnd
  /-- LOCK (R485). -/
  | lock
  /-- KEY_PROG (R488). The UNLOCK bit of the command word. -/
  | keyProg (unlock : Bool)
  /-- KEY_REVOKE (R488). -/
  | keyRevoke
  /-- KEY_BURN_DONE (R488). -/
  | keyBurnDone
  /-- DBG_CTL_WRITE (R493). -/
  | dbgCtlWrite (val : Word)
  /-- DEBUG_BUS_ACCESS (R493). Through DBG_ADDR and DBG_DATA: a write of DBG_DATA with val, or a read of it; off is the address. -/
  | debugBusAccess (write : Bool) (off : Nat) (val : Word)
  /-- HALT (R495). -/
  | halt
  /-- RESUME (R495). -/
  | resume
  /-- STEP (R495). -/
  | step
  /-- EXTEST (R497). -/
  | extest
  /-- CLAMP (R497). -/
  | clamp
  /-- HIGHZ (R497). -/
  | highz
  /-- SAMPLE_PRELOAD (R498). -/
  | samplePreload
  /-- IDCODE (R496). -/
  | idcode
  /-- BYPASS (R496). -/
  | bypass
  /-- DBGACC (R493). The level of the control word. -/
  | dbgacc (level : Fin 4)
  /-- LO_REGISTER_READ (R23). A read of a register through a path; a host read carries its REGRD tag. -/
  | loRegisterRead (path : Path) (off : Nat) (tag : Nat)
  /-- TICK_ANNOUNCEMENT (R366). -/
  | tickAnnouncement (dt : Time)
  /-- SHUT_COMPARATOR_CLEAR (R320). -/
  | shutComparatorClear
  /-- LCH_RECEIVED (R429). -/
  | lchReceived (width block : Nat)
  deriving DecidableEq, Repr

end Sys2Proof
end

