-- ==== Sys2Proof/Decode.lean ====
section
/-! DEFINITION. Decoding a command from table bits. The opcode table of this block gives no row any bits: commands are
events, packets and register accesses, so no word spells a command. -/
namespace Sys2Proof

/-- The command that a word of `nbits` bits spells by the bits of the opcode table: none, since the table gives its
rows no bits. -/
def decodeTableWord (_nbits _w : Nat) : Option Instr := none

end Sys2Proof
end

