-- ==== Sys2Proof/Machine/Bits.lean ====
section
/-! DEFINITION. Bit fields, signed fields, byte order and rounding helpers used by every block (00 R4). -/
namespace Sys2Proof.Machine

/-- Bits [hi:lo] of a number, as a number (R4). -/
def bitsN (v hi lo : Nat) : Nat := (v >>> lo) % 2 ^ (hi + 1 - lo)

/-- Bits [hi:lo] of a register (R4). -/
def fld (w : Word) (hi lo : Nat) : Nat := bitsN w.toNat hi lo

/-- Bit i of a register. -/
def bit (w : Word) (i : Nat) : Bool := w.toNat.testBit i

/-- Bits [hi:lo] of a register as a two's-complement number. -/
def sfld (w : Word) (hi lo : Nat) : Int :=
  let v := fld w hi lo
  if v < 2 ^ (hi - lo) then (v : Int) else (v : Int) - 2 ^ (hi + 1 - lo)

/-- A number of `n` bits read as two's complement. -/
def toSigned (n v : Nat) : Int :=
  let u := v % 2 ^ n
  if u < 2 ^ (n - 1) then (u : Int) else (u : Int) - 2 ^ n

/-- The low `n` bits of an integer, as two's complement. -/
def ofSigned (n : Nat) (i : Int) : Nat := (i % (2 ^ n : Int)).toNat

/-- The word with value `v` modulo 2^32. -/
def word (v : Nat) : Word := BitVec.ofNat 32 v

/-- The word of an integer in two's complement. -/
def wordI (i : Int) : Word := word (ofSigned 32 i)

/-- A Boolean as 0 or 1. -/
def b2n (b : Bool) : Nat := if b then 1 else 0

/-- Register w with bits [hi:lo] replaced by v. -/
def setFld (w : Word) (hi lo v : Nat) : Word :=
  let m := (2 ^ (hi + 1 - lo) - 1) <<< lo
  word ((w.toNat &&& (0xFFFFFFFF ^^^ m)) ||| ((v <<< lo) &&& m))

/-- Low and high halves of a 64-bit quantity (R23). -/
def loW (v : Nat) : Word := word v
/-- The high half. -/
def hiW (v : Nat) : Word := word (v >>> 32)

/-- An integer limited to lo..hi. -/
def clampI (lo hi v : Int) : Int := if v < lo then lo else if hi < v then hi else v

/-- Saturating increment of a 32-bit counter (R40). -/
def satInc (w : Word) : Word := if w.toNat = 0xFFFFFFFF then w else w + 1

/-- Saturating addition of `n` to a 32-bit counter (R40). -/
def satAdd (w : Word) (n : Nat) : Word := if w.toNat + n > 0xFFFFFFFF then 0xFFFFFFFF else word (w.toNat + n)

/-- `n` little-endian bytes of a number (R4). -/
def leBytes : Nat → Nat → List Byte
  | 0, _ => []
  | n + 1, v => BitVec.ofNat 8 v :: leBytes n (v / 256)

/-- The number whose little-endian bytes are the list (R4). -/
def leNat : List Byte → Nat
  | [] => 0
  | b :: bs => b.toNat + 256 * leNat bs

/-- Bytes lo .. lo+n-1 of a list, as a little-endian number; missing bytes read 0. -/
def leAt (bs : List Byte) (lo n : Nat) : Nat := leNat ((bs.drop lo).take n)

/-- Floor division of an integer by a positive number. -/
def floorDiv (a : Int) (n : Nat) : Int := a / (n : Int)

/-- Round an exact quotient to the nearest integer, half away from zero (R74). -/
def roundDiv (a : Int) (n : Nat) : Int :=
  if n = 0 then 0 else
  if 0 ≤ a then ((2 * a + n) / (2 * (n : Int))) else -((2 * (-a) + n) / (2 * (n : Int)))

/-- Set bit i of a mask. -/
def setBit (m i : Nat) : Nat := m ||| (1 <<< i)
/-- Clear bit i of a mask. -/
def clrBit (m i : Nat) : Nat := if m.testBit i then m - (1 <<< i) else m
/-- Put bit i of a mask to b. -/
def putBit (m i : Nat) (b : Bool) : Nat := if b then setBit m i else clrBit m i
/-- Number of set bits among the low `n`. -/
def popCount : Nat → Nat → Nat
  | 0, _ => 0
  | n + 1, m => b2n (m.testBit n) + popCount n m
/-- Indices below `n` of the set bits, lowest first. -/
def bitsOf (n m : Nat) : List Nat := (List.range n).filter (fun i => m.testBit i)

/-- Integer square root by bits: `n` result bits, structurally recursive so that the kernel evaluates it. -/
def isqrtGo : Nat → Nat → Nat → Nat
  | 0, _, r => r
  | b + 1, v, r => let c := r + 2 ^ b; isqrtGo b v (if c * c ≤ v then c else r)
/-- The floor of the square root of a number below 2^160. -/
def isqrt (v : Nat) : Nat := isqrtGo 80 v 0

/-- Integer cube root by bits. -/
def icbrtGo : Nat → Nat → Nat → Nat
  | 0, _, r => r
  | b + 1, v, r => let c := r + 2 ^ b; icbrtGo b v (if c * c * c ≤ v then c else r)
/-- The floor of the cube root of a number below 2^192. -/
def icbrt (v : Nat) : Nat := icbrtGo 64 v 0

/-- Insert into a list kept in rising order without repeats. -/
def insSorted (n : Nat) : List Nat → List Nat
  | [] => [n]
  | m :: l => if m = n then m :: l else if n < m then n :: m :: l else m :: insSorted n l

/-- Entries from an instant on, of a list with the latest first, and the one in force at it. -/
def keepSince {α : Type} (t : Nat) (time : α → Nat) : List α → List α
  | [] => []
  | x :: l => if t ≤ time x then x :: keepSince t time l else [x]

/-- Fold a function over indices 0..n-1. -/
def forN {α : Type} (n : Nat) (f : Nat → α → α) (a : α) : α := (List.range n).foldl (fun x i => f i x) a

/-- Fold over a list of indices. -/
def forL {α β : Type} (l : List β) (f : β → α → α) (a : α) : α := l.foldl (fun x i => f i x) a

/-- Update list entry i. -/
def setAt {α : Type} : List α → Nat → α → List α
  | [], _, _ => []
  | _ :: l, 0, v => v :: l
  | x :: l, i + 1, v => x :: setAt l i v

end Sys2Proof.Machine
end

