-- ==== Sys2Proof/Machine/Crc.lean ====
section
/-! DEFINITION. CRC-32 of packets, tables and images (14 R416). -/
namespace Sys2Proof.Machine

/-- One bit of the reflected CRC-32 with polynomial 0x04C11DB7 (14 R416). -/
def crcBit (c : BitVec 32) : BitVec 32 := if c.getLsbD 0 then (c >>> 1) ^^^ 0xEDB88320#32 else c >>> 1

/-- One byte. -/
def crcByte (c : BitVec 32) (b : Byte) : BitVec 32 :=
  let c := c ^^^ b.setWidth 32
  crcBit (crcBit (crcBit (crcBit (crcBit (crcBit (crcBit (crcBit c)))))))

/-- CRC-32 of a byte string (14 R416). -/
def crc32 (bs : List Byte) : BitVec 32 := bs.foldl crcByte 0xFFFFFFFF#32 ^^^ 0xFFFFFFFF#32

/-- The last four bytes of a table hold the CRC-32 over the bytes before them, little-endian. -/
def crcOk (bs : List Byte) : Bool :=
  let n := bs.length - 4
  decide (4 ≤ bs.length) && leAt bs n 4 = (crc32 (bs.take n)).toNat

end Sys2Proof.Machine
end

