-- ==== Sys2Proof/Machine/Events.lean ====
section
/-! DEFINITION. Event numbers (15 R452 and the event list of each chapter). -/
namespace Sys2Proof.Machine.Ev

/-- Events 16-24, BIT_PAUSE by index (R43). -/
def BIT_PAUSE (i : Nat) : Nat := 16 + i

/-- Event 25 (R43). -/
def BIT_REJECT : Nat := 25

/-- Event 26 (R43). -/
def BIT_DERATED : Nat := 26

/-- Event 27 (R43). -/
def BIT_DROP : Nat := 27

/-- Event 28 (R43). -/
def TICK_DEFERRED : Nat := 28

/-- Event 29 (R43). -/
def TICK_DROPPED : Nat := 29

/-- Event 30 (R43). -/
def TICK_TIMEOUT : Nat := 30

/-- Event 31 (R43). -/
def ENC_ERROR : Nat := 31

/-- Event 32 (R43). -/
def TICK_CFG_REJECT : Nat := 32

/-- Event 33 (R70). -/
def BRN_PLAN_REJECT : Nat := 33

/-- Event 34 (R70). -/
def BRN_PLAN_TRUNC : Nat := 34

/-- Event 35 (R70). -/
def BRN_LIMIT_REJECT : Nat := 35

/-- Event 36 (R70). -/
def BRN_CHARGE_SKIP : Nat := 36

/-- Event 37 (R70). -/
def BRN_COUNT_STOP : Nat := 37

/-- Event 38 (R70). -/
def BRN_TABLE_REJECT : Nat := 38

/-- Events 480-487, HCH_FB_LOSS by index (R99). -/
def HCH_FB_LOSS (i : Nat) : Nat := 480 + i

/-- Events 488-495, HCH_FREEZE by index (R99). -/
def HCH_FREEZE (i : Nat) : Nat := 488 + i

/-- Events 496-503, HCH_TRACK_ERR by index (R99). -/
def HCH_TRACK_ERR (i : Nat) : Nat := 496 + i

/-- Event 504 (R99). -/
def HCH_PROF_REJECT : Nat := 504

/-- Event 505 (R99). -/
def HCH_SYNC_LATE : Nat := 505

/-- Event 506 (R99). -/
def HCH_SP_CLAMP : Nat := 506

/-- Event 507 (R99). -/
def HCH_TABLE_REJECT : Nat := 507

/-- Event 508 (R99). -/
def HCH_TABLE_SWAP : Nat := 508

/-- Event 256 (R124). -/
def AFE_AMB_OVER : Nat := 256

/-- Event 257 (R124). -/
def AFE_AGC_LIMIT : Nat := 257

/-- Event 258 (R124). -/
def AFE_MODE_SETTLE : Nat := 258

/-- Event 259 (R124). -/
def AFE_EVT_OVF : Nat := 259

/-- Events 260-263, AFE_BIAS_LIMIT by index (R124). -/
def AFE_BIAS_LIMIT (i : Nat) : Nat := 260 + i

/-- Events 264-267, AFE_BIAS_TEMP_LOST by index (R124). -/
def AFE_BIAS_TEMP_LOST (i : Nat) : Nat := 264 + i

/-- Event 272 (R153). -/
def TIM_REF_LOSS : Nat := 272

/-- Event 273 (R153). -/
def TIM_REF_RESTORED : Nat := 273

/-- Event 274 (R153). -/
def TIM_PLL_UNLOCK : Nat := 274

/-- Event 275 (R153). -/
def TIM_CD_DNL_FAIL : Nat := 275

/-- Events 276-279, TI_FIFO_FULL by index (R153). -/
def TI_FIFO_FULL (i : Nat) : Nat := 276 + i

/-- Event 320 (R187). -/
def STP_CFG_REJECT : Nat := 320

/-- Event 321 (R187). -/
def STP_ZOOM_MISS : Nat := 321

/-- Event 322 (R187). -/
def STP_CODE_FAIL : Nat := 322

/-- Event 323 (R187). -/
def STP_ECHO_DROP : Nat := 323

/-- Event 324 (R187). -/
def STP_TABLE_REJECT : Nat := 324

/-- Events 384-391, PLT_ACQ_DONE by index (R230). -/
def PLT_ACQ_DONE (i : Nat) : Nat := 384 + i

/-- Events 392-399, PLT_MISSED by index (R230). -/
def PLT_MISSED (i : Nat) : Nat := 392 + i

/-- Events 400-407, PLT_FORCED by index (R230). -/
def PLT_FORCED (i : Nat) : Nat := 400 + i

/-- Event 408 (R230). -/
def PLT_CFG_REJECT : Nat := 408

/-- Event 409 (R230). -/
def PLT_RANGE_OVF : Nat := 409

/-- Event 410 (R230). -/
def PLT_STREAM_GAP : Nat := 410

/-- Event 411 (R230). -/
def MEM_TRAIN_DONE : Nat := 411

/-- Event 412 (R230). -/
def MEM_TRAIN_FAIL : Nat := 412

/-- Event 413 (R230). -/
def MEM_CE : Nat := 413

/-- Event 414 (R230). -/
def MEM_UE : Nat := 414

/-- Events 448-455, FLT_FADE_DONE by index (R262). -/
def FLT_FADE_DONE (i : Nat) : Nat := 448 + i

/-- Event 456 (R262). -/
def FLT_BANK_REJECT : Nat := 456

/-- Event 457 (R262). -/
def FLT_SWITCH_REJECT : Nat := 457

/-- Event 458 (R262). -/
def FLT_SYNC : Nat := 458

/-- Event 459 (R262). -/
def FLT_SYNC_LATE : Nat := 459

/-- Event 460 (R262). -/
def FLT_ACC_CLOSED : Nat := 460

/-- Event 608 (R281). -/
def PRF_RUN_DONE : Nat := 608

/-- Event 609 (R281). -/
def CAL_REJECT : Nat := 609

/-- Event 610 (R281). -/
def PRF_RUN_ABORT : Nat := 610

/-- Event 611 (R281). -/
def PRF_IMAGE_REJECT : Nat := 611

/-- Event 612 (R281). -/
def PRF_APPLIED : Nat := 612

/-- Event 613 (R281). -/
def PRF_STALE : Nat := 613

/-- Event 544 (R304). -/
def HK_OPEN : Nat := 544

/-- Event 545 (R304). -/
def HK_OPEN_CLEARED : Nat := 545

/-- Event 546 (R304). -/
def HK_CFG_REJECT : Nat := 546

/-- Event 547 (R304). -/
def HK_OVERRANGE : Nat := 547

/-- Events 548-555, LOOP_FAULT by index (R304). -/
def LOOP_FAULT (i : Nat) : Nat := 548 + i

/-- Event 556 (R304). -/
def LOOP_WDOG : Nat := 556

/-- Event 557 (R304). -/
def EL_CHANGED : Nat := 557

/-- Event 576 (R325). -/
def THM_WARN : Nat := 576

/-- Event 577 (R325). -/
def THM_THROTTLE : Nat := 577

/-- Event 578 (R325). -/
def THM_STEP : Nat := 578

/-- Event 579 (R325). -/
def THM_RELEASE : Nat := 579

/-- Event 580 (R325). -/
def THM_RATE : Nat := 580

/-- Event 581 (R325). -/
def THM_CRIT : Nat := 581

/-- Event 582 (R325). -/
def THM_CRIT_DONE : Nat := 582

/-- Event 583 (R325). -/
def THM_SENSOR_FAIL : Nat := 583

/-- Event 584 (R325). -/
def THM_AREA_PINNED : Nat := 584

/-- Event 585 (R325). -/
def THM_CFG_REJECT : Nat := 585

/-- Event 160 (R363). -/
def SAF_DEMAND : Nat := 160

/-- Event 161 (R363). -/
def SAF_RELEASE : Nat := 161

/-- Event 162 (R363). -/
def SAF_LOCKOUT : Nat := 162

/-- Event 163 (R363). -/
def SAF_LOCKOUT_CLEARED : Nat := 163

/-- Event 164 (R363). -/
def SAF_RESET_REFUSED : Nat := 164

/-- Event 165 (R363). -/
def SAF_INTERNAL : Nat := 165

/-- Events 166-169, SAF_STALL by index (R363). -/
def SAF_STALL (i : Nat) : Nat := 166 + i

/-- Event 170 (R363). -/
def SAF_SPB_ACCEPTED : Nat := 170

/-- Event 171 (R363). -/
def SAF_SPB_REJECT : Nat := 171

/-- Event 172 (R363). -/
def SAF_SPB_DEFAULTED : Nat := 172

/-- Event 173 (R363). -/
def SAF_PW_FAIL : Nat := 173

/-- Event 174 (R363). -/
def SAF_RWP_DENIED : Nat := 174

/-- Event 175 (R363). -/
def SAF_STATE : Nat := 175

/-- Event 224 (R397). -/
def PAIR_FAILOVER : Nat := 224

/-- Event 225 (R397). -/
def PAIR_DISAGREE : Nat := 225

/-- Event 226 (R397). -/
def PAIR_UNQUALIFIED : Nat := 226

/-- Event 227 (R397). -/
def PAIR_QUALIFIED : Nat := 227

/-- Event 228 (R397). -/
def PAIR_LINK_LOST : Nat := 228

/-- Event 229 (R397). -/
def PAIR_CFG_MISMATCH : Nat := 229

/-- Event 230 (R397). -/
def PAIR_YIELD_REFUSED : Nat := 230

/-- Event 231 (R397). -/
def CASC_MASTER_LOST : Nat := 231

/-- Event 232 (R397). -/
def CASC_JOIN : Nat := 232

/-- Event 233 (R397). -/
def CASC_PEER_MISSING : Nat := 233

/-- Event 234 (R397). -/
def CASC_LATE : Nat := 234

/-- Event 235 (R397). -/
def CASC_SEED_APPLIED : Nat := 235

/-- Event 64 (R435). -/
def LNK_UP : Nat := 64

/-- Event 65 (R435). -/
def LNK_DOWN : Nat := 65

/-- Event 66 (R435). -/
def LNK_RECOVERY : Nat := 66

/-- Event 67 (R435). -/
def LNK_REPLAY : Nat := 67

/-- Event 68 (R435). -/
def LNK_CRC_ERR : Nat := 68

/-- Event 69 (R435). -/
def LNK_LANE_DROP : Nat := 69

/-- Event 70 (R435). -/
def LNK_RETUNE_DONE : Nat := 70

/-- Event 71 (R435). -/
def LNK_RETUNE_FAIL : Nat := 71

/-- Event 72 (R435). -/
def LNK_CPL_TIMEOUT : Nat := 72

/-- Event 73 (R435). -/
def LNK_UNEXPECTED_CPL : Nat := 73

/-- Event 74 (R435). -/
def LNK_MALFORMED : Nat := 74

/-- Event 75 (R435). -/
def LNK_CFG_MISMATCH : Nat := 75

/-- Event 76 (R435). -/
def LNK_HOT_RESET : Nat := 76

/-- Event 0 (R461). -/
def CFG_APPLIED : Nat := 0

/-- Event 1 (R461). -/
def CFG_DEFAULTED : Nat := 1

/-- Event 2 (R461). -/
def CFG_FORMAT : Nat := 2

/-- Event 3 (R461). -/
def DSC_RING_ERR : Nat := 3

/-- Event 4 (R461). -/
def DSC_FETCH_FAIL : Nat := 4

/-- Event 5 (R461). -/
def DSC_BAD_DESC : Nat := 5

/-- Event 6 (R461). -/
def DSC_CQ_FULL : Nat := 6

/-- Event 7 (R461). -/
def DSC_EQ_FULL : Nat := 7

/-- Event 8 (R461). -/
def ECHO_NO_BUF : Nat := 8

/-- Event 96 (R484). -/
def PWR_STATE : Nat := 96

/-- Event 97 (R484). -/
def PWR_WAKE : Nat := 97

/-- Event 98 (R484). -/
def PWR_WAKE_ABORT : Nat := 98

/-- Event 99 (R484). -/
def PWR_WAKE_FAILED : Nat := 99

/-- Event 100 (R484). -/
def PWR_VOTE_REFUSED : Nat := 100

/-- Event 101 (R484). -/
def PWR_CORE_WDOG : Nat := 101

/-- Event 102 (R484). -/
def PWR_RESET : Nat := 102

/-- Event 128 (R502). -/
def SEC_UNLOCK : Nat := 128

/-- Event 129 (R502). -/
def SEC_UNLOCK_FAIL : Nat := 129

/-- Event 130 (R502). -/
def SEC_LOCK : Nat := 130

/-- Event 131 (R502). -/
def SEC_DBG_OPEN : Nat := 131

/-- Event 132 (R502). -/
def SEC_DBG_CLOSE : Nat := 132

/-- Event 133 (R502). -/
def SEC_DENIED : Nat := 133

/-- Event 134 (R502). -/
def SEC_SP_HALT : Nat := 134

/-- Event 135 (R502). -/
def SEC_FW_ACCEPTED : Nat := 135

/-- Event 136 (R502). -/
def SEC_FW_REJECT : Nat := 136

/-- Event 137 (R502). -/
def SEC_KEY_PROG : Nat := 137

/-- Event 138 (R502). -/
def SEC_FACTORY : Nat := 138

end Sys2Proof.Machine.Ev
end

