-- ==== Sys2Proof/Machine/Reg.lean ====
section
/-! DEFINITION. Absolute offsets of the registers in the 16 MB register window (01 R38, R39; the register
tables R40, R42, R68, R97, R122, R151, R185, R227, R229, R260, R279, R302, R323, R361, R395, R433, R459, R482, R500). -/
namespace Sys2Proof.Machine.Reg

/-- GLB.PART_ID (R40). -/
def GLB_PART_ID : Nat := 0x0

/-- GLB.STEPPING (R40). -/
def GLB_STEPPING : Nat := 0x4

/-- GLB.STATUS (R40). -/
def GLB_STATUS : Nat := 0x8

/-- GLB.TICK_CTL (R40). -/
def GLB_TICK_CTL : Nat := 0x10

/-- GLB.FRAME_LEN (R40). -/
def GLB_FRAME_LEN : Nat := 0x14

/-- GLB.FRAME_MIN (R40). -/
def GLB_FRAME_MIN : Nat := 0x18

/-- GLB.FRAME_MAX (R40). -/
def GLB_FRAME_MAX : Nat := 0x1C

/-- GLB.ENC_CTL (R40). -/
def GLB_ENC_CTL : Nat := 0x20

/-- GLB.ENC_SCALE (R40). -/
def GLB_ENC_SCALE : Nat := 0x24

/-- GLB.ENC_TICK_DIST (R40). -/
def GLB_ENC_TICK_DIST : Nat := 0x28

/-- GLB.FRAME_NUM (R40). -/
def GLB_FRAME_NUM : Nat := 0x30

/-- GLB.TICK_DT_LO (R40). -/
def GLB_TICK_DT_LO : Nat := 0x38

/-- GLB.TICK_DT_HI (R40). -/
def GLB_TICK_DT_HI : Nat := 0x3C

/-- GLB.DT_LO (R40). -/
def GLB_DT_LO : Nat := 0x40

/-- GLB.DT_HI (R40). -/
def GLB_DT_HI : Nat := 0x44

/-- GLB.ENC_POS (R40). -/
def GLB_ENC_POS : Nat := 0x48

/-- GLB.TICK_ENC_POS (R40). -/
def GLB_TICK_ENC_POS : Nat := 0x4C

/-- GLB.TICK_DEFER_CNT (R40). -/
def GLB_TICK_DEFER_CNT : Nat := 0x50

/-- GLB.TICK_DROP_CNT (R40). -/
def GLB_TICK_DROP_CNT : Nat := 0x54

/-- GLB.TICK_SUBST_CNT (R40). -/
def GLB_TICK_SUBST_CNT : Nat := 0x58

/-- GLB.ENC_ERR_CNT (R40). -/
def GLB_ENC_ERR_CNT : Nat := 0x5C

/-- BIT.STATUS (R42). -/
def BIT_STATUS : Nat := 0xFC0000

/-- BIT.CHECK_STATUS (R42). -/
def BIT_CHECK_STATUS : Nat := 0xFC0010

/-- BIT.CAP_LINK (R42). -/
def BIT_CAP_LINK : Nat := 0xFC0040

/-- BIT.CAP_MEM (R42). -/
def BIT_CAP_MEM : Nat := 0xFC0044

/-- BIT.CAP_PAIR (R42). -/
def BIT_CAP_PAIR : Nat := 0xFC0048

/-- BIT.CAP_CASC (R42). -/
def BIT_CAP_CASC : Nat := 0xFC004C

/-- BIT.CAP_CAL (R42). -/
def BIT_CAP_CAL : Nat := 0xFC0050

/-- BIT.SAFE_RES (R42). -/
def BIT_SAFE_RES : Nat := 0xFC0054

/-- BIT.BUDGET_x (R42). -/
def BIT_BUDGET (x : Nat) : Nat := 0xFC0100 + 4 * x

/-- BIT.FLOOR_ECHO (R42). -/
def BIT_FLOOR_ECHO : Nat := 0xFC0140

/-- BIT.FLOOR_PAIR (R42). -/
def BIT_FLOOR_PAIR : Nat := 0xFC0144

/-- BIT.METER_x (R42). -/
def BIT_METER (x : Nat) : Nat := 0xFC0180 + 4 * x

/-- BIT.LAST_x (R42). -/
def BIT_LAST (x : Nat) : Nat := 0xFC01C0 + 4 * x

/-- BIT.PAUSE_CNT_x (R42). -/
def BIT_PAUSE_CNT (x : Nat) : Nat := 0xFC0200 + 4 * x

/-- BIT.DROP_ECHO (R42). -/
def BIT_DROP_ECHO : Nat := 0xFC0240

/-- BIT.DROP_CASC (R42). -/
def BIT_DROP_CASC : Nat := 0xFC0244

/-- BRN.STATUS (R68). -/
def BRN_STATUS : Nat := 0x100000

/-- BRN.PLAN_STATUS (R68). -/
def BRN_PLAN_STATUS : Nat := 0x100004

/-- BRN.CODE_CTL (R68). -/
def BRN_CODE_CTL : Nat := 0x100010

/-- BRN.CODE_SEED (R68). -/
def BRN_CODE_SEED : Nat := 0x100014

/-- BRN.DITHER_SPAN (R68). -/
def BRN_DITHER_SPAN : Nat := 0x100018

/-- BRN.PP_SPACING (R68). -/
def BRN_PP_SPACING : Nat := 0x10001C

/-- BRN.EM_CTL_e (R68). -/
def BRN_EM_CTL (e : Nat) : Nat := 0x100040 + 4 * e

/-- BRN.EM_START_e (R68). -/
def BRN_EM_START (e : Nat) : Nat := 0x100080 + 4 * e

/-- BRN.EM_PERIOD_e (R68). -/
def BRN_EM_PERIOD (e : Nat) : Nat := 0x1000C0 + 4 * e

/-- BRN.EM_COUNT_e (R68). -/
def BRN_EM_COUNT (e : Nat) : Nat := 0x100100 + 4 * e

/-- BRN.ILLUM_MAPi (R68). -/
def BRN_ILLUM_MAP (i : Nat) : Nat := 0x100140 + 4 * i

/-- BRN.ILLUM_EN (R68). -/
def BRN_ILLUM_EN : Nat := 0x100150

/-- BRN.LIM_CHARGE_e (R68). -/
def BRN_LIM_CHARGE (e : Nat) : Nat := 0x100200 + 4 * e

/-- BRN.LIM_PULSE_e (R68). -/
def BRN_LIM_PULSE (e : Nat) : Nat := 0x100240 + 4 * e

/-- BRN.LIM_GATE_e (R68). -/
def BRN_LIM_GATE (e : Nat) : Nat := 0x100280 + 4 * e

/-- BRN.FIRED_e (R68). -/
def BRN_FIRED (e : Nat) : Nat := 0x100300 + 4 * e

/-- BRN.SKIP_e (R68). -/
def BRN_SKIP (e : Nat) : Nat := 0x100340 + 4 * e

/-- BRN.LIMIT_HIT (R68). -/
def BRN_LIMIT_HIT : Nat := 0x100380

/-- HCH.STATUS (R97). -/
def HCH_STATUS : Nat := 0x200000

/-- HCH.SAMPLE_NUM (R97). -/
def HCH_SAMPLE_NUM : Nat := 0x200004

/-- HCH.TABLE_CTL (R97). -/
def HCH_TABLE_CTL : Nat := 0x200010

/-- HCH.TABLE_STATUS (R97). -/
def HCH_TABLE_STATUS : Nat := 0x200014

/-- HCH.PROF_STATUS (R97). -/
def HCH_PROF_STATUS : Nat := 0x200018

/-- HCH.SYNC_LATE_CNT (R97). -/
def HCH_SYNC_LATE_CNT : Nat := 0x20001C

/-- HCH.AX_CMD (R97). -/
def HCH_AX_CMD (a : Nat) : Nat := 0x201000 + 4096 * a

/-- HCH.AX_STATE (R97). -/
def HCH_AX_STATE (a : Nat) : Nat := 0x201004 + 4096 * a

/-- HCH.SCHED_CTL (R97). -/
def HCH_SCHED_CTL (a : Nat) : Nat := 0x201008 + 4096 * a

/-- HCH.EX_CTL (R97). -/
def HCH_EX_CTL (a : Nat) : Nat := 0x20100C + 4096 * a

/-- HCH.PROF_CTL (R97). -/
def HCH_PROF_CTL (a : Nat) : Nat := 0x201010 + 4096 * a

/-- HCH.PROF_LOHI (R97). -/
def HCH_PROF_LOHI (a : Nat) : Nat := 0x201014 + 4096 * a

/-- HCH.PROF_PERIOD (R97). -/
def HCH_PROF_PERIOD (a : Nat) : Nat := 0x201018 + 4096 * a

/-- HCH.PROF_AUX (R97). -/
def HCH_PROF_AUX (a : Nat) : Nat := 0x20101C + 4096 * a

/-- HCH.V_MAX (R97). -/
def HCH_V_MAX (a : Nat) : Nat := 0x201020 + 4096 * a

/-- HCH.A_MAX (R97). -/
def HCH_A_MAX (a : Nat) : Nat := 0x201024 + 4096 * a

/-- HCH.J_MAX (R97). -/
def HCH_J_MAX (a : Nat) : Nat := 0x201028 + 4096 * a

/-- HCH.SP_LIM (R97). -/
def HCH_SP_LIM (a : Nat) : Nat := 0x20102C + 4096 * a

/-- HCH.PARK (R97). -/
def HCH_PARK (a : Nat) : Nat := 0x201030 + 4096 * a

/-- HCH.PARK_SLEW (R97). -/
def HCH_PARK_SLEW (a : Nat) : Nat := 0x201034 + 4096 * a

/-- HCH.DRV_LIM (R97). -/
def HCH_DRV_LIM (a : Nat) : Nat := 0x201038 + 4096 * a

/-- HCH.FB_CHK (R97). -/
def HCH_FB_CHK (a : Nat) : Nat := 0x20103C + 4096 * a

/-- HCH.FRZ_CTL (R97). -/
def HCH_FRZ_CTL (a : Nat) : Nat := 0x201040 + 4096 * a

/-- HCH.FRZ_VMIN (R97). -/
def HCH_FRZ_VMIN (a : Nat) : Nat := 0x201044 + 4096 * a

/-- HCH.ERR_CTL (R97). -/
def HCH_ERR_CTL (a : Nat) : Nat := 0x201048 + 4096 * a

/-- HCH.SCHED_THj (R97). -/
def HCH_SCHED_TH (a : Nat) (j : Nat) : Nat := 0x201050 + 4096 * a + 4 * j

/-- HCH.POS (R97). -/
def HCH_POS (a : Nat) : Nat := 0x201080 + 4096 * a

/-- HCH.SETPOINT (R97). -/
def HCH_SETPOINT (a : Nat) : Nat := 0x201084 + 4096 * a

/-- HCH.DRIVE (R97). -/
def HCH_DRIVE (a : Nat) : Nat := 0x201088 + 4096 * a

/-- HCH.ERR (R97). -/
def HCH_ERR (a : Nat) : Nat := 0x20108C + 4096 * a

/-- HCH.INTEG (R97). -/
def HCH_INTEG (a : Nat) : Nat := 0x201090 + 4096 * a

/-- HCH.V_LIN (R97). -/
def HCH_V_LIN (a : Nat) : Nat := 0x201094 + 4096 * a

/-- HCH.EX_READ (R97). -/
def HCH_EX_READ (a : Nat) : Nat := 0x201098 + 4096 * a

/-- HCH.REGION_r (R97). -/
def HCH_REGION (a : Nat) (r : Nat) (w : Nat) : Nat := 0x201200 + 4096 * a + 32 * r + 4 * w

/-- HCH.BIQ_q (R97). -/
def HCH_BIQ (a : Nat) (q : Nat) (c : Nat) : Nat := 0x201300 + 4096 * a + 20 * q + 4 * c

/-- HCH.I_LIM (R97). -/
def HCH_I_LIM (a : Nat) : Nat := 0x201340 + 4096 * a

/-- HCH.GT0_i (R97). -/
def HCH_GT0 (a : Nat) (i : Nat) : Nat := 0x201400 + 4096 * a + 4 * i

/-- HCH.GT1_i (R97). -/
def HCH_GT1 (a : Nat) (i : Nat) : Nat := 0x201500 + 4096 * a + 4 * i

/-- AFE.STATUS (R122). -/
def AFE_STATUS : Nat := 0x300000

/-- AFE.GAIN_SET (R122). -/
def AFE_GAIN_SET : Nat := 0x300004

/-- AFE.BANK_CTL_b (R122). -/
def AFE_BANK_CTL (b : Nat) : Nat := 0x300100 + 4 * b

/-- AFE.OVF_CNT_b (R122). -/
def AFE_OVF_CNT (b : Nat) : Nat := 0x300200 + 4 * b

/-- AFE.GAIN_CHG_CNT_b (R122). -/
def AFE_GAIN_CHG_CNT (b : Nat) : Nat := 0x300280 + 4 * b

/-- AFE.AMB_OVER_w (R122). -/
def AFE_AMB_OVER (w : Nat) : Nat := 0x300300 + 4 * w

/-- AFE.BIAS_CTL_h (R122). -/
def AFE_BIAS_CTL (h : Nat) : Nat := 0x300400 + 16 * h

/-- AFE.BIAS_TC_h (R122). -/
def AFE_BIAS_TC (h : Nat) : Nat := 0x300404 + 16 * h

/-- AFE.BIAS_LIM_h (R122). -/
def AFE_BIAS_LIM (h : Nat) : Nat := 0x300408 + 16 * h

/-- AFE.BIAS_SLEW_h (R122). -/
def AFE_BIAS_SLEW (h : Nat) : Nat := 0x30040C + 16 * h

/-- AFE.BIAS_OUT_h (R122). -/
def AFE_BIAS_OUT (h : Nat) : Nat := 0x300440 + 4 * h

/-- AFE.CH_CTL_c (R122). -/
def AFE_CH_CTL (c : Nat) : Nat := 0x301000 + 4 * c

/-- AFE.CH_STATE_c (R122). -/
def AFE_CH_STATE (c : Nat) : Nat := 0x302000 + 4 * c

/-- AFE.AMB_c (R122). -/
def AFE_AMB (c : Nat) : Nat := 0x303000 + 4 * c

/-- TIM.STATUS (R151). -/
def TIM_STATUS : Nat := 0x400000

/-- TIM.AGE_TRIM (R151). -/
def TIM_AGE_TRIM : Nat := 0x400004

/-- TIM.AGE_APPLIED (R151). -/
def TIM_AGE_APPLIED : Nat := 0x400008

/-- TIM.REF_CTL (R151). -/
def TIM_REF_CTL : Nat := 0x40000C

/-- TIM.REF_LOSS_CNT (R151). -/
def TIM_REF_LOSS_CNT : Nat := 0x400010

/-- TIM.CD_ACTIVE (R151). -/
def TIM_CD_ACTIVE : Nat := 0x400020

/-- TIM.TI_IN_i (R151). -/
def TIM_TI_IN (i : Nat) : Nat := 0x400100 + 4 * i

/-- TIM.TI_OFS_i (R151). -/
def TIM_TI_OFS (i : Nat) : Nat := 0x400120 + 4 * i

/-- TIM.TI_HOLD_CNT_i (R151). -/
def TIM_TI_HOLD_CNT (i : Nat) : Nat := 0x400140 + 4 * i

/-- TIM.IU_CTL_u (R151). -/
def TIM_IU_CTL (u : Nat) : Nat := 0x400200 + 16 * u

/-- TIM.IU_WIN_u (R151). -/
def TIM_IU_WIN (u : Nat) : Nat := 0x400204 + 16 * u

/-- TIM.IU_GLEN_u (R151). -/
def TIM_IU_GLEN (u : Nat) : Nat := 0x400208 + 16 * u

/-- TIM.IU_STATUS_u (R151). -/
def TIM_IU_STATUS (u : Nat) : Nat := 0x40020C + 16 * u

/-- TIM.IU_LOST_u (R151). -/
def TIM_IU_LOST (u : Nat) : Nat := 0x400280 + 4 * u

/-- TIM.IU_RES_u_j (R151). -/
def TIM_IU_RES (u : Nat) (j : Nat) : Nat := 0x400300 + 32 * u + 4 * j

/-- TIM.TBL_NOM_w (R151). -/
def TIM_TBL_NOM (w : Nat) : Nat := 0x400400 + 4 * w

/-- TIM.TBL_c (R151). -/
def TIM_TBL (c : Nat) (m : Nat) (q : Nat) : Nat := 0x410000 + 384 * c + 128 * m + 4 * q

/-- TIM.TBL_TI_i (R151). -/
def TIM_TBL_TI (i : Nat) (m : Nat) (q : Nat) : Nat := 0x440000 + 256 * i + 128 * m + 4 * q

/-- STP.STATUS (R185). -/
def STP_STATUS : Nat := 0x500000

/-- STP.ZOOM_CTL (R185). -/
def STP_ZOOM_CTL : Nat := 0x500010

/-- STP.PEAK_CTL (R185). -/
def STP_PEAK_CTL : Nat := 0x500014

/-- STP.CC_CTL (R185). -/
def STP_CC_CTL : Nat := 0x500018

/-- STP.PERS_CTL (R185). -/
def STP_PERS_CTL : Nat := 0x50001C

/-- STP.ECHO_CTL (R185). -/
def STP_ECHO_CTL : Nat := 0x500020

/-- STP.PP_CTL (R185). -/
def STP_PP_CTL : Nat := 0x500024

/-- STP.DUMP_CTL (R185). -/
def STP_DUMP_CTL : Nat := 0x500028

/-- STP.RANGE_SCALE (R185). -/
def STP_RANGE_SCALE : Nat := 0x50002C

/-- STP.WIN_OFS_h (R185). -/
def STP_WIN_OFS (h : Nat) : Nat := 0x500040 + 4 * h

/-- STP.NEAR_h (R185). -/
def STP_NEAR (h : Nat) : Nat := 0x500050 + 4 * h

/-- STP.WALK_CTL_h (R185). -/
def STP_WALK_CTL (h : Nat) : Nat := 0x500060 + 4 * h

/-- STP.ZR_ADJ_h (R185). -/
def STP_ZR_ADJ (h : Nat) : Nat := 0x500070 + 4 * h

/-- STP.ZR_CAL_h (R185). -/
def STP_ZR_CAL (h : Nat) : Nat := 0x500080 + 4 * h

/-- STP.ECHO_DROP_CNT_h (R185). -/
def STP_ECHO_DROP_CNT (h : Nat) : Nat := 0x500100 + 16 * h

/-- STP.ZOOM_MISS_CNT_h (R185). -/
def STP_ZOOM_MISS_CNT (h : Nat) : Nat := 0x500104 + 16 * h

/-- STP.CODE_FAIL_CNT_h (R185). -/
def STP_CODE_FAIL_CNT (h : Nat) : Nat := 0x500108 + 16 * h

/-- STP.PP_REJ_CNT_h (R185). -/
def STP_PP_REJ_CNT (h : Nat) : Nat := 0x50010C + 16 * h

/-- STP.ZOOM_POS_c (R185). -/
def STP_ZOOM_POS (c : Nat) : Nat := 0x501000 + 4 * c

/-- STP.ECHO_SUM_c (R185). -/
def STP_ECHO_SUM (c : Nat) : Nat := 0x502000 + 4 * c

/-- STP.WALK_h (R185). -/
def STP_WALK (h : Nat) (r : Nat) (i : Nat) : Nat := 0x508000 + 1024 * h + 256 * r + 4 * i

/-- PLT.STATUS (R227). -/
def PLT_STATUS (p : Nat) : Nat := 0x600000 + 65536 * p

/-- PLT.CTL (R227). -/
def PLT_CTL (p : Nat) : Nat := 0x600004 + 65536 * p

/-- PLT.IN_SEL_j (R227). -/
def PLT_IN_SEL (p : Nat) (j : Nat) : Nat := 0x600010 + 65536 * p + 4 * j

/-- PLT.SEG_LEN (R227). -/
def PLT_SEG_LEN (p : Nat) : Nat := 0x600020 + 65536 * p

/-- PLT.SEG_COUNT (R227). -/
def PLT_SEG_COUNT (p : Nat) : Nat := 0x600024 + 65536 * p

/-- PLT.PRE_LEN (R227). -/
def PLT_PRE_LEN (p : Nat) : Nat := 0x600028 + 65536 * p

/-- PLT.POST_DLY (R227). -/
def PLT_POST_DLY (p : Nat) : Nat := 0x60002C + 65536 * p

/-- PLT.REGION_BASE (R227). -/
def PLT_REGION_BASE (p : Nat) : Nat := 0x600030 + 65536 * p

/-- PLT.REGION_SIZE (R227). -/
def PLT_REGION_SIZE (p : Nat) : Nat := 0x600034 + 65536 * p

/-- PLT.DEC_CTL (R227). -/
def PLT_DEC_CTL (p : Nat) : Nat := 0x600040 + 65536 * p

/-- PLT.ENV_N (R227). -/
def PLT_ENV_N (p : Nat) : Nat := 0x600044 + 65536 * p

/-- PLT.TRG_CTL (R227). -/
def PLT_TRG_CTL (p : Nat) : Nat := 0x600050 + 65536 * p

/-- PLT.TRG_LVL (R227). -/
def PLT_TRG_LVL (p : Nat) : Nat := 0x600054 + 65536 * p

/-- PLT.TRG_HYST (R227). -/
def PLT_TRG_HYST (p : Nat) : Nat := 0x600058 + 65536 * p

/-- PLT.WMIN (R227). -/
def PLT_WMIN (p : Nat) : Nat := 0x60005C + 65536 * p

/-- PLT.WMAX (R227). -/
def PLT_WMAX (p : Nat) : Nat := 0x600060 + 65536 * p

/-- PLT.HOLDOFF (R227). -/
def PLT_HOLDOFF (p : Nat) : Nat := 0x600064 + 65536 * p

/-- PLT.AUTO_TO (R227). -/
def PLT_AUTO_TO (p : Nat) : Nat := 0x600068 + 65536 * p

/-- PLT.SHOT_DLY (R227). -/
def PLT_SHOT_DLY (p : Nat) : Nat := 0x60006C + 65536 * p

/-- PLT.EXT_OFS (R227). -/
def PLT_EXT_OFS (p : Nat) : Nat := 0x600070 + 65536 * p

/-- PLT.SEQ (R227). -/
def PLT_SEQ (p : Nat) : Nat := 0x600080 + 65536 * p

/-- PLT.SEG_COMMIT (R227). -/
def PLT_SEG_COMMIT (p : Nat) : Nat := 0x600084 + 65536 * p

/-- PLT.MISSED (R227). -/
def PLT_MISSED (p : Nat) : Nat := 0x600088 + 65536 * p

/-- PLT.MISSED_LATE (R227). -/
def PLT_MISSED_LATE (p : Nat) : Nat := 0x60008C + 65536 * p

/-- PLT.HOLD_IGN (R227). -/
def PLT_HOLD_IGN (p : Nat) : Nat := 0x600090 + 65536 * p

/-- PLT.FORCED_CNT (R227). -/
def PLT_FORCED_CNT (p : Nat) : Nat := 0x600094 + 65536 * p

/-- PLT.SEG_SKIP (R227). -/
def PLT_SEG_SKIP (p : Nat) : Nat := 0x600098 + 65536 * p

/-- PLT.SEG_LOST (R227). -/
def PLT_SEG_LOST (p : Nat) : Nat := 0x60009C + 65536 * p

/-- PLT.LAST_TRIG_LO (R227). -/
def PLT_LAST_TRIG_LO (p : Nat) : Nat := 0x6000A0 + 65536 * p

/-- PLT.LAST_TRIG_HI (R227). -/
def PLT_LAST_TRIG_HI (p : Nat) : Nat := 0x6000A4 + 65536 * p

/-- PLT.BUF_LEVEL (R227). -/
def PLT_BUF_LEVEL (p : Nat) : Nat := 0x6000B0 + 65536 * p

/-- PLT.AUX_CTL_k (R227). -/
def PLT_AUX_CTL (p : Nat) (k : Nat) : Nat := 0x600100 + 65536 * p + 4 * k

/-- PLT.AUX_RANGE_k (R227). -/
def PLT_AUX_RANGE (p : Nat) (k : Nat) : Nat := 0x600110 + 65536 * p + 4 * k

/-- GLB.MEM_CFG (R229). -/
def GLB_MEM_CFG : Nat := 0x1000

/-- GLB.MEM_CTL (R229). -/
def GLB_MEM_CTL : Nat := 0x1004

/-- GLB.MEM_STATUS (R229). -/
def GLB_MEM_STATUS : Nat := 0x1008

/-- GLB.MEM_USABLE (R229). -/
def GLB_MEM_USABLE : Nat := 0x100C

/-- GLB.MEM_CE_CNT (R229). -/
def GLB_MEM_CE_CNT : Nat := 0x1010

/-- GLB.MEM_UE_CNT (R229). -/
def GLB_MEM_UE_CNT : Nat := 0x1014

/-- GLB.MEM_UE_ADDR (R229). -/
def GLB_MEM_UE_ADDR : Nat := 0x1018

/-- FLT.SYNC_CTL (R260). -/
def FLT_SYNC_CTL : Nat := 0x700000

/-- FLT.SYNC_CMD (R260). -/
def FLT_SYNC_CMD : Nat := 0x700004

/-- FLT.SYNC_DT_LO (R260). -/
def FLT_SYNC_DT_LO : Nat := 0x700008

/-- FLT.SYNC_DT_HI (R260). -/
def FLT_SYNC_DT_HI : Nat := 0x70000C

/-- FLT.SYNC_CNT (R260). -/
def FLT_SYNC_CNT : Nat := 0x700010

/-- FLT.SYNC_IGN_CNT (R260). -/
def FLT_SYNC_IGN_CNT : Nat := 0x700014

/-- FLT.SYNC_LATE_CNT (R260). -/
def FLT_SYNC_LATE_CNT : Nat := 0x700018

/-- FLT.STATUS (R260). -/
def FLTP_STATUS (p : Nat) : Nat := 0x710000 + 8192 * p

/-- FLT.CHAIN_CTL (R260). -/
def FLTP_CHAIN_CTL (p : Nat) : Nat := 0x710004 + 8192 * p

/-- FLT.MA_CTL (R260). -/
def FLTP_MA_CTL (p : Nat) : Nat := 0x710008 + 8192 * p

/-- FLT.SW_CTL (R260). -/
def FLTP_SW_CTL (p : Nat) : Nat := 0x71000C + 8192 * p

/-- FLT.SW_GO (R260). -/
def FLTP_SW_GO (p : Nat) : Nat := 0x710010 + 8192 * p

/-- FLT.ACC_CTL (R260). -/
def FLTP_ACC_CTL (p : Nat) : Nat := 0x710014 + 8192 * p

/-- FLT.GD_APPLIED (R260). -/
def FLTP_GD_APPLIED (p : Nat) : Nat := 0x710020 + 8192 * p

/-- FLT.GD_OLD (R260). -/
def FLTP_GD_OLD (p : Nat) : Nat := 0x710024 + 8192 * p

/-- FLT.GD_NEW (R260). -/
def FLTP_GD_NEW (p : Nat) : Nat := 0x710028 + 8192 * p

/-- FLT.FADE_DT_LO (R260). -/
def FLTP_FADE_DT_LO (p : Nat) : Nat := 0x710030 + 8192 * p

/-- FLT.FADE_DT_HI (R260). -/
def FLTP_FADE_DT_HI (p : Nat) : Nat := 0x710034 + 8192 * p

/-- FLT.MID_DT_LO (R260). -/
def FLTP_MID_DT_LO (p : Nat) : Nat := 0x710038 + 8192 * p

/-- FLT.MID_DT_HI (R260). -/
def FLTP_MID_DT_HI (p : Nat) : Nat := 0x71003C + 8192 * p

/-- FLT.FADE_CNT (R260). -/
def FLTP_FADE_CNT (p : Nat) : Nat := 0x710040 + 8192 * p

/-- FLT.ACC_SKIP (R260). -/
def FLTP_ACC_SKIP (p : Nat) : Nat := 0x710044 + 8192 * p

/-- FLT.ACC_CLOSE_CNT (R260). -/
def FLTP_ACC_CLOSE_CNT (p : Nat) : Nat := 0x710048 + 8192 * p

/-- FLT.BANK_ACT (R260). -/
def FLTP_BANK_ACT (p : Nat) : Nat := 0x710050 + 8192 * p

/-- FLT.BANK_ACT_GD (R260). -/
def FLTP_BANK_ACT_GD (p : Nat) : Nat := 0x710054 + 8192 * p

/-- FLT.BANK_SHD (R260). -/
def FLTP_BANK_SHD (p : Nat) : Nat := 0x710058 + 8192 * p

/-- FLT.BANK_SHD_GD (R260). -/
def FLTP_BANK_SHD_GD (p : Nat) : Nat := 0x71005C + 8192 * p

/-- FLT.COEF_ACT_i (R260). -/
def FLTP_COEF_ACT (p : Nat) (i : Nat) : Nat := 0x710800 + 8192 * p + 4 * i

/-- FLT.COEF_SHD_i (R260). -/
def FLTP_COEF_SHD (p : Nat) (i : Nat) : Nat := 0x711000 + 8192 * p + 4 * i

/-- PRF.STATUS (R279). -/
def PRF_STATUS : Nat := 0x800000

/-- PRF.RUN_STATUS (R279). -/
def PRF_RUN_STATUS : Nat := 0x800004

/-- PRF.REJ_CNT (R279). -/
def PRF_REJ_CNT : Nat := 0x800008

/-- PRF.BORROW_CTL (R279). -/
def PRF_BORROW_CTL : Nat := 0x800010

/-- PRF.APPLY_CTL (R279). -/
def PRF_APPLY_CTL : Nat := 0x800014

/-- PRF.APPLY (R279). -/
def PRF_APPLY : Nat := 0x800018

/-- PRF.STALE_CTL (R279). -/
def PRF_STALE_CTL : Nat := 0x80001C

/-- PRF.DIE_ID_LO (R279). -/
def PRF_DIE_ID_LO : Nat := 0x800020

/-- PRF.DIE_ID_HI (R279). -/
def PRF_DIE_ID_HI : Nat := 0x800024

/-- PRF.BORROW_NOW_w (R279). -/
def PRF_BORROW_NOW (w : Nat) : Nat := 0x800040 + 4 * w

/-- PRF.BORROW_EXCL_w (R279). -/
def PRF_BORROW_EXCL (w : Nat) : Nat := 0x800080 + 4 * w

/-- PRF.STALE_w (R279). -/
def PRF_STALE (w : Nat) : Nat := 0x800100 + 4 * w

/-- PRF.TRIM_AFE_c (R279). -/
def PRF_TRIM_AFE (c : Nat) : Nat := 0x810000 + 4 * c

/-- PRF.TRIM_PG_b (R279). -/
def PRF_TRIM_PG (b : Nat) (q : Nat) : Nat := 0x811000 + 8 * b + 4 * q

/-- PRF.TRIM_PLT_p_s (R279). -/
def PRF_TRIM_PLT (p : Nat) (s : Nat) : Nat := 0x811200 + 32 * p + 4 * s

/-- PRF.TRIM_EX_x (R279). -/
def PRF_TRIM_EX (x : Nat) : Nat := 0x811300 + 4 * x

/-- PRF.TRIM_LOOP_l (R279). -/
def PRF_TRIM_LOOP (l : Nat) : Nat := 0x811340 + 4 * l

/-- PRF.ZR_TJ_h (R279). -/
def PRF_ZR_TJ (h : Nat) : Nat := 0x811380 + 4 * h

/-- PRF.CD_TJ_c (R279). -/
def PRF_CD_TJ (c : Nat) : Nat := 0x812000 + 4 * c

/-- HKP.STATUS (R302). -/
def HKP_STATUS : Nat := 0x900000

/-- HKP.ROUND_PERIOD (R302). -/
def HKP_ROUND_PERIOD : Nat := 0x900004

/-- HKP.ROUND_CNT (R302). -/
def HKP_ROUND_CNT : Nat := 0x900008

/-- HKP.EL_CTL (R302). -/
def HKP_EL_CTL : Nat := 0x90000C

/-- HKP.OPEN_NOW (R302). -/
def HKP_OPEN_NOW : Nat := 0x900010

/-- HKP.OPEN_LATCH (R302). -/
def HKP_OPEN_LATCH : Nat := 0x900014

/-- HKP.LOOP_FAULT_LVL (R302). -/
def HKP_LOOP_FAULT_LVL : Nat := 0x900018

/-- HKP.HK_IN_i (R302). -/
def HKP_HK_IN (i : Nat) : Nat := 0x900100 + 4 * i

/-- HKP.SLOT_CFG_j (R302). -/
def HKP_SLOT_CFG (j : Nat) : Nat := 0x900200 + 8 * j

/-- HKP.SLOT_AUX_j (R302). -/
def HKP_SLOT_AUX (j : Nat) : Nat := 0x900204 + 8 * j

/-- HKP.SLOT_THM_j (R302). -/
def HKP_SLOT_THM (j : Nat) : Nat := 0x900400 + 4 * j

/-- HKP.SLOT_VAL_j (R302). -/
def HKP_SLOT_VAL (j : Nat) : Nat := 0x900600 + 8 * j

/-- HKP.SLOT_STAT_j (R302). -/
def HKP_SLOT_STAT (j : Nat) : Nat := 0x900604 + 8 * j

/-- HKP.LOOP_CTL_l (R302). -/
def HKP_LOOP_CTL (l : Nat) : Nat := 0x900800 + 16 * l

/-- HKP.LOOP_SET_l (R302). -/
def HKP_LOOP_SET (l : Nat) : Nat := 0x900804 + 16 * l

/-- HKP.LOOP_WDOG_l (R302). -/
def HKP_LOOP_WDOG (l : Nat) : Nat := 0x900808 + 16 * l

/-- HKP.LOOP_READ_l (R302). -/
def HKP_LOOP_READ (l : Nat) : Nat := 0x90080C + 16 * l

/-- HKP.EL_CHARGE_e (R302). -/
def HKP_EL_CHARGE (e : Nat) : Nat := 0x900900 + 4 * e

/-- HKP.EL_PULSE_e (R302). -/
def HKP_EL_PULSE (e : Nat) : Nat := 0x900940 + 4 * e

/-- HKP.EL_GATE_e (R302). -/
def HKP_EL_GATE (e : Nat) : Nat := 0x900980 + 4 * e

/-- THM.STATUS (R323). -/
def THM_STATUS : Nat := 0xA00000

/-- THM.THR (R323). -/
def THM_THR : Nat := 0xA00004

/-- THM.TIMING (R323). -/
def THM_TIMING : Nat := 0xA00008

/-- THM.RATE_LIM (R323). -/
def THM_RATE_LIM : Nat := 0xA0000C

/-- THM.XCHK (R323). -/
def THM_XCHK : Nat := 0xA00010

/-- THM.CRIT_CLR (R323). -/
def THM_CRIT_CLR : Nat := 0xA00014

/-- THM.SENSOR_FAIL (R323). -/
def THM_SENSOR_FAIL : Nat := 0xA00018

/-- THM.SENSOR_CLR (R323). -/
def THM_SENSOR_CLR : Nat := 0xA0001C

/-- THM.PINNED (R323). -/
def THM_PINNED : Nat := 0xA00020

/-- THM.SHUT_LATCH (R323). -/
def THM_SHUT_LATCH : Nat := 0xA00024

/-- THM.HOTTEST (R323). -/
def THM_HOTTEST : Nat := 0xA00028

/-- THM.THROTTLE_CNT (R323). -/
def THM_THROTTLE_CNT : Nat := 0xA0002C

/-- THM.TS_STATE_s (R323). -/
def THM_TS_STATE (s : Nat) : Nat := 0xA00100 + 4 * s

/-- THM.TS_NBR_s (R323). -/
def THM_TS_NBR (s : Nat) : Nat := 0xA00180 + 4 * s

/-- THM.EXT_CFG_k (R323). -/
def THM_EXT_CFG (k : Nat) : Nat := 0xA00200 + 8 * k

/-- THM.EXT_THR_k (R323). -/
def THM_EXT_THR (k : Nat) : Nat := 0xA00204 + 8 * k

/-- THM.EXT_STATE_k (R323). -/
def THM_EXT_STATE (k : Nat) : Nat := 0xA00280 + 4 * k

/-- SAF.STATUS (R361). -/
def SAF_STATUS : Nat := 0xB00000

/-- SAF.FAULT_CAUSE (R361). -/
def SAF_FAULT_CAUSE : Nat := 0xB00004

/-- SAF.FAULT_DT_LO (R361). -/
def SAF_FAULT_DT_LO : Nat := 0xB00008

/-- SAF.FAULT_DT_HI (R361). -/
def SAF_FAULT_DT_HI : Nat := 0xB0000C

/-- SAF.INT_CAUSE (R361). -/
def SAF_INT_CAUSE : Nat := 0xB00010

/-- SAF.LOCKOUT_CNT (R361). -/
def SAF_LOCKOUT_CNT : Nat := 0xB00014

/-- SAF.DEMAND_CNT (R361). -/
def SAF_DEMAND_CNT : Nat := 0xB00018

/-- SAF.STALL_CLR (R361). -/
def SAF_STALL_CLR : Nat := 0xB00020

/-- SAF.TP_STATE (R361). -/
def SAF_TP_STATE : Nat := 0xB00024

/-- SAF.SPB_SEQ (R361). -/
def SAF_SPB_SEQ : Nat := 0xB00030

/-- SAF.SPB_CRC (R361). -/
def SAF_SPB_CRC : Nat := 0xB00034

/-- SAF.LOG_COUNT (R361). -/
def SAF_LOG_COUNT : Nat := 0xB00038

/-- SAF.HEAD_STATE_h (R361). -/
def SAF_HEAD_STATE (h : Nat) : Nat := 0xB00040 + 4 * h

/-- SAF.PAIR_STATE_i (R361). -/
def SAF_PAIR_STATE (i : Nat) : Nat := 0xB00060 + 4 * i

/-- SAF.SO_STATE_k (R361). -/
def SAF_SO_STATE (k : Nat) : Nat := 0xB00080 + 4 * k

/-- SAF.PW_DATA_n (R361). -/
def SAF_PW_DATA (n : Nat) : Nat := 0xB00100 + 4 * n

/-- SAF.PW_CTL (R361). -/
def SAF_PW_CTL : Nat := 0xB00140

/-- SAF.PW_STATUS (R361). -/
def SAF_PW_STATUS : Nat := 0xB00144

/-- SAF.SPB_n (R361). -/
def SAF_SPB (n : Nat) : Nat := 0xB02000 + 4 * n

/-- SAF.LOG_n (R361). -/
def SAF_LOG (n : Nat) (m : Nat) : Nat := 0xB03000 + 128 * n + 4 * m

/-- MDV.STATUS (R395). -/
def MDV_STATUS : Nat := 0xC00000

/-- MDV.PAIR_CTL (R395). -/
def MDV_PAIR_CTL : Nat := 0xC00004

/-- MDV.PAIR_CMP (R395). -/
def MDV_PAIR_CMP : Nat := 0xC00008

/-- MDV.ECMP_CTL (R395). -/
def MDV_ECMP_CTL : Nat := 0xC0000C

/-- MDV.PAIR_CMD (R395). -/
def MDV_PAIR_CMD : Nat := 0xC00010

/-- MDV.SELF_CHK (R395). -/
def MDV_SELF_CHK : Nat := 0xC00014

/-- MDV.CLAIM (R395). -/
def MDV_CLAIM : Nat := 0xC00018

/-- MDV.EPOCH_TX (R395). -/
def MDV_EPOCH_TX : Nat := 0xC0001C

/-- MDV.EPOCH_RX (R395). -/
def MDV_EPOCH_RX : Nat := 0xC00020

/-- MDV.QUAL (R395). -/
def MDV_QUAL : Nat := 0xC00024

/-- MDV.DRV_MIS_CNT (R395). -/
def MDV_DRV_MIS_CNT : Nat := 0xC00028

/-- MDV.ECMP_MIS_CNT (R395). -/
def MDV_ECMP_MIS_CNT : Nat := 0xC0002C

/-- MDV.FAILOVER_CNT (R395). -/
def MDV_FAILOVER_CNT : Nat := 0xC00030

/-- MDV.FAILOVER_DT_LO (R395). -/
def MDV_FAILOVER_DT_LO : Nat := 0xC00034

/-- MDV.FAILOVER_DT_HI (R395). -/
def MDV_FAILOVER_DT_HI : Nat := 0xC00038

/-- MDV.CFG_DIGEST (R395). -/
def MDV_CFG_DIGEST : Nat := 0xC0003C

/-- MDV.GA_CTL (R395). -/
def MDV_GA_CTL : Nat := 0xC00040

/-- MDV.CASC_CTL (R395). -/
def MDV_CASC_CTL : Nat := 0xC00100

/-- MDV.CASC_STATUS (R395). -/
def MDV_CASC_STATUS : Nat := 0xC00104

/-- MDV.TICK_LEAD (R395). -/
def MDV_TICK_LEAD : Nat := 0xC00108

/-- MDV.CASC_DLY (R395). -/
def MDV_CASC_DLY : Nat := 0xC0010C

/-- MDV.CASC_PEERS (R395). -/
def MDV_CASC_PEERS : Nat := 0xC00110

/-- MDV.DT_STEP_LO (R395). -/
def MDV_DT_STEP_LO : Nat := 0xC00114

/-- MDV.DT_STEP_HI (R395). -/
def MDV_DT_STEP_HI : Nat := 0xC00118

/-- MDV.CASC_LATE_CNT (R395). -/
def MDV_CASC_LATE_CNT : Nat := 0xC0011C

/-- MDV.CASC_CRC_CNT (R395). -/
def MDV_CASC_CRC_CNT : Nat := 0xC00120

/-- LNK.STATUS (R433). -/
def LNK_STATUS : Nat := 0xD00000

/-- LNK.LINK_CFG (R433). -/
def LNK_LINK_CFG : Nat := 0xD00004

/-- LNK.CMD (R433). -/
def LNK_CMD : Nat := 0xD00008

/-- LNK.RETUNE_CTL (R433). -/
def LNK_RETUNE_CTL : Nat := 0xD0000C

/-- LNK.LANES (R433). -/
def LNK_LANES : Nat := 0xD00010

/-- LNK.STRAPS (R433). -/
def LNK_STRAPS : Nat := 0xD00014

/-- LNK.TX_SEQ (R433). -/
def LNK_TX_SEQ : Nat := 0xD00018

/-- LNK.RX_SEQ (R433). -/
def LNK_RX_SEQ : Nat := 0xD0001C

/-- LNK.RETRY_LEVEL (R433). -/
def LNK_RETRY_LEVEL : Nat := 0xD00020

/-- LNK.READS_OUT (R433). -/
def LNK_READS_OUT : Nat := 0xD00024

/-- LNK.CREDITS_HOST (R433). -/
def LNK_CREDITS_HOST : Nat := 0xD00028

/-- LNK.CRC_ERR_CNT (R433). -/
def LNK_CRC_ERR_CNT : Nat := 0xD00040

/-- LNK.NAK_RX_CNT (R433). -/
def LNK_NAK_RX_CNT : Nat := 0xD00044

/-- LNK.NAK_TX_CNT (R433). -/
def LNK_NAK_TX_CNT : Nat := 0xD00048

/-- LNK.RECOVERY_CNT (R433). -/
def LNK_RECOVERY_CNT : Nat := 0xD0004C

/-- LNK.CPL_TIMEOUT_CNT (R433). -/
def LNK_CPL_TIMEOUT_CNT : Nat := 0xD00050

/-- LNK.MALFORMED_CNT (R433). -/
def LNK_MALFORMED_CNT : Nat := 0xD00054

/-- LNK.UNEXP_CPL_CNT (R433). -/
def LNK_UNEXP_CPL_CNT : Nat := 0xD00058

/-- LNK.EQ_l (R433). -/
def LNK_EQ (l : Nat) : Nat := 0xD00100 + 4 * l

/-- LNK.CODE_ERR_CNT_l (R433). -/
def LNK_CODE_ERR_CNT (l : Nat) : Nat := 0xD00140 + 4 * l

/-- DSC.STATUS (R459). -/
def DSC_STATUS : Nat := 0xE00000

/-- DSC.CTL (R459). -/
def DSC_CTL : Nat := 0xE00004

/-- DSC.DB_LO (R459). -/
def DSC_DB_LO : Nat := 0xE00008

/-- DSC.DB_HI (R459). -/
def DSC_DB_HI : Nat := 0xE0000C

/-- DSC.CFG_STATUS (R459). -/
def DSC_CFG_STATUS : Nat := 0xE00010

/-- DSC.CFG_ID (R459). -/
def DSC_CFG_ID : Nat := 0xE00014

/-- DSC.EVT_PENDING (R459). -/
def DSC_EVT_PENDING : Nat := 0xE00018

/-- DSC.SQ_BASE_LO_r (R459). -/
def DSC_SQ_BASE_LO (r : Nat) : Nat := 0xE01000 + 32 * r

/-- DSC.SQ_BASE_HI_r (R459). -/
def DSC_SQ_BASE_HI (r : Nat) : Nat := 0xE01004 + 32 * r

/-- DSC.SQ_CTL_r (R459). -/
def DSC_SQ_CTL (r : Nat) : Nat := 0xE01008 + 32 * r

/-- DSC.SQ_HEAD_r (R459). -/
def DSC_SQ_HEAD (r : Nat) : Nat := 0xE0100C + 32 * r

/-- DSC.SQ_TAIL_r (R459). -/
def DSC_SQ_TAIL (r : Nat) : Nat := 0xE01010 + 32 * r

/-- DSC.CQ_BASE_LO_r (R459). -/
def DSC_CQ_BASE_LO (r : Nat) : Nat := 0xE02000 + 32 * r

/-- DSC.CQ_BASE_HI_r (R459). -/
def DSC_CQ_BASE_HI (r : Nat) : Nat := 0xE02004 + 32 * r

/-- DSC.CQ_CTL_r (R459). -/
def DSC_CQ_CTL (r : Nat) : Nat := 0xE02008 + 32 * r

/-- DSC.CQ_TAIL_r (R459). -/
def DSC_CQ_TAIL (r : Nat) : Nat := 0xE0200C + 32 * r

/-- DSC.CQ_HEAD_r (R459). -/
def DSC_CQ_HEAD (r : Nat) : Nat := 0xE02010 + 32 * r

/-- DSC.EQ_BASE_LO_e (R459). -/
def DSC_EQ_BASE_LO (e : Nat) : Nat := 0xE02800 + 32 * e

/-- DSC.EQ_BASE_HI_e (R459). -/
def DSC_EQ_BASE_HI (e : Nat) : Nat := 0xE02804 + 32 * e

/-- DSC.EQ_CTL_e (R459). -/
def DSC_EQ_CTL (e : Nat) : Nat := 0xE02808 + 32 * e

/-- DSC.EQ_TAIL_e (R459). -/
def DSC_EQ_TAIL (e : Nat) : Nat := 0xE0280C + 32 * e

/-- DSC.EQ_HEAD_e (R459). -/
def DSC_EQ_HEAD (e : Nat) : Nat := 0xE02810 + 32 * e

/-- DSC.EVT_CFG_n (R459). -/
def DSC_EVT_CFG (n : Nat) : Nat := 0xE04000 + 4 * n

/-- DSC.EVT_RAW_w (R459). -/
def DSC_EVT_RAW (w : Nat) : Nat := 0xE05000 + 4 * w

/-- PWR.STATUS (R482). -/
def PWR_STATUS : Nat := 0xF00000

/-- PWR.DOMAINS (R482). -/
def PWR_DOMAINS : Nat := 0xF00004

/-- PWR.TARGET (R482). -/
def PWR_TARGET : Nat := 0xF00008

/-- PWR.VOTE_k (R482). -/
def PWR_VOTE (k : Nat) : Nat := 0xF00010 + 4 * k

/-- PWR.PAD_RELEASE (R482). -/
def PWR_PAD_RELEASE : Nat := 0xF00030

/-- PWR.DRST (R482). -/
def PWR_DRST : Nat := 0xF00034

/-- PWR.FRESH (R482). -/
def PWR_FRESH : Nat := 0xF00038

/-- PWR.WAKE_EN (R482). -/
def PWR_WAKE_EN : Nat := 0xF00040

/-- PWR.WAKE_SET (R482). -/
def PWR_WAKE_SET : Nat := 0xF00044

/-- PWR.WAKE_CAUSE (R482). -/
def PWR_WAKE_CAUSE : Nat := 0xF00048

/-- PWR.TIMER (R482). -/
def PWR_TIMER : Nat := 0xF0004C

/-- PWR.TIMER_LEFT (R482). -/
def PWR_TIMER_LEFT : Nat := 0xF00050

/-- PWR.WAKE_FAIL (R482). -/
def PWR_WAKE_FAIL : Nat := 0xF00054

/-- PWR.MGMT_CMD (R482). -/
def PWR_MGMT_CMD : Nat := 0xF00058

/-- PWR.STOW_TIME_LO (R482). -/
def PWR_STOW_TIME_LO : Nat := 0xF00060

/-- PWR.STOW_TIME_HI (R482). -/
def PWR_STOW_TIME_HI : Nat := 0xF00064

/-- PWR.WDOG_CTL (R482). -/
def PWR_WDOG_CTL : Nat := 0xF00070

/-- PWR.RESET_CAUSE (R482). -/
def PWR_RESET_CAUSE : Nat := 0xF00074

/-- PWR.RAILS (R482). -/
def PWR_RAILS : Nat := 0xF00078

/-- SEC.STATUS (R500). -/
def SEC_STATUS : Nat := 0xF80000

/-- SEC.CHAL_CTL (R500). -/
def SEC_CHAL_CTL : Nat := 0xF80004

/-- SEC.CHAL_n (R500). -/
def SEC_CHAL (n : Nat) : Nat := 0xF80010 + 4 * n

/-- SEC.TOKEN_n (R500). -/
def SEC_TOKEN (n : Nat) : Nat := 0xF80100 + 4 * n

/-- SEC.TOKEN_CTL (R500). -/
def SEC_TOKEN_CTL : Nat := 0xF801B0

/-- SEC.TOKEN_STATUS (R500). -/
def SEC_TOKEN_STATUS : Nat := 0xF801B4

/-- SEC.SEC_CMD (R500). -/
def SEC_SEC_CMD : Nat := 0xF80200

/-- SEC.INT_KEY_n (R500). -/
def SEC_INT_KEY (n : Nat) : Nat := 0xF80210 + 4 * n

/-- SEC.VKEY_HASH_n (R500). -/
def SEC_VKEY_HASH (n : Nat) : Nat := 0xF80240 + 4 * n

/-- SEC.IKEY_HASH_n (R500). -/
def SEC_IKEY_HASH (n : Nat) : Nat := 0xF80260 + 4 * n

/-- SEC.IDCODE (R500). -/
def SEC_IDCODE : Nat := 0xF80280

/-- SEC.DBG_CTL (R500). -/
def SEC_DBG_CTL : Nat := 0xF80300

/-- SEC.DBG_ADDR (R500). -/
def SEC_DBG_ADDR : Nat := 0xF80304

/-- SEC.DBG_DATA (R500). -/
def SEC_DBG_DATA : Nat := 0xF80308

/-- SEC.SP_CTL (R500). -/
def SEC_SP_CTL : Nat := 0xF80310

/-- SEC.FW_STATUS (R500). -/
def SEC_FW_STATUS : Nat := 0xF80320

/-- SEC.FW_VERSION (R500). -/
def SEC_FW_VERSION : Nat := 0xF80324

/-- SEC.DENY_CNT (R500). -/
def SEC_DENY_CNT : Nat := 0xF80330

end Sys2Proof.Machine.Reg
end

