-- ==== Sys2Proof/Machine/Tab.lean ====
section
/-! DEFINITION. A sparse table: a list of (key, value) pairs with rising keys and no entry equal to the
default. Equal tables are equal data. It holds register files, per-channel records and memory. -/
namespace Sys2Proof.Machine

/-- A sparse table. The default value of a key is given at each use. -/
abbrev Tab (α : Type) := List (Nat × α)

/-- The entry of key `k`, if one is listed. -/
def tabFind {α : Type} : Tab α → Nat → Option α
  | [], _ => none
  | (j, v) :: m, k => if j = k then some v else tabFind m k

/-- The value of key `k` when an unlisted key holds `d`. -/
def tabGet {α : Type} (d : α) (m : Tab α) (k : Nat) : α := (tabFind m k).getD d

/-- `m` without key `k`. -/
def tabErase {α : Type} : Tab α → Nat → Tab α
  | [], _ => []
  | (j, v) :: m, k => if j = k then tabErase m k else (j, v) :: tabErase m k

/-- `m` with key `k` listed as holding `v`. -/
def tabInsert {α : Type} : Tab α → Nat → α → Tab α
  | [], k, v => [(k, v)]
  | (j, w) :: m, k, v =>
    if j = k then (k, v) :: m else if k < j then (k, v) :: (j, w) :: m else (j, w) :: tabInsert m k v

/-- Store `v` at key `k`; storing the default removes the entry, so equal tables stay equal data. -/
def tabPut {α : Type} [DecidableEq α] (d : α) (m : Tab α) (k : Nat) (v : α) : Tab α :=
  if v = d then tabErase m k else tabInsert m k v

/-- Change the value at key `k` by `f`. -/
def tabMod {α : Type} [DecidableEq α] (d : α) (m : Tab α) (k : Nat) (f : α → α) : Tab α :=
  tabPut d m k (f (tabGet d m k))

/-- Keys rise strictly. -/
def tabSorted {α : Type} : Tab α → Bool
  | [] => true
  | [_] => true
  | (j, _) :: (k, w) :: m => decide (j < k) && tabSorted ((k, w) :: m)

/-- The canonical form: keys rise strictly and no entry holds the default. -/
def tabWf {α : Type} [DecidableEq α] (d : α) (m : Tab α) : Bool :=
  tabSorted m && m.all (fun e => e.2 != d)

/-- Keep the entries whose key passes `p`. -/
def tabKeep {α : Type} (p : Nat → Bool) (m : Tab α) : Tab α := m.filter (fun e => p e.1)

end Sys2Proof.Machine
end

