-- ==== Sys2Proof/Machine/Blocks.lean ====
section
/-! DEFINITION. The state of each block as plain data, beside the register file. -/
namespace Sys2Proof.Machine

/-- Tick sources (01 R11). -/
inductive Src where
  | internal | encoder | tickIn | cascade
  deriving DecidableEq, Repr

/-- What made a tick (01 R11-R17). -/
inductive TickKind where
  | internal | encoder | tickIn | cascade | deferred | substitute
  deriving DecidableEq, Repr

/-- A section value of a configuration image: one register value in run order (15 R453). -/
structure Image where
  ident : Nat
  vals : List (Nat × Word)
  flight : Desc
  deriving DecidableEq, Repr

/-- Tick, frame and encoder state (01 R9-R23). -/
structure Glb where
  /-- Frame 0 has begun and ticks are issued (R21, TICK_RUN). -/
  run : Bool := false
  /-- Number of the running frame (R9). -/
  frameNum : Word := 0
  /-- DT of the last tick as latched (R16); 0 in frame 0 (R21). -/
  tickDt : Time := 0
  /-- DT at which the running frame began: its tick, or the start of frame 0 (R21). -/
  start : Time := 0
  /-- Ticks since the reset that began frame 0, for COAL and frame ages. -/
  ticks : Nat := 0
  /-- Source in effect (R17). -/
  src : Src := .internal
  /-- A source tick waits for FRAME_MIN (R13), and the frame number that it carries at a cascade member (13 R389). -/
  deferred : Bool := false
  deferFr : Option Word := none
  /-- The internal source stands in for the cascade from this instant, in a frame that began under the cascade source:
  no tick falls before it (R17). -/
  notBefore : Time := 0
  /-- The current frame began with a substitute tick, with a deferred tick (R41). -/
  subst : Bool := false
  deferredNow : Bool := false
  /-- The cascade source is in force on a part that is no enabled member (R17). -/
  misuse : Bool := false
  /-- Filtered encoder levels and the signed distance accumulator (R18). -/
  encA : Bool := false
  encB : Bool := false
  encAcc : Int := 0
  /-- RWT and RWP writes waiting for the tick, in order of arrival (R25). -/
  staged : List (Nat × Word) := []
  /-- A staged configuration image (R25, R455). -/
  image : Option Image := none
  /-- A format failure returns registers to defaults at the next tick (R454). -/
  toDefaults : Bool := false
  /-- HI halves captured by LO reads, by path and HI offset (R23). -/
  shadow : Tab (Option Word) := []
  /-- Number of the frame that the last tick ended (R9). -/
  ended : Word := 0
  /-- MEM_CFG as capacity follows it, from the first tick after a write (07 R229), and whether it was written since the
  last tick (07 R224). -/
  memCfg : Word := 0
  memCfgNew : Bool := false
  /-- A handover fell in this frame (15 R447). -/
  handover : Bool := false
  deriving DecidableEq, Repr

/-- The Bite budget enforcer (01 R26-R37). -/
structure Bite where
  /-- The active set: budgets and floors in units, as converted last (R29); empty before frame 0. -/
  act : List Nat := []
  actFloors : List Nat := []
  /-- The active set has been converted with the nominal width and rate of a link-up (R28). -/
  linked : Bool := false
  /-- Budgets of this frame in units, per activity, after derating (R36, R37). -/
  eff : List Nat := []
  /-- Derating lasts on host link, LPDDR4X, pair link, cascade lanes (R37). -/
  derated : List Bool := [false, false, false, false]
  /-- Activities paused in this frame and in the previous one, as masks (R33). -/
  paused : Nat := 0
  prevPaused : Nat := 0
  deriving DecidableEq, Repr

/-- A pending event record (15 R452). -/
structure Pend where
  num : Nat
  count : Nat
  first : Time
  last : Time
  frame : Word
  /-- A tick has found the record due (R452). -/
  due : Bool := false
  deriving DecidableEq, Repr

/-- An attention waiting to be sent (15 R441, R444, R452). `kind` 0 completion ring, 1 event ring. -/
structure Attn where
  kind : Nat
  ring : Nat
  sev : Nat
  safety : Bool
  deriving DecidableEq, Repr

/-- Event engine (15 R452). -/
structure Evt where
  pend : List Pend := []
  /-- Tick count at which a source's previous record was written, plus one. -/
  written : Tab Nat := []
  /-- Events already raised in this frame, for the once-a-frame rules. -/
  once : List Nat := []
  /-- Attentions that wait to be sent (15 R441, R444, R452). -/
  attn : List Attn := []
  /-- Event rings that hold a record of the safety block which no attention has reported yet (01 R27). -/
  safeRec : List Nat := []
  /-- DT plus one of the last attention of a ring, by 64 * kind + ring. -/
  attnAt : Tab Nat := []
  /-- Record sequence number per event ring. -/
  seq : Tab Nat := []
  /-- Event rings in a full-ring stall. -/
  fullStall : List Nat := []
  deriving DecidableEq, Repr

/-- Link states (14 R426). -/
inductive LinkSt where
  | down | aligning | up | recovery | hotReset | eidle
  deriving DecidableEq, Repr

/-- What a packet accepted from the host takes of the credits the part advertises: a posted header and data units, a non-posted
header, or nothing (14 R420). -/
inductive RxClass where
  | posted (units : Nat)
  | nonPosted
  | completion
  deriving DecidableEq, Repr

/-- Sequenced packet types the part sends (14 R415). -/
inductive PType where
  | memwr | memrd | cpl | msg
  deriving DecidableEq, Repr

/-- Who issued a read of host memory (14 R424). -/
inductive Reader where
  | doorbell
  | fetch (ring : Nat)
  | buffer
  deriving DecidableEq, Repr

/-- A packet of the part, queued or held for retry (14 R413-R415, R423). `act` is the Bite activity that meters it,
none for the safety reservation and unmetered packets; `recs` counts echo records carried; `words` is LEN. -/
structure Packet where
  typ : PType
  act : Option Nat := none
  addr : Nat := 0
  words : Nat := 0
  tag : Nat := 0
  code : Nat := 0
  status : Nat := 0
  payload : List Byte := []
  recs : Nat := 0
  reader : Reader := .buffer
  seq : Nat := 0
  deriving DecidableEq, Repr

/-- An outstanding read (14 R424). -/
structure Rd where
  tag : Nat
  reader : Reader
  addr : Nat
  words : Nat
  got : Nat
  deriving DecidableEq, Repr

/-- A lane retune in progress (14 R429). -/
structure Retune where
  lane : Nat
  /-- Block of the half width in use, and whether the receiver has switched on the host's LCH. -/
  block : Nat
  rxSwitched : Bool
  deriving DecidableEq, Repr

/-- The host link (14 R398-R435). -/
structure Lnk where
  st : LinkSt := .aligning
  /-- Width and rate in use, as codes (R405), and the first lane of the block in use. -/
  width : Nat := 4
  rate : Nat := 0
  laneBase : Nat := 0
  /-- Nominal width and rate (01 R28). -/
  nomWidth : Nat := 4
  nomRate : Nat := 0
  /-- Equalisation in force on each lane, once aligned (R402). -/
  eq : Tab Word := []
  /-- Lanes aligned, by physical lane (R408). -/
  aligned : Nat := 0
  /-- The link runs below its nominal width (R426). -/
  degraded : Bool := false
  /-- CFG_MISMATCH (R408). -/
  cfgMismatch : Bool := false
  /-- LANE_MAP_ERR (R408). -/
  laneMapErr : Bool := false
  /-- A lane retune in progress (R429). -/
  retune : Option Retune := none
  /-- Lanes whose adaptation is frozen (R412). -/
  frozen : Nat := 0
  /-- Bit 6 of the partner's ALIGN config (R408). -/
  partnerV2 : Bool := false
  /-- Sequence numbers of R421. -/
  txNext : Nat := 0
  txAcked : Nat := 4095
  rxExp : Nat := 0
  /-- A NAK is outstanding (R422). -/
  nakOut : Bool := false
  /-- Packets accepted since the last ACK sent (R422), and whether an ACK is owed. -/
  rxUnacked : Nat := 0
  ackDue : Bool := false
  /-- Packets that wait to be sent, in order of arrival (01 R34). -/
  txq : List Packet := []
  /-- The activity that the round robin of 01 R34 served last. -/
  rr : Nat := 8
  /-- Packets sent and not acknowledged, oldest first (R423). -/
  retry : List Packet := []
  /-- Cumulative credits the host advertised and the part has used (R420). -/
  advPh : Nat := 0
  advNph : Nat := 0
  advCh : Nat := 0
  advPd : Nat := 0
  advCd : Nat := 0
  usedPh : Nat := 0
  usedNph : Nat := 0
  usedCh : Nat := 0
  usedPd : Nat := 0
  usedCd : Nat := 0
  /-- Posted headers, non-posted headers and posted data units taken from the host, as FLOW counts them (R420). -/
  gotPh : Nat := 0
  gotNph : Nat := 0
  gotPd : Nat := 0
  /-- Lanes whose receiver stands at positive running disparity (R403). -/
  disp : Nat := 0
  /-- FLOW has been received since link-up. -/
  flowSeen : Bool := false
  /-- Reads outstanding at the host (R424). -/
  reads : List Rd := []
  /-- Tags that may not be reused before a DT (R424). -/
  deadTags : List (Nat × Time) := []
  /-- Consecutive replays that begin with the same oldest packet (R423). -/
  replays : Nat := 0
  replaySeq : Nat := 0
  /-- ACKs, NAKs and FLOWs sent, as the link control packets of R415 (for observation). -/
  sentAck : Option Nat := none
  sentNak : Option Nat := none
  sentFlow : Nat := 0
  /-- The link came up since the last reset of class P, C, H or W (R409, 16 R476). -/
  upSince : Bool := false
  /-- Step 6 of the hot reset is still due at link-up (R430); a core watchdog caused it. -/
  hotPending : Bool := false
  hotWdog : Bool := false
  deriving DecidableEq, Repr

/-- A completion entry held back by a full ring (15 R444). -/
structure Entry where
  ring : Nat
  desc : Desc
  status : Nat
  bytes : Nat
  result : List Byte
  dt : Time
  frame : Word
  deriving DecidableEq, Repr

/-- A descriptor fetched and not completed (15 R451). -/
structure Flight where
  desc : Desc
  /-- Dispatched to its engine (15 R443). -/
  out : Bool
  deriving DecidableEq, Repr

/-- What a descriptor waits for at the next tick (15 R445). -/
inductive AtTick where
  | acqStart
  | acqStop
  | plateArm
  deriving DecidableEq, Repr

/-- The active STREAM_ECHO (15 R447). -/
structure Stream where
  desc : Desc
  offset : Nat
  blocks : Nat
  firstFrame : Nat
  /-- Bytes of blocks that were discarded unsent. -/
  lost : Nat
  /-- No further block goes into the buffer. -/
  full : Bool
  /-- Bytes of the latest block and the discards that its header reports, while none of it may have been sent yet. -/
  last : Nat := 0
  lastDisc : Nat := 0
  /-- No frame follows (an ACQ_STOP, or ACQ goes down). -/
  ending : Bool := false
  deriving DecidableEq, Repr

/-- A published frame's records that wait for a STREAM_ECHO (15 R447): its frame number, the DT of its tick, the
header flags and the records. -/
structure Block where
  frame : Word
  dt : Time
  flags : Nat
  recs : List (List Byte)
  deriving DecidableEq, Repr

/-- A histogram dump in progress (06 R180): the host bytes it writes, and the ticks seen since it began. -/
structure Dump where
  desc : Desc
  len : Nat
  age : Nat
  deriving DecidableEq, Repr

/-- A PLATE_DRAIN in progress (15 R448): the sequence number it is at, segments left, whether that segment's transfer
is under way, bytes of buffer A passed and written, segments overwritten and the first of them, and a double-bit error. -/
structure Drain where
  desc : Desc
  plate : Nat
  next : Nat
  left : Nat
  moving : Bool
  pos : Nat
  written : Nat
  overwritten : Nat
  firstOver : Nat
  memErr : Bool
  deriving DecidableEq, Repr

/-- Descriptor engine (15 R436-R451). -/
structure Dsc where
  flights : List Flight := []
  /-- Completion entries held back behind full rings (R444). -/
  held : List Entry := []
  /-- Completion rings in a stall (R444). -/
  cqStall : List Nat := []
  /-- PHASE of completion and event rings, 1 after EN sets; key 64 * kind + ring, value 1 means PHASE 0. -/
  phase : Tab Nat := []
  /-- A doorbell page read is in progress, and a further one is due (R440). -/
  dbBusy : Bool := false
  dbAgain : Bool := false
  /-- Failed fetch attempts per ring, and descriptors asked for by the outstanding fetch. -/
  retries : Tab Nat := []
  fetching : Tab Nat := []
  /-- The active STREAM_ECHO (R447). -/
  stream : Option Stream := none
  /-- STREAM_ECHO descriptors that wait behind it (R447). -/
  streamQ : List Desc := []
  /-- Records of earlier frames discarded since the previous block (R447). -/
  discarded : Nat := 0
  /-- The published frame whose records wait for the stream (R447). -/
  waiting : Option Block := none
  /-- Histogram dumps in progress (06 R180). -/
  dumps : List Dump := []
  /-- Plate drains in progress (R448). -/
  drains : List Drain := []
  /-- Descriptors that complete at the next tick. -/
  atTick : List (AtTick × Desc) := []
  /-- Ring served last, for round robin (R443). -/
  served : Nat := 63
  deriving DecidableEq, Repr

/-- A power sequence running (16 R469, R470). Masks are domain masks. -/
inductive Seq where
  /-- An entry taking domains down, before or in its window. -/
  | entry (doms : Nat)
  /-- A wake bringing domains up. -/
  | wake (doms : Nat)
  /-- A DRST that quiesces domains without removing power (R476). -/
  | reset (doms : Nat)
  deriving DecidableEq, Repr

/-- Phases of an entry sequence (16 R469): domains quiesce; the link quiesces; the window after the commit point. -/
inductive Phase where
  | quiesce | link | window
  deriving DecidableEq, Repr

/-- Device states of 16 R467. -/
inductive DevSt where
  | run | idle | doze | stow
  deriving DecidableEq, Repr

/-- Power controller (16 R462-R484). -/
structure Pwr where
  /-- Domains powered (R482 DOMAINS), bits of R462. -/
  domains : Nat := 0x1FF
  /-- Domains whose pads are held (R470). -/
  held : Nat := 0
  /-- LINK is in low power (R464). -/
  linkLow : Bool := false
  /-- LPDDR4X is in self-refresh (R464). -/
  selfRefresh : Bool := false
  /-- Votes of HOST, MGMT, SAFETY; the hold votes of CAL, PAIR and CASC follow from those blocks (R465). -/
  votes : List Nat := [0x1FC, 0, 0]
  /-- A queued target set (R473). -/
  queued : Option Nat := none
  /-- The entry or wake sequence that runs (R469, R470). -/
  seq : Option Seq := none
  /-- Phase of the running entry (R469). -/
  phase : Phase := .quiesce
  /-- ACQ or SERVO leaves: a tick has published the frame in progress. -/
  framed : Bool := false
  /-- Resets of class D applied so far: the model's own count, by which the island notices one (R476). -/
  dCount : Nat := 0
  /-- DRST requests that wait for a sequence to end. -/
  drst : Nat := 0
  /-- The set the running sequence works toward. -/
  goal : Nat := 0x1FF
  /-- A wake event started or joined the wake (R471). -/
  byEvent : Bool := false
  /-- WAKE_FAILED (R475). -/
  failed : Bool := false
  /-- Wake attempts made (R474). -/
  attempts : Nat := 0
  /-- PG inputs missing in the last attempt (R475). -/
  failPg : Nat := 0
  /-- The core oscillator failed in the last attempt (R475). -/
  failOsc : Bool := false
  /-- A wake waits 10 ms before its next attempt (R474). -/
  retryWait : Bool := false
  /-- The AO one-shot runs, and the device time at which it was started (R482). -/
  timerOn : Bool := false
  timerAt : Time := 0
  /-- Latches of sources 0 and 2, and the level of WAKE_N (R471, R472). -/
  mgmtMatch : Bool := false
  timerLatch : Bool := false
  wakeN : Bool := false
  /-- The answer of the management port to its last access: the status byte and the data word of a read (15 R438). -/
  mgmtAns : Option (Nat × Word) := none
  /-- PG inputs that are high (R463). -/
  pg : Nat := 0x3F
  /-- PG inputs lost outside a sequence (R482). -/
  pgLost : Nat := 0
  /-- Class of the last reset: 0 P, 1 C, 2 H, 3 W (R482). -/
  resetCause : Nat := 0
  /-- STOW_TIME: time without device time, in us (R477). -/
  stowUs : Nat := 0
  /-- Device time stands (R477). -/
  dtFrozen : Bool := false
  /-- Events raised while CORE was off (R484). -/
  lateEv : List Nat := []
  /-- The device state that the last PWR_STATE reported (R467). -/
  state : DevSt := .idle
  /-- POWER_VOTE descriptors that wait for a queued entry to begin, and for a wake to complete (R481). -/
  waitEntry : List Desc := []
  waitWake : List Desc := []
  /-- Held in reset after a SHUT until the comparators clear (11 R320). -/
  shutHold : Bool := false
  /-- VDD_AO is absent: the part is OFF (R467; 18 R513). -/
  off : Bool := false
  deriving DecidableEq, Repr

/-- Burin (02): what is not a register. -/
structure Brn where
  /-- Ranging was started by ACQ_START and not stopped (15 R445, 16 R467). -/
  ranging : Bool := false
  /-- Code table in force, by 1024 * g + j (R54), and a loaded table waiting for the tick. -/
  table : Tab Nat := []
  shadow : Option (Tab Nat) := none
  /-- Next planned shot of each emitter in this frame (R60). -/
  next : Tab Nat := []
  /-- Emitters in pulse-pair mode whose next pulse is the second of its shot (R55, R60). -/
  second : Nat := 0
  /-- Pulses and gate time in 0.25 ns units fired by each emitter in this frame (R66, R68). -/
  fired : Tab Nat := []
  gate : Tab Nat := []
  /-- Pulses of the frame's plan that a unit without the claim observed on the shared fire net (13 R372). -/
  seen : Tab Nat := []
  /-- Emitters whose CHARGE code the tick of this frame changed (R47). -/
  recharged : Nat := 0
  /-- Shots that a truncation lets fire, plus one; 0 means not truncated (R50). -/
  trunc : Tab Nat := []
  /-- Emitters that the counter of R66 has stopped in this frame. -/
  stopped : Nat := 0
  /-- DT plus one of the last shot of each emitter that was fired, or observed by a unit without the claim. -/
  last : Tab Nat := []
  deriving DecidableEq, Repr

/-- Axis states of 03 R90. -/
inductive AxSt where
  | disabled | engaging | run | parking | parked | openPark
  deriving DecidableEq, Repr

/-- A stretch of setpoint motion with constant jerk, `dur` in 2^-16 samples; position, velocity, acceleration and
jerk in codes, per sample powers, with 32 fraction bits (03 R83-R89). -/
structure Piece where
  dur : Nat
  p : Int
  v : Int
  a : Int
  j : Int
  seg : Nat
  deriving DecidableEq, Repr

/-- One biquad's input and output history (03 R77). -/
structure Biq where
  x1 : Int := 0
  x2 : Int := 0
  y1 : Int := 0
  y2 : Int := 0
  deriving DecidableEq, Repr

/-- The commands of AX_CMD (03 R97). -/
inductive AxCmd where
  | engage | park | disable | clear
  deriving DecidableEq, Repr

/-- What a latched fault makes an axis enter at the next servo sample (03 R91, R92). -/
inductive AxTrip where
  | toPark | toOpen
  deriving DecidableEq, Repr

/-- One mirror axis (03). Setpoint, velocity and acceleration are Q16.16. -/
structure Axis where
  st : AxSt := .disabled
  /-- Samples spent in the present state. -/
  samples : Nat := 0
  /-- Setpoint position in Q16.16 codes (R83). -/
  r : Int := 0
  /-- Setpoint velocity per sample (R83). -/
  v : Int := 0
  /-- Setpoint acceleration per sample squared (R83). -/
  a : Int := 0
  /-- Segment of the profile (R83). -/
  seg : Nat := 0
  /-- Motion in progress: pieces from the start DT, then cycles of the profile. -/
  pieces : List Piece := []
  start : Time := 0
  /-- Position held when no motion runs, Q16.16. -/
  rest : Int := 0
  /-- The joining move in progress ends in the profile (R87). -/
  joining : Bool := false
  /-- Cycles still to run after the present pieces; free running when CYC_PER_TICK is 0 (R86). -/
  cycles : Nat := 0
  /-- Tick cycles that wait for the present cycle to end, after a late tick. -/
  late : Nat := 0
  /-- Raster position index (R83). -/
  raster : Nat := 0
  /-- Integrator sum Sigma (R76). -/
  sigma : Int := 0
  /-- The held contribution Ih (R82). -/
  ih : Int := 0
  /-- ep of the previous sample (R75). -/
  epPrev : Int := 0
  /-- e of the previous sample (R75). -/
  ePrev : Int := 0
  /-- The drive word that the next sample applies (R73). -/
  drive : Int := 0
  /-- Sign of the clamp that the last drive word met; 0 none (R76). -/
  clampSign : Int := 0
  /-- Commands that act at the next servo sample, in order of arrival (R97). -/
  cmds : List AxCmd := []
  /-- A state that a detection enters at the next servo sample (R91, R92). -/
  trip : Option AxTrip := none
  /-- The drive ramps to 0 on the way to DISABLED (R90, R94). -/
  ramp : Bool := false
  /-- The latched faults clear at the end of that ramp: CLEAR or DISABLE asked for it (R90). -/
  rampClr : Bool := false
  /-- Excitation is on (R72). -/
  exOn : Bool := false
  /-- Histories of the three biquads (R77). -/
  biq : List Biq := [{}, {}, {}]
  /-- Gain region in force (R81). -/
  region : Nat := 0
  /-- Samples since the region was entered (R81). -/
  regionHeld : Nat := 0
  /-- Measured position of the last sample (R74). -/
  y : Int := 0
  /-- Measured positions of past samples, latest first, as far back as FRZ_N can reach (R92). -/
  hist : List Int := []
  /-- Consecutive samples with a feedback check failing (R91). -/
  fbRun : Nat := 0
  /-- Consecutive samples of the freeze condition (R92). -/
  frzRun : Nat := 0
  /-- Consecutive samples of the tracking-error condition (R92). -/
  errRun : Nat := 0
  /-- FB_LOSS latched (R91). -/
  fbLoss : Bool := false
  /-- FREEZE latched (R92). -/
  freeze : Bool := false
  /-- TRACK_ERR latched (R92). -/
  trackErr : Bool := false
  /-- PARK_TIMEOUT latched (R90). -/
  parkTimeout : Bool := false
  /-- A servo table is in force (R80). -/
  tblOk : Bool := false
  /-- The profile passed its check (R85). -/
  profOk : Bool := false
  /-- CMD_IGN (R98). -/
  cmdIgn : Bool := false
  /-- The drive is aligned to the active unit (R95). -/
  standby : Bool := false
  /-- Samples of tracked drive, without checks, left after a handover (R96). -/
  tracked : Nat := 0
  /-- The drive word last received from the active unit. -/
  activeDrive : Int := 0
  /-- An accepted servo table waiting for its swap and the ticks it has waited (R80). -/
  shadow : Option (List Byte) := none
  shadowAge : Nat := 0
  /-- A region change or a tick has made the swap due (R80). -/
  swapDue : Bool := false
  /-- Error of the last sample (R75). -/
  e : Int := 0
  /-- Integrator contribution of the last sample (R76). -/
  integ : Int := 0
  deriving DecidableEq, Repr

/-- Hatch (03). -/
structure Hch where
  axes : Tab Axis := []
  /-- Number of the last servo sample (R73). -/
  sample : Nat := 0
  /-- Axes whose registers changed and whose profile check is due (R85). -/
  dirty : Nat := 0
  /-- Planning length of the last profile check (R85). -/
  planLen : Nat := 50000
  deriving DecidableEq, Repr

/-- The open listen window of a bank (04 R105, 06 R156). -/
structure Win where
  e : Nat
  k : Nat
  fire : Time
  opened : Time
  close : Time
  /-- The shot counts for the bank: a window that opens before a mode change has settled takes no hits (04 R104). -/
  counted : Bool := true
  deriving DecidableEq, Repr

/-- An event in progress on a channel (04 R114). -/
structure EvtRun where
  on : Time
  hi : Option Time
  clip : Bool
  deriving DecidableEq, Repr

/-- A receive channel (04). -/
structure Chan where
  gain : Nat := 3
  /-- Range of a command that waits for a shot boundary, and of an auto-ranging decision deferred by the 30 ns rule
  (R105, R106). -/
  cmd : Option Nat := none
  deferred : Option Nat := none
  /-- Windows in a row with clip detection (R106). -/
  clipRun : Nat := 0
  /-- Windows in a row without range detection (R106). -/
  quietRun : Nat := 0
  /-- Windows with clip detection of this frame (R122). -/
  clipCnt : Nat := 0
  /-- CLIP_CNT of the previous frame. -/
  clipPrev : Nat := 0
  /-- The range changed after T+0 of this frame (R109). -/
  changed : Bool := false
  /-- Gain-range byte at the last listen window of the frame (R109). -/
  winCode : Option Nat := none
  /-- Low comparator level: an event begins only at a turn-on (R115). -/
  low : Bool := false
  /-- The event in progress (R114). -/
  ev : Option EvtRun := none
  /-- Events of the open window (R114). -/
  evCount : Nat := 0
  /-- End of the last event, plus one; 0 none. -/
  lastEnd : Nat := 0
  deriving DecidableEq, Repr

/-- A receive bank (04). -/
structure Bank where
  win : Option Win := none
  /-- Shot references whose windows have not opened yet: shot index and fire DT (02 R59). -/
  refs : List (Nat × Time) := []
  /-- Planned fire DTs of shots that did not fire and whose shot boundary has not come yet (04 R105). -/
  missed : List Time := []
  /-- DT until which a mode change keeps hits out (R104); 0 none. -/
  settle : Time := 0
  /-- R104 applied at the tick that began the frame. -/
  modeStep : Bool := false
  /-- Events of this frame beyond those a channel can hold (R115). -/
  ovf : Nat := 0
  /-- Gain changes of this frame (R122). -/
  gchg : Nat := 0
  deriving DecidableEq, Repr

/-- A detector bias output (04 R117-R119). -/
structure Bias where
  code : Nat := 0
  limited : Bool := false
  lost : Bool := false
  deriving DecidableEq, Repr

/-- The receive front end (04). -/
structure Afe where
  chans : Tab Chan := []
  /-- Receive banks by bank number. -/
  banks : Tab Bank := []
  /-- Bias outputs by head. -/
  bias : Tab Bias := []
  /-- Banks without listen windows in this frame (R105). -/
  noWin : Nat := 0xFFFFFFFF
  /-- A slow round completed since the last tick (R118). -/
  roundDone : Bool := false
  /-- Channels in ambient overload in the last frame (R112). -/
  ovr : List Nat := []
  deriving DecidableEq, Repr

/-- State of an interval unit (05 R144-R147). -/
inductive IuSt where
  /-- Not armed. -/
  | idle
  /-- Armed at the given instant. -/
  | armed (t : Time)
  /-- Interval mode: one edge taken, start or stop. -/
  | one (isStart : Bool) (t : Time) (until_ : Time)
  /-- Frequency mode: gate open since arming, count, first and last edge. -/
  | count (since : Time) (n : Nat) (first last : Time)
  deriving DecidableEq, Repr

/-- An interval unit with its store (05 R144-R149). -/
structure Iu where
  st : IuSt := .idle
  seq : Nat := 0
  fifo : List (List Byte) := []
  lost : Bool := false
  /-- The earliest instant at which the unit arms in FREE and LEVEL modes (R144). -/
  ready : Time := 0
  deriving DecidableEq, Repr

/-- The timebase (05). -/
structure Tim where
  /-- Device time (01 R22). -/
  dt : Time := 0
  /-- The PLL is locked (R129). -/
  lock : Bool := false
  /-- No reference was found: the latch that only a reset clears (R129). -/
  noRef : Bool := false
  /-- Reference in use: false crystal, true REFCLK (R125). -/
  refSel : Bool := false
  /-- The reference is present (R130). -/
  refOk : Bool := false
  /-- Device time runs from holdover (R130). -/
  holdover : Bool := false
  /-- Lock was lost: the latch of R132. -/
  lockLost : Bool := false
  /-- DT has started since the last power-on or cold reset. -/
  started : Bool := false
  /-- Last accepted edge of each TI input plus one (R142), and its level. -/
  lastEdge : Tab Nat := []
  level : Tab Nat := []
  /-- Interval units (R144). -/
  iu : Tab Iu := []
  deriving DecidableEq, Repr

/-- A histogram bin with its internal quantities: counts per code sub-group, clipped hits, amplitude sum (06 R158). -/
structure Bin where
  n : Nat := 0
  g0 : Nat := 0
  g1 : Nat := 0
  g2 : Nat := 0
  g3 : Nat := 0
  clip : Nat := 0
  amp : Nat := 0
  deriving DecidableEq, Repr

/-- A zoom window in force with its 128 fine bins (06 R158, R163). -/
structure Zoom where
  zs : Nat
  /-- Fine bins. -/
  bins : Tab Bin
  deriving DecidableEq, Repr

/-- A corrected hit of a shot (06 R154-R157). -/
structure Hit where
  /-- Shot time. -/
  tau : Int
  tw : Int
  clip : Bool
  amp : Nat
  deriving DecidableEq, Repr

/-- The background of a channel as an exact fraction of counts per coarse bin (06 R164). -/
structure Bg where
  num : Nat
  den : Nat
  deriving DecidableEq, Repr

/-- A candidate and echo of the peak finder (06 R165-R174): run and extent in coarse bins, net hits over the
background's denominator, sub-groups present, and whether it failed the coincidence check. -/
structure Cand where
  runLo : Nat
  runHi : Nat
  lo : Nat
  hi : Nat
  net : Int
  sg : Nat
  foreign : Bool
  deriving DecidableEq, Repr

/-- The measured fields of an echo (06 R169, R172, R178). -/
structure Meas where
  time : Nat
  width : Nat
  hits : Nat
  snr : Nat
  amp : Nat
  sigma : Nat
  clip : Nat
  full : Bool
  /-- A bin's amplitude sum has passed 24 bits (R158). -/
  ampOver : Bool
  deriving DecidableEq, Repr

/-- A final echo: its candidate, its measurement, the window that served it (R168), and whether its time is a fine one: the
fine result of a window that served can be discarded (R170). -/
structure Echo where
  cand : Cand
  m : Meas
  zwin : Option Nat
  fine : Bool
  deriving DecidableEq, Repr

/-- Zoom behaviour of a channel in a frame (06 R160-R162). -/
inductive ZMode where
  | none | inFrame | tracking
  deriving DecidableEq, Repr

/-- A published frame of a channel, kept in a dump store (06 R159, R180). -/
structure Published where
  frame : Word
  coarse : Tab Bin
  zooms : List (Option Zoom)
  coarseShots : Nat
  fineShots : Nat
  winOfs : Nat
  bg : Nat
  gain : Nat
  /-- Zoom mode in force (R180). -/
  mode : Nat
  deriving DecidableEq, Repr

/-- Stipple's state of a channel (06). -/
structure StpCh where
  coarse : Tab Bin := []
  /-- Windows 0 and 1 in force. -/
  zooms : List (Option Zoom) := [none, none]
  /-- ZOOM mode that placed them (R163). -/
  mode : ZMode := .none
  /-- Hits of the running shot, held for pairing in pulse-pair mode. -/
  hits : List Hit := []
  /-- Times of non-foreign echoes reported in the last frames with data, latest first (R173). -/
  hist : List (List Nat) := []
  /-- Times of window 0's echo in the last two frames with data (R163). -/
  pred : List (Option Nat) := []
  /-- Times and net hits of the ended frame's echoes that are not FOREIGN, and the predicted time that ordered them
  (R162, R163). -/
  ends : List (Nat × Int) := []
  predWas : Option Int := none
  /-- Dump stores, latest first (R159). -/
  store : List Published := []
  deriving DecidableEq, Repr

/-- Fired shots of a bank in the frame (06 R158, R161, R166). -/
structure StpBank where
  g0 : Nat := 0
  g1 : Nat := 0
  g2 : Nat := 0
  g3 : Nat := 0
  /-- Fired shots whose window opened at least 250 ns after the split. -/
  late : Nat := 0
  /-- Split instant of the frame, plus one; 0 not reached (R161). -/
  split : Nat := 0
  deriving DecidableEq, Repr

/-- What the dump store of a channel that counted nothing holds of the last published frame (R159, R180). -/
structure EndFrame where
  frame : Word
  banks : Tab StpBank
  /-- WIN_OFS of the four heads. -/
  ofs : List Nat
  mode : Nat
  deriving DecidableEq, Repr

/-- Stipple (06). -/
structure Stp where
  /-- The last published frame, for channels without a store of their own (R159). -/
  ended : Option EndFrame := none
  /-- Channels' histograms and predictors (R158). -/
  chans : Tab StpCh := []
  /-- Shot counts of banks (R158). -/
  banks : Tab StpBank := []
  /-- Walk tables loaded and waiting for the tick, by head (R182). -/
  walkShadow : List (Nat × List Byte) := []
  /-- Throttle step at the tick that began the frame (R177). -/
  throttled : Bool := false
  /-- Acquisition started at the tick that began the frame (R162). -/
  fresh : Bool := false
  /-- Peak strobes of the last counted hits: plate, channel, tw (R159). -/
  strobes : List (Nat × Nat × Int) := []
  deriving DecidableEq, Repr

end Sys2Proof.Machine
end

