-- ==== Sys2Proof/Machine/Blocks2.lean ====
section
/-! DEFINITION. The state of plates, filters, calibration, housekeeping, thermal management, pairs, security and the
safety island as plain data. -/
namespace Sys2Proof.Machine

/-- A temperature sensor of thermal management: 0-23 on-die, 24-31 external (11 R305-R317). Values in 1/64 degree. -/
structure Sensor where
  used : Int := 0
  /-- Level 0 NORMAL, 1 WARN, 2 THROTTLE, 3 CRIT. -/
  level : Nat := 0
  /-- Consecutive rounds at or above WARN, THROTTLE and CRIT (R309). -/
  n1 : Nat := 0
  n2 : Nat := 0
  n3 : Nat := 0
  /-- Consecutive rounds below the release value of the level (R310, R319). -/
  down : Nat := 0
  /-- The values of the last four rounds, latest first; none where a round gave none (R311). -/
  hist : List (Option Int) := []
  /-- The rate exceeded RATE_LIM in the last round (R311). -/
  rateHigh : Bool := false
  /-- Rounds in a row in which it did (R311). -/
  rateRun : Nat := 0
  /-- THROTTLE was entered by the rate rule. -/
  byRate : Bool := false
  /-- Consecutive deviating rounds (R314). -/
  dev : Nat := 0
  /-- The sensor has failed (R314). -/
  failed : Bool := false
  /-- A failed sensor pinned at its level (R315). -/
  pinned : Bool := false
  /-- The sensor failed while at THROTTLE: the longer hold of R315 applies. -/
  held : Bool := false
  deriving DecidableEq, Repr

/-- Thermal management (11). -/
structure Thm where
  sensors : Tab Sensor := []
  /-- Part level, the throttle step in force, and the step that the next tick brings (R308, R312). -/
  level : Nat := 0
  step : Nat := 0
  stepNext : Nat := 0
  /-- Consecutive escalation rounds (R312). -/
  stepRun : Nat := 0
  /-- CRIT_LATCH (R318, R324). -/
  critLatch : Bool := false
  /-- The orderly stop: 0 none, 1 published, 2 T1 reached, 3 T2 reached (R318). -/
  critPhase : Nat := 0
  /-- SHUT comparators tripped now, and the latch of R320 with its bit 31. -/
  shutNow : Nat := 0
  shutLatch : Nat := 0
  /-- A SHUT has occurred since the last power-on or cold reset (R320). -/
  shut : Bool := false
  /-- Result of the last thermal check: 0 none, 1 pass, 2 fail (R322). -/
  check : Nat := 0
  /-- The condition that failed (R322). -/
  cond : Nat := 0
  /-- A CRIT_CLR request waits for its condition (R319). -/
  clrReq : Bool := false
  deriving DecidableEq, Repr

/-- A cascade seed waiting for its tick (13 R391). -/
structure Seed where
  dt : Time
  famBase : Nat
  code : Word
  deriving DecidableEq, Repr

/-- A cascade message sent: type code, source position and plate, argument, DT and payload (13 R387). -/
structure CascMsg where
  typ : Nat
  pos : Nat
  plate : Nat
  arg : Nat
  dt : Time
  payload : Nat
  deriving DecidableEq, Repr

/-- A message that a member repeats (13 R386): its DT at the transmitter, whether it goes up the chain, and the message. -/
structure Repeat where
  dt : Time
  up : Bool
  msg : CascMsg
  deriving DecidableEq, Repr

/-- A cascade tick scheduled (13 R389): its DT and frame number, and what made it at the master. -/
structure CascTick where
  dt : Time
  fr : Word
  kind : TickKind
  deriving DecidableEq, Repr

/-- Pairs and cascades (13). -/
structure Mdv where
  /-- Shared stages are on (R364); a unit without PAIR_EN drives always. -/
  stages : Bool := false
  /-- Bit 5 of the claim number: the unit is the active unit (R368). -/
  active : Bool := false
  /-- The unit bids (R369). -/
  bidding : Bool := false
  /-- Winner of the last round; 0 for an empty one. -/
  winner : Nat := 0
  /-- The unit won the previous round; handover is due at the next boundary (R369). -/
  won : Bool := false
  /-- Handover comes at the next servo-sample boundary (R369). -/
  handoverDue : Bool := false
  /-- A round won by another unit has been seen since the last reset (R369). -/
  sawOther : Bool := false
  /-- The cross-link is up (R369). -/
  xlink : Bool := false
  /-- Two heartbeats were missed; the next round shows what failed (R376). -/
  hbLost : Bool := false
  /-- The partner's priority (R369). -/
  partnerPrio : Nat := 0
  /-- The partner's priority has been found equal, with its event raised (R369). -/
  prioSeen : Bool := false
  /-- The partner is qualified (R371). -/
  partnerQual : Bool := false
  /-- The partner is suspect (R371). -/
  partnerSuspect : Bool := false
  /-- The unit is qualified as standby (R382). -/
  qualified : Bool := false
  /-- The unit is suspect (R375). -/
  suspect : Bool := false
  /-- The pair is dark (R382). -/
  dark : Bool := false
  /-- The unit failed the checks after a detection and bids no more until it qualifies or is reset (R375). -/
  stopped : Bool := false
  /-- The unit yields the claim (R383). -/
  yielding : Bool := false
  /-- The claim watchdog has expired (R370). -/
  wdog : Bool := false
  /-- The partner's configuration digest differs (R371 bit 7). -/
  digestOff : Bool := false
  /-- State image applied, and consecutive matching epochs (R381). -/
  image : Bool := false
  matchRun : Nat := 0
  /-- An epoch received, whether it matches, which the next tick applies (R379). -/
  epoch : Option (Epoch × Bool) := none
  /-- Epochs applied while no state image has come, oldest first, and whether each matched (R381). -/
  since : List (Epoch × Bool) := []
  /-- The last epoch sent complete, and the state image being sent or sent last (R378, R381). -/
  epochOut : Option Epoch := none
  imageOut : Option (Epoch × List ImageChan) := none
  /-- Frames whose records still carry STATE_AGED (R380). -/
  aged : Nat := 0
  /-- Consecutive mismatching frames, and consecutive drive mismatches by axis (R373, R374). -/
  echoMis : Nat := 0
  driveMis : Tab Nat := []
  /-- Records of the last published frame, for the echo compare (R374). -/
  recFrame : Word := 0
  recs : List (List Byte) := []
  /-- Bytes of a state image still to be sent, and a request for one sent to the partner (R381). -/
  imageLeft : Nat := 0
  asked : Bool := false
  /-- The next internal tick that the active unit announced (R366). -/
  announced : Option Time := none
  /-- Cascade (R385-R393). -/
  laneUp : Bool := false
  /-- The member runs on its own ticks (R393). -/
  freerun : Bool := false
  /-- The member has joined (R391). -/
  joined : Bool := false
  /-- The member has aligned its device time (R392). -/
  aligned : Bool := false
  /-- A seed has been applied (R391). -/
  seeded : Bool := false
  /-- TICK_LEAD is too small (R390). -/
  leadFail : Bool := false
  /-- A seed that waits for its tick (R391). -/
  seed : Option Seed := none
  /-- Ticks scheduled by TICK messages (R389). -/
  ticks : List CascTick := []
  /-- The master waits for the members (R392). -/
  peerWait : Bool := false
  /-- Length of the last complete master frame (R393). -/
  lastLen : Time := 0
  /-- Largest delay that a member reported, in DT (R389). -/
  maxDelay : Nat := 0
  /-- The source instant of the master's last tick (R389). -/
  srcAt : Time := 0
  /-- Messages sent and repeated since the last tick (R386, R387), and metered messages that wait for budget (01 R35). -/
  tx : List CascMsg := []
  rep : List Repeat := []
  txWait : List CascMsg := []
  deriving DecidableEq, Repr

/-- A calibrated item (09 R276): its section type, index and body, with the temperature recorded, if any. -/
structure CalItem where
  typ : Nat
  idx : Nat
  data : List Byte
  temp : Option Int
  deriving DecidableEq, Repr

/-- A target of a calibration run that is neither accepted nor rejected (09 R266-R270). -/
structure Target where
  id : Nat
  /-- Disagreeing attempts so far. -/
  attempt : Nat := 0
  /-- The first measurement of the attempt: values, temperature at its start, and whether it passed R140. -/
  first : Option (List Int × Int × Bool) := none
  /-- Frames in which the present measurement ran, its start and the area temperature at its start. -/
  frames : Nat := 0
  since : Time := 0
  temp : Int := 0
  /-- Engine time left of the present measurement, for the runs that do not borrow. -/
  left : Nat := 0
  deriving DecidableEq, Repr

/-- A calibration run (09 R266). -/
structure CalRun where
  desc : Desc
  kind : Nat
  force : Bool
  todo : List Target
  accepted : Nat := 0
  rejected : Nat := 0
  /-- A target was rejected under R270. -/
  rejSeen : Bool := false
  /-- Rotation key at which the next frame's borrowing begins (R273). -/
  key : Nat := 0
  out : List CalItem := []
  deriving DecidableEq, Repr

/-- Calibration (09). -/
structure Prf where
  /-- Channels borrowed in this frame, channels that take no hits before T+1 us, and channels whose records carry
  CAL_STALE and CAL_STEP, as masks (R272-R275). -/
  borrowed : Nat := 0
  /-- Banks that a run has whole while acquisition is stopped (R267). -/
  banks : Nat := 0
  /-- Channels that take no hits before T+1 us (R272). -/
  settle : Nat := 0
  /-- Channels whose records carry CAL_STALE (R275). -/
  stale : Nat := 0
  /-- Channels whose records carry CAL_STEP (R272). -/
  step : Nat := 0
  /-- The run that executes (R266). -/
  active : Option CalRun := none
  /-- Runs that wait (R266). -/
  queue : List CalRun := []
  /-- The staging set (R271). -/
  staging : List CalItem := []
  /-- APPLY.GO was written since the last tick (R271). -/
  go : Bool := false
  /-- Temperatures recorded with bin tables by unit, and with zero-range values by head (R275); none for a table or
  value loaded without one. -/
  tables : Tab (Option Int) := []
  zr : Tab (Option Int) := []
  /-- Heads whose zero-range delay is no longer the fused value. -/
  zrSet : Nat := 0
  /-- Outcome of the last run: result and kind codes, accepted targets (R280). -/
  result : Nat := 0
  lastKind : Nat := 0
  lastAcc : Nat := 0
  deriving DecidableEq, Repr

/-- A burn of the integrator key slot in progress (17 R488). -/
inductive Burn where
  /-- Programming with a hash, and whether the UNLOCK fuse is burnt too. -/
  | prog (hash : List Byte) (unlock : Bool)
  /-- Revocation. -/
  | revoke
  deriving DecidableEq, Repr

/-- A safety firmware image under verification or being switched in (17 R489-R492). -/
structure FwJob where
  desc : Desc
  slot : Nat
  version : Word
  /-- Reject reason; 0 accepts. -/
  reason : Nat
  /-- Made while firmware was running (R491). -/
  runTime : Bool
  deriving DecidableEq, Repr

/-- Security and debug outside the fuses (17 R485-R501). -/
structure Sec where
  /-- The part is in SERVICE (R485); FACTORY follows from the RMA fuse. -/
  service : Bool := false
  /-- The valid challenge (R486), and the bytes that CHAL_n reads. -/
  chal : Option (List Byte) := none
  chalRegs : List Byte := []
  /-- TOKEN_n and INT_KEY_n as written. -/
  token : Tab Word := []
  intKey : Tab Word := []
  /-- A submitted token with the challenge that was valid at its submission. -/
  busy : Option (List Byte × Option (List Byte)) := none
  /-- TOKEN_STATUS result and reason. -/
  result : Nat := 0
  reason : Nat := 0
  /-- Consecutive refusals, and the DT at which challenges began to be refused (R487). -/
  refusals : Nat := 0
  refusing : Option Time := none
  /-- A key burn in progress (R488). -/
  burn : Option Burn := none
  /-- Level and port of the debug session (R493): 0 none, 1 OBSERVE, 2 INVASIVE; true JTAG. -/
  level : Nat := 0
  port : Bool := false
  /-- R497 in effect, and BSCAN_REFUSED. -/
  bscan : Bool := false
  bscanRefused : Bool := false
  /-- The safety processor is halted (R495). -/
  halted : Bool := false
  /-- The watch of the processor's heartbeat resumes at this device time after the processor was restarted (R495). -/
  hbFrom : Time := 0
  /-- The JTAG instruction register and the last capture of the boundary register taken (R496). -/
  ir : Nat := 0x02
  captured : Bool := false
  /-- FW_LOAD under verification, and an accepted one being switched in with the state the island left (R490, R492). -/
  fw : Option FwJob := none
  fwSwitch : Option FwJob := none
  /-- Reject reason, slot and version of the firmware in force (R500). -/
  fwReason : Nat := 0
  fwSlot : Nat := 0
  fwVersion : Word := 0
  deriving DecidableEq, Repr

/-- One-time fuses (17 R485, R488): the RMA fuse, the integrator key hash once programmed, and its UNLOCK and revoke
fuses. -/
structure Fuses where
  rma : Bool := false
  intKey : Option (List Byte) := none
  unlock : Bool := false
  revoked : Bool := false
  deriving DecidableEq, Repr

/-- Island states of 12 R328. -/
inductive IslSt where
  | start | selftest | wait | run | lockout | internal
  deriving DecidableEq, Repr

/-- The input filter of one guard channel in one half (12 R330, R334): samples since the run of the new level began, that one
included, 0 none, and samples that the mask still covers after the test output has risen. -/
structure InFilter where
  run : Nat := 0
  mask : Nat := 0
  deriving DecidableEq, Repr

/-- One half's view of an input pair (12 R329-R333). -/
structure Guard where
  /-- Accepted readings, true closed. -/
  a : Bool := false
  b : Bool := false
  /-- The pair is in demand (R331). -/
  demand : Bool := true
  /-- Both channels have shown demand at the same time since the pair entered demand. -/
  both : Bool := true
  /-- Safe again, waiting for a restart pulse. -/
  wait : Bool := false
  /-- The pair is start-up pending (R333). -/
  pending : Bool := false
  /-- Both channels have shown demand together since it became pending (R333). -/
  pendBoth : Bool := false
  /-- Milliseconds of discrepancy, counted by this half. -/
  discMs : Nat := 0
  /-- Since the DISCREPANCY fault: 1 both channels have shown demand together, 2 then safe together (R343). -/
  clr : Nat := 0
  /-- The input filters of channels A and B. -/
  fa : InFilter := {}
  fb : InFilter := {}
  deriving DecidableEq, Repr

/-- One half of the island: its guards by pair (12 R326). -/
structure Half where
  guards : List Guard := List.replicate 8 {}
  deriving DecidableEq, Repr

/-- A first fault cause (12 R343). -/
structure Cause where
  code : Nat
  index : Nat
  dt : Time
  deriving DecidableEq, Repr

/-- Password sessions (12 R358). -/
structure Pw where
  data : Tab Word := []
  /-- Password presented, while the derivation runs. -/
  busy : Option (List Byte) := none
  /-- DT at which the session opened. -/
  openAt : Option Time := none
  /-- DT at which presentations began to be refused (R358). -/
  refusing : Option Time := none
  /-- Failed presentations in a row (R358). -/
  fails : Nat := 0
  deriving DecidableEq, Repr

/-- The scan monitor of one axis (12 R340, R341): the quantity m and its reference in 0.5 mV / 65,536, the stall timer in us, and
one more than the DT of the last motion event; 0 none. -/
structure Mon where
  m : Int := 0
  ref : Int := 0
  timer : Nat := 0
  moved : Nat := 0
  deriving DecidableEq, Repr

/-- The safety island (12). Half 0 is the safety processor, half 1 the hard-wired logic. -/
structure Island where
  st : IslSt := .start
  /-- The safety processor's half. -/
  sp : Half := {}
  /-- The hard-wired logic's half. -/
  hwl : Half := {}
  /-- The safety factory defaults are in force (R357). -/
  defaulted : Bool := true
  /-- Words of the safety parameter block in force. -/
  spb : Tab Word := []
  /-- An accepted block that waits for the tick (R354). -/
  next : Option (Tab Word) := none
  /-- A block has been accepted since the last power-on or cold reset (R354). -/
  accepted : Bool := false
  /-- Verified safety firmware runs (R328). -/
  fwRun : Bool := false
  /-- The state that a firmware switch left (17 R492). -/
  back : Option IslSt := none
  /-- The first fault cause (R343). -/
  fault : Option Cause := none
  /-- First internal cause code; 0 none. -/
  intCode : Nat := 0
  /-- LOCKOUT_CNT (R361). -/
  lockCnt : Word := 0
  /-- DEMAND_CNT (R361). -/
  demandCnt : Word := 0
  /-- Since the latched fault: own-output pulses passed without it (R343). -/
  okPulses : Nat := 0
  /-- Since the latched fault: a tick has passed. -/
  ticked : Bool := false
  /-- Test outputs whose read-back differs from its drive. -/
  tpDiffer : Nat := 0
  /-- Output halves (2k + half) and laser-enable halves (2h + half) whose read-back is stuck: 1 low, 2 high. -/
  soStuck : Tab Nat := []
  lenStuck : Tab Nat := []
  /-- End of a running off-test plus one, by output half 2k + half (R337). -/
  testing : Tab Nat := []
  /-- Heads with the stall latched (R341). -/
  stall : Nat := 0
  /-- Scan monitors, by 2h + axis (0 fast, 1 slow) (R340). -/
  mon : Tab Mon := []
  /-- Pulses and gate time (0.25 ns) per emitter since the last tick, and pulses per head of the frame before. -/
  count : Tab Nat := []
  gate : Tab Nat := []
  headPulses : Tab Nat := []
  /-- A tick has come since CORE powered up (16 R478). -/
  tickSeen : Bool := false
  /-- Consecutive exchanges with a difference between the halves (R327). -/
  differ : Nat := 0
  /-- The password session (R358). -/
  pw : Pw := {}
  /-- Change-log entries held, oldest first (R359). -/
  log : List (List Byte) := []
  deriving DecidableEq, Repr

end Sys2Proof.Machine
end

