-- ==== Sys2Proof/Machine/Blocks3.lean ====
section
/-! DEFINITION. The state of the filter chains and the plates as plain data (07, 08). -/
namespace Sys2Proof.Machine

/-- A coefficient bank of stage 0 (08 R234, R238). -/
structure FirBank where
  n : Nat
  d0 : Nat
  s0 : Nat
  sym : Bool
  gd : Int
  h : List Int
  deriving DecidableEq, Repr

/-- A cross-fade: the instant it fell due, its length 2^K, and the banks (08 R242). -/
structure Fade where
  due : Time
  k : Nat
  old : FirBank
  new : FirBank
  deriving DecidableEq, Repr

/-- A switch request (08 R240). -/
inductive Sw where
  /-- No request. -/
  | none
  /-- Written; the next tick accepts it. -/
  | asked
  /-- Accepted with WHEN = 1: due at the next SYNC instant. -/
  | atSync
  deriving DecidableEq, Repr

/-- The filter chain of a plate (08). -/
structure Flt where
  act : Option FirBank := none
  /-- The shadow bank (R238). -/
  shd : Option FirBank := none
  /-- A switch asked for and not yet due (R240). -/
  sw : Sw := .none
  /-- Instants of the switches that fell due during the fade and start once it has ended (R240). -/
  due : List Time := []
  /-- Loads that arrived during the fade, in order, with their descriptors (R239). -/
  held : List (FirBank × Desc) := []
  /-- The cross-fade that runs (R242). -/
  fade : Option Fade := none
  /-- Fades that ended, latest first, kept for the segments that may hold their outputs. -/
  past : List Fade := []
  /-- Instants that reset the phase counters, latest first, and whether each is a SYNC (R250, R252). -/
  bases : List (Time × Bool) := []
  /-- The instant at which the history was last cleared (R237). -/
  cleared : Time := 0
  /-- A fade ran in this frame (06 R177). -/
  faded : Bool := false
  /-- Group delay of the bank that the fade left (R248). -/
  gdOld : Int := 0
  /-- Group delay of the bank that it leads to (R248). -/
  gdNew : Int := 0
  /-- FADE_DT (R248). -/
  fadeDt : Int := 0
  /-- MID_DT (R248). -/
  midDt : Int := 0
  deriving DecidableEq, Repr

/-- The chain settings of a plate (08 R231, R235), with its sample period in DT. -/
structure Chain where
  ts : Nat
  fir : Bool
  l : Nat
  d1 : Nat
  s1 : Nat
  d0 : Nat
  bank : FirBank
  deriving DecidableEq, Repr

/-- SYNC of the part (08 R249). -/
structure Sync where
  /-- SYNC instants to come, earliest first. -/
  due : List Time := []
  /-- A SYNC_CMD waits for the next tick. -/
  cmd : Bool := false
  /-- The last accepted SYNC_N edge plus one. -/
  edge : Nat := 0
  deriving DecidableEq, Repr

/-- Plate states (07 R207). -/
inductive PSt where
  | stopped | setup | filling | armed | capturing | rearm | suspended
  deriving DecidableEq, Repr

/-- Settings that govern a segment from its SETUP on (07 R225). -/
structure PCfg where
  ctl : Word := 0
  preLen : Nat := 0
  postDly : Nat := 0
  envN : Nat := 2
  trg : Word := 0
  lvl : Word := 0
  hyst : Nat := 0
  wmin : Nat := 0
  wmax : Nat := 0
  holdoff : Nat := 8
  autoTo : Nat := 0
  shotDly : Nat := 0
  extOfs : Int := 0
  deriving DecidableEq, Repr

/-- What a plate notes for the segments in its history, with its instant. -/
inductive MarkKind where
  /-- A range change of an input: input, old range, new range, RX tap (30 ns settling) or AUX (12 samples). -/
  | range (input old new : Nat) (tap : Bool)
  /-- Plate trims came into force. -/
  | calStep
  /-- The RX tap of the input is borrowed from this instant on (R219). -/
  | borrowed (input : Nat)
  /-- It is not borrowed from this instant on. -/
  | returned (input : Nat)
  deriving DecidableEq, Repr

/-- A mark. -/
structure Mark where
  dt : Time
  kind : MarkKind
  deriving DecidableEq, Repr

/-- What the values of a segment are formed under: the chain, the fades and phase restarts of its history, the segment
writer's settings (DEC_CTL.MODE and RATIO, SEG_LEN, KIND, CTL.MODE, ACC_CTL), for each input in use whether it selects a
source, and what the plate noted. -/
structure Form where
  chain : Chain
  fades : List Fade
  bases : List (Time × Bool)
  mode : Nat
  ratio : Nat
  len : Nat
  stream : Bool
  pmode : Nat
  acc : Word
  sel : List Bool
  marks : List Mark
  deriving DecidableEq, Repr

/-- A range-change entry of a segment (07 R218). -/
structure RangeEnt where
  first : Nat
  new : Nat
  old : Nat
  input : Nat
  settle : Nat
  deriving DecidableEq, Repr

/-- A segment being captured (07 R205-R211). -/
structure Seg where
  trig : Time
  frac : Nat
  /-- Reference sample instant. -/
  ref : Time
  /-- Source of the trigger (R218). -/
  src : Nat
  /-- A forced trigger (R202). -/
  forced : Bool
  /-- The pre-trigger is short (R218). -/
  short : Bool
  /-- A gap of the stream lies before it (R211). -/
  gap : Bool
  /-- A throttle step held at its trigger (R217). -/
  throttled : Bool
  /-- Half rate (R217). -/
  half : Bool
  /-- Start of FILLING. -/
  fill : Time
  /-- Settings latched at SETUP (R225). -/
  cfg : PCfg
  /-- The instant at which it ended early (R209). -/
  cut : Option Time := none
  /-- What its values are formed under, kept from the instant of the cut. -/
  form : Option Form := none
  /-- A stream segment goes on from the output whose newest sample has this index or a later one; 0 begins by time. -/
  after : Nat := 0
  /-- Holdoff as it stood before a forced trigger (R202). -/
  heldEnd : Time := 0
  heldN : Nat := 0
  deriving DecidableEq, Repr

/-- A segment or accumulated segment in the capture buffer, formed and not yet committed. -/
structure Out where
  seq : Nat
  slot : Nat
  addr : Nat
  head : List Byte
  data : List Byte
  /-- Data bytes already written. -/
  done : Nat
  /-- The last segment of a SINGLE acquisition. -/
  last : Bool
  deriving DecidableEq, Repr

/-- The working record of ENVELOPE and ACCUMULATE (07 R213; 08 R253-R257): the head of its first record, values by
position, counts by phase bin, flags, records combined, the dominant bank of the first record, and the decimation mode and
SEG_LEN. -/
structure Work where
  first : Seg
  gd : Int
  vals : List Int
  counts : List Nat
  flags : Nat
  n : Nat
  ranges : List RangeEnt
  bank : Option FirBank
  preVals : Nat
  mode : Nat
  len : Nat
  deriving DecidableEq, Repr

/-- A plate (07). -/
structure Plt where
  st : PSt := .stopped
  /-- The plate acquires (R224). -/
  acquiring : Bool := false
  /-- Recent state changes, latest first: the instant and the state entered. -/
  trail : List (Time × PSt) := []
  /-- Instant of the last state change. -/
  since : Time := 0
  /-- Start of FILLING. -/
  fill : Time := 0
  /-- Half rate (R217). -/
  half : Bool := false
  /-- Settings latched at SETUP (R225). -/
  cfg : PCfg := {}
  /-- The segment being captured (R205). -/
  seg : Option Seg := none
  /-- Segments cut short whose values are still to be formed. -/
  closing : List Seg := []
  /-- The working record of ENVELOPE or ACCUMULATE (R213; 08 R253). -/
  work : Option Work := none
  /-- The capture buffer: segments formed and not yet committed (R214). -/
  buf : List Out := []
  /-- MISSED was counted since the last segment (R208). -/
  blind : Bool := false
  /-- End of holdoff by time, and qualifying events that holdoff still ignores (R201). -/
  holdEnd : Time := 0
  holdN : Nat := 0
  /-- Cascade triggers that wait for their DT, each with its sender (R210). -/
  casc : List (Time × Nat) := []
  /-- Marks of the history. -/
  marks : List Mark := []
  /-- Sequence number of the segment in each slot of the acquisition, plus one (R216). -/
  slots : Tab Nat := []
  /-- Slot size of the acquisition, the first byte of its region, and its number of slots in RING mode; 0 in SINGLE. -/
  slotSize : Nat := 0
  base : Nat := 0
  ring : Nat := 0
  /-- First group of the next stream segment, one more than the newest sample of the last output used, and a gap before it
  (R211). -/
  streamNext : Time := 0
  streamLast : Nat := 0
  gap : Bool := false
  /-- The source time that the last trigger event of the plate consumed, plus one (R197). -/
  used : Nat := 0
  /-- Result of the last plate check: 0 none, 1 pass, 2 fail, and the condition; the same for the filter check. -/
  check : Nat := 0
  cond : Nat := 0
  fltCheck : Nat := 0
  fltCond : Nat := 0
  /-- Starts of the last TRIG_BUS pulses, latest first (R203). -/
  bus : List Time := []
  deriving DecidableEq, Repr

/-- LPDDR4X (07 R220-R223). -/
structure Mem where
  training : Bool := false
  ready : Bool := false
  fail : Bool := false
  failMask : Nat := 0
  /-- Contents by byte address; an unlisted byte reads 0. -/
  cells : List Host.Cell := []
  /-- Bursts that hold a double-bit error and a single-bit error, as 64-byte burst addresses (R222). -/
  bad : List Nat := []
  soft : List Nat := []
  deriving DecidableEq, Repr

/-- The plates, their filter chains and memory. -/
structure Wave where
  plt : Tab Plt := []
  flt : Tab Flt := []
  sync : Sync := {}
  mem : Mem := {}
  /-- Range in force of AUX input k, as a difference from the default 2 (07 R193). -/
  aux : Tab Nat := []
  /-- Consecutive clipped and consecutive quiet samples of AUX input k since its last range change (07 R194). -/
  auxRun : Tab (Nat × Nat) := []
  deriving DecidableEq, Repr

/-- A slot converted in the round that runs (10 R284-R290): the value as converted, if the converter gave one within
range, whether an input used was open at step 3, and whether the caps changed during the slot. -/
structure SlotRun where
  slot : Nat
  value : Option Int
  opened : Bool
  capped : Bool
  deriving DecidableEq, Repr

/-- A slow round (10 R284, R285). -/
structure Round where
  /-- Round and slot registers in force for the round. -/
  cfg : Tab Word
  /-- The slot that runs, its start, and the slots after it. -/
  slot : Nat
  slotAt : Time
  todo : List Nat
  /-- Inputs open when the slot started, and changes since: instant, input, open. -/
  openAt : Nat
  changes : List (Time × Nat × Bool)
  /-- The energy-limited caps changed during the slot. -/
  capped : Bool
  /-- Slots converted. -/
  done : List SlotRun
  deriving DecidableEq, Repr

/-- Housekeeping and loops (10). -/
structure Hkp where
  round : Option Round := none
  /-- A round that waits for publication: the round, and the instant at which its last conversion ended. -/
  pub : Option (Round × Time) := none
  /-- Earliest start of the next round; after a power-on or cold reset 1 ms from the start of device time (R285). -/
  next : Time := 1024000000
  /-- Round and slot registers in force: those that the last round took at its start (R291). -/
  slots : Tab Word := []
  /-- Result of the last housekeeping check: 0 none, 1 pass, 2 fail (R291). -/
  check : Nat := 0
  /-- The condition that failed (R291). -/
  cond : Nat := 0
  /-- Instant at which the watchdog of a loop restarted, and loops whose watchdog has expired (R296). -/
  wdStart : Tab Nat := []
  wdFault : Nat := 0
  /-- Read-back in 0.5 uA, and the OPEN and DEV bits by loop (R297). -/
  read : Tab Nat := []
  opens : Nat := 0
  devs : Nat := 0
  /-- The current that a loop was last seen to be commanded to carry, and the instant of its last change (R297). -/
  loopCur : Tab (Option Nat) := []
  loopAt : Tab Time := []
  deriving DecidableEq, Repr

end Sys2Proof.Machine
end

