-- ==== Sys2Proof/Config.lean ====
section
/-! DEFINITION. What an implementation fixes and the free values: opaque constants without a body, so that no
statement can rest on a value of them. -/
namespace Sys2Proof.Config

/-- A free 64-bit value, applied to the counter that each use advances (the spec states no value there). -/
opaque free : Nat → BitVec 64

/-- A free Boolean, applied to the counter that each use advances. -/
opaque freeBool : Nat → Bool

/-- The fused content of a register that a production fuse restores (R264, R279), by its offset. -/
opaque fuse : Nat → BitVec 32

/-- What a register of the debug bus outside the register window reads, by address and the counter of free values: the
spec names the contents of the bus and gives no addresses (17 R493). -/
opaque debugBus : BitVec 32 → Nat → BitVec 32

/-- MDV.CFG_DIGEST of the registers in force that differ from their defaults and of the code, servo, walk and filter
tables: the spec names the CRC and what it covers, and no order (13 R371). -/
opaque cfgDigest : List (Nat × BitVec 32) → List (Nat × Nat) → List (List Int) → BitVec 32

end Sys2Proof.Config
end

