-- ==== Sys2Proof/Machine/RegMap.lean ====
section
/-! DEFINITION. The register map: every row of the register tables of the spec with its offsets, access code,
reset letters, writable bits and default (00 R5, R6; 01 R38, R39). -/
namespace Sys2Proof.Machine

/-- Access codes of R5. -/
inductive Acc where
  | rw | ro | wo | w1c | rwt | rwp
  deriving DecidableEq, Repr

/-- How the default of a register is found: a constant, or a rule that depends on the index, a fuse or a strap. -/
inductive Dfl where
  /-- The same value at every index. -/
  | c (v : Nat)
  /-- Bite default budgets (R30). -/
  | budget
  /-- Fixed and host housekeeping slots (R283, R304). -/
  | slotCfg
  /-- Second word of the fixed and host housekeeping slots (R283, R304). -/
  | slotAux
  /-- Resistance scale word of a slot (R304). -/
  | slotThm
  /-- Event configuration (R452). -/
  | evtCfg
  /-- Neighbour sensors (R306, R323). -/
  | tsNbr
  /-- Votes (R465). -/
  | voteK
  /-- A factory fuse (R264, R479). -/
  | fused
  /-- Nominal bin widths (R135). -/
  | nominal
  /-- Link width and rate preset (R400). -/
  | linkCfg
  /-- Equalisation preset (R400). -/
  | eq
  deriving DecidableEq, Repr

/-- One row of a register table. `dims` lists (count, stride) per index, `rst` has one bit per reset letter
P C H D W L from bit 0, `mask` holds the writable bits. -/
structure Row where
  base : Nat
  dims : List (Nat × Nat)
  acc : Acc
  rst : Nat
  mask : Nat
  dfl : Dfl
  deriving DecidableEq, Repr

/-- The indices of an offset relative to the base, when the row maps it (R39). -/
def rowIdxGo : List (Nat × Nat) → Nat → Option (List Nat)
  | [], r => if r = 0 then some [] else none
  | (n, st) :: ds, r =>
    let q := r / st
    if ds = [] then (if q < n && r % st = 0 then some [q] else none)
    else if q < n then (rowIdxGo ds (r % st)).map (fun l => q :: l) else none

/-- The indices at which a row maps an absolute offset. -/
def Row.idx (r : Row) (off : Nat) : Option (List Nat) :=
  if off < r.base then none else rowIdxGo r.dims (off - r.base)

/-- The register table of block GLB. -/
def rowsGLB : List Row := [
  { base := 0x0, dims := [], acc := .ro, rst := 0, mask := 0xFFFFFFFF, dfl := .c 0x5124 },
  { base := 0x4, dims := [], acc := .ro, rst := 0, mask := 0xFFFFFFFF, dfl := .c 0xB1 },
  { base := 0x8, dims := [], acc := .ro, rst := 31, mask := 0x0, dfl := .c 0 },
  { base := 0x10, dims := [], acc := .rwt, rst := 31, mask := 0xF, dfl := .c 8 },
  { base := 0x14, dims := [], acc := .rwt, rst := 31, mask := 0xFFFFF, dfl := .c 0xC350 },
  { base := 0x18, dims := [], acc := .rwt, rst := 31, mask := 0xFFFFF, dfl := .c 0x2710 },
  { base := 0x1C, dims := [], acc := .rwt, rst := 31, mask := 0xFFFFF, dfl := .c 0xF4240 },
  { base := 0x20, dims := [], acc := .rwt, rst := 31, mask := 0x3F, dfl := .c 2 },
  { base := 0x24, dims := [], acc := .rwt, rst := 31, mask := 0xFFFFFF, dfl := .c 0 },
  { base := 0x28, dims := [], acc := .rwt, rst := 31, mask := 0xFFFFFF, dfl := .c 0 },
  { base := 0x30, dims := [], acc := .ro, rst := 31, mask := 0xFFFFFFFF, dfl := .c 0 },
  { base := 0x38, dims := [], acc := .ro, rst := 31, mask := 0xFFFFFFFF, dfl := .c 0 },
  { base := 0x3C, dims := [], acc := .ro, rst := 31, mask := 0xFFFFFFFF, dfl := .c 0 },
  { base := 0x40, dims := [], acc := .ro, rst := 3, mask := 0xFFFFFFFF, dfl := .c 0 },
  { base := 0x44, dims := [], acc := .ro, rst := 3, mask := 0xFFFFFFFF, dfl := .c 0 },
  { base := 0x48, dims := [], acc := .ro, rst := 31, mask := 0xFFFFFFFF, dfl := .c 0 },
  { base := 0x4C, dims := [], acc := .ro, rst := 31, mask := 0xFFFFFFFF, dfl := .c 0 },
  { base := 0x50, dims := [], acc := .ro, rst := 31, mask := 0xFFFFFFFF, dfl := .c 0 },
  { base := 0x54, dims := [], acc := .ro, rst := 31, mask := 0xFFFFFFFF, dfl := .c 0 },
  { base := 0x58, dims := [], acc := .ro, rst := 31, mask := 0xFFFFFFFF, dfl := .c 0 },
  { base := 0x5C, dims := [], acc := .ro, rst := 31, mask := 0xFFFFFFFF, dfl := .c 0 },
  { base := 0x1000, dims := [], acc := .rw, rst := 31, mask := 0x137, dfl := .c 0 },
  { base := 0x1004, dims := [], acc := .wo, rst := 0, mask := 0xFFFFFFFF, dfl := .c 0 },
  { base := 0x1008, dims := [], acc := .ro, rst := 31, mask := 0xFFFFFFFF, dfl := .c 0 },
  { base := 0x100C, dims := [], acc := .ro, rst := 31, mask := 0xFFFFFFFF, dfl := .c 0 },
  { base := 0x1010, dims := [], acc := .ro, rst := 31, mask := 0xFFFFFFFF, dfl := .c 0 },
  { base := 0x1014, dims := [], acc := .ro, rst := 31, mask := 0xFFFFFFFF, dfl := .c 0 },
  { base := 0x1018, dims := [], acc := .ro, rst := 31, mask := 0xFFFFFFFF, dfl := .c 0 }]

/-- The register table of block BRN. -/
def rowsBRN : List Row := [
  { base := 0x100000, dims := [], acc := .ro, rst := 31, mask := 0xFFFFFFFF, dfl := .c 0 },
  { base := 0x100004, dims := [], acc := .ro, rst := 31, mask := 0xFFFFFFFF, dfl := .c 0 },
  { base := 0x100010, dims := [], acc := .rwt, rst := 31, mask := 0xF1F, dfl := .c 0 },
  { base := 0x100014, dims := [], acc := .rwt, rst := 31, mask := 0x7FFFFFFF, dfl := .c 0x12345678 },
  { base := 0x100018, dims := [], acc := .rwt, rst := 31, mask := 0xFFFF, dfl := .c 0 },
  { base := 0x10001C, dims := [], acc := .rwt, rst := 31, mask := 0x3FF3FFF, dfl := .c 0 },
  { base := 0x100040, dims := [(16, 4)], acc := .rwt, rst := 31, mask := 0xFFF01FF, dfl := .c 0x20 },
  { base := 0x100080, dims := [(16, 4)], acc := .rwt, rst := 31, mask := 0x7FFFFFF, dfl := .c 0 },
  { base := 0x1000C0, dims := [(16, 4)], acc := .rwt, rst := 31, mask := 0x7FFFFFF, dfl := .c 0xFA00 },
  { base := 0x100100, dims := [(16, 4)], acc := .rwt, rst := 31, mask := 0xFFF, dfl := .c 0 },
  { base := 0x100140, dims := [(4, 4)], acc := .rwt, rst := 31, mask := 0xFFFFFFFF, dfl := .c 0 },
  { base := 0x100150, dims := [], acc := .rwt, rst := 31, mask := 0xFFFFFFFF, dfl := .c 0 },
  { base := 0x100200, dims := [(16, 4)], acc := .rwp, rst := 31, mask := 0xFFF, dfl := .c 0 },
  { base := 0x100240, dims := [(16, 4)], acc := .rwp, rst := 31, mask := 0x1FFF, dfl := .c 0 },
  { base := 0x100280, dims := [(16, 4)], acc := .rwp, rst := 31, mask := 0xFFFFFF, dfl := .c 0 },
  { base := 0x100300, dims := [(16, 4)], acc := .ro, rst := 31, mask := 0xFFFFFFFF, dfl := .c 0 },
  { base := 0x100340, dims := [(16, 4)], acc := .ro, rst := 31, mask := 0xFFFFFFFF, dfl := .c 0 },
  { base := 0x100380, dims := [], acc := .w1c, rst := 31, mask := 0xFFFFFFFF, dfl := .c 0 }]

/-- Part of the register table of block HCH. -/
def rowsHCHPart0 : List Row := [
  { base := 0x200000, dims := [], acc := .ro, rst := 31, mask := 0xFFFFFFFF, dfl := .c 0 },
  { base := 0x200004, dims := [], acc := .ro, rst := 31, mask := 0xFFFFFFFF, dfl := .c 0 },
  { base := 0x200010, dims := [], acc := .rwt, rst := 31, mask := 0x1, dfl := .c 0 },
  { base := 0x200014, dims := [], acc := .ro, rst := 31, mask := 0xFFFFFFFF, dfl := .c 0 },
  { base := 0x200018, dims := [], acc := .ro, rst := 31, mask := 0xFFFFFFFF, dfl := .c 0 },
  { base := 0x20001C, dims := [], acc := .ro, rst := 31, mask := 0xFFFFFFFF, dfl := .c 0 },
  { base := 0x201000, dims := [(8, 4096)], acc := .wo, rst := 0, mask := 0xFFFFFFFF, dfl := .c 0 },
  { base := 0x201004, dims := [(8, 4096)], acc := .ro, rst := 31, mask := 0x0, dfl := .c 0 },
  { base := 0x201008, dims := [(8, 4096)], acc := .rwt, rst := 31, mask := 0xFFFFFFF3, dfl := .c 0x1000400 },
  { base := 0x20100C, dims := [(8, 4096)], acc := .rwt, rst := 31, mask := 0x1FF0FFF, dfl := .c 0 },
  { base := 0x201010, dims := [(8, 4096)], acc := .rwt, rst := 31, mask := 0xFF03, dfl := .c 0 },
  { base := 0x201014, dims := [(8, 4096)], acc := .rwt, rst := 31, mask := 0xFFFFFFFF, dfl := .c 0 },
  { base := 0x201018, dims := [(8, 4096)], acc := .rwt, rst := 31, mask := 0xFFFFFF, dfl := .c 0 },
  { base := 0x20101C, dims := [(8, 4096)], acc := .rwt, rst := 31, mask := 0xFFFFFFFF, dfl := .c 0 },
  { base := 0x201020, dims := [(8, 4096)], acc := .rwt, rst := 31, mask := 0xFFFFFFFF, dfl := .c 0 },
  { base := 0x201024, dims := [(8, 4096)], acc := .rwt, rst := 31, mask := 0xFFFFFFFF, dfl := .c 0 },
  { base := 0x201028, dims := [(8, 4096)], acc := .rwt, rst := 31, mask := 0xFFFFFFFF, dfl := .c 0 },
  { base := 0x20102C, dims := [(8, 4096)], acc := .rwt, rst := 31, mask := 0xFFFFFFFF, dfl := .c 0x7FFF8000 },
  { base := 0x201030, dims := [(8, 4096)], acc := .rwt, rst := 31, mask := 0xFFFFFFFF, dfl := .c 0 },
  { base := 0x201034, dims := [(8, 4096)], acc := .rwt, rst := 31, mask := 0x7FFF, dfl := .c 0x40 },
  { base := 0x201038, dims := [(8, 4096)], acc := .rwt, rst := 31, mask := 0x7FFF, dfl := .c 0 },
  { base := 0x20103C, dims := [(8, 4096)], acc := .rwt, rst := 31, mask := 0x3FF, dfl := .c 0x304 },
  { base := 0x201040, dims := [(8, 4096)], acc := .rwt, rst := 31, mask := 0xFFFFFF, dfl := .c 0x100008 },
  { base := 0x201044, dims := [(8, 4096)], acc := .rwt, rst := 31, mask := 0xFFFFFFFF, dfl := .c 0x40000 },
  { base := 0x201048, dims := [(8, 4096)], acc := .rwt, rst := 31, mask := 0xFFFFFF, dfl := .c 0x81000 },
  { base := 0x201050, dims := [(8, 4096), (4, 4)], acc := .rwt, rst := 31, mask := 0xFFFFFFFF, dfl := .c 0 },
  { base := 0x201080, dims := [(8, 4096)], acc := .ro, rst := 31, mask := 0xFFFFFFFF, dfl := .c 0 },
  { base := 0x201084, dims := [(8, 4096)], acc := .ro, rst := 31, mask := 0xFFFFFFFF, dfl := .c 0 },
  { base := 0x201088, dims := [(8, 4096)], acc := .ro, rst := 31, mask := 0xFFFFFFFF, dfl := .c 0 },
  { base := 0x20108C, dims := [(8, 4096)], acc := .ro, rst := 31, mask := 0xFFFFFFFF, dfl := .c 0 }]

/-- Part of the register table of block HCH. -/
def rowsHCHPart1 : List Row := [
  { base := 0x201090, dims := [(8, 4096)], acc := .ro, rst := 31, mask := 0xFFFFFFFF, dfl := .c 0 },
  { base := 0x201094, dims := [(8, 4096)], acc := .ro, rst := 31, mask := 0xFFFFFFFF, dfl := .c 0 },
  { base := 0x201098, dims := [(8, 4096)], acc := .ro, rst := 31, mask := 0xFFFFFFFF, dfl := .c 0 },
  { base := 0x201200, dims := [(8, 4096), (8, 32), (5, 4)], acc := .ro, rst := 31, mask := 0xFFFFFFFF, dfl := .c 0 },
  { base := 0x201300, dims := [(8, 4096), (3, 20)], acc := .ro, rst := 31, mask := 0xFFFFFFFF, dfl := .c 0x400000 },
  { base := 0x201304, dims := [(8, 4096), (3, 20), (4, 4)], acc := .ro, rst := 31, mask := 0xFFFFFFFF, dfl := .c 0 },
  { base := 0x201340, dims := [(8, 4096)], acc := .ro, rst := 31, mask := 0xFFFFFFFF, dfl := .c 0 },
  { base := 0x201400, dims := [(8, 4096), (33, 4)], acc := .ro, rst := 31, mask := 0xFFFFFFFF, dfl := .c 0x1000 },
  { base := 0x201500, dims := [(8, 4096), (33, 4)], acc := .ro, rst := 31, mask := 0xFFFFFFFF, dfl := .c 0x1000 }]

/-- The register table of block HCH. -/
def rowsHCH : List Row := rowsHCHPart0 ++ rowsHCHPart1

/-- The register table of block AFE. -/
def rowsAFE : List Row := [
  { base := 0x300000, dims := [], acc := .ro, rst := 31, mask := 0xFFFFFFFF, dfl := .c 0 },
  { base := 0x300004, dims := [], acc := .wo, rst := 0, mask := 0xFFFFFFFF, dfl := .c 0 },
  { base := 0x300100, dims := [(32, 4)], acc := .rwt, rst := 31, mask := 0x1FFD3FF, dfl := .c 0x4F0044 },
  { base := 0x300200, dims := [(32, 4)], acc := .ro, rst := 31, mask := 0xFFFFFFFF, dfl := .c 0 },
  { base := 0x300280, dims := [(32, 4)], acc := .ro, rst := 31, mask := 0xFFFFFFFF, dfl := .c 0 },
  { base := 0x300300, dims := [(16, 4)], acc := .ro, rst := 31, mask := 0xFFFFFFFF, dfl := .c 0 },
  { base := 0x300400, dims := [(4, 16)], acc := .rwt, rst := 31, mask := 0x7FFFFF, dfl := .c 0 },
  { base := 0x300404, dims := [(4, 16)], acc := .rwt, rst := 31, mask := 0xFFFFFFFF, dfl := .c 0 },
  { base := 0x300408, dims := [(4, 16)], acc := .rwt, rst := 31, mask := 0x3FFF3FFF, dfl := .c 0 },
  { base := 0x30040C, dims := [(4, 16)], acc := .rwt, rst := 31, mask := 0x3FFF, dfl := .c 0x10 },
  { base := 0x300440, dims := [(4, 4)], acc := .ro, rst := 31, mask := 0xFFFFFFFF, dfl := .c 0 },
  { base := 0x301000, dims := [(512, 4)], acc := .rwt, rst := 31, mask := 0x131FFFFF, dfl := .c 0x3024010 },
  { base := 0x302000, dims := [(512, 4)], acc := .ro, rst := 31, mask := 0x0, dfl := .c 3 },
  { base := 0x303000, dims := [(512, 4)], acc := .ro, rst := 31, mask := 0xFFFFFFFF, dfl := .c 0 }]

/-- The register table of block TIM. -/
def rowsTIM : List Row := [
  { base := 0x400000, dims := [], acc := .ro, rst := 3, mask := 0x0, dfl := .c 0 },
  { base := 0x400004, dims := [], acc := .rwt, rst := 3, mask := 0xFFFFFF, dfl := .c 0 },
  { base := 0x400008, dims := [], acc := .ro, rst := 3, mask := 0xFFFFFFFF, dfl := .c 0 },
  { base := 0x40000C, dims := [], acc := .rw, rst := 3, mask := 0x1, dfl := .c 1 },
  { base := 0x400010, dims := [], acc := .ro, rst := 3, mask := 0xFFFFFFFF, dfl := .c 0 },
  { base := 0x400020, dims := [], acc := .ro, rst := 31, mask := 0xFFFFFFFF, dfl := .c 0 },
  { base := 0x400100, dims := [(8, 4)], acc := .rwt, rst := 31, mask := 0x1FFFFF, dfl := .c 0x155A },
  { base := 0x400120, dims := [(8, 4)], acc := .rwt, rst := 31, mask := 0xFFFF, dfl := .c 0 },
  { base := 0x400140, dims := [(8, 4)], acc := .ro, rst := 31, mask := 0xFFFFFFFF, dfl := .c 0 },
  { base := 0x400200, dims := [(4, 16)], acc := .rwt, rst := 31, mask := 0xFFFF, dfl := .c 0 },
  { base := 0x400204, dims := [(4, 16)], acc := .rwt, rst := 31, mask := 0x3FFFFFFF, dfl := .c 0x3E8 },
  { base := 0x400208, dims := [(4, 16)], acc := .rwt, rst := 31, mask := 0x3FFFFFFF, dfl := .c 0xF4240 },
  { base := 0x40020C, dims := [(4, 16)], acc := .ro, rst := 31, mask := 0xFFFFFFFF, dfl := .c 0 },
  { base := 0x400280, dims := [(4, 4)], acc := .ro, rst := 31, mask := 0xFFFFFFFF, dfl := .c 0 },
  { base := 0x400300, dims := [(4, 32), (8, 4)], acc := .ro, rst := 31, mask := 0xFFFFFFFF, dfl := .c 0 },
  { base := 0x400400, dims := [(16, 4)], acc := .ro, rst := 31, mask := 0xFFFFFFFF, dfl := .c 0 },
  { base := 0x410000, dims := [(512, 384), (3, 128), (32, 4)], acc := .ro, rst := 31, mask := 0xFFFFFFFF, dfl := .nominal },
  { base := 0x440000, dims := [(8, 256), (2, 128), (32, 4)], acc := .ro, rst := 31, mask := 0xFFFFFFFF, dfl := .nominal }]

/-- The register table of block STP. -/
def rowsSTP : List Row := [
  { base := 0x500000, dims := [], acc := .ro, rst := 31, mask := 0xFFFFFFFF, dfl := .c 0 },
  { base := 0x500010, dims := [], acc := .rwt, rst := 31, mask := 0x73F7, dfl := .c 0x4106 },
  { base := 0x500014, dims := [], acc := .rwt, rst := 31, mask := 0xFFFFFFFF, dfl := .c 0x4490440 },
  { base := 0x500018, dims := [], acc := .rwt, rst := 31, mask := 0x3FF, dfl := .c 0x87 },
  { base := 0x50001C, dims := [], acc := .rwt, rst := 31, mask := 0xFF7FF, dfl := .c 0x10107 },
  { base := 0x500020, dims := [], acc := .rwt, rst := 31, mask := 0xFFFF3, dfl := .c 0x10400 },
  { base := 0x500024, dims := [], acc := .rwt, rst := 31, mask := 0xFF, dfl := .c 4 },
  { base := 0x500028, dims := [], acc := .rwt, rst := 31, mask := 0x3, dfl := .c 1 },
  { base := 0x50002C, dims := [], acc := .rwt, rst := 31, mask := 0xFFFFFFFF, dfl := .c 0x95E56F4 },
  { base := 0x500040, dims := [(4, 4)], acc := .rwt, rst := 31, mask := 0xFFF, dfl := .c 0 },
  { base := 0x500050, dims := [(4, 4)], acc := .rwt, rst := 31, mask := 0xFFF, dfl := .c 0x80 },
  { base := 0x500060, dims := [(4, 4)], acc := .rwt, rst := 31, mask := 0x3, dfl := .c 1 },
  { base := 0x500070, dims := [(4, 4)], acc := .rwt, rst := 31, mask := 0xFFFFFF, dfl := .c 0 },
  { base := 0x500080, dims := [(4, 4)], acc := .ro, rst := 31, mask := 0xFFFFFFFF, dfl := .fused },
  { base := 0x500100, dims := [(4, 16)], acc := .ro, rst := 31, mask := 0xFFFFFFFF, dfl := .c 0 },
  { base := 0x500104, dims := [(4, 16)], acc := .ro, rst := 31, mask := 0xFFFFFFFF, dfl := .c 0 },
  { base := 0x500108, dims := [(4, 16)], acc := .ro, rst := 31, mask := 0xFFFFFFFF, dfl := .c 0 },
  { base := 0x50010C, dims := [(4, 16)], acc := .ro, rst := 31, mask := 0xFFFFFFFF, dfl := .c 0 },
  { base := 0x501000, dims := [(512, 4)], acc := .ro, rst := 31, mask := 0xFFFFFFFF, dfl := .c 0 },
  { base := 0x502000, dims := [(512, 4)], acc := .ro, rst := 31, mask := 0xFFFFFFFF, dfl := .c 0 },
  { base := 0x508000, dims := [(4, 1024), (4, 256), (64, 4)], acc := .ro, rst := 31, mask := 0xFFFFFFFF, dfl := .c 0 }]

/-- Part of the register table of block PLT. -/
def rowsPLTPart0 : List Row := [
  { base := 0x600000, dims := [(8, 65536)], acc := .ro, rst := 31, mask := 0xFFFFFFFF, dfl := .c 0 },
  { base := 0x600004, dims := [(8, 65536)], acc := .rwt, rst := 31, mask := 0x1F, dfl := .c 0 },
  { base := 0x600010, dims := [(8, 65536), (4, 4)], acc := .rwt, rst := 31, mask := 0x33FF, dfl := .c 0x3FF },
  { base := 0x600020, dims := [(8, 65536)], acc := .rwt, rst := 31, mask := 0x1FFFFF, dfl := .c 0x400 },
  { base := 0x600024, dims := [(8, 65536)], acc := .rwt, rst := 31, mask := 0x7FFFFF, dfl := .c 1 },
  { base := 0x600028, dims := [(8, 65536)], acc := .rwt, rst := 31, mask := 0x1FFFFF, dfl := .c 0 },
  { base := 0x60002C, dims := [(8, 65536)], acc := .rwt, rst := 31, mask := 0xFFFFFFFF, dfl := .c 0 },
  { base := 0x600030, dims := [(8, 65536)], acc := .rwt, rst := 31, mask := 0x7FFFFF, dfl := .c 0 },
  { base := 0x600034, dims := [(8, 65536)], acc := .rwt, rst := 31, mask := 0x7FFFFF, dfl := .c 0 },
  { base := 0x600040, dims := [(8, 65536)], acc := .rwt, rst := 31, mask := 0x1FFFF07, dfl := .c 0x100 },
  { base := 0x600044, dims := [(8, 65536)], acc := .rwt, rst := 31, mask := 0x1FFFF, dfl := .c 2 },
  { base := 0x600050, dims := [(8, 65536)], acc := .rwt, rst := 31, mask := 0x1FFFF7F, dfl := .c 0 },
  { base := 0x600054, dims := [(8, 65536)], acc := .rwt, rst := 31, mask := 0x3FF03FF, dfl := .c 0 },
  { base := 0x600058, dims := [(8, 65536)], acc := .rwt, rst := 31, mask := 0x3F, dfl := .c 4 },
  { base := 0x60005C, dims := [(8, 65536)], acc := .rwt, rst := 31, mask := 0xFFFFFF, dfl := .c 0 },
  { base := 0x600060, dims := [(8, 65536)], acc := .rwt, rst := 31, mask := 0xFFFFFF, dfl := .c 0 },
  { base := 0x600064, dims := [(8, 65536)], acc := .rwt, rst := 31, mask := 0x3FFFFFFF, dfl := .c 8 },
  { base := 0x600068, dims := [(8, 65536)], acc := .rwt, rst := 31, mask := 0xFFFFFF, dfl := .c 0x186A0 },
  { base := 0x60006C, dims := [(8, 65536)], acc := .rwt, rst := 31, mask := 0xFFFFFF, dfl := .c 0 },
  { base := 0x600070, dims := [(8, 65536)], acc := .rwt, rst := 31, mask := 0xFFFF, dfl := .c 0 },
  { base := 0x600080, dims := [(8, 65536)], acc := .ro, rst := 31, mask := 0xFFFFFFFF, dfl := .c 0 },
  { base := 0x600084, dims := [(8, 65536)], acc := .ro, rst := 31, mask := 0xFFFFFFFF, dfl := .c 0 },
  { base := 0x600088, dims := [(8, 65536)], acc := .ro, rst := 31, mask := 0xFFFFFFFF, dfl := .c 0 },
  { base := 0x60008C, dims := [(8, 65536)], acc := .ro, rst := 31, mask := 0xFFFFFFFF, dfl := .c 0 },
  { base := 0x600090, dims := [(8, 65536)], acc := .ro, rst := 31, mask := 0xFFFFFFFF, dfl := .c 0 },
  { base := 0x600094, dims := [(8, 65536)], acc := .ro, rst := 31, mask := 0xFFFFFFFF, dfl := .c 0 },
  { base := 0x600098, dims := [(8, 65536)], acc := .ro, rst := 31, mask := 0xFFFFFFFF, dfl := .c 0 },
  { base := 0x60009C, dims := [(8, 65536)], acc := .ro, rst := 31, mask := 0xFFFFFFFF, dfl := .c 0 },
  { base := 0x6000A0, dims := [(8, 65536)], acc := .ro, rst := 31, mask := 0xFFFFFFFF, dfl := .c 0 },
  { base := 0x6000A4, dims := [(8, 65536)], acc := .ro, rst := 31, mask := 0xFFFFFFFF, dfl := .c 0 }]

/-- Part of the register table of block PLT. -/
def rowsPLTPart1 : List Row := [
  { base := 0x6000B0, dims := [(8, 65536)], acc := .ro, rst := 31, mask := 0xFFFFFFFF, dfl := .c 0 },
  { base := 0x600100, dims := [(8, 65536), (2, 4)], acc := .rwt, rst := 31, mask := 0x1FF7F, dfl := .c 0x10442 },
  { base := 0x600110, dims := [(8, 65536), (2, 4)], acc := .ro, rst := 31, mask := 0xFFFFFFFF, dfl := .c 0 }]

/-- The register table of block PLT. -/
def rowsPLT : List Row := rowsPLTPart0 ++ rowsPLTPart1

/-- The register table of block FLT. -/
def rowsFLT : List Row := [
  { base := 0x700000, dims := [], acc := .rw, rst := 31, mask := 0xFFFF0007, dfl := .c 7 },
  { base := 0x700004, dims := [], acc := .wo, rst := 0, mask := 0xFFFFFFFF, dfl := .c 0 },
  { base := 0x700008, dims := [], acc := .ro, rst := 31, mask := 0xFFFFFFFF, dfl := .c 0 },
  { base := 0x70000C, dims := [], acc := .ro, rst := 31, mask := 0xFFFFFFFF, dfl := .c 0 },
  { base := 0x700010, dims := [], acc := .ro, rst := 31, mask := 0xFFFFFFFF, dfl := .c 0 },
  { base := 0x700014, dims := [], acc := .ro, rst := 31, mask := 0xFFFFFFFF, dfl := .c 0 },
  { base := 0x700018, dims := [], acc := .ro, rst := 31, mask := 0xFFFFFFFF, dfl := .c 0 },
  { base := 0x710000, dims := [(8, 8192)], acc := .ro, rst := 31, mask := 0x0, dfl := .c 0 },
  { base := 0x710004, dims := [(8, 8192)], acc := .rwt, rst := 31, mask := 0xF1, dfl := .c 0 },
  { base := 0x710008, dims := [(8, 8192)], acc := .rwt, rst := 31, mask := 0x1FFF1FFF, dfl := .c 0x10001 },
  { base := 0x71000C, dims := [(8, 8192)], acc := .rwt, rst := 31, mask := 0x1F, dfl := .c 0 },
  { base := 0x710010, dims := [(8, 8192)], acc := .wo, rst := 0, mask := 0xFFFFFFFF, dfl := .c 0 },
  { base := 0x710014, dims := [(8, 8192)], acc := .rwt, rst := 31, mask := 0x11FFFF, dfl := .c 1 },
  { base := 0x710020, dims := [(8, 8192)], acc := .ro, rst := 31, mask := 0xFFFFFFFF, dfl := .c 0 },
  { base := 0x710024, dims := [(8, 8192)], acc := .ro, rst := 31, mask := 0xFFFFFFFF, dfl := .c 0 },
  { base := 0x710028, dims := [(8, 8192)], acc := .ro, rst := 31, mask := 0xFFFFFFFF, dfl := .c 0 },
  { base := 0x710030, dims := [(8, 8192)], acc := .ro, rst := 31, mask := 0xFFFFFFFF, dfl := .c 0 },
  { base := 0x710034, dims := [(8, 8192)], acc := .ro, rst := 31, mask := 0xFFFFFFFF, dfl := .c 0 },
  { base := 0x710038, dims := [(8, 8192)], acc := .ro, rst := 31, mask := 0xFFFFFFFF, dfl := .c 0 },
  { base := 0x71003C, dims := [(8, 8192)], acc := .ro, rst := 31, mask := 0xFFFFFFFF, dfl := .c 0 },
  { base := 0x710040, dims := [(8, 8192)], acc := .ro, rst := 31, mask := 0xFFFFFFFF, dfl := .c 0 },
  { base := 0x710044, dims := [(8, 8192)], acc := .ro, rst := 31, mask := 0xFFFFFFFF, dfl := .c 0 },
  { base := 0x710048, dims := [(8, 8192)], acc := .ro, rst := 31, mask := 0xFFFFFFFF, dfl := .c 0 },
  { base := 0x710050, dims := [(8, 8192)], acc := .ro, rst := 31, mask := 0xFFFFFFFF, dfl := .c 0 },
  { base := 0x710054, dims := [(8, 8192)], acc := .ro, rst := 31, mask := 0xFFFFFFFF, dfl := .c 0 },
  { base := 0x710058, dims := [(8, 8192)], acc := .ro, rst := 31, mask := 0xFFFFFFFF, dfl := .c 0 },
  { base := 0x71005C, dims := [(8, 8192)], acc := .ro, rst := 31, mask := 0xFFFFFFFF, dfl := .c 0 },
  { base := 0x710800, dims := [(8, 8192), (384, 4)], acc := .ro, rst := 31, mask := 0xFFFFFFFF, dfl := .c 0 },
  { base := 0x711000, dims := [(8, 8192), (384, 4)], acc := .ro, rst := 31, mask := 0xFFFFFFFF, dfl := .c 0 }]

/-- The register table of block PRF. -/
def rowsPRF : List Row := [
  { base := 0x800000, dims := [], acc := .ro, rst := 31, mask := 0x0, dfl := .c 0 },
  { base := 0x800004, dims := [], acc := .ro, rst := 31, mask := 0x0, dfl := .c 0 },
  { base := 0x800008, dims := [], acc := .ro, rst := 31, mask := 0xFFFFFFFF, dfl := .c 0 },
  { base := 0x800010, dims := [], acc := .rwt, rst := 31, mask := 0x1F, dfl := .c 8 },
  { base := 0x800014, dims := [], acc := .rwt, rst := 31, mask := 0x1, dfl := .c 0 },
  { base := 0x800018, dims := [], acc := .wo, rst := 0, mask := 0xFFFFFFFF, dfl := .c 0 },
  { base := 0x80001C, dims := [], acc := .rwt, rst := 31, mask := 0xFF, dfl := .c 0xA },
  { base := 0x800020, dims := [], acc := .ro, rst := 0, mask := 0xFFFFFFFF, dfl := .fused },
  { base := 0x800024, dims := [], acc := .ro, rst := 0, mask := 0xFFFFFFFF, dfl := .fused },
  { base := 0x800040, dims := [(16, 4)], acc := .ro, rst := 31, mask := 0xFFFFFFFF, dfl := .c 0 },
  { base := 0x800080, dims := [(16, 4)], acc := .rwt, rst := 31, mask := 0xFFFFFFFF, dfl := .c 0 },
  { base := 0x800100, dims := [(16, 4)], acc := .ro, rst := 31, mask := 0xFFFFFFFF, dfl := .c 0 },
  { base := 0x810000, dims := [(512, 4)], acc := .ro, rst := 31, mask := 0xFFFFFFFF, dfl := .fused },
  { base := 0x811000, dims := [(32, 8), (2, 4)], acc := .ro, rst := 31, mask := 0xFFFFFFFF, dfl := .fused },
  { base := 0x811200, dims := [(8, 32), (4, 4)], acc := .ro, rst := 31, mask := 0xFFFFFFFF, dfl := .fused },
  { base := 0x811300, dims := [(9, 4)], acc := .ro, rst := 31, mask := 0xFFFFFFFF, dfl := .fused },
  { base := 0x811340, dims := [(8, 4)], acc := .ro, rst := 31, mask := 0xFFFFFFFF, dfl := .fused },
  { base := 0x811380, dims := [(4, 4)], acc := .ro, rst := 31, mask := 0xFFFFFFFF, dfl := .c 0x8000 },
  { base := 0x812000, dims := [(512, 4)], acc := .ro, rst := 31, mask := 0xFFFFFFFF, dfl := .c 0x8000 }]

/-- The register table of block HKP. -/
def rowsHKP : List Row := [
  { base := 0x900000, dims := [], acc := .ro, rst := 31, mask := 0xFFFFFFFF, dfl := .c 0 },
  { base := 0x900004, dims := [], acc := .rwt, rst := 31, mask := 0xFFFFF, dfl := .c 0x3E80 },
  { base := 0x900008, dims := [], acc := .ro, rst := 31, mask := 0xFFFFFFFF, dfl := .c 0 },
  { base := 0x90000C, dims := [], acc := .rwp, rst := 3, mask := 0x3, dfl := .c 0 },
  { base := 0x900010, dims := [], acc := .ro, rst := 31, mask := 0xFFFFFFFF, dfl := .c 0 },
  { base := 0x900014, dims := [], acc := .w1c, rst := 31, mask := 0xFFFFFFFF, dfl := .c 0 },
  { base := 0x900018, dims := [], acc := .rwt, rst := 31, mask := 0xFFFFFFFF, dfl := .c 0xA7F81B58 },
  { base := 0x900100, dims := [(32, 4)], acc := .rwt, rst := 31, mask := 0xF, dfl := .c 8 },
  { base := 0x900200, dims := [(64, 8)], acc := .rwt, rst := 31, mask := 0x7FFFFFF, dfl := .slotCfg },
  { base := 0x900204, dims := [(64, 8)], acc := .rwt, rst := 31, mask := 0x3FFFFF, dfl := .slotAux },
  { base := 0x900400, dims := [(64, 4)], acc := .rwt, rst := 31, mask := 0xFFFFFFFF, dfl := .slotThm },
  { base := 0x900600, dims := [(64, 8)], acc := .ro, rst := 31, mask := 0xFFFFFFFF, dfl := .c 0x80000000 },
  { base := 0x900604, dims := [(64, 8)], acc := .ro, rst := 31, mask := 0xFFFFFFFF, dfl := .c 0 },
  { base := 0x900800, dims := [(8, 16)], acc := .rwt, rst := 31, mask := 0x3F, dfl := .c 0x18 },
  { base := 0x900804, dims := [(8, 16)], acc := .rwt, rst := 31, mask := 0xFFFF, dfl := .c 0x1F40 },
  { base := 0x900808, dims := [(8, 16)], acc := .rwt, rst := 31, mask := 0xFFFF, dfl := .c 0 },
  { base := 0x90080C, dims := [(8, 16)], acc := .ro, rst := 31, mask := 0x0, dfl := .c 0 },
  { base := 0x900900, dims := [(16, 4)], acc := .rwp, rst := 3, mask := 0xFFF, dfl := .c 0 },
  { base := 0x900940, dims := [(16, 4)], acc := .rwp, rst := 3, mask := 0x1FFF, dfl := .c 0 },
  { base := 0x900980, dims := [(16, 4)], acc := .rwp, rst := 3, mask := 0xFFFFFF, dfl := .c 0 }]

/-- The register table of block THM. -/
def rowsTHM : List Row := [
  { base := 0xA00000, dims := [], acc := .ro, rst := 3, mask := 0x0, dfl := .c 0 },
  { base := 0xA00004, dims := [], acc := .rwt, rst := 3, mask := 0xFFFFFFF, dfl := .c 0x3706964 },
  { base := 0xA00008, dims := [], acc := .rwt, rst := 3, mask := 0xFFFFF, dfl := .c 0x38442 },
  { base := 0xA0000C, dims := [], acc := .rwt, rst := 3, mask := 0xFF, dfl := .c 0x14 },
  { base := 0xA00010, dims := [], acc := .rwt, rst := 3, mask := 0xFFFF, dfl := .c 0x508 },
  { base := 0xA00014, dims := [], acc := .wo, rst := 0, mask := 0xFFFFFFFF, dfl := .c 0 },
  { base := 0xA00018, dims := [], acc := .ro, rst := 3, mask := 0xFFFFFFFF, dfl := .c 0 },
  { base := 0xA0001C, dims := [], acc := .wo, rst := 0, mask := 0xFFFFFFFF, dfl := .c 0 },
  { base := 0xA00020, dims := [], acc := .ro, rst := 3, mask := 0xFFFFFFFF, dfl := .c 0 },
  { base := 0xA00024, dims := [], acc := .ro, rst := 1, mask := 0xFFFFFFFF, dfl := .c 0 },
  { base := 0xA00028, dims := [], acc := .ro, rst := 3, mask := 0xFFFFFFFF, dfl := .c 0 },
  { base := 0xA0002C, dims := [], acc := .ro, rst := 3, mask := 0xFFFFFFFF, dfl := .c 0 },
  { base := 0xA00100, dims := [(24, 4)], acc := .ro, rst := 3, mask := 0xFFFFFFFF, dfl := .c 0 },
  { base := 0xA00180, dims := [(24, 4)], acc := .ro, rst := 0, mask := 0xFFFFFFFF, dfl := .tsNbr },
  { base := 0xA00200, dims := [(8, 8)], acc := .rwt, rst := 3, mask := 0xFF, dfl := .c 0x80 },
  { base := 0xA00204, dims := [(8, 8)], acc := .rwt, rst := 3, mask := 0xFFFFFF, dfl := .c 0 },
  { base := 0xA00280, dims := [(8, 4)], acc := .ro, rst := 3, mask := 0xFFFFFFFF, dfl := .c 0 }]

/-- The register table of block SAF. -/
def rowsSAF : List Row := [
  { base := 0xB00000, dims := [], acc := .ro, rst := 3, mask := 0x0, dfl := .c 8 },
  { base := 0xB00004, dims := [], acc := .ro, rst := 33, mask := 0xFFFFFFFF, dfl := .c 0 },
  { base := 0xB00008, dims := [], acc := .ro, rst := 33, mask := 0xFFFFFFFF, dfl := .c 0 },
  { base := 0xB0000C, dims := [], acc := .ro, rst := 33, mask := 0xFFFFFFFF, dfl := .c 0 },
  { base := 0xB00010, dims := [], acc := .ro, rst := 1, mask := 0xFFFFFFFF, dfl := .c 0 },
  { base := 0xB00014, dims := [], acc := .ro, rst := 1, mask := 0xFFFFFFFF, dfl := .c 0 },
  { base := 0xB00018, dims := [], acc := .ro, rst := 3, mask := 0xFFFFFFFF, dfl := .c 0 },
  { base := 0xB00020, dims := [], acc := .wo, rst := 0, mask := 0xFFFFFFFF, dfl := .c 0 },
  { base := 0xB00024, dims := [], acc := .ro, rst := 3, mask := 0xFFFFFFFF, dfl := .c 0 },
  { base := 0xB00030, dims := [], acc := .ro, rst := 3, mask := 0xFFFFFFFF, dfl := .c 0 },
  { base := 0xB00034, dims := [], acc := .ro, rst := 3, mask := 0xFFFFFFFF, dfl := .c 0 },
  { base := 0xB00038, dims := [], acc := .ro, rst := 3, mask := 0xFFFFFFFF, dfl := .c 0 },
  { base := 0xB00040, dims := [(4, 4)], acc := .ro, rst := 3, mask := 0x0, dfl := .c 0 },
  { base := 0xB00060, dims := [(8, 4)], acc := .ro, rst := 3, mask := 0x0, dfl := .c 0 },
  { base := 0xB00080, dims := [(4, 4)], acc := .ro, rst := 3, mask := 0x0, dfl := .c 0 },
  { base := 0xB00100, dims := [(16, 4)], acc := .wo, rst := 0, mask := 0xFFFFFFFF, dfl := .c 0 },
  { base := 0xB00140, dims := [], acc := .wo, rst := 0, mask := 0xFFFFFFFF, dfl := .c 0 },
  { base := 0xB00144, dims := [], acc := .ro, rst := 63, mask := 0xFFFFFFFF, dfl := .c 0 },
  { base := 0xB02000, dims := [(1024, 4)], acc := .ro, rst := 3, mask := 0xFFFFFFFF, dfl := .c 0 },
  { base := 0xB03000, dims := [(64, 128), (20, 4)], acc := .ro, rst := 3, mask := 0xFFFFFFFF, dfl := .c 0 }]

/-- The register table of block MDV. -/
def rowsMDV : List Row := [
  { base := 0xC00000, dims := [], acc := .ro, rst := 31, mask := 0x0, dfl := .c 0 },
  { base := 0xC00004, dims := [], acc := .rwt, rst := 31, mask := 0x21F, dfl := .c 1 },
  { base := 0xC00008, dims := [], acc := .rwt, rst := 31, mask := 0xFFFFF, dfl := .c 0x40040 },
  { base := 0xC0000C, dims := [], acc := .rwt, rst := 31, mask := 0x1FFFFFFF, dfl := .c 0x13080040 },
  { base := 0xC00010, dims := [], acc := .wo, rst := 0, mask := 0xFFFFFFFF, dfl := .c 0 },
  { base := 0xC00014, dims := [], acc := .ro, rst := 31, mask := 0xFFFFFFFF, dfl := .c 0 },
  { base := 0xC00018, dims := [], acc := .ro, rst := 31, mask := 0xFFFFFFFF, dfl := .c 0 },
  { base := 0xC0001C, dims := [], acc := .ro, rst := 31, mask := 0xFFFFFFFF, dfl := .c 0 },
  { base := 0xC00020, dims := [], acc := .ro, rst := 31, mask := 0xFFFFFFFF, dfl := .c 0 },
  { base := 0xC00024, dims := [], acc := .ro, rst := 31, mask := 0xFFFFFFFF, dfl := .c 0 },
  { base := 0xC00028, dims := [], acc := .ro, rst := 31, mask := 0xFFFFFFFF, dfl := .c 0 },
  { base := 0xC0002C, dims := [], acc := .ro, rst := 31, mask := 0xFFFFFFFF, dfl := .c 0 },
  { base := 0xC00030, dims := [], acc := .ro, rst := 31, mask := 0xFFFFFFFF, dfl := .c 0 },
  { base := 0xC00034, dims := [], acc := .ro, rst := 31, mask := 0xFFFFFFFF, dfl := .c 0 },
  { base := 0xC00038, dims := [], acc := .ro, rst := 31, mask := 0xFFFFFFFF, dfl := .c 0 },
  { base := 0xC0003C, dims := [], acc := .ro, rst := 31, mask := 0xFFFFFFFF, dfl := .c 0 },
  { base := 0xC00040, dims := [], acc := .rwt, rst := 31, mask := 0xFFFFFF, dfl := .c 0 },
  { base := 0xC00100, dims := [], acc := .rw, rst := 3, mask := 0xF13FF, dfl := .c 0 },
  { base := 0xC00104, dims := [], acc := .ro, rst := 31, mask := 0x0, dfl := .c 0 },
  { base := 0xC00108, dims := [], acc := .rw, rst := 3, mask := 0xFFFF, dfl := .c 0xFA0 },
  { base := 0xC0010C, dims := [], acc := .ro, rst := 31, mask := 0xFFFFFFFF, dfl := .c 0 },
  { base := 0xC00110, dims := [], acc := .ro, rst := 31, mask := 0xFFFFFFFF, dfl := .c 0 },
  { base := 0xC00114, dims := [], acc := .ro, rst := 31, mask := 0xFFFFFFFF, dfl := .c 0 },
  { base := 0xC00118, dims := [], acc := .ro, rst := 31, mask := 0xFFFFFFFF, dfl := .c 0 },
  { base := 0xC0011C, dims := [], acc := .ro, rst := 31, mask := 0xFFFFFFFF, dfl := .c 0 },
  { base := 0xC00120, dims := [], acc := .ro, rst := 31, mask := 0xFFFFFFFF, dfl := .c 0 }]

/-- The register table of block LNK. -/
def rowsLNK : List Row := [
  { base := 0xD00000, dims := [], acc := .ro, rst := 31, mask := 0x0, dfl := .c 1 },
  { base := 0xD00004, dims := [], acc := .rw, rst := 3, mask := 0x37, dfl := .linkCfg },
  { base := 0xD00008, dims := [], acc := .wo, rst := 0, mask := 0xFFFFFFFF, dfl := .c 0 },
  { base := 0xD0000C, dims := [], acc := .rw, rst := 31, mask := 0xF, dfl := .c 0 },
  { base := 0xD00010, dims := [], acc := .ro, rst := 31, mask := 0xFFFFFFFF, dfl := .c 0 },
  { base := 0xD00014, dims := [], acc := .ro, rst := 0, mask := 0xFFFFFFFF, dfl := .c 0 },
  { base := 0xD00018, dims := [], acc := .ro, rst := 31, mask := 0xFFFFFFFF, dfl := .c 0 },
  { base := 0xD0001C, dims := [], acc := .ro, rst := 31, mask := 0xFFFFFFFF, dfl := .c 0 },
  { base := 0xD00020, dims := [], acc := .ro, rst := 31, mask := 0xFFFFFFFF, dfl := .c 0 },
  { base := 0xD00024, dims := [], acc := .ro, rst := 31, mask := 0xFFFFFFFF, dfl := .c 0 },
  { base := 0xD00028, dims := [], acc := .ro, rst := 31, mask := 0xFFFFFFFF, dfl := .c 0 },
  { base := 0xD00040, dims := [], acc := .ro, rst := 31, mask := 0xFFFFFFFF, dfl := .c 0 },
  { base := 0xD00044, dims := [], acc := .ro, rst := 31, mask := 0xFFFFFFFF, dfl := .c 0 },
  { base := 0xD00048, dims := [], acc := .ro, rst := 31, mask := 0xFFFFFFFF, dfl := .c 0 },
  { base := 0xD0004C, dims := [], acc := .ro, rst := 31, mask := 0xFFFFFFFF, dfl := .c 0 },
  { base := 0xD00050, dims := [], acc := .ro, rst := 31, mask := 0xFFFFFFFF, dfl := .c 0 },
  { base := 0xD00054, dims := [], acc := .ro, rst := 31, mask := 0xFFFFFFFF, dfl := .c 0 },
  { base := 0xD00058, dims := [], acc := .ro, rst := 31, mask := 0xFFFFFFFF, dfl := .c 0 },
  { base := 0xD00100, dims := [(16, 4)], acc := .rw, rst := 3, mask := 0xF3F7, dfl := .eq },
  { base := 0xD00140, dims := [(16, 4)], acc := .ro, rst := 31, mask := 0xFFFFFFFF, dfl := .c 0 }]

/-- The register table of block DSC. -/
def rowsDSC : List Row := [
  { base := 0xE00000, dims := [], acc := .ro, rst := 31, mask := 0x0, dfl := .c 0 },
  { base := 0xE00004, dims := [], acc := .rw, rst := 3, mask := 0x1, dfl := .c 0 },
  { base := 0xE00008, dims := [], acc := .rw, rst := 3, mask := 0xFFFFF000, dfl := .c 0 },
  { base := 0xE0000C, dims := [], acc := .rw, rst := 3, mask := 0xFFFFFFFF, dfl := .c 0 },
  { base := 0xE00010, dims := [], acc := .ro, rst := 23, mask := 0xFFFFFFFF, dfl := .c 1 },
  { base := 0xE00014, dims := [], acc := .ro, rst := 23, mask := 0xFFFFFFFF, dfl := .c 0 },
  { base := 0xE00018, dims := [], acc := .ro, rst := 31, mask := 0xFFFFFFFF, dfl := .c 0 },
  { base := 0xE01000, dims := [(64, 32)], acc := .rw, rst := 3, mask := 0xFFFFFFC0, dfl := .c 0 },
  { base := 0xE01004, dims := [(64, 32)], acc := .rw, rst := 3, mask := 0xFFFFFFFF, dfl := .c 0 },
  { base := 0xE01008, dims := [(64, 32)], acc := .rw, rst := 3, mask := 0x3FDF, dfl := .c 4 },
  { base := 0xE0100C, dims := [(64, 32)], acc := .ro, rst := 3, mask := 0xFFFFFFFF, dfl := .c 0 },
  { base := 0xE01010, dims := [(64, 32)], acc := .ro, rst := 3, mask := 0xFFFFFFFF, dfl := .c 0 },
  { base := 0xE02000, dims := [(64, 32)], acc := .rw, rst := 3, mask := 0xFFFFFFC0, dfl := .c 0 },
  { base := 0xE02004, dims := [(64, 32)], acc := .rw, rst := 3, mask := 0xFFFFFFFF, dfl := .c 0 },
  { base := 0xE02008, dims := [(64, 32)], acc := .rw, rst := 3, mask := 0xFFFF101F, dfl := .c 4 },
  { base := 0xE0200C, dims := [(64, 32)], acc := .ro, rst := 3, mask := 0xFFFFFFFF, dfl := .c 0 },
  { base := 0xE02010, dims := [(64, 32)], acc := .ro, rst := 3, mask := 0xFFFFFFFF, dfl := .c 0 },
  { base := 0xE02800, dims := [(8, 32)], acc := .rw, rst := 3, mask := 0xFFFFFFC0, dfl := .c 0 },
  { base := 0xE02804, dims := [(8, 32)], acc := .rw, rst := 3, mask := 0xFFFFFFFF, dfl := .c 0 },
  { base := 0xE02808, dims := [(8, 32)], acc := .rw, rst := 3, mask := 0xFFFF131F, dfl := .c 0x104 },
  { base := 0xE0280C, dims := [(8, 32)], acc := .ro, rst := 3, mask := 0xFFFFFFFF, dfl := .c 0 },
  { base := 0xE02810, dims := [(8, 32)], acc := .ro, rst := 3, mask := 0xFFFFFFFF, dfl := .c 0 },
  { base := 0xE04000, dims := [(640, 4)], acc := .rw, rst := 3, mask := 0xFF77, dfl := .evtCfg },
  { base := 0xE05000, dims := [(20, 4)], acc := .w1c, rst := 31, mask := 0xFFFFFFFF, dfl := .c 0 }]

/-- The register table of block PWR. -/
def rowsPWR : List Row := [
  { base := 0xF00000, dims := [], acc := .ro, rst := 3, mask := 0x0, dfl := .c 1 },
  { base := 0xF00004, dims := [], acc := .ro, rst := 3, mask := 0xFFFFFFFF, dfl := .c 0 },
  { base := 0xF00008, dims := [], acc := .ro, rst := 3, mask := 0xFFFFFFFF, dfl := .c 0 },
  { base := 0xF00010, dims := [(6, 4)], acc := .rw, rst := 3, mask := 0xFFFFFFFF, dfl := .voteK },
  { base := 0xF00030, dims := [], acc := .wo, rst := 0, mask := 0xFFFFFFFF, dfl := .c 0 },
  { base := 0xF00034, dims := [], acc := .wo, rst := 0, mask := 0xFFFFFFFF, dfl := .c 0 },
  { base := 0xF00038, dims := [], acc := .w1c, rst := 3, mask := 0x1FC, dfl := .c 0 },
  { base := 0xF00040, dims := [], acc := .rw, rst := 3, mask := 0x7F, dfl := .c 0x4B },
  { base := 0xF00044, dims := [], acc := .rw, rst := 3, mask := 0x1FC, dfl := .c 0x18C },
  { base := 0xF00048, dims := [], acc := .w1c, rst := 3, mask := 0x7F, dfl := .c 0 },
  { base := 0xF0004C, dims := [], acc := .rw, rst := 3, mask := 0xFFFFFFFF, dfl := .c 0 },
  { base := 0xF00050, dims := [], acc := .ro, rst := 3, mask := 0xFFFFFFFF, dfl := .c 0 },
  { base := 0xF00054, dims := [], acc := .ro, rst := 3, mask := 0xFFFFFFFF, dfl := .c 0 },
  { base := 0xF00058, dims := [], acc := .wo, rst := 0, mask := 0xFFFFFFFF, dfl := .c 0 },
  { base := 0xF00060, dims := [], acc := .ro, rst := 3, mask := 0xFFFFFFFF, dfl := .c 0 },
  { base := 0xF00064, dims := [], acc := .ro, rst := 3, mask := 0xFFFFFFFF, dfl := .c 0 },
  { base := 0xF00070, dims := [], acc := .rw, rst := 3, mask := 0x1FF, dfl := .c 0x10A },
  { base := 0xF00074, dims := [], acc := .ro, rst := 0, mask := 0xFFFFFFFF, dfl := .c 0 },
  { base := 0xF00078, dims := [], acc := .ro, rst := 3, mask := 0xFFFFFFFF, dfl := .c 0 }]

/-- The register table of block SEC. -/
def rowsSEC : List Row := [
  { base := 0xF80000, dims := [], acc := .ro, rst := 23, mask := 0x0, dfl := .c 0 },
  { base := 0xF80004, dims := [], acc := .wo, rst := 0, mask := 0xFFFFFFFF, dfl := .c 0 },
  { base := 0xF80010, dims := [(8, 4)], acc := .ro, rst := 23, mask := 0xFFFFFFFF, dfl := .c 0 },
  { base := 0xF80100, dims := [(44, 4)], acc := .wo, rst := 0, mask := 0xFFFFFFFF, dfl := .c 0 },
  { base := 0xF801B0, dims := [], acc := .wo, rst := 0, mask := 0xFFFFFFFF, dfl := .c 0 },
  { base := 0xF801B4, dims := [], acc := .ro, rst := 23, mask := 0xFFFFFFFF, dfl := .c 0 },
  { base := 0xF80200, dims := [], acc := .wo, rst := 0, mask := 0xFFFFFFFF, dfl := .c 0 },
  { base := 0xF80210, dims := [(8, 4)], acc := .wo, rst := 0, mask := 0xFFFFFFFF, dfl := .c 0 },
  { base := 0xF80240, dims := [(8, 4)], acc := .ro, rst := 0, mask := 0xFFFFFFFF, dfl := .fused },
  { base := 0xF80260, dims := [(8, 4)], acc := .ro, rst := 0, mask := 0xFFFFFFFF, dfl := .c 0 },
  { base := 0xF80280, dims := [], acc := .ro, rst := 0, mask := 0xFFFFFFFF, dfl := .c 0x151247AF },
  { base := 0xF80300, dims := [], acc := .rw, rst := 23, mask := 0x3, dfl := .c 0 },
  { base := 0xF80304, dims := [], acc := .rw, rst := 23, mask := 0xFFFFFFFF, dfl := .c 0 },
  { base := 0xF80308, dims := [], acc := .rw, rst := 23, mask := 0xFFFFFFFF, dfl := .c 0 },
  { base := 0xF80310, dims := [], acc := .wo, rst := 0, mask := 0xFFFFFFFF, dfl := .c 0 },
  { base := 0xF80320, dims := [], acc := .ro, rst := 3, mask := 0xFFFFFFFF, dfl := .c 0 },
  { base := 0xF80324, dims := [], acc := .ro, rst := 3, mask := 0xFFFFFFFF, dfl := .c 0 },
  { base := 0xF80330, dims := [], acc := .ro, rst := 23, mask := 0xFFFFFFFF, dfl := .c 0 }]

/-- The register table of block BIT. -/
def rowsBIT : List Row := [
  { base := 0xFC0000, dims := [], acc := .ro, rst := 31, mask := 0xFFFFFFFF, dfl := .c 0 },
  { base := 0xFC0010, dims := [], acc := .ro, rst := 31, mask := 0xFFFFFFFF, dfl := .c 0 },
  { base := 0xFC0040, dims := [], acc := .ro, rst := 31, mask := 0xFFFFFFFF, dfl := .c 0 },
  { base := 0xFC0044, dims := [], acc := .ro, rst := 31, mask := 0xFFFFFFFF, dfl := .c 0 },
  { base := 0xFC0048, dims := [], acc := .ro, rst := 31, mask := 0xFFFFFFFF, dfl := .c 0 },
  { base := 0xFC004C, dims := [], acc := .ro, rst := 31, mask := 0xFFFFFFFF, dfl := .c 0 },
  { base := 0xFC0050, dims := [], acc := .ro, rst := 31, mask := 0xFFFFFFFF, dfl := .c 0 },
  { base := 0xFC0054, dims := [], acc := .ro, rst := 0, mask := 0xFFFFFFFF, dfl := .c 0x400 },
  { base := 0xFC0100, dims := [(9, 4)], acc := .rwt, rst := 31, mask := 0xFFFFFFFF, dfl := .budget },
  { base := 0xFC0140, dims := [], acc := .rwt, rst := 31, mask := 0xFFFFFFFF, dfl := .c 0x80000100 },
  { base := 0xFC0144, dims := [], acc := .rwt, rst := 31, mask := 0xFFFFFFFF, dfl := .c 0x80000200 },
  { base := 0xFC0180, dims := [(9, 4)], acc := .ro, rst := 31, mask := 0xFFFFFFFF, dfl := .c 0 },
  { base := 0xFC01C0, dims := [(9, 4)], acc := .ro, rst := 31, mask := 0xFFFFFFFF, dfl := .c 0 },
  { base := 0xFC0200, dims := [(9, 4)], acc := .ro, rst := 31, mask := 0xFFFFFFFF, dfl := .c 0 },
  { base := 0xFC0240, dims := [], acc := .ro, rst := 31, mask := 0xFFFFFFFF, dfl := .c 0 },
  { base := 0xFC0244, dims := [], acc := .ro, rst := 31, mask := 0xFFFFFFFF, dfl := .c 0 }]

/-- The table of the block that holds an offset (R38). -/
def rowsAt (off : Nat) : List Row :=
  let b := off / 0x100000
  if b = 0 then rowsGLB else if b = 1 then rowsBRN else if b = 2 then rowsHCH else if b = 3 then rowsAFE
  else if b = 4 then rowsTIM else if b = 5 then rowsSTP else if b = 6 then rowsPLT else if b = 7 then rowsFLT
  else if b = 8 then rowsPRF else if b = 9 then rowsHKP else if b = 10 then rowsTHM else if b = 11 then rowsSAF
  else if b = 12 then rowsMDV else if b = 13 then rowsLNK else if b = 14 then rowsDSC
  else if off < 0xF80000 then rowsPWR else if off < 0xFC0000 then rowsSEC
  else if off < 0x1000000 then rowsBIT else []

/-- The row that maps an offset and its indices there; none when the offset is unmapped (R39). -/
def findRow : List Row → Nat → Option (Row × List Nat)
  | [], _ => none
  | r :: rs, off => match r.idx off with
    | some ix => some (r, ix)
    | none => findRow rs off

/-- The row of an absolute offset. -/
def rowOf (off : Nat) : Option (Row × List Nat) :=
  if off % 4 = 0 then findRow (rowsAt off) off else none

/-- The offsets of the indices `dims` from `base` on (R39). -/
def rowOffs : List (Nat × Nat) → Nat → List Nat
  | [], b => [b]
  | (n, st) :: ds, b => (List.range n).flatMap (fun i => rowOffs ds (b + i * st))

/-- Every mapped offset of the tables that a configuration image may reach, in block order (R39, R454). -/
def imageOffs : List Nat :=
  (rowsGLB ++ rowsBRN ++ rowsHCH ++ rowsAFE ++ rowsTIM ++ rowsSTP ++ rowsPLT ++ rowsFLT ++ rowsPRF ++ rowsHKP ++ rowsTHM
    ++ rowsSAF ++ rowsMDV ++ rowsLNK ++ rowsBIT).flatMap (fun r => rowOffs r.dims r.base)

/-- Default share of each Bite activity (R30). -/
def budgetShare : Nat → Nat
  | 0 => 320 | 1 => 96 | 2 => 1024 | 3 => 448 | 4 => 256 | 5 => 16 | 6 => 1024 | 7 => 1024 | 8 => 64 | _ => 0

/-- Neighbours of on-die sensor s in the grid of R306, as sensor numbers. -/
def sensorPos (s : Nat) : Nat × Nat :=
  if s < 16 then (s / 4, s % 4) else if s < 20 then (s - 16, 4) else (s - 20, 5)

/-- The sensor at grid position (h, r) (R306). -/
def sensorAt (h r : Nat) : Nat := if r < 4 then 4 * h + r else if r = 4 then 16 + h else 20 + h

/-- The neighbours of an on-die sensor: (h, r - 1), (h, r + 1) and (h XOR 1, r) where they exist (R306). -/
def neighbours (s : Nat) : List Nat :=
  let h := (sensorPos s).1
  let r := (sensorPos s).2
  (if 0 < r then [sensorAt h (r - 1)] else []) ++ (if r < 5 then [sensorAt h (r + 1)] else []) ++ [sensorAt (h ^^^ 1) r]

/-- The TS_NBR word of a sensor (R323). -/
def tsNbrWord (s : Nat) : Nat :=
  match neighbours s with
  | [a, b, c] => a + b * 256 + c * 65536 + 2 ^ 23
  | [a, b] => a + b * 256
  | _ => 0

/-- Event numbers that a chapter allocates (R43, R70, R99, R124, R153, R187, R230, R262, R281, R304, R325,
R363, R395, R435, R461, R484, R500). -/
def evtAllocated (n : Nat) : Bool :=
  n ≤ 8 || (16 ≤ n && n ≤ 38) || (64 ≤ n && n ≤ 76) || (96 ≤ n && n ≤ 102) || (128 ≤ n && n ≤ 138)
  || (160 ≤ n && n ≤ 175) || (224 ≤ n && n ≤ 235) || (256 ≤ n && n ≤ 267) || (272 ≤ n && n ≤ 279)
  || (320 ≤ n && n ≤ 324) || (384 ≤ n && n ≤ 414) || (448 ≤ n && n ≤ 460) || (480 ≤ n && n ≤ 508)
  || (544 ≤ n && n ≤ 557) || (576 ≤ n && n ≤ 585) || (608 ≤ n && n ≤ 613)

/-- Default event configuration: enabled, ring 0, COAL 0, severity 3 for events 160-223 and 1 for the others;
0 for a number no chapter allocates (R452). -/
def evtCfgDflt (n : Nat) : Nat :=
  if evtAllocated n then (if 160 ≤ n && n ≤ 223 then 1 + 3 * 2 else 1 + 1 * 2) else 0

/-- The preset row of the EQ_SEL strap: width code, rate code, SWING, DEEMPH, PRE, CTLE (R400). -/
def eqPreset : Nat → Nat × Nat × Nat × Nat × Nat × Nat
  | 0 => (4, 0, 5, 6, 1, 8)
  | 1 => (4, 0, 3, 3, 0, 4)
  | 2 => (2, 1, 5, 6, 1, 6)
  | _ => (0, 2, 7, 0, 0, 0)

/-- A fused register from the content of its fuses: a zero-range delay lies between 1,536 and 3,584 DT, and a trim has
the bits of its layout (R263, R264, R279). -/
def fusedWord (off v : Nat) : Nat :=
  if off < 0x800000 then 1536 + v % 2049
  else if off < 0x810000 then v
  else if off < 0x811000 then v &&& 0x3F3FFF
  else if off < 0x811200 then v &&& 0x3F3F3F3F
  else if off < 0x811300 then v &&& 0xFFFFFF
  else if off < 0x811340 then v &&& 0xFF
  else if off < 0x812000 then v &&& 0xFFFF
  else v

/-- The default of a register row at given indices. `eqSel` is the EQ_SEL strap as sampled. -/
def dflVal (eqSel off : Nat) (d : Dfl) (ix : List Nat) : Nat :=
  let i := ix.headD 0
  match d with
  | .c v => v
  | .budget => 2 ^ 31 + budgetShare i
  | .slotCfg => if i < 24 then 1 + 0x0A * 2 ^ 20 else 0x0A * 2 ^ 20
  | .slotAux => if i < 24 then 4 + 10 * 64 + 22 * 65536 else 4 + 20 * 64 + 22 * 65536
  | .slotThm => 0
  | .evtCfg => evtCfgDflt i
  | .tsNbr => tsNbrWord i
  | .voteK => if i = 0 then 0x1FC else 0
  | .fused => fusedWord off (Config.fuse off).toNat
  | .nominal =>
    let q := ix.getLastD 0
    (512 * (2 * q) + 256) + (512 * (2 * q + 1) + 256) * 65536
  | .linkCfg => let p := eqPreset eqSel; p.1 + p.2.1 * 16
  | .eq => let p := eqPreset eqSel; p.2.2.1 + p.2.2.2.1 * 16 + p.2.2.2.2.1 * 256 + p.2.2.2.2.2 * 4096

/-- The default value of the register at an absolute offset; 0 where none is mapped. -/
def regDflt (eqSel off : Nat) : Word :=
  match rowOf off with
  | some (r, ix) => word (dflVal eqSel off r.dfl ix)
  | none => 0

/-- Reset letters of R6, as bit positions of `Row.rst`. -/
inductive Cls where
  | p | c | h | d | w | l
  deriving DecidableEq, Repr

/-- The bit of a reset letter. -/
def Cls.pos : Cls → Nat
  | .p => 0 | .c => 1 | .h => 2 | .d => 3 | .w => 4 | .l => 5

/-- Whether a reset of class k restores the register at an offset (R6). -/
def resets (k : Cls) (off : Nat) : Bool :=
  match rowOf off with
  | some (r, _) => r.rst.testBit k.pos
  | none => true

end Sys2Proof.Machine
end

