-- ==== Sys2Proof/Machine/State.lean ====
section
/-! DEFINITION. The state of the block, its faults and refusals, and the state after a power-on reset. -/
namespace Sys2Proof.Machine

/-- Everything outside the safety island, the fuses and the queue. -/
structure Dev where
  /-- The register file by absolute offset; an unlisted register holds its default (01 R38-R40). -/
  regs : Tab Word := []
  glb : Glb := {}
  bite : Bite := {}
  evt : Evt := {}
  lnk : Lnk := {}
  dsc : Dsc := {}
  pwr : Pwr := {}
  brn : Brn := {}
  hch : Hch := {}
  afe : Afe := {}
  tim : Tim := {}
  stp : Stp := {}
  wave : Wave := {}
  hkp : Hkp := {}
  thm : Thm := {}
  mdv : Mdv := {}
  prf : Prf := {}
  sec : Sec := {}
  straps : Straps := {}
  /-- Register accesses are answered (15 R457). -/
  answered : Bool := false
  /-- The model's own counter of free values drawn so far. -/
  free : Nat := 0
  deriving DecidableEq, Repr

/-- The state of the block. -/
structure State where
  dev : Dev := {}
  isl : Island := {}
  fuses : Fuses := {}
  /-- Commands that wait, first in first out. -/
  pending : List Instr := []
  deriving DecidableEq, Repr

/-- Faults that stop the model: none, since the spec gives every command an effect. The one constructor is kept for
the interface and no command raises it (safe). -/
inductive Fault where
  | none
  deriving DecidableEq, Repr

/-- Refusals. -/
inductive Refusal where
  /-- A command without a meaning in this model, by its mnemonic (safe). -/
  | notModelled (mnemonic : String)
  deriving DecidableEq, Repr

/-- The outcome of a command. -/
abbrev Res := Host.Outcome State Fault Refusal

/-- The block right after a power-on reset (16 R476). -/
def State.reset : State := {}

end Sys2Proof.Machine
end

