-- ==== Sys2Proof/Machine/Ops.lean ====
section
/-! DEFINITION. The named operations over registers, time, free values, domains and events that every meaning uses. -/
namespace Sys2Proof.Machine

/-- Domain bits (16 R462). -/
def domAO : Nat := 0
/-- The safety processor. -/
def domSAFE : Nat := 1
/-- The host link. -/
def domLINK : Nat := 2
/-- Descriptor engine, Bite, tick, MDV, Proof. -/
def domCORE : Nat := 3
/-- AFE, TDC, Stipple, Burin. -/
def domACQ : Nat := 4
/-- Plates and filters. -/
def domWAVE : Nat := 5
/-- Hatch. -/
def domSERVO : Nat := 6
/-- LPDDR4X. -/
def domMEM : Nat := 7
/-- Housekeeping and loops. -/
def domHK : Nat := 8

/-- A command whose whole effect is on the device. -/
def State.onDev (f : Dev → Dev) (s : State) : State := { s with dev := f s.dev }

/-- The domain is powered (16 R462). -/
def Dev.on (d : Dev) (dom : Nat) : Bool := d.pwr.domains.testBit dom

/-- The value of a register of the register file. -/
def Dev.rd (d : Dev) (off : Nat) : Word := tabGet (regDflt d.straps.eqSel off) d.regs off

/-- Put a value into a register of the register file. -/
def Dev.wr (d : Dev) (off : Nat) (v : Word) : Dev :=
  { d with regs := tabPut (regDflt d.straps.eqSel off) d.regs off v }

/-- Put a number into a register. -/
def Dev.wrN (d : Dev) (off : Nat) (v : Nat) : Dev := d.wr off (word v)

/-- Put a 64-bit quantity into a LO and HI pair (01 R23). -/
def Dev.wr64 (d : Dev) (lo : Nat) (v : Nat) : Dev := (d.wr lo (loW v)).wr (lo + 4) (hiW v)

/-- Bits [hi:lo] of a register. -/
def Dev.f (d : Dev) (off hi lo : Nat) : Nat := fld (d.rd off) hi lo

/-- Bit i of a register. -/
def Dev.b (d : Dev) (off i : Nat) : Bool := bit (d.rd off) i

/-- The registers that a reset of class k restores, among those that pass `p`, return to their defaults, and the
shadows of their pairs are void (00 R6; 01 R23). -/
def Dev.dropRegs (k : Cls) (p : Nat → Bool) (d : Dev) : Dev :=
  let gone := fun off => p off && resets k off
  { d with
    regs := tabKeep (fun o => !gone o) d.regs,
    glb := { d.glb with shadow := tabKeep (fun o => !gone (o % 2 ^ 24)) d.glb.shadow } }

/-- Increment a saturating counter (01 R40). -/
def Dev.inc (d : Dev) (off : Nat) : Dev := d.wr off (satInc (d.rd off))

/-- Add to a saturating counter. -/
def Dev.add (d : Dev) (off n : Nat) : Dev := d.wr off (satAdd (d.rd off) n)

/-- Set bit i of a register. -/
def Dev.setB (d : Dev) (off i : Nat) (v : Bool) : Dev := d.wr off (word (putBit (d.rd off).toNat i v))

/-- Replace bits [hi:lo] of a register. -/
def Dev.setF (d : Dev) (off hi lo v : Nat) : Dev := d.wr off (setFld (d.rd off) hi lo v)

/-- Present device time. -/
def Dev.now (d : Dev) : Time := d.tim.dt

/-- Bring device time forward to `t`. DT never steps back (01 R22) and stands still until the PLL has locked and
while CORE is off (16 R477). -/
def Dev.at (d : Dev) (t : Time) : Dev :=
  if d.tim.started && !d.pwr.dtFrozen && decide (d.tim.dt < t) then { d with tim := { d.tim with dt := t } } else d

/-- Draw a free value: the spec states none. -/
def Dev.drawN (d : Dev) (n : Nat) : Nat × Dev :=
  ((Config.free d.free).toNat % 2 ^ n, { d with free := d.free + 1 })

/-- Draw a free Boolean. -/
def Dev.drawB (d : Dev) : Bool × Dev := (Config.freeBool d.free, { d with free := d.free + 1 })

/-- Draw `n` free bytes. -/
def Dev.drawBytes : Nat → Dev → List Byte × Dev
  | 0, d => ([], d)
  | n + 1, d =>
    let v := d.drawN 8
    let rest := Dev.drawBytes n v.2
    (BitVec.ofNat 8 v.1 :: rest.1, rest.2)

/-- The offset and bit of an event in EVT_RAW (15 R459). -/
def evtRawOff (n : Nat) : Nat := Reg.DSC_EVT_RAW (n / 32)

/-- Add an occurrence to the pending records: merge into the source's record or open one (15 R452). -/
def pendAdd (n : Nat) (t : Time) (fr : Word) : List Pend → List Pend
  | [] => [{ num := n, count := 1, first := t, last := t, frame := fr }]
  | p :: ps => if p.num = n then { p with count := min (p.count + 1) 0xFFFFFFFF, last := t } :: ps
    else p :: pendAdd n t fr ps

/-- An occurrence of event n: its raw bit sets, and an enabled source opens or merges its pending record (15 R452).
While CORE is off the event waits for the next CORE wake (16 R484). -/
def Dev.raise (d : Dev) (n : Nat) : Dev :=
  if !d.on domCORE then { d with pwr := { d.pwr with lateEv := d.pwr.lateEv ++ [n] } } else
  let d := d.setB (evtRawOff n) (n % 32) true
  if d.b (Reg.DSC_EVT_CFG n) 0 then
    { d with evt := { d.evt with pend := pendAdd n d.now d.glb.frameNum d.evt.pend } }
  else d

/-- Raise an event that its rule limits to once per frame. -/
def Dev.raiseOnce (d : Dev) (n : Nat) : Dev :=
  if d.evt.once.contains n then d
  else { d with evt := { d.evt with once := n :: d.evt.once } }.raise n

/-- Raise when a condition holds. -/
def Dev.raiseIf (d : Dev) (c : Bool) (n : Nat) : Dev := if c then d.raise n else d

/-- Apply a change when a condition holds. -/
def Dev.when (d : Dev) (c : Bool) (f : Dev → Dev) : Dev := if c then f d else d

/-- Ticks are issued: frame 0 has begun, CORE is on and device time runs (01 R21; 16 R477). A lock loss stops no tick: the
core clock goes on open loop (05 R132). -/
def Dev.ticking (d : Dev) : Bool := d.glb.run && d.on domCORE && !d.pwr.dtFrozen

/-- The number of devices in the cascade (13 R387). -/
def Dev.cascDevices (d : Dev) : Nat := d.f Reg.MDV_CASC_CTL 9 6 + 1

/-- Planning length in ns: FRAME_LEN for the internal source, FRAME_MIN for the others (01 R11). -/
def Dev.planLen (d : Dev) : Nat :=
  if d.glb.src = .internal then d.f Reg.GLB_FRAME_LEN 19 0 else d.f Reg.GLB_FRAME_MIN 19 0

end Sys2Proof.Machine
end

