-- ==== Sys2Proof/Machine/Bite.lean ====
section
/-! DEFINITION. Bite: capacities, budgets, the oversubscription check, derating and meters (01 R26-R37). -/
namespace Sys2Proof.Machine

/-- Activity indices (01 R26). -/
def actECHO : Nat := 0
/-- Histogram dumps. -/
def actHIST : Nat := 1
/-- Plate traffic into LPDDR4X. -/
def actDRAIN : Nat := 2
/-- Segment transfers to the host. -/
def actXFER : Nat := 3
/-- Calibration engine time. -/
def actCAL : Nat := 4
/-- Housekeeping. -/
def actHK : Nat := 5
/-- Pair epochs. -/
def actPAIR : Nat := 6
/-- Cascade messages. -/
def actCASC : Nat := 7
/-- Descriptor engine and events. -/
def actDESC : Nat := 8

/-- The safety reservation of a frame (01 R27). -/
def safeRes : Nat := 1024

/-- Twice the payload bytes per us of a lane at a rate code (01 R28). -/
def rate2 : Nat → Nat
  | 0 => 2500
  | 1 => 1250
  | _ => 625

/-- Total host-link capacity of a planning length of `p` ns at a width and rate code (01 R28). -/
def linkCap (p width rate : Nat) (compat : Bool) : Nat :=
  let n := if compat then 4 else 2 ^ width
  let r2 := if compat then 2500 else rate2 rate
  p * n * r2 * 15 / 32000

/-- Data rate of MEM_CFG in MT/s (07 R220). -/
def memRate : Nat → Nat
  | 0 => 4266
  | 1 => 3733
  | 2 => 3200
  | _ => 2133

/-- The cascade role in effect: 0 none, 1 member, 2 master (13 R385). -/
def Dev.cascRole (d : Dev) : Nat :=
  let r := if d.straps.cascRole = 3 then d.f Reg.MDV_CASC_CTL 1 0 else d.straps.cascRole
  if r = 3 then 0 else r

/-- The cascade is enabled (13 R387). -/
def Dev.cascOn (d : Dev) : Bool := d.b Reg.MDV_CASC_CTL 12 && decide (d.cascRole ≠ 0)

/-- An enabled cascade member other than the master (01 R17). -/
def Dev.cascMember (d : Dev) : Bool := d.cascOn && decide (d.cascRole = 1)

/-- BIT.CAP_LINK: capacity at the nominal width and rate (01 R28). -/
def Dev.capLink (d : Dev) : Nat := linkCap d.planLen d.lnk.nomWidth d.lnk.nomRate d.straps.linkMode

/-- Capacity at the width and rate in use (01 R37). -/
def Dev.capLinkNow (d : Dev) : Nat := linkCap d.planLen d.lnk.width d.lnk.rate d.straps.linkMode

/-- BIT.CAP_MEM (01 R28). -/
def Dev.capMem (d : Dev) : Nat :=
  let n := d.planLen * 16 * memRate (fld d.glb.memCfg 5 4) * 3
  if bit d.glb.memCfg 8 then n * 7 / 32000 else n / 4000

/-- BIT.CAP_PAIR (13 R367). -/
def Dev.capPair (d : Dev) : Nat :=
  if d.straps.pairEn then d.planLen * 4 * 1250 * 15 * 7 / 128000 else 0

/-- BIT.CAP_CASC (13 R387). -/
def Dev.capCasc (d : Dev) : Nat :=
  if d.cascOn then d.planLen * 625 * 15 * 7 / (128000 * d.cascDevices) else 0

/-- BIT.CAP_CAL: engine-ns per frame (01 R28). -/
def Dev.capCal (d : Dev) : Nat := d.planLen

/-- Host link available to budgets (01 R28). -/
def Dev.linkAvail (d : Dev) : Nat := d.capLink - safeRes

/-- A budget or floor word: SHARE and VALUE (01 R29). -/
def shareOf (w : Word) : Bool := bit w 31
/-- The VALUE field. -/
def valueOf (w : Word) : Nat := fld w 30 0

/-- A budget word in units of a base (01 R29). -/
def unitsOf (w : Word) (base : Nat) : Nat := if shareOf w then valueOf w * base / 1024 else valueOf w

/-- Base of an activity's share (01 R29); `xfer` is the XFER budget in bytes. -/
def Dev.shareBase (d : Dev) (xfer : Nat) (a : Nat) : Nat :=
  if a = actDRAIN then d.capMem - xfer
  else if a = actPAIR then d.capPair
  else if a = actCASC then d.capCasc
  else if a = actCAL then d.capCal
  else d.linkAvail

/-- The budget of an activity in its unit, before derating. -/
def Dev.budget (d : Dev) (a : Nat) : Nat :=
  let xfer := unitsOf (d.rd (Reg.BIT_BUDGET actXFER)) d.linkAvail
  if a = actXFER then xfer else unitsOf (d.rd (Reg.BIT_BUDGET a)) (d.shareBase xfer a)

/-- The floor of an activity in its unit; only ECHO and PAIR have one (01 R26). -/
def Dev.floor (d : Dev) (a : Nat) : Nat :=
  if a = actECHO then unitsOf (d.rd Reg.BIT_FLOOR_ECHO) d.linkAvail
  else if a = actPAIR then unitsOf (d.rd Reg.BIT_FLOOR_PAIR) d.capPair
  else 0

/-- Host-link activities in ascending index (01 R31). -/
def linkActs : List Nat := [actECHO, actHIST, actXFER, actHK, actDESC]

/-- Add terms in order and name the activity whose term first carries the sum past a limit (01 R32). -/
def overrun (limit : Nat) : Nat → List (Nat × Nat) → Option Nat
  | _, [] => none
  | s, (a, v) :: l => if limit < s + v then some a else overrun limit (s + v) l

/-- Activities whose budget or floor holds a share above 1,024 (01 R31 condition 7). -/
def Dev.shareOver (d : Dev) (a : Nat) : Bool :=
  let w := d.rd (Reg.BIT_BUDGET a)
  (shareOf w && decide (1024 < valueOf w))
  || (decide (a = actECHO) && shareOf (d.rd Reg.BIT_FLOOR_ECHO) && decide (1024 < valueOf (d.rd Reg.BIT_FLOOR_ECHO)))
  || (decide (a = actPAIR) && shareOf (d.rd Reg.BIT_FLOOR_PAIR) && decide (1024 < valueOf (d.rd Reg.BIT_FLOOR_PAIR)))

/-- The first failing condition of the Bite check with its activity index (01 R31, R32); none on a pass. -/
def Dev.biteFail (d : Dev) : Option (Nat × Nat) :=
  let terms := linkActs.map (fun a => (a, d.budget a))
  let shares := linkActs.map (fun a =>
    (a, if shareOf (d.rd (Reg.BIT_BUDGET a)) then valueOf (d.rd (Reg.BIT_BUDGET a)) else 0))
  match overrun d.capLink safeRes terms with
  | some a => some (1, a)
  | none =>
  match overrun d.capMem 0 [(actDRAIN, d.budget actDRAIN), (actXFER, d.budget actXFER)] with
  | some a => some (2, a)
  | none =>
  if d.capPair < d.budget actPAIR then some (3, actPAIR)
  else if d.capCasc < d.budget actCASC then some (4, actCASC)
  else if d.capCal < d.budget actCAL then some (5, actCAL)
  else if d.budget actECHO < d.floor actECHO then some (6, actECHO)
  else if d.budget actPAIR < d.floor actPAIR then some (6, actPAIR)
  else
  match (List.range 9).find? d.shareOver with
  | some a => some (7, a)
  | none =>
  match overrun 1024 0 shares with
  | some a => some (7, a)
  | none => none

/-- Record a check result in BIT.CHECK_STATUS (01 R32). -/
def Dev.biteRecord (d : Dev) : Option (Nat × Nat) → Dev
  | none => d.wrN Reg.BIT_CHECK_STATUS 1
  | some (c, a) => d.wrN Reg.BIT_CHECK_STATUS (2 + c * 16 + a * 256)

/-- An activity's budget in the active set (01 R37). -/
def Dev.actBud (d : Dev) (a : Nat) : Nat := d.bite.act.getD a 0

/-- An activity's floor in the active set (01 R37). -/
def Dev.actFlo (d : Dev) (a : Nat) : Nat := d.bite.actFloors.getD a 0

/-- The registers in force are converted to units and become the active set (01 R29). -/
def Dev.convertSet (d : Dev) : Dev :=
  { d with bite := { d.bite with act := (List.range 9).map d.budget, actFloors := (List.range 9).map d.floor } }

/-- A share-mode CASC budget follows CAP_CASC, which is 0 while the cascade is not enabled (01 R28). -/
def Dev.convertCasc (d : Dev) : Dev :=
  if shareOf (d.rd (Reg.BIT_BUDGET actCASC)) && (d.capCasc = 0 || d.actBud actCASC = 0) then
    { d with bite := { d.bite with act := setAt d.bite.act actCASC (d.budget actCASC) } }
  else d

/-- The derating factor of a resource with present capacity `cap`, reservation `res` and activities `acts`
(01 R37); none while its active set fits. -/
def Dev.derate (d : Dev) (cap res : Nat) (acts : List Nat) : Option Nat :=
  let total := (acts.map d.actBud).sum
  let floors := (acts.map d.actFlo).sum
  if res + total ≤ cap then none
  else
    let nonFloor := total - floors
    let avail := cap - (floors + res)
    some (if nonFloor = 0 then 0 else min 1024 (1024 * avail / nonFloor))

/-- A budget under a derating factor: its floor and the derated part above it (01 R37). `left` is what the resource
has for floors. -/
def derated (bud flo left : Nat) : Option Nat → Nat
  | none => bud
  | some f => min flo left + (bud - flo) * f / 1024

/-- Derating factors of host link, LPDDR4X, pair link and cascade lanes. -/
def Dev.derates (d : Dev) : List (Option Nat) :=
  [d.derate d.capLinkNow safeRes linkActs, d.derate d.capMem 0 [actDRAIN, actXFER],
   d.derate d.capPair 0 [actPAIR], d.derate d.capCasc 0 [actCASC]]

/-- The budget of each activity for a frame, after derating. XFER takes the lower of its two resources. -/
def Dev.effBudgets (d : Dev) : List Nat :=
  let fs := d.derates
  let lk := (fs.headD none)
  let mm := ((fs.drop 1).headD none)
  (List.range 9).map fun a =>
    if a = actXFER then min (derated (d.actBud a) 0 0 lk) (derated (d.actBud a) 0 0 mm)
    else if a = actDRAIN then derated (d.actBud a) 0 0 mm
    else if a = actCAL then d.actBud a
    else if a = actPAIR then derated (d.actBud a) (d.actFlo a) d.capPair ((fs.drop 2).headD none)
    else if a = actCASC then derated (d.actBud a) 0 0 ((fs.drop 3).headD none)
    else derated (d.actBud a) (d.actFlo a) (d.capLinkNow - safeRes) lk

/-- Compare the active set with present capacity at a tick and set the budgets of the frame (01 R36, R37). The set is
converted when it passed the check of this tick (`passed`), R29; before any check it is converted at frame 0 and at the
first tick after the first link-up, which settles the nominal width and rate (log 20). BIT_DERATED is raised once for
the part when derating begins on any resource, and not again while some resource is derated: DESIGN CHOICE (log 20),
since R37 does not say whether a second resource that falls meanwhile counts as a beginning. -/
def Dev.biteFrame (passed : Bool) (d : Dev) : Dev :=
  let first := d.lnk.upSince && !d.bite.linked
  let d := if passed || first || d.bite.act.isEmpty then d.convertSet else d
  let d := d.convertCasc
  let now := d.derates.map Option.isSome
  let was := d.bite.derated.any id
  let d := { d with bite := { d.bite with eff := d.effBudgets, linked := d.bite.linked || d.lnk.upSince, derated := now } }
  d.raiseIf (now.any id && !was) Ev.BIT_DERATED

/-- The budget of this frame. -/
def Dev.eff (d : Dev) (a : Nat) : Nat := d.bite.eff.getD a 0

/-- Meters restart at zero at a tick and LAST_x keeps their values (01 R33). -/
def Dev.metersRestart (d : Dev) : Dev :=
  let d := forN 9 (fun a d => (d.wr (Reg.BIT_LAST a) (d.rd (Reg.BIT_METER a))).wr (Reg.BIT_METER a) 0) d
  { d with bite := { d.bite with prevPaused := d.bite.paused, paused := 0 } }

/-- Pause an activity until the next tick (01 R33). -/
def Dev.pause (d : Dev) (a : Nat) : Dev :=
  if d.bite.paused.testBit a then d
  else
    let first := !d.bite.prevPaused.testBit a
    let d := { d with bite := { d.bite with paused := setBit d.bite.paused a } }.inc (Reg.BIT_PAUSE_CNT a)
    d.raiseIf first (Ev.BIT_PAUSE a)

/-- Whether a transfer unit of `n` fits the budget (01 R33). -/
def Dev.fits (d : Dev) (a n : Nat) : Bool :=
  !d.bite.paused.testBit a && decide ((d.rd (Reg.BIT_METER a)).toNat + n ≤ d.eff a)

/-- Count a transfer unit that starts (01 R33). -/
def Dev.charge (d : Dev) (a n : Nat) : Dev := d.add (Reg.BIT_METER a) n

/-- Start a unit when it fits, or pause the activity. -/
def Dev.spend (d : Dev) (a n : Nat) : Bool × Dev :=
  if d.fits a n then (true, d.charge a n) else (false, d.pause a)

end Sys2Proof.Machine
end

