-- ==== Sys2Proof/Machine/Line.lean ====
section
/-! DEFINITION. Characters of the host link: 8b/10b coding, K-codes, ordered sets, idle characters and the signalling of
compatibility mode (14 R403-R407, R411). The code tables are those of 8b/10b (PRESUMED, log 115). -/
namespace Sys2Proof.Machine

/-- A character of a lane: a data byte D.x.y or a control character K.x.y, each as the number x + 32 y. -/
inductive Sym where
  | d (b : Nat)
  | k (b : Nat)
  deriving DecidableEq, Repr

/-- The K-codes that the link uses (R404). -/
def symCOM : Sym := .k 188
/-- K28.3, lane marker. -/
def symLMK : Sym := .k 124
/-- K28.0, clock compensation. -/
def symSKP : Sym := .k 28
/-- K28.1, hot reset. -/
def symHRST : Sym := .k 60
/-- K28.2, electrical idle. -/
def symEIDL : Sym := .k 92
/-- K28.6, lane change. -/
def symLCH : Sym := .k 220
/-- K27.7, start of packet. -/
def symSOP : Sym := .k 251
/-- K29.7, end of packet. -/
def symEOP : Sym := .k 253
/-- K30.7, end of a packet cut short. -/
def symEBP : Sym := .k 254

/-- The K-codes with a use (R404). -/
def usedK : List Sym := [symCOM, symLMK, symSKP, symHRST, symEIDL, symLCH, symSOP, symEOP, symEBP]

/-- The control characters of 8b/10b: K28.0 to K28.7, K23.7, K27.7, K29.7 and K30.7. -/
def allK : List Nat := [28, 60, 92, 124, 156, 188, 220, 252, 247, 251, 253, 254]

/-- abcdei of D.x at negative disparity, a as the most significant bit. -/
def sixes : List Nat :=
  [0b100111, 0b011101, 0b101101, 0b110001, 0b110101, 0b101001, 0b011001, 0b111000,
   0b111001, 0b100101, 0b010101, 0b110100, 0b001101, 0b101100, 0b011100, 0b010111]
  ++ [0b011011, 0b100011, 0b010011, 0b110010, 0b001011, 0b101010, 0b011010, 0b111010,
   0b110011, 0b100110, 0b010110, 0b110110, 0b001110, 0b101110, 0b011110, 0b101011]

/-- fghj of D.x.y at negative disparity, with the primary form of y = 7. -/
def foursD : List Nat := [0b1011, 0b1001, 0b0101, 0b1100, 0b1101, 0b1010, 0b0110, 0b1110]

/-- fghj of K.x.y at negative disparity. -/
def foursK : List Nat := [0b1011, 0b0110, 0b1010, 0b1100, 0b1101, 0b0101, 0b1001, 0b0111]

/-- Ones among the low `n` bits. -/
def onesOf : Nat → Nat → Nat
  | 0, _ => 0
  | n + 1, x => x % 2 + onesOf n (x / 2)

/-- The running disparity after a block of `n` bits: positive after more ones, negative after fewer, else as before. -/
def dispAfter (n x : Nat) (plus : Bool) : Bool :=
  if n < 2 * onesOf n x then true else if 2 * onesOf n x < n then false else plus

/-- The six-bit block of x at a running disparity: the complement at positive disparity of an unbalanced block and of D.7. -/
def sixOf (control : Bool) (x : Nat) (plus : Bool) : Nat :=
  let v := if control && x = 28 then 0b001111 else sixes.getD x 0
  if plus && (2 * onesOf 6 v ≠ 6 || x = 7) then 63 - v else v

/-- The four-bit block of x.y at a running disparity, with the alternate form of D.x.7 where the primary one would make five
equal bits; a control character complements every block at positive disparity. -/
def fourOf (control : Bool) (x y : Nat) (plus : Bool) : Nat :=
  if control then (if plus then 15 - foursK.getD y 0 else foursK.getD y 0)
  else if y = 7 && ((!plus && [17, 18, 20].contains x) || (plus && [11, 13, 14].contains x)) then (if plus then 8 else 7)
  else
    let v := foursD.getD y 0
    if plus && (2 * onesOf 4 v ≠ 4 || y = 3) then 15 - v else v

/-- The ten bits of a character at a running disparity, bit a as the most significant one and the first transmitted, and the
running disparity after it (R403). -/
def Sym.encode (s : Sym) (plus : Bool) : Nat × Bool :=
  let c := match s with | .d b => (false, b) | .k b => (true, b)
  let six := sixOf c.1 (c.2 % 32) plus
  let mid := dispAfter 6 six plus
  let four := fourOf c.1 (c.2 % 32) (c.2 / 32) mid
  (six * 16 + four, dispAfter 4 four mid)

/-- Every character that may be sent. -/
def allSyms : List Sym := (List.range 256).map Sym.d ++ allK.map Sym.k

/-- The character that ten received bits spell at a running disparity; none where they are no valid code or have the wrong
disparity (R403). -/
def decodeSym (plus : Bool) (w : Nat) : Option Sym := allSyms.find? (fun s => (s.encode plus).1 = w)

/-- The character is a code error: no valid code at its disparity, or a K-code without a use (R403, R404). -/
def symError : Option Sym → Bool
  | none => true
  | some (.d _) => false
  | some (.k b) => !usedK.contains (.k b)

/-- Received characters of a lane from a running disparity: the code errors among them, and the disparity after them. After a
character that is no code the disparity follows its bits: DESIGN CHOICE (log 115). -/
def receiveChars : List (BitVec 10) → Bool → Nat × Bool
  | [], plus => (0, plus)
  | w :: l, plus =>
    let r := receiveChars l (dispAfter 10 w.toNat plus)
    (r.1 + (if symError (decodeSym plus w.toNat) then 1 else 0), r.2)

/-- The characters that ten-bit words spell in turn. -/
def decodeChars : List (BitVec 10) → Bool → List (Option Sym)
  | [], _ => []
  | w :: l, plus => decodeSym plus w.toNat :: decodeChars l (dispAfter 10 w.toNat plus)

/-! ## Ordered sets (R405, R406) -/

/-- ALIGN: COM, D10.2, the lane number and the config byte. -/
def alignSet (lane cfg : Nat) : List Sym := [symCOM, .d 0x4A, .d lane, .d cfg]
/-- The lane marker with `n` SKPs. -/
def laneMarker (lane n : Nat) : List Sym := [symLMK, .d lane] ++ List.replicate n symSKP
/-- HRST. -/
def hrstSet : List Sym := [symHRST, .d 0xB5, .d 0xB5, .d 0xB5]
/-- EIDL. -/
def eidlSet : List Sym := [symEIDL, .d 0xB5, .d 0xB5, .d 0xB5]
/-- LCH. -/
def lchSet (lane width block : Nat) : List Sym := [symLCH, .d lane, .d width, .d block]

/-- What the elastic buffer makes of the lane marker that was sent with two SKPs: one removed, one inserted, or neither
(R406). -/
inductive Elastic where
  | remove | keep | insert
  deriving DecidableEq, Repr

/-- The lane marker as it leaves the elastic buffer. -/
def Elastic.marker (e : Elastic) (lane : Nat) : List Sym :=
  laneMarker lane (match e with | .remove => 1 | .keep => 2 | .insert => 3)

/-- A received lane marker of a lane is in order: it names the lane and holds one to three SKPs (R406). -/
def markerOk (lane : Nat) (l : List (Option Sym)) : Bool :=
  l = (Elastic.remove.marker lane).map some || l = (Elastic.keep.marker lane).map some || l = (Elastic.insert.marker lane).map some

/-! ## Idle characters (R411) -/

/-- One step of the 16-bit Fibonacci LFSR with taps 16, 14, 13 and 11: its output bit and its next state (R411). -/
def idleStep (x : BitVec 16) : Bool × BitVec 16 :=
  let fb := x ^^^ (x >>> 2) ^^^ (x >>> 3) ^^^ (x >>> 5)
  (x.getLsbD 0, (x >>> 1) ||| ((fb &&& 1#16) <<< 15))

/-- The next `n` output bits as a number, the first of them as bit 0, and the state after them. -/
def idleBits : Nat → BitVec 16 → Nat × BitVec 16
  | 0, x => (0, x)
  | n + 1, x =>
    let r := idleBits n (idleStep x).2
    ((idleStep x).1.toNat + 2 * r.1, r.2)

/-- The seed of a lane at its alignment. -/
def idleSeed (lane : Nat) : BitVec 16 := 0xACE1#16 ^^^ BitVec.ofNat 16 lane

/-- The next `n` idle characters of a lane whose LFSR stands at `x`. -/
def idleChars : Nat → BitVec 16 → List Sym
  | 0, _ => []
  | n + 1, x =>
    let r := idleBits 8 x
    .d r.1 :: idleChars n r.2

/-! ## Compatibility signalling (R407) -/

/-- The Gray symbol of a pair of bits, the first as the more significant. -/
def graySym (hi lo : Bool) : Nat := if hi then (if lo then 2 else 3) else (if lo then 1 else 0)

/-- The pair of bits of a Gray symbol. -/
def grayBits (g : Nat) : List Bool := [decide (2 ≤ g % 4), decide (g % 4 = 1 ∨ g % 4 = 2)]

/-- The Gray symbols of a bit stream, in order of transmission. -/
def graySyms : List Bool → List Nat
  | hi :: lo :: l => graySym hi lo :: graySyms l
  | _ => []

/-- The precoded symbols P(j) = (G(j) - P(j-1)) mod 4 from the one before. -/
def precode : Nat → List Nat → List Nat
  | _, [] => []
  | p, g :: l => ((g + 4 - p % 4) % 4) :: precode ((g + 4 - p % 4) % 4) l

/-- The receiver's symbols G(j) = (P(j) + P(j-1)) mod 4. -/
def unprecode : Nat → List Nat → List Nat
  | _, [] => []
  | p, q :: l => ((q + p) % 4) :: unprecode q l

/-- The level of a precoded symbol. -/
def lineLevel (p : Nat) : Int := 2 * (p % 4 : Nat) - 3

/-- The bits of a ten-bit character, a first. -/
def tenBits (w : Nat) : List Bool := (List.range 10).map (fun i => w.testBit (9 - i))

/-- The levels that a lane sends for characters from a running disparity and a last precoded symbol. -/
def compatLevels (syms : List Sym) (plus : Bool) (p : Nat) : List Int :=
  let bits := (syms.foldl (fun (acc : List Bool × Bool) s =>
    let r := s.encode acc.2
    (acc.1 ++ tenBits r.1, r.2)) ([], plus)).1
  (precode p (graySyms bits)).map lineLevel

end Sys2Proof.Machine
end

