-- ==== Sys2Proof/Machine/Link.lean ====
section
/-! DEFINITION. The Sibin host link: sending under credits and budgets, acknowledgement and retry, completions,
alignment, recovery, lane drop and retune (14). -/
namespace Sys2Proof.Machine

/-- Protocol version 2 is in use (14 R418). -/
def Dev.v2 (d : Dev) : Bool := !d.straps.linkMode && d.lnk.partnerV2

/-- Largest payload or read in bytes (14 R415, R418). -/
def Dev.maxPay (d : Dev) : Nat := if d.v2 then 512 else 256

/-- Read tags of the version in use (14 R418, R424). -/
def Dev.tagCount (d : Dev) : Nat := if d.v2 then 256 else 64

/-- Bytes a packet holds in the retry buffer: header, payload and CRC (14 R423). -/
def Packet.held (p : Packet) : Nat := 20 + p.payload.length

/-- 64-byte data units of a payload (14 R420). -/
def Packet.units (p : Packet) : Nat := (p.payload.length + 63) / 64

/-- Bytes that Bite counts for a packet: its payload, or the data a read asks for. -/
def Packet.metered (p : Packet) : Nat := if p.typ = .memrd then 4 * p.words else p.payload.length

/-- The packet is posted (14 R415). -/
def Packet.posted (p : Packet) : Bool := p.typ = .memwr || p.typ = .msg

/-- TYPE of a packet (14 R415). -/
def PType.num : PType → Nat
  | .memwr => 0 | .memrd => 1 | .cpl => 2 | .msg => 5

/-- A packet header: TYPE, VER, STATUS, SEQ, LEN, TAG, message code and bytes 8 to 15 (14 R414). -/
def packetHeader (typ : Nat) (v2 : Bool) (status seq len tag code : Nat) (rest : List Byte) : List Byte :=
  [BitVec.ofNat 8 (typ % 16 + (if v2 then 16 else 0)), BitVec.ofNat 8 (status % 16)] ++ leBytes 2 (seq % 4096) ++ leBytes 2 (len % 256)
    ++ [BitVec.ofNat 8 tag, BitVec.ofNat 8 code] ++ (rest ++ List.replicate 8 0).take 8

/-- The header of a packet of the part; its completions carry the whole answer, from byte 0 on (14 R414, R424). -/
def Packet.header (v2 : Bool) (p : Packet) : List Byte :=
  packetHeader p.typ.num v2 (if p.typ = .cpl then p.status else 0) p.seq p.words
    (if p.typ = .memrd || p.typ = .cpl then p.tag else 0) (if p.typ = .msg then p.code else 0)
    (if p.typ = .memwr || p.typ = .memrd then leBytes 8 p.addr else [])

/-- Header, payload and CRC of a packet (14 R413, R416). -/
def Packet.wire (v2 : Bool) (p : Packet) : List Byte :=
  let b := p.header v2 ++ p.payload
  b ++ leBytes 4 (crc32 b).toNat

/-- The characters of a packet (14 R413). -/
def packetSyms (bs : List Byte) : List Sym := symSOP :: (bs.map (fun b => Sym.d b.toNat)) ++ [symEOP]

/-- Characters over `n` lanes in logical lane order, one list for each character time; idle characters fill the last one, here
given by lane (14 R413). `fuel` bounds the character times. -/
def stripe (n : Nat) (idle : Nat → Sym) : Nat → List Sym → List (List Sym)
  | 0, _ => []
  | _, [] => []
  | fuel + 1, l =>
    let row := l.take n
    (row ++ (List.range (n - row.length)).map (fun i => idle (row.length + i))) :: stripe n idle fuel (l.drop n)

/-- Credit left modulo the count width (14 R420). -/
def creditLeft (adv used width : Nat) : Nat := (adv + 2 ^ width - used % 2 ^ width) % 2 ^ width

/-- The host has advertised room for a packet (14 R420). -/
def Dev.credit (d : Dev) (p : Packet) : Bool :=
  let l := d.lnk
  match p.typ with
  | .memrd => decide (0 < creditLeft l.advNph l.usedNph 8)
  | .cpl =>
    (l.advCh = 0 || decide (0 < creditLeft l.advCh l.usedCh 8))
    && (l.advCd = 0 || decide (p.units ≤ creditLeft l.advCd l.usedCd 12))
  | _ => decide (0 < creditLeft l.advPh l.usedPh 8) && decide (p.units ≤ creditLeft l.advPd l.usedPd 12)

/-- Bytes held for retry (14 R433). -/
def Dev.retryLevel (d : Dev) : Nat := (d.lnk.retry.map Packet.held).sum

/-- The retry buffer has room for a packet (14 R423). -/
def Dev.retryRoom (d : Dev) (p : Packet) : Bool :=
  decide (d.retryLevel + p.held ≤ 65536) && decide (d.lnk.retry.length < 2048)

/-- The lowest free read tag (14 R424). -/
def Dev.freeTag (d : Dev) : Option Nat :=
  (List.range d.tagCount).find? fun t =>
    !(d.lnk.reads.any (fun r => r.tag = t)) && !(d.lnk.deadTags.any (fun x => x.1 = t && decide (d.now < x.2)))

/-- Start a packet: it takes the next SEQ, uses credit, and is held for retry; a read becomes outstanding
(14 R420, R421, R423, R424). -/
def Dev.transmit (d : Dev) (p : Packet) (tag : Nat) : Dev :=
  let l := d.lnk
  let p := { p with seq := l.txNext, tag := if p.typ = .memrd then tag else p.tag }
  let l := { l with txNext := (l.txNext + 1) % 4096, retry := l.retry ++ [p] }
  let l := match p.typ with
    | .memrd => { l with
        usedNph := (l.usedNph + 1) % 256,
        reads := l.reads ++ [{ tag := tag, reader := p.reader, addr := p.addr, words := p.words, got := 0 }] }
    | .cpl => { l with usedCh := (l.usedCh + 1) % 256, usedCd := (l.usedCd + p.units) % 4096 }
    | _ => { l with usedPh := (l.usedPh + 1) % 256, usedPd := (l.usedPd + p.units) % 4096 }
  let d := { d with lnk := l }
  match p.act with
  | some a => d.charge a p.metered
  | none => d

/-- The first queued packet of a class: an activity, or none for the safety reservation and unmetered packets. -/
def Dev.headPkt (d : Dev) (c : Option Nat) : Option Packet := d.lnk.txq.find? (fun p => p.act = c)

/-- A queued write stands before the first queued packet of a class: a message must not pass it (14 R425). -/
def Dev.behindWrite (d : Dev) (c : Option Nat) : Bool :=
  (d.lnk.txq.takeWhile (fun p => p.act ≠ c)).any (fun p => p.typ = .memwr)

/-- What the first packet of a class needs beside budget: credit, retry room, a read tag for a read, and for a message
no write queued before it; XFER carries nothing while LPDDR4X is not ready (07 R221). The answer is the packet with its tag
(14 R420, R423-R425). -/
def Dev.startable (d : Dev) (c : Option Nat) : Option (Packet × Nat) :=
  match d.headPkt c with
  | none => none
  | some p =>
    if !(d.credit p && d.retryRoom p) || (p.typ = .msg && d.behindWrite c) || (c = some actXFER && !d.wave.mem.ready) then none
    else (if p.typ = .memrd then d.freeTag else some 0).map (fun t => (p, t))

/-- A class may start its first packet: an activity's unit also fits its budget (01 R33). -/
def Dev.servable (d : Dev) (c : Option Nat) : Option (Packet × Nat) :=
  match d.startable c, c with
  | some (p, t), some a => if d.fits a p.metered then some (p, t) else none
  | x, _ => x

/-- Every activity whose next unit could start but for its budget pauses until the next tick (01 R33). -/
def Dev.pauseOver (d : Dev) : Dev :=
  linkActs.foldl (fun d a => match d.startable (some a) with
    | some (p, _) => if d.fits a p.metered then d else d.pause a
    | none => d) d

/-- The activities of the host link in the order of the round robin: from the one after the activity served last. -/
def Dev.robin (d : Dev) : List Nat :=
  linkActs.filter (fun a => d.lnk.rr < a) ++ linkActs.filter (fun a => a ≤ d.lnk.rr)

/-- The classes of the host link in the order of service of 01 R34, each with whether the round robin serves it: the
safety reservation first (completions of register reads, which no activity meters, go with it: DESIGN CHOICE, log 107),
then activities whose meter is below their floor, then the others in turn. -/
def Dev.serveOrder (d : Dev) : List (Option Nat × Bool) :=
  (none, false) :: ((linkActs.filter (fun a => decide ((d.rd (Reg.BIT_METER a)).toNat < d.actFlo a))).map (fun a => (some a, false)))
    ++ (d.robin.map (fun a => (some a, true)))

/-- A packet leaves the queue: the first of its class. -/
def Dev.unqueue (d : Dev) (c : Option Nat) : Dev :=
  { d with lnk := { d.lnk with txq := d.lnk.txq.eraseP (fun p => p.act = c) } }

/-- Start queued packets one by one in the order of 01 R34, at most `n` of them. Packets of one class stay in their
order, and a message never passes a queued write (14 R425). -/
def Dev.pumpGo : Nat → Dev → Dev
  | 0, d => d
  | n + 1, d =>
    let d := d.pauseOver
    match d.serveOrder.findSome? (fun c => (d.servable c.1).map (fun x => (c, x))) with
    | none => d
    | some (c, p, tag) =>
      let e := (d.unqueue c.1).transmit p tag
      Dev.pumpGo n (if c.2 then { e with lnk := { e.lnk with rr := c.1.getD 8 } } else e)

/-- Writes of completions, records and data wait to be sent. -/
def Dev.writesWait (d : Dev) : Bool := d.lnk.txq.any (fun p => p.typ = .memwr)

/-- LINK quiesces: no new sequenced packet starts once what the entry still had to write has been sent (16 R469,
R480). -/
def Dev.linkQuiesces (d : Dev) : Bool :=
  match d.pwr.seq with
  | some (.entry m) => m.testBit domLINK && d.pwr.phase ≠ .quiesce && !d.writesWait
  | _ => false

/-- Start every queued packet that may start; nothing starts while the link is not up (14 R420, R427). -/
def Dev.pump (d : Dev) : Dev := if d.lnk.st = .up && !d.linkQuiesces then Dev.pumpGo d.lnk.txq.length d else d

/-- Queue a packet. -/
def Dev.enqueue (d : Dev) (p : Packet) : Dev := { d with lnk := { d.lnk with txq := d.lnk.txq ++ [p] } }

/-- Queue a packet and start what may start. -/
def Dev.send (d : Dev) (p : Packet) : Dev := (d.enqueue p).pump

/-- Cut bytes into pieces of at most `n`; `fuel` bounds the number of pieces. -/
def chunks (n : Nat) : Nat → List Byte → List (List Byte)
  | 0, _ => []
  | _, [] => []
  | fuel + 1, bs => bs.take n :: chunks n fuel (bs.drop n)

/-- Write bytes to host memory as MEMWR packets of an activity (14 R415). -/
def Dev.memWrite (d : Dev) (act : Option Nat) (addr : Nat) (bs : List Byte) : Dev :=
  let n := d.maxPay
  let pk := (chunks n bs.length bs).zipIdx.map fun (c, i) =>
    ({ typ := .memwr, act := act, addr := addr + n * i, words := (c.length + 3) / 4, payload := c } : Packet)
  ({ d with lnk := { d.lnk with txq := d.lnk.txq ++ pk } }).pump

/-- Read host memory: one MEMRD per piece of the largest read (14 R415, R424). -/
def Dev.memRead (d : Dev) (r : Reader) (addr bytes : Nat) : Dev :=
  let n := d.maxPay
  let pk := (List.range ((bytes + n - 1) / n)).map fun i =>
    ({ typ := .memrd, act := some actDESC, addr := addr + n * i, words := (min n (bytes - n * i) + 3) / 4,
       reader := r } : Packet)
  ({ d with lnk := { d.lnk with txq := d.lnk.txq ++ pk } }).pump

/-- Answer a REGRD with one CPL (14 R417, R424). -/
def Dev.complete (d : Dev) (tag status : Nat) (data : List Byte) : Dev :=
  d.send { typ := .cpl, tag := tag, status := status, words := (data.length + 3) / 4, payload := data }

/-- Send an ACK of the last accepted packet (14 R422). -/
def Dev.sendAck (d : Dev) : Dev :=
  { d with lnk := { d.lnk with sentAck := some ((d.lnk.rxExp + 4095) % 4096), rxUnacked := 0, ackDue := false } }

/-- The start of any packet ends a freeze of the lanes' adaptation (14 R412). -/
def Dev.onSop (d : Dev) : Dev := { d with lnk := { d.lnk with frozen := 0 } }

/-- Credits taken by a packet accepted from the host (14 R420). -/
def Lnk.take (k : RxClass) (l : Lnk) : Lnk :=
  match k with
  | .posted n => { l with gotPh := (l.gotPh + 1) % 256, gotPd := (l.gotPd + n) % 4096 }
  | .nonPosted => { l with gotNph := (l.gotNph + 1) % 256 }
  | .completion => l

/-- Accept a sequenced packet of the host: E advances, a NAK is no longer outstanding, adaptation resumes, its credits are taken,
and the 32nd unacknowledged packet is acknowledged at once (14 R412, R420, R421, R422). -/
def Dev.rxAccept (k : RxClass) (d : Dev) : Dev :=
  let l := d.lnk.take k
  let d := { d with lnk := { l with
    rxExp := (l.rxExp + 1) % 4096, nakOut := false, frozen := 0, rxUnacked := l.rxUnacked + 1, ackDue := true } }
  if d.lnk.rxUnacked ≥ 32 then d.sendAck else d

/-- Register accesses are answered once 30 ms have passed, which device time shows, and once the self-test has ended;
when they began to be before that, the spec leaves open (15 R457), so that a free Boolean decides. -/
def Dev.answering (d : Dev) : Dev :=
  if d.answered then d
  else if d.tim.started && decide (30 * ms ≤ d.now) then { d with answered := true }
  else
    let r := d.drawB
    { r.2 with answered := r.1 }

/-- A register command of the host: discarded while the link is not up (14 R410), accepted but without effect until
register accesses are answered (15 R457), and until step 6 of a hot reset (14 R430). -/
def Dev.viaHost (f : Dev → Dev) (d : Dev) : Dev :=
  if d.lnk.st = .up then
    let d := (d.rxAccept (.posted 1)).answering
    if d.answered && !d.lnk.hotPending then f d else d
  else d

/-- ACK and NAK as packets: type 9 or 10 with the sequence number acknowledged (14 R414, R415). -/
def ackPacket (v2 nak : Bool) (n : Nat) : List Byte :=
  let b := packetHeader (if nak then 10 else 9) v2 0 n 0 0 0 []
  b ++ leBytes 4 (crc32 b).toNat

/-- The credits that FLOW advertises: 32 posted headers, 256 posted data units and 32 non-posted headers above what has been taken,
and unlimited completions (14 R420). -/
def Dev.flowPacket (d : Dev) : List Byte :=
  let l := d.lnk
  let b := packetHeader 8 d.v2 0 0 0 0 0
    ([BitVec.ofNat 8 (l.gotPh + 32), BitVec.ofNat 8 (l.gotNph + 32), 0, 0] ++ leBytes 2 ((l.gotPd + 256) % 4096) ++ leBytes 2 0)
  b ++ leBytes 4 (crc32 b).toNat

/-- Send FLOW (14 R420). -/
def Dev.sendFlow (d : Dev) : Dev := { d with lnk := { d.lnk with sentFlow := d.lnk.sentFlow + 1 } }

/-- Whether sequence number `a` is covered by an acknowledgement of `n`, given the numbers outstanding (14 R421). -/
def seqCovered (a n : Nat) : Bool := decide ((n + 4096 - a) % 4096 < 2048)

/-- Release every held packet up to `n` (14 R422, R423). -/
def Dev.release (d : Dev) (n : Nat) : Dev :=
  let l := d.lnk
  let kept := l.retry.filter (fun p => !seqCovered p.seq n)
  let progress := decide (kept.length < l.retry.length)
  { d with lnk := { l with retry := kept, txAcked := if progress then n % 4096 else l.txAcked,
                           replays := if progress then 0 else l.replays } }

/-- Enter recovery: the packet in progress ends, the lanes realign with the settings written; a width reduced by a
lane drop or a failed retune stays (14 R402, R427, R428). `full` is a retrain, which restores full width. -/
def Dev.recover (d : Dev) (full : Bool) : Dev :=
  let l := d.lnk
  let keep := l.degraded && !full
  let compat := d.straps.linkMode
  let l := { l with
    st := .recovery, aligned := 0, retune := none,
    width := if compat then 2 else if keep then l.width else min 4 (d.f Reg.LNK_LINK_CFG 2 0),
    rate := if compat then 0 else d.f Reg.LNK_LINK_CFG 5 4,
    laneBase := if keep then l.laneBase else 0,
    degraded := keep, replays := 0 }
  ({ d with lnk := l }.inc Reg.LNK_RECOVERY_CNT).raiseOnce Ev.LNK_RECOVERY

/-- Replay every held packet; the fourth replay that begins with the same oldest packet enters recovery
(14 R423). -/
def Dev.replay (d : Dev) : Dev :=
  match d.lnk.retry with
  | [] => d
  | p :: _ =>
    let n := if d.lnk.replays ≠ 0 && d.lnk.replaySeq = p.seq then d.lnk.replays + 1 else 1
    let d := { d with lnk := { d.lnk with replays := n, replaySeq := p.seq } }
    if 4 ≤ n && d.lnk.st = .up then d.recover false else d

/-- Physical lanes in use, as a mask (14 R433). -/
def Dev.lanesInUse (d : Dev) : Nat :=
  let n := if d.straps.linkMode then 4 else 2 ^ d.lnk.width
  (2 ^ n - 1) <<< d.lnk.laneBase

/-- The ALIGN config bits [5:0] the part sends (14 R405). -/
def Dev.alignCfg (d : Dev) : Nat :=
  d.lnk.width + d.lnk.rate * 8 + (if d.straps.linkMode then 32 else 0)

/-- Every lane in use has aligned: RX_UP of the ALIGN sets that the part sends (14 R405, R409). -/
def Dev.rxUp (d : Dev) : Bool := d.lnk.aligned &&& d.lanesInUse = d.lanesInUse

/-- The logical lane number that the part sends on a physical lane: 0xFF on one that the link does not use (14 R405). -/
def Dev.laneSent (d : Dev) (l : Nat) : Nat := if d.lanesInUse.testBit l then l - d.lnk.laneBase else 0xFF

/-- The ALIGN set that the part sends on a lane: in native mode it offers protocol version 2 (14 R405, R408, R418). -/
def Dev.alignSent (d : Dev) (l : Nat) : List Sym :=
  alignSet (d.laneSent l) (d.alignCfg + (if d.straps.linkMode then 0 else 64) + (if d.rxUp then 128 else 0))

/-- The lane marker that the part sends on a lane in use (14 R405). -/
def Dev.markerSent (d : Dev) (l : Nat) : List Sym := laneMarker (d.laneSent l) 2

/-- The first `n` idle characters that the part sends on a lane after its alignment (14 R411). -/
def Dev.idleSent (d : Dev) (l n : Nat) : List Sym := idleChars n (idleSeed (d.laneSent l))

/-- A lane may be aligning: the link trains, or a retune realigns the lanes outside the running block. -/
def Dev.laneTrains (d : Dev) (l : Nat) : Bool :=
  let run := (2 ^ (2 ^ d.lnk.width) - 1) <<< d.lnk.laneBase
  match d.lnk.st with
  | .aligning => d.lanesInUse.testBit l
  | .recovery => d.lanesInUse.testBit l
  | .up => d.lnk.retune.isSome && !run.testBit l
  | _ => false

/-- The logical number a lane expects in ALIGN sets: counted from the first lane of the block in use, or from lane 0
for the lanes that a retune realigns at full width. -/
def Dev.laneNumber (d : Dev) (l : Nat) : Nat := if d.lnk.st = .up then l else l - d.lnk.laneBase

/-- The config bits a lane expects: a retune realigns lanes at full width. -/
def Dev.laneCfg (d : Dev) : Nat :=
  if d.lnk.st = .up then d.lnk.nomWidth + d.lnk.rate * 8 else d.alignCfg

/-- LANE_ALIGNED: 64 ALIGN sets with number `num` and config `cfg` on lane `l`; its running disparity starts negative (14 R402,
R403, R408, R418). -/
def Dev.laneAligned (l num cfg : Nat) (d : Dev) : Dev :=
  if !d.laneTrains l then d
  else if cfg % 64 ≠ d.laneCfg then
    let first := !d.lnk.cfgMismatch
    { d with lnk := { d.lnk with cfgMismatch := true } }.raiseIf first Ev.LNK_CFG_MISMATCH
  else if num ≠ d.laneNumber l then { d with lnk := { d.lnk with laneMapErr := true } }
  else { d with lnk := { d.lnk with
    aligned := setBit d.lnk.aligned l, disp := clrBit d.lnk.disp l, partnerV2 := cfg.testBit 6,
    eq := tabPut 0 d.lnk.eq l (d.rd (Reg.LNK_EQ l)) } }

/-- CPL_RECEIVED (14 R417, R424): data of an outstanding read, or an unexpected completion. -/
def Dev.cplReceived (tag status bytes : Nat) (d : Dev) : Dev :=
  if d.lnk.st ≠ .up then d else
  let d := d.rxAccept .completion
  match d.lnk.reads.find? (fun r => r.tag = tag) with
  | none => (d.inc Reg.LNK_UNEXP_CPL_CNT).raise Ev.LNK_UNEXPECTED_CPL
  | some r =>
    let got := r.got + bytes
    let done := status ≠ 0 || 4 * r.words ≤ got
    let rs : List Rd := if done then d.lnk.reads.filter (fun x => x.tag ≠ tag)
      else d.lnk.reads.map (fun x => if x.tag = tag then { x with got := got } else x)
    { d with lnk := { d.lnk with reads := rs } }.pump

/-- FLOW_RECEIVED (14 R420). -/
def Dev.flowReceived (ph nph ch pd cd : Nat) (d : Dev) : Dev :=
  if d.lnk.st ≠ .up then d else
  { d with lnk := { d.lnk with
      frozen := 0, advPh := ph % 256, advNph := nph % 256, advCh := ch % 256, advPd := pd % 4096, advCd := cd % 4096,
      flowSeen := true } }.pump

/-- ACK_RECEIVED (14 R422). -/
def Dev.ackReceived (n : Nat) (d : Dev) : Dev :=
  if d.lnk.st ≠ .up then d else (d.onSop.release n).pump

/-- NAK_RECEIVED (14 R423). -/
def Dev.nakReceived (n : Nat) (d : Dev) : Dev :=
  if d.lnk.st ≠ .up then d else
  ((((d.onSop.release n).inc Reg.LNK_NAK_RX_CNT).raiseOnce Ev.LNK_REPLAY).replay).pump

/-- Send a NAK unless one is outstanding (14 R421). -/
def Dev.sendNak (d : Dev) : Dev :=
  if d.lnk.nakOut then d
  else { d with lnk := { d.lnk with nakOut := true, sentNak := some ((d.lnk.rxExp + 4095) % 4096) } }.inc Reg.LNK_NAK_TX_CNT

/-- A bad packet is counted (14 R421). -/
def Dev.badCount (d : Dev) : Dev := (d.inc Reg.LNK_CRC_ERR_CNT).raiseOnce Ev.LNK_CRC_ERR

/-- Characters received on a lane: their code errors, which the lane counts, and the device after them (14 R403, R404). -/
def Dev.rxChars (l : Nat) (chars : List (BitVec 10)) (d : Dev) : Nat × Dev :=
  let r := receiveChars chars (d.lnk.disp.testBit l)
  (r.1, { d.add (Reg.LNK_CODE_ERR_CNT l) r.1 with lnk := { d.lnk with disp := putBit d.lnk.disp l r.2 } })

/-- BAD_PACKET_RECEIVED (14 R403, R404, R410, R412, R419, R421). -/
def Dev.badPacket (k : BadPkt) (d : Dev) : Dev :=
  if d.lnk.st ≠ .up then d else
  let d := d.onSop
  match k with
  | .duplicate => { d with lnk := { d.lnk with ackDue := true } }
  | .wrongSeq => d.sendNak
  | .crc => d.badCount.sendNak
  | .code l chars =>
    let r := d.rxChars l.val chars
    if r.1 = 0 then r.2 else (r.2.badCount).sendNak
  | .ebp => d
  | .malformed tag =>
    let d := ((d.rxAccept (if tag.isSome then .nonPosted else .posted 0)).inc Reg.LNK_MALFORMED_CNT).raiseOnce Ev.LNK_MALFORMED
    match tag with
    | some t => d.complete t 1 []
    | none => d

/-- ACK_SEND (14 R422). -/
def Dev.ackSend (d : Dev) : Dev := if d.lnk.st = .up && d.lnk.ackDue then d.sendAck else d

/-- FLOW_SEND (14 R420). -/
def Dev.flowSend (d : Dev) : Dev := if d.lnk.st = .up then d.sendFlow else d

/-- REPLAY_TIMER (14 R423). -/
def Dev.replayTimer (d : Dev) : Dev := if d.lnk.st = .up then d.replay else d

/-- The lane marker of a lane is in its place, at either disparity. -/
def markerSeen (lane : Nat) (cs : List (BitVec 10)) : Bool := markerOk lane (decodeChars cs false) || markerOk lane (decodeChars cs true)

/-- LNK_RECOVERY: 16 code errors in 1,024 characters, two lane markers in a row missing or misplaced, or ALIGN, each on a lane in
use, or the loss of deskew (14 R427). -/
def Dev.lnkRecovery (k : RecTrig) (d : Dev) : Dev :=
  if d.lnk.st ≠ .up then d else
  match k with
  | .codes l chars =>
    let r := d.rxChars l.val (chars.take 1024)
    if d.lanesInUse.testBit l.val && decide (16 ≤ r.1) then r.2.recover false else r.2
  | .markers l a b =>
    if d.lanesInUse.testBit l.val && !markerSeen (d.laneSent l.val) a && !markerSeen (d.laneSent l.val) b then d.recover false else d
  | .deskew => d.recover false
  | .align l => if d.lanesInUse.testBit l.val then d.recover false else d

/-- RETRAIN (14 R402, R427). -/
def Dev.retrain (d : Dev) : Dev := if d.lnk.st = .up then d.recover true else d

/-- The lowest block of `w` aligned lanes that starts at a multiple of `w` (14 R428). -/
def alignedBlock (aligned n w : Nat) : Option Nat :=
  ((List.range (n / w)).map (fun i => i * w)).find? (fun b => (List.range w).all (fun i => aligned.testBit (b + i)))

/-- The largest reduced width code with an aligned block, and the block's first lane (14 R428). -/
def bestBlock (aligned n : Nat) : Nat → Option (Nat × Nat)
  | 0 => (alignedBlock aligned n 1).map (fun b => (0, b))
  | c + 1 => match alignedBlock aligned n (2 ^ (c + 1)) with
    | some b => some (c + 1, b)
    | none => bestBlock aligned n c

/-- LNK_LANE_DROP (14 R407, R428). -/
def Dev.laneDrop (d : Dev) : Dev :=
  let l := d.lnk
  if l.st ≠ .recovery || d.straps.linkMode || l.width = 0 || l.aligned &&& d.lanesInUse = d.lanesInUse then d
  else match bestBlock (l.aligned >>> l.laneBase) (2 ^ l.width) (l.width - 1) with
    | none => d
    | some (c, b) =>
      { d with lnk := { l with width := c, laneBase := l.laneBase + b, degraded := true } }.raise Ev.LNK_LANE_DROP

/-- LNK_DOWN (14 R428). -/
def Dev.lnkDown (d : Dev) : Dev :=
  if d.lnk.st ≠ .recovery then d else
  { d with lnk := { d.lnk with
      st := .down, retry := [], txq := [], txNext := 0, txAcked := 4095, rxExp := 0, nakOut := false,
      advPh := 0, advNph := 0, advCh := 0, advPd := 0, advCd := 0,
      usedPh := 0, usedNph := 0, usedCh := 0, usedPd := 0, usedCd := 0, flowSeen := false } }.raise Ev.LNK_DOWN

/-- RETUNE: refused in compatibility mode, at x1, outside UP and while another runs (14 R429). -/
def Dev.retune (d : Dev) : Dev :=
  let l := d.lnk
  if d.straps.linkMode || l.width = 0 || l.st ≠ .up || l.retune.isSome then d.raise Ev.LNK_RETUNE_FAIL
  else
    let lane := d.f Reg.LNK_RETUNE_CTL 3 0
    let half := 2 ^ (l.nomWidth - 1)
    let blk := if lane < half then 1 else 0
    { d with lnk := { l with
        width := l.nomWidth - 1, laneBase := blk * half, aligned := l.aligned &&& ((2 ^ half - 1) <<< (blk * half)),
        retune := some { lane := lane, block := blk, rxSwitched := false } } }

/-- LCH_RECEIVED: the receiver switches its striping (14 R429). -/
def Dev.lchReceived (width block : Nat) (d : Dev) : Dev :=
  match d.lnk.retune with
  | some r =>
    if d.lnk.st = .up && width = d.lnk.width && block = r.block then
      { d with lnk := { d.lnk with retune := some { r with rxSwitched := true } } }
    else d
  | none => d

/-- Step 4 of a retune may come: the host has switched its striping, and every lane of the nominal width has aligned (14 R429). -/
def Dev.retuneReady (d : Dev) : Bool :=
  let all := 2 ^ 2 ^ d.lnk.nomWidth - 1
  (d.lnk.retune.map (fun r => r.rxSwitched)).getD false && d.lnk.aligned &&& all = all

/-- LNK_RETUNE_DONE: with RX_UP received the link stripes at full width again (14 R429). -/
def Dev.retuneDone (d : Dev) : Dev :=
  if d.retuneReady then
    { d with lnk := { d.lnk with width := d.lnk.nomWidth, laneBase := 0, retune := none, degraded := false } }.raise
      Ev.LNK_RETUNE_DONE
  else d

/-- LNK_RETUNE_FAIL (14 R429). -/
def Dev.retuneFail (d : Dev) : Dev :=
  match d.lnk.retune with
  | some _ => { d with lnk := { d.lnk with retune := none, degraded := true } }.raise Ev.LNK_RETUNE_FAIL
  | none => d

/-- ADAPT_FREEZE (14 R412). -/
def Dev.adaptFreeze (l : Nat) (d : Dev) : Dev := { d with lnk := { d.lnk with frozen := setBit d.lnk.frozen l } }

/-- The lanes start to align at reset, retrain or the end of a hot reset (14 R408, R426). -/
def Dev.startAlign (d : Dev) : Dev :=
  let compat := d.straps.linkMode
  { d with lnk := { d.lnk with
      st := .aligning, aligned := 0, laneBase := 0, degraded := false, retune := none,
      width := if compat then 2 else min 4 (d.f Reg.LNK_LINK_CFG 2 0),
      rate := if compat then 0 else d.f Reg.LNK_LINK_CFG 5 4 } }

/-- LNK.STATUS (14 R434). -/
def Dev.lnkStatus (d : Dev) : Word :=
  let l := d.lnk
  let st := match l.st with
    | .down => 0 | .aligning => 1 | .up => 2 | .recovery => 3 | .hotReset => 4 | .eidle => 5
  word (st + b2n d.straps.linkMode * 8 + l.width * 16 + l.rate * 256 + b2n l.degraded * 1024
    + b2n l.cfgMismatch * 2048 + b2n l.laneMapErr * 4096 + b2n l.retune.isSome * 8192
    + b2n (l.frozen.testBit 0) * 16384 + b2n l.partnerV2 * 32768)

end Sys2Proof.Machine
end

