-- ==== Sys2Proof/Machine/Dsc.lean ====
section
/-! DEFINITION. Rings, completions, attentions and event records (15 R436-R452, R460). -/
namespace Sys2Proof.Machine

/-- Entries of a ring from its CTL register; SIZE outside 4-16 acts as the nearer limit (15 R460). -/
def ringSize (ctl : Word) : Nat := 2 ^ (max 4 (min 16 (fld ctl 4 0)))

/-- A ring is enabled and not stopped. -/
def ringLive (ctl : Word) : Bool := bit ctl 12 && !bit ctl 14

/-- A ring base address (15 R459). -/
def Dev.base (d : Dev) (lo : Nat) : Nat := (d.rd lo).toNat + (d.rd (lo + 4)).toNat * 2 ^ 32

/-- The phase key of completion (kind 0) and event (kind 1) rings. -/
def phaseKey (kind ring : Nat) : Nat := 64 * kind + ring

/-- PHASE of a ring: 1 on the first pass after EN sets (15 R444). -/
def Dev.phase (d : Dev) (kind ring : Nat) : Nat := 1 - tabGet 0 d.dsc.phase (phaseKey kind ring) % 2

/-- Advance a ring's tail past the entry written; the phase alternates at each pass (15 R444). -/
def Dev.advance (d : Dev) (kind ring tailReg size : Nat) : Dev :=
  let t := (d.rd tailReg).toNat + 1
  if t < size then d.wrN tailReg t
  else
    let d := d.wrN tailReg 0
    { d with dsc := { d.dsc with phase := tabMod 0 d.dsc.phase (phaseKey kind ring) (fun p => (p + 1) % 2) } }

/-- A ring has room for one entry: it holds at most its size less one (15 R439). -/
def ringRoom (tail head size : Nat) : Bool := decide ((tail + 1) % size ≠ head)

/-- Make an attention wait to be sent, merged with one already waiting for the ring (15 R444, R452). -/
def Dev.attnAdd (d : Dev) (a : Attn) : Dev :=
  let same := fun (x : Attn) => x.kind = a.kind && x.ring = a.ring
  let l := if d.evt.attn.any same then
      d.evt.attn.map (fun x => if same x then { x with sev := max x.sev a.sev, safety := x.safety || a.safety } else x)
    else d.evt.attn ++ [a]
  { d with evt := { d.evt with attn := l } }

/-- The 64 bytes of a completion entry (15 R444). -/
def entryBytes (e : Entry) (phase : Nat) : List Byte :=
  leBytes 1 e.desc.typ ++ leBytes 1 e.status ++ leBytes 1 e.ring ++ leBytes 1 phase ++ leBytes 4 e.desc.tag
  ++ leBytes 2 e.desc.slot ++ leBytes 2 0 ++ leBytes 4 e.bytes ++ leBytes 8 e.dt ++ leBytes 4 e.frame.toNat
  ++ (e.result ++ leBytes 36 0).take 36

/-- The completion ring bound to a submission ring (15 R444). -/
def Dev.cqOf (d : Dev) (ring : Nat) : Nat := d.f (Reg.DSC_SQ_CTL ring) 11 6

/-- A completion ring can take an entry now. -/
def Dev.cqRoom (d : Dev) (q : Nat) : Bool :=
  let ctl := d.rd (Reg.DSC_CQ_CTL q)
  ringLive ctl && decide (d.lnk.st ≠ .down)
  && ringRoom (d.f (Reg.DSC_CQ_TAIL q) 15 0) (d.f (Reg.DSC_CQ_HEAD q) 15 0) (ringSize ctl)

/-- Write a completion entry under the DESC budget, with its attention when it asks for one (15 R444). -/
def Dev.putEntry (d : Dev) (e : Entry) : Dev :=
  let q := d.cqOf e.ring
  let tail := d.f (Reg.DSC_CQ_TAIL q) 15 0
  let d := d.memWrite (some actDESC) (d.base (Reg.DSC_CQ_BASE_LO q) + 64 * tail) (entryBytes e (d.phase 0 q))
  let d := d.advance 0 q (Reg.DSC_CQ_TAIL q) (ringSize (d.rd (Reg.DSC_CQ_CTL q)))
  if e.desc.attn then d.attnAdd { kind := 0, ring := q, sev := 0, safety := false } else d

/-- Put an entry, or hold it back behind the ring's held entries; DSC_CQ_FULL marks the start of a stall
(15 R444). -/
def Dev.pushEntry (d : Dev) (e : Entry) : Dev :=
  let q := d.cqOf e.ring
  if d.cqRoom q && !(d.dsc.held.any (fun h => d.cqOf h.ring = q)) then d.putEntry e
  else
    let d := { d with dsc := { d.dsc with held := d.dsc.held ++ [e] } }
    if d.dsc.cqStall.contains q || d.cqRoom q || !ringLive (d.rd (Reg.DSC_CQ_CTL q)) then d
    else { d with dsc := { d.dsc with cqStall := q :: d.dsc.cqStall } }.raise Ev.DSC_CQ_FULL

/-- Write held entries that now find room, in order; a ring's stall ends when none of its entries is left. -/
def Dev.flushHeldGo : List Entry → List Entry → Dev → Dev
  | [], kept, d =>
    let kept := kept.reverse
    let stall := d.dsc.cqStall.filter (fun q => kept.any (fun h => d.cqOf h.ring = q))
    { d with dsc := { d.dsc with held := kept, cqStall := stall } }
  | e :: es, kept, d =>
    if d.cqRoom (d.cqOf e.ring) && !(kept.any (fun h => d.cqOf h.ring = d.cqOf e.ring))
    then Dev.flushHeldGo es kept (d.putEntry e)
    else Dev.flushHeldGo es (e :: kept) d

/-- Write held entries that find room. -/
def Dev.flushHeld (d : Dev) : Dev := Dev.flushHeldGo d.dsc.held [] d

/-- A descriptor completes: it leaves flight and its entry goes to the bound completion ring (15 R444). -/
def Dev.done (d : Dev) (x : Desc) (status bytes : Nat) (result : List Byte) : Dev :=
  let d := { d with dsc := { d.dsc with
    flights := d.dsc.flights.filter (fun f => !(f.desc.ring = x.ring && f.desc.slot = x.slot)) } }
  d.pushEntry { ring := x.ring.val, desc := x, status := status, bytes := bytes, result := result,
                dt := d.now, frame := d.glb.frameNum }

/-- Status codes (15 R446). -/
def stOK : Nat := 0
/-- PARTIAL. -/
def stPARTIAL : Nat := 1
/-- REJECTED. -/
def stREJECTED : Nat := 2
/-- ABORTED. -/
def stABORTED : Nat := 3
/-- BUSY. -/
def stBUSY : Nat := 4
/-- TRUNCATED. -/
def stTRUNCATED : Nat := 5
/-- OVERWRITTEN. -/
def stOVERWRITTEN : Nat := 6
/-- MEM_ERROR. -/
def stMEM_ERROR : Nat := 7
/-- NOT_READY. -/
def stNOT_READY : Nat := 8
/-- FORMAT. -/
def stFORMAT : Nat := 9
/-- CHECK_FAIL. -/
def stCHECK_FAIL : Nat := 10
/-- DENIED. -/
def stDENIED : Nat := 11
/-- BAD_DESC. -/
def stBAD_DESC : Nat := 12
/-- READ_FAIL. -/
def stREAD_FAIL : Nat := 13

/-- Complete with a status and no result. -/
def Dev.finish (d : Dev) (x : Desc) (status : Nat) : Dev := d.done x status 0 []

/-- PARAM bytes lo .. lo+n-1 as a number; descriptor byte 32 is PARAM byte 0 (15 R442). -/
def descPar (x : Desc) (byte n : Nat) : Nat := leAt x.param (byte - 32) n

/-- Descriptor bytes the type does not use must be 0 (15 R442): the PARAM bytes outside `used`, given as descriptor
byte numbers. -/
def descUnusedZero (x : Desc) (used : List Nat) : Bool :=
  (List.range 32).all (fun i => used.contains (i + 32) || x.param.getD i 0 = 0)

/-- Addresses 4-byte aligned and lengths multiples of 4, and no reserved byte set (15 R442, R446). -/
def descAligned (x : Desc) : Bool :=
  x.addrA % 4 = 0 && x.addrB % 4 = 0 && x.lenA % 4 = 0 && x.lenB % 4 = 0 && !x.bad

/-- Buffers a type does not use are 0. -/
def descNoA (x : Desc) : Bool := x.addrA = 0 && x.lenA = 0
/-- Buffer B unused. -/
def descNoB (x : Desc) : Bool := x.addrB = 0 && x.lenB = 0

/-- A descriptor known to be in flight: one the fetch queued, or one queued now (15 R443). -/
def Dev.known (d : Dev) (x : Desc) : Dev :=
  if d.dsc.flights.any (fun f => f.desc.ring = x.ring && f.desc.slot = x.slot) then d
  else { d with dsc := { d.dsc with flights := d.dsc.flights ++ [{ desc := x, out := false }] } }

/-- Descriptors of the ring fetched before this one and not completed. -/
def Dev.earlier (d : Dev) (x : Desc) : List Flight :=
  (d.dsc.flights.takeWhile (fun f => !(f.desc.ring = x.ring && f.desc.slot = x.slot))).filter
    (fun f => f.desc.ring = x.ring)

/-- The ring may dispatch this descriptor: none before it waits for dispatch, and with FENCE none before it is
uncompleted (15 R442, R443). Nothing is dispatched while the link is DOWN (15 R451). -/
def Dev.mayDispatch (d : Dev) (x : Desc) : Bool :=
  let e := d.earlier x
  e.all (fun f => f.out) && (!x.fence || e.isEmpty) && decide (d.lnk.st ≠ .down)

/-- Already dispatched. -/
def Dev.isOut (d : Dev) (x : Desc) : Bool :=
  d.dsc.flights.any (fun f => f.desc.ring = x.ring && f.desc.slot = x.slot && f.out)

/-- Mark a descriptor dispatched. -/
def Dev.markOut (d : Dev) (x : Desc) : Dev :=
  let fs : List Flight :=
    d.dsc.flights.map (fun f => if f.desc.ring = x.ring && f.desc.slot = x.slot then { f with out := true } else f)
  { d with dsc := { d.dsc with flights := fs } }

/-- Dispatch of a descriptor (15 R443, R446): it waits while its ring or its engine (`ready`) holds it back; a bad
descriptor (`good` false) completes BAD_DESC; otherwise the engine acts (`act`). -/
def Dev.dispatch (x : Desc) (good : Bool) (ready : Dev → Bool) (act : Dev → Dev) (d : Dev) : Dev :=
  if d.lnk.st = .down then d else
  let d := d.known x
  if d.isOut x || !d.mayDispatch x then d
  else if !(good && descAligned x) then ((d.markOut x).raise Ev.DSC_BAD_DESC).finish x stBAD_DESC
  else if !ready d then d
  else act (d.markOut x)

/-- The severity of a source (15 R452). -/
def Dev.evSev (d : Dev) (n : Nat) : Nat := d.f (Reg.DSC_EVT_CFG n) 2 1
/-- The event ring of a source. -/
def Dev.evRing (d : Dev) (n : Nat) : Nat := d.f (Reg.DSC_EVT_CFG n) 6 4

/-- An event of the safety block (01 R27). -/
def safetyEv (n : Nat) : Bool := 160 ≤ n && n ≤ 223

/-- The 32 bytes of an event record (15 R452). -/
def recordBytes (p : Pend) (sev phase seq : Nat) : List Byte :=
  leBytes 2 p.num ++ leBytes 1 sev ++ leBytes 1 phase ++ leBytes 4 p.count ++ leBytes 8 p.first ++ leBytes 8 p.last
  ++ leBytes 4 p.frame.toNat ++ leBytes 4 seq

/-- Whether a due record can be written: the link is up, the engine and the ring enabled (15 R452). -/
def Dev.evLive (d : Dev) (ring : Nat) : Bool :=
  d.lnk.st = .up && d.b Reg.DSC_CTL 0 && ringLive (d.rd (Reg.DSC_EQ_CTL ring))

/-- The event ring has room. -/
def Dev.evRoom (d : Dev) (ring : Nat) : Bool :=
  ringRoom (d.f (Reg.DSC_EQ_TAIL ring) 15 0) (d.f (Reg.DSC_EQ_HEAD ring) 15 0) (ringSize (d.rd (Reg.DSC_EQ_CTL ring)))

/-- Write one record: its ring advances, its sequence number increments, and the attention of the ring is raised
when the severity reaches ATTN_SEV (15 R452; 01 R27). -/
def Dev.putRecord (d : Dev) (p : Pend) : Dev :=
  let r := d.evRing p.num
  let sev := d.evSev p.num
  let tail := d.f (Reg.DSC_EQ_TAIL r) 15 0
  let seq := tabGet 0 d.evt.seq r
  let act := if safetyEv p.num then none else some actDESC
  let d := d.memWrite act (d.base (Reg.DSC_EQ_BASE_LO r) + 32 * tail) (recordBytes p sev (d.phase 1 r) seq)
  let d := d.advance 1 r (Reg.DSC_EQ_TAIL r) (ringSize (d.rd (Reg.DSC_EQ_CTL r)))
  let d := { d with evt := { d.evt with
    seq := tabPut 0 d.evt.seq r ((seq + 1) % 2 ^ 32),
    safeRec := if safetyEv p.num then insSorted r d.evt.safeRec else d.evt.safeRec,
    written := tabPut 0 d.evt.written p.num (d.glb.ticks + 1) } }
  if d.f (Reg.DSC_EQ_CTL r) 9 8 ≤ sev then
    d.attnAdd { kind := 1, ring := r, sev := sev, safety := safetyEv p.num } else d

/-- Write the due records in order of first occurrence; those that cannot be written stay pending, and DSC_EQ_FULL
marks the start of a full-ring stall (15 R452). `full` collects rings found full. A record leaves the pending records
before it is written, so what is raised meanwhile opens a record of its own. -/
def Dev.writeDueGo : List Pend → List Nat → Dev → Dev
  | [], full, d =>
    let start := full.filter (fun r => !d.evt.fullStall.contains r)
    let d := { d with evt := { d.evt with fullStall := full } }
    start.foldl (fun d _ => d.raise Ev.DSC_EQ_FULL) d
  | p :: ps, full, d =>
    if !p.due then Dev.writeDueGo ps full d
    else
      let r := d.evRing p.num
      if !d.evLive r then Dev.writeDueGo ps full d
      else if !d.evRoom r then Dev.writeDueGo ps (if full.contains r then full else r :: full) d
      else
        let d := { d with evt := { d.evt with pend := d.evt.pend.filter (fun q => q.num ≠ p.num) } }
        Dev.writeDueGo ps full (d.putRecord p)

/-- Write the due records that can be written. -/
def Dev.writeDue (d : Dev) : Dev := Dev.writeDueGo d.evt.pend [] d

/-- At step 3 of a tick a pending record is due once COAL ticks have passed since the source's previous record
(15 R452). -/
def Dev.markDue (d : Dev) : Dev :=
  { d with evt := { d.evt with pend := d.evt.pend.map fun p =>
      let w := tabGet 0 d.evt.written p.num
      { p with due := p.due || w = 0 || decide (w - 1 + d.f (Reg.DSC_EVT_CFG p.num) 15 8 ≤ d.glb.ticks) } } }

/-- ATTN_SEND: the attention waiting for a ring goes out when ATTN_GAP has passed since the last one: the command stands
for that instant at the earliest (15 R441, R444, R452). It reports every record written since the ring's last attention;
one that reports a record of the safety block goes under the safety reservation (01 R27). -/
def Dev.attnSend (kind ring : Nat) (d : Dev) : Dev :=
  match d.evt.attn.find? (fun a => a.kind = kind && a.ring = ring) with
  | none => d
  | some a =>
    let gap := if kind = 0 then d.f (Reg.DSC_CQ_CTL ring) 31 16 else d.f (Reg.DSC_EQ_CTL ring) 31 16
    let last := tabGet 0 d.evt.attnAt (phaseKey kind ring)
    if d.lnk.st ≠ .up then d
    else
      let d := if last = 0 then d else d.at (last - 1 + gap * us)
      let tail := if kind = 0 then (d.rd (Reg.DSC_CQ_TAIL ring)).toNat else (d.rd (Reg.DSC_EQ_TAIL ring)).toNat
      let pay := leBytes 1 kind ++ leBytes 1 ring ++ leBytes 1 a.sev ++ leBytes 1 0 ++ leBytes 4 tail ++ leBytes 8 d.now
      let safe := a.safety || (decide (kind = 1) && d.evt.safeRec.contains ring)
      let d := { d with evt := { d.evt with
        safeRec := if kind = 1 then d.evt.safeRec.filter (fun r => r ≠ ring) else d.evt.safeRec,
        attn := d.evt.attn.filter (fun x => !(x.kind = kind && x.ring = ring)),
        attnAt := tabPut 0 d.evt.attnAt (phaseKey kind ring) (d.now + 1) } }
      d.send { typ := .msg, act := if safe then none else some actDESC, code := 2, words := 4, payload := pay }

/-- EVENT_RECORD_WRITE: due records that were held are written once room or the link allows (15 R452). -/
def Dev.eventRecordWrite (d : Dev) : Dev := d.writeDue

/-- Enabled rings of a kind, by their CTL registers. -/
def Dev.liveRings (d : Dev) (n : Nat) (ctl : Nat → Nat) : List Nat :=
  (List.range n).filter (fun r => bit (d.rd (ctl r)) 12)

/-- One doorbell area: a read that covers the words of the enabled rings (15 R439, R440). -/
def Dev.doorbellArea (d : Dev) (off : Nat) (rings : List Nat) : Dev :=
  match rings, rings.getLast? with
  | r :: _, some l => d.memRead .doorbell (d.base Reg.DSC_DB_LO + off + 4 * r) (4 * (l + 1 - r))
  | _, _ => d

/-- Read the doorbell page, once at a time; `again` asks for one further read when one is in progress (15 R440). -/
def Dev.doorbellRead (again : Bool) (d : Dev) : Dev :=
  if !d.b Reg.DSC_CTL 0 || d.lnk.st = .down || d.lnk.st = .eidle then d
  else if d.dsc.dbBusy then (if again then { d with dsc := { d.dsc with dbAgain := true } } else d)
  else
    let sq := d.liveRings 64 Reg.DSC_SQ_CTL
    let cq := d.liveRings 64 Reg.DSC_CQ_CTL
    let eq := d.liveRings 8 Reg.DSC_EQ_CTL
    if sq.isEmpty && cq.isEmpty && eq.isEmpty then d
    else
      let d := { d with dsc := { d.dsc with dbBusy := true } }
      ((d.doorbellArea 0 sq).doorbellArea 0x100 cq).doorbellArea 0x200 eq

/-- DOORBELL: a DOORBELL message (15 R440). -/
def Dev.doorbell (d : Dev) : Dev := if d.lnk.st = .up then (d.rxAccept (.posted 0)).doorbellRead true else d

/-- Take a doorbell index for an enabled ring; one not below the ring's size stops the ring (15 R460). -/
def Dev.takeIndex (ctl idx : Nat → Nat) (x : Nat × Nat) (d : Dev) : Dev :=
  let c := d.rd (ctl x.1)
  if !ringLive c then d
  else if ringSize c ≤ x.2 % 65536 then (d.setB (ctl x.1) 14 true).raise Ev.DSC_RING_ERR
  else d.wrN (idx x.1) (x.2 % 65536)

/-- Descriptors a fetch of a ring may ask for: up to 8 per read, within the largest read, not past the ring's end
(15 R443). -/
def Dev.fetchCount (d : Dev) (r : Nat) : Nat :=
  let size := ringSize (d.rd (Reg.DSC_SQ_CTL r))
  let h := d.f (Reg.DSC_SQ_HEAD r) 15 0
  let t := d.f (Reg.DSC_SQ_TAIL r) 15 0
  let avail := if h ≤ t then t - h else size - h
  min avail (min 8 (d.maxPay / 64))

/-- A ring may be fetched now: enabled, not stopped, its completion ring has room and no held entry, no fetch outstanding; a
failed fetch is retried at ticks only (15 R443, R444). -/
def Dev.fetchable (atTick : Bool) (d : Dev) (r : Nat) : Bool :=
  ringLive (d.rd (Reg.DSC_SQ_CTL r)) && tabGet 0 d.dsc.fetching r = 0 && decide (0 < d.fetchCount r)
  && d.cqRoom (d.cqOf r) && !d.dsc.cqStall.contains (d.cqOf r) && (atTick || tabGet 0 d.dsc.retries r = 0)

/-- Issue the fetch of a ring (15 R443). -/
def Dev.fetchRing (r : Nat) (d : Dev) : Dev :=
  let n := d.fetchCount r
  let a := d.base (Reg.DSC_SQ_BASE_LO r) + 64 * d.f (Reg.DSC_SQ_HEAD r) 15 0
  let d := { d with dsc := { d.dsc with fetching := tabPut 0 d.dsc.fetching r n, served := r } }
  d.memRead (.fetch r) a (64 * n)

/-- Fetch every ring that may be fetched: PRIO rings first, round robin among equals (15 R443). -/
def Dev.fetchAll (atTick : Bool) (d : Dev) : Dev :=
  if !d.b Reg.DSC_CTL 0 || d.lnk.st = .down || d.lnk.st = .eidle then d
  else
    let order := (List.range 64).map (fun i => (d.dsc.served + 1 + i) % 64)
    let go := order.filter (d.fetchable atTick)
    let hi := go.filter (fun r => d.b (Reg.DSC_SQ_CTL r) 13)
    let lo := go.filter (fun r => !d.b (Reg.DSC_SQ_CTL r) 13)
    (hi ++ lo).foldl (fun d r => d.fetchRing r) d

/-- DOORBELL_PAGE_READ_DONE: ring indices update, held entries find room, rings are fetched (15 R440, R460). -/
def Dev.doorbellDone (ok : Bool) (sq cq eq : List (Nat × Nat)) (d : Dev) : Dev :=
  if !d.dsc.dbBusy then d else
  let again := d.dsc.dbAgain
  let d := { d with
    dsc := { d.dsc with dbBusy := false, dbAgain := false },
    lnk := { d.lnk with reads := d.lnk.reads.filter (fun (x : Rd) => x.reader ≠ Reader.doorbell) } }
  let d := if ok then
      let d := sq.foldl (fun d x => d.takeIndex Reg.DSC_SQ_CTL Reg.DSC_SQ_TAIL (x.1 % 64, x.2)) d
      let d := cq.foldl (fun d x => d.takeIndex Reg.DSC_CQ_CTL Reg.DSC_CQ_HEAD (x.1 % 64, x.2)) d
      let d := eq.foldl (fun d x => d.takeIndex Reg.DSC_EQ_CTL Reg.DSC_EQ_HEAD (x.1 % 8, x.2)) d
      (d.flushHeld).fetchAll false
    else d
  if again then d.doorbellRead false else d

/-- DESCRIPTOR_FETCH_DONE: the fetched descriptors are queued for dispatch and the head passes them; a failed fetch
is retried at the next 3 ticks and then stops the ring (15 R443). -/
def Dev.fetchDone (r : Nat) (ok : Bool) (ds : List Desc) (d : Dev) : Dev :=
  let n := tabGet 0 d.dsc.fetching r
  if n = 0 then d else
  let d := { d with
    dsc := { d.dsc with fetching := tabPut 0 d.dsc.fetching r 0 },
    lnk := { d.lnk with reads := d.lnk.reads.filter (fun (x : Rd) => x.reader ≠ Reader.fetch r) } }
  if ok then
    let h := (d.f (Reg.DSC_SQ_HEAD r) 15 0 + n) % ringSize (d.rd (Reg.DSC_SQ_CTL r))
    let d := d.wrN (Reg.DSC_SQ_HEAD r) h
    let d := { d with dsc := { d.dsc with
      retries := tabPut 0 d.dsc.retries r 0,
      flights := d.dsc.flights ++ (ds.take n).map (fun x => ({ desc := x, out := false } : Flight)) } }
    d.fetchAll false
  else
    let k := tabGet 0 d.dsc.retries r + 1
    if 3 < k then
      (({ d with dsc := { d.dsc with retries := tabPut 0 d.dsc.retries r 0 } }).setB (Reg.DSC_SQ_CTL r) 14 true).raise
        Ev.DSC_FETCH_FAIL
    else { d with dsc := { d.dsc with retries := tabPut 0 d.dsc.retries r k } }

/-- LNK_CPL_TIMEOUT: a read sees no completion for 1 ms in UP and fails with TIMEOUT (14 R424). -/
def Dev.cplTimeout (tag : Nat) (d : Dev) : Dev :=
  match d.lnk.reads.find? (fun r => r.tag = tag) with
  | none => d
  | some r =>
    let d := { d with lnk := { d.lnk with
      reads := d.lnk.reads.filter (fun (x : Rd) => x.tag ≠ tag),
      deadTags := (d.lnk.deadTags.filter (fun (x : Nat × Time) => decide (d.now < x.2))) ++ [(tag, d.now + ms)] } }
    let d := (d.inc Reg.LNK_CPL_TIMEOUT_CNT).raiseOnce Ev.LNK_CPL_TIMEOUT
    match r.reader with
    | .doorbell => d.doorbellDone false [] [] []
    | .fetch q => d.fetchDone q false []
    | .buffer => d

/-- RING_CTL_WRITE: a write of a ring's CTL register (15 R460). `kind` 0 submission, 1 completion, 2 event. -/
def Dev.ringCtl (kind r : Nat) (val : Word) (d : Dev) : Dev :=
  let off := if kind = 0 then Reg.DSC_SQ_CTL r else if kind = 1 then Reg.DSC_CQ_CTL r else Reg.DSC_EQ_CTL r
  let mask := if kind = 0 then 0x3FDF else if kind = 1 then 0xFFFF101F else 0xFFFF131F
  let old := d.rd off
  let was := bit old 12
  let new := val.toNat &&& mask
  -- SIZE, and CQ of a submission ring, keep their values while EN was 1
  let keep := if was then (if kind = 0 then 0xFDF else 0x1F) else 0
  let new := (new &&& (0xFFFFFFFF ^^^ keep)) ||| (old.toNat &&& keep)
  let en := new.testBit 12
  -- ERR stays until EN is cleared
  let new := if en && bit old 14 then setBit new 14 else new
  let d := d.wrN off new
  if en && !was then
    if kind = 0 then
      let d := ((d.wr (Reg.DSC_SQ_HEAD r) 0).wr (Reg.DSC_SQ_TAIL r) 0)
      { d with dsc := { d.dsc with retries := tabPut 0 d.dsc.retries r 0 } }
    else if kind = 1 then
      let d := ((d.wr (Reg.DSC_CQ_HEAD r) 0).wr (Reg.DSC_CQ_TAIL r) 0)
      let d := { d with dsc := { d.dsc with phase := tabPut 0 d.dsc.phase (phaseKey 0 r) 0 } }
      d.flushHeld
    else
      let d := ((d.wr (Reg.DSC_EQ_HEAD r) 0).wr (Reg.DSC_EQ_TAIL r) 0)
      { d with dsc := { d.dsc with phase := tabPut 0 d.dsc.phase (phaseKey 1 r) 0 },
               evt := { d.evt with seq := tabPut 0 d.evt.seq r 0 } }
  else d

/-- The kind and ring of a CTL offset; none when the offset is no ring CTL register (15 R459). -/
def ringOf (off : Nat) : Option (Nat × Nat) :=
  if 0xE01000 ≤ off && off < 0xE01800 && off % 32 = 8 then some (0, (off - 0xE01000) / 32)
  else if 0xE02000 ≤ off && off < 0xE02800 && off % 32 = 8 then some (1, (off - 0xE02000) / 32)
  else if 0xE02800 ≤ off && off < 0xE02900 && off % 32 = 8 then some (2, (off - 0xE02800) / 32)
  else none

/-- The CTL offset whose EN guards a base register (15 R460). -/
def baseGuard (off : Nat) : Option Nat :=
  if 0xE01000 ≤ off && off < 0xE02900 && (off % 32 = 0 || off % 32 = 4) then some (off / 32 * 32 + 8) else none

/-- Every descriptor in flight completes ABORTED in fetch order (15 R451). -/
def Dev.abortFlights (d : Dev) : Dev :=
  (d.dsc.flights).foldl (fun d f => d.finish f.desc stABORTED) d

/-- DSC.STATUS (15 R460). -/
def Dev.dscStatus (d : Dev) : Word :=
  let held := d.lnk.st = .down || d.lnk.hotPending
  word (b2n (d.b Reg.DSC_CTL 0 && !held) + b2n held * 2 + min 255 d.dsc.flights.length * 256)

end Sys2Proof.Machine
end

