-- ==== Sys2Proof/Machine/Permit.lean ====
section
/-! DEFINITION. What permits emission on the device side: the target set of the power votes, the power state, thermal
management and the claim (01 R45; 11 R318, R320; 13 R364; 16 R465, R468). -/
namespace Sys2Proof.Machine

/-- The domain of the targets of a calibration kind (09 R266). -/
def kindDomain (k : Nat) : Nat := if k = 3 then domWAVE else if k = 5 || k = 6 then domHK else domACQ

/-- The vote of client k: 0 HOST, 1 MGMT, 2 SAFETY, 3 CAL, 4 PAIR, 5 CASC (16 R465). -/
def Dev.vote (d : Dev) (k : Nat) : Nat :=
  match k with
  | 3 => (match d.prf.active with | some r => 2 ^ kindDomain r.kind | none => 0)
  | 4 => if d.straps.pairEn && d.mdv.active && !d.mdv.partnerQual then 0x58 else 0
  | 5 => if d.b Reg.MDV_CASC_CTL 12 then 0xC else 0
  | k => d.pwr.votes.getD k 0 &&& 0x1FC

/-- The union of the full votes and of the hold votes on powered domains (16 R465). -/
def Dev.voteUnion (d : Dev) : Nat :=
  let full := d.vote 0 ||| d.vote 1 ||| d.vote 2
  let hold := (d.vote 3 ||| d.vote 4 ||| d.vote 5) &&& d.pwr.domains
  full ||| hold

/-- The CRIT override of votes acts: from T2 until the latch clears (11 R318; 16 R465). -/
def Dev.critHold (d : Dev) : Bool := d.thm.critLatch && decide (3 ≤ d.thm.critPhase)

/-- The target set (16 R465): AO and SAFE always, CORE with any vote; ACQ, WAVE and SERVO removed by the CRIT
override; nothing while WAKE_FAILED holds, and nothing after a SHUT (11 R320). -/
def Dev.target (d : Dev) : Nat :=
  if d.thm.shut then 3 else
  let u := d.voteUnion
  let u := if d.critHold then u &&& 0x18C else u
  let u := if d.pwr.failed then 0 else u
  (if u = 0 then 0 else u ||| 8) ||| 3

/-- A running entry takes the domain down. -/
def Dev.leaving (d : Dev) (dom : Nat) : Bool :=
  match d.pwr.seq with
  | some (.entry m) => m.testBit dom
  | some (.reset m) => m.testBit dom
  | _ => false

/-- SERVO is quiescing before a power sequence stops it (16 R469). -/
def Dev.servoLeaving (d : Dev) : Bool := d.pwr.phase = .quiesce && d.leaving domSERVO

/-- The power state withholds emission: from the acceptance of a target set without ACQ until ACQ is powered and its
pads are released (16 R468). -/
def Dev.powerHolds (d : Dev) : Bool :=
  !d.target.testBit domACQ || d.leaving domACQ || !d.on domACQ || d.pwr.held.testBit domACQ

/-- An INVASIVE debug session or a boundary-scan instruction withholds emission (17 R494, R497). -/
def Dev.debugHolds (d : Dev) : Bool := d.sec.bscan || decide (2 ≤ d.sec.level)

/-- Thermal management permits emission (11 R318, R320). -/
def Dev.thermalOk (d : Dev) : Bool := !d.thm.critLatch && !d.thm.shut && decide (d.thm.shutNow = 0)

/-- The unit drives its shared output stages (13 R364). -/
def Dev.drives (d : Dev) : Bool := !d.straps.pairEn || d.mdv.stages

end Sys2Proof.Machine
end

