-- ==== Sys2Proof/Machine/Hatch.lean ====
section
/-! DEFINITION. Hatch, the beam-steering servo engine: control law, setpoint generator, axis states, checks and
servo tables (03). -/
namespace Sys2Proof.Machine

/-- Signed 32-bit saturation (03 R75). -/
def sat32 (v : Int) : Int := clampI (-2147483648) 2147483647 v
/-- Signed 40-bit saturation (03 R75). -/
def sat40 (v : Int) : Int := clampI (-549755813888) 549755813887 v
/-- Signed 48-bit saturation (03 R77). -/
def sat48 (v : Int) : Int := clampI (-140737488355328) 140737488355327 v

/-- DT units in a servo sample (03 R73). -/
def sampleDT : Nat := 2560000

/-- One axis. -/
def Dev.ax (d : Dev) (a : Nat) : Axis := tabGet {} d.hch.axes a

/-- Store an axis. -/
def Dev.setAx (d : Dev) (a : Nat) (x : Axis) : Dev := { d with hch := { d.hch with axes := tabPut {} d.hch.axes a x } }

/-- Change an axis. -/
def Dev.modAx (d : Dev) (a : Nat) (f : Axis → Axis) : Dev := d.setAx a (f (d.ax a))

/-- Axis limits of the setpoint generator: V_MAX, A_MAX, J_MAX in Q16.16, SP_LIM in codes (03 R83-R88). -/
structure Limits where
  v : Nat
  a : Nat
  j : Nat
  lo : Int
  hi : Int
  deriving DecidableEq, Repr

/-- The limits in force of an axis. -/
def Dev.limits (d : Dev) (a : Nat) : Limits :=
  { v := (d.rd (Reg.HCH_V_MAX a)).toNat, a := (d.rd (Reg.HCH_A_MAX a)).toNat, j := (d.rd (Reg.HCH_J_MAX a)).toNat,
    lo := sfld (d.rd (Reg.HCH_SP_LIM a)) 15 0, hi := sfld (d.rd (Reg.HCH_SP_LIM a)) 31 16 }

/-- Duration of a turnaround between rest and velocity v (Q16.16), in 2^-16 samples (03 R84): v / A + A / J when
v >= A^2 / J, and 2 sqrt(v / J) otherwise. -/
def turnTime (l : Limits) (v : Nat) : Nat :=
  if l.a = 0 || l.j = 0 then 0
  else if l.a * l.a ≤ v * l.j then v * 65536 / l.a + l.a * 65536 / l.j
  else 2 * isqrt (v * 4294967296 / l.j)

/-- Least v below 2^n for which a monotone test holds, by bisection; 2^n when none does. -/
def leastGo (p : Nat → Bool) : Nat → Nat → Nat
  | 0, lo => if p lo then lo else lo + 1
  | b + 1, lo => if p (lo + 2 ^ b - 1) then leastGo p b lo else leastGo p b (lo + 2 ^ b)

/-- vlin of a half-cycle of `th` samples over `dist` codes (03 R84): the smallest velocity with tc >= 0 and
v (ta + tc) = D; none when there is none. -/
def vLin (l : Limits) (th dist : Nat) : Option Nat :=
  let t16 := th * 65536
  let feas := fun v => decide (2 * turnTime l v ≤ t16)
  let v := leastGo (fun v => !feas v || decide (dist * 4294967296 ≤ v * (t16 - turnTime l v))) 32 0
  if l.a = 0 || l.j = 0 then none
  else if v < 4294967296 && feas v && decide (dist * 4294967296 ≤ v * (t16 - turnTime l v)) then some v else none

/-- Position, velocity and acceleration of a piece after `t` (2^-16 samples), 32 fraction bits. -/
def Piece.evalAt (p : Piece) (t : Nat) : Int × Int × Int :=
  let t : Int := t
  (p.p + p.v * t / 65536 + p.a * t * t / (2 * 4294967296) + p.j * t * t * t / (6 * 281474976710656),
   p.v + p.a * t / 65536 + p.j * t * t / (2 * 4294967296),
   p.a + p.j * t / 65536)

/-- A piece that rests at p (32 fraction bits) for `dur`. -/
def restPiece (p : Int) (dur seg : Nat) : Piece := { dur := dur, p := p, v := 0, a := 0, j := 0, seg := seg }

/-- Jerk stretches of a ramp from velocity v0 by `dv` (signed, Q16.16), starting at p0: shape of R84. -/
def rampPieces (l : Limits) (p0 v0 : Int) (dv : Int) (seg : Nat) : List Piece :=
  let v := dv.natAbs
  let s : Int := if dv < 0 then -1 else 1
  let j32 : Int := s * (l.j * 65536)
  let a32 : Int := s * (l.a * 65536)
  if v = 0 || l.a = 0 || l.j = 0 then []
  else if l.a * l.a ≤ v * l.j then
    let t1 := l.a * 65536 / l.j
    let t2 := v * 65536 / l.a - t1
    let p1 : Piece := { dur := t1, p := p0, v := v0, a := 0, j := j32, seg := seg }
    let e1 := p1.evalAt t1
    let p2 : Piece := { dur := t2, p := e1.1, v := e1.2.1, a := a32, j := 0, seg := seg }
    let e2 := p2.evalAt t2
    let p3 : Piece := { dur := t1, p := e2.1, v := e2.2.1, a := a32, j := -j32, seg := seg }
    [p1, p2, p3]
  else
    let t1 := isqrt (v * 4294967296 / l.j)
    let p1 : Piece := { dur := t1, p := p0, v := v0, a := 0, j := j32, seg := seg }
    let e1 := p1.evalAt t1
    let p2 : Piece := { dur := t1, p := e1.1, v := e1.2.1, a := e1.2.2, j := -j32, seg := seg }
    [p1, p2]

/-- Position after a list of pieces that starts at p0. -/
def endPos (p0 : Int) (ps : List Piece) : Int :=
  match ps.getLast? with
  | some p => (p.evalAt p.dur).1
  | none => p0

/-- Total duration, 2^-16 samples. -/
def piecesTime (ps : List Piece) : Nat := (ps.map Piece.dur).sum

/-- A stretch from rest at p0 (32 fraction bits) to rest `dist` (signed, 32 fraction bits) away: ramp up to speed v
(Q16.16), cruise for `tc`, ramp down. -/
def strokePieces (l : Limits) (p0 dist : Int) (v tc : Nat) (segUp segMid segDown : Nat) : List Piece :=
  let s : Int := if dist < 0 then -1 else 1
  let v32 : Int := s * (v * 65536)
  let up := rampPieces l p0 0 (s * v) segUp
  let p1 := endPos p0 up
  let mid : Piece := { dur := tc, p := p1, v := v32, a := 0, j := 0, seg := segMid }
  let p2 := (mid.evalAt tc).1
  up ++ [mid] ++ rampPieces l p2 v32 (-(s * v)) segDown

/-- A point-to-point move over `dist` codes with 32 fraction bits: the least time the limits allow (03 R83, R84). -/
def movePieces (l : Limits) (p0 dist : Int) (seg : Nat) : List Piece :=
  let n := dist.natAbs
  if n = 0 || l.v = 0 || l.a = 0 || l.j = 0 then []
  else
    -- the largest peak velocity whose ramps fit in the distance
    let v := min l.v (leastGo (fun v => decide (n < (v + 1) * turnTime l (v + 1))) 32 0)
    let left := n - v * turnTime l v
    let tc := if v = 0 then 0 else left / v
    strokePieces l p0 dist v tc seg seg seg

/-- Duration of a point-to-point move of `n` codes in samples, rounded up. -/
def moveTime (l : Limits) (n : Nat) : Nat := (piecesTime (movePieces l 0 (n * 4294967296) 0) + 65535) / 65536

/-- Profile settings of an axis (03 R83). -/
structure Prof where
  typ : Nat
  k : Nat
  lo : Int
  hi : Int
  np : Nat
  nf : Nat
  step : Int
  deriving DecidableEq, Repr

/-- The profile in force. -/
def Dev.prof (d : Dev) (a : Nat) : Prof :=
  { typ := d.f (Reg.HCH_PROF_CTL a) 1 0, k := d.f (Reg.HCH_PROF_CTL a) 15 8,
    lo := sfld (d.rd (Reg.HCH_PROF_LOHI a)) 15 0, hi := sfld (d.rd (Reg.HCH_PROF_LOHI a)) 31 16,
    np := d.f (Reg.HCH_PROF_PERIOD a) 23 0, nf := d.f (Reg.HCH_PROF_AUX a) 15 0,
    step := sfld (d.rd (Reg.HCH_PROF_AUX a)) 31 16 }

/-- Half-cycle of a triangle or ramp of a sawtooth, in samples. -/
def Prof.half (p : Prof) : Nat := if p.typ = 2 then p.np - p.nf else p.np / 2

/-- vlin of the profile in force (03 R84). -/
def Dev.vlin (d : Dev) (a : Nat) : Nat :=
  let p := d.prof a
  if p.typ = 1 || p.typ = 2 then (vLin (d.limits a) p.half (p.hi - p.lo).toNat).getD 0 else 0

/-- A code as a position with 32 fraction bits. -/
def code32 (c : Int) : Int := c * 4294967296

/-- Pieces of one cycle of the profile from rest at LO; for raster-step, one rest and the move that follows it
(03 R83, R89). -/
def cyclePieces (l : Limits) (p : Prof) (raster : Nat) : List Piece :=
  let d := p.hi - p.lo
  if p.typ = 0 then [restPiece (code32 p.lo) 65536 0]
  else if p.typ = 1 then
    let v := (vLin l p.half d.toNat).getD 0
    let tc := p.half * 65536 - 2 * turnTime l v
    strokePieces l (code32 p.lo) (code32 d) v tc 3 0 2 ++ strokePieces l (code32 p.hi) (code32 (-d)) v tc 2 1 3
  else if p.typ = 2 then
    let v := (vLin l p.half d.toNat).getD 0
    let tc := p.half * 65536 - 2 * turnTime l v
    let up := strokePieces l (code32 p.lo) (code32 d) v tc 3 0 2
    let back := movePieces l (code32 p.hi) (code32 (-d)) 1
    up ++ back ++ [restPiece (code32 p.lo) (p.np * 65536 - piecesTime (up ++ back)) 3]
  else
    let pos := p.lo + p.step * raster
    let nxt := pos + p.step
    let tgt := if p.lo ≤ nxt && nxt ≤ p.hi then nxt else p.lo
    restPiece (code32 pos) (p.np * 65536) 0 :: movePieces l (code32 pos) (code32 (tgt - pos)) 1

/-- The stretch that takes an acceleration to zero at the jerk limit; none at rest. -/
def settlePieces (l : Limits) (p0 v0 a0 : Int) (seg : Nat) : List Piece :=
  if a0 = 0 || l.j = 0 then []
  else
    let j32 : Int := l.j * 65536
    [{ dur := a0.natAbs * 65536 / (l.j * 65536), p := p0, v := v0, a := a0, j := if 0 < a0 then -j32 else j32, seg := seg }]

/-- A joining or park move from the present setpoint: brake from the present velocity and acceleration to rest, then a
point-to-point move to `target` codes (03 R87). R84 gives braking from a velocity alone; an acceleration is first taken to
zero at the jerk limit: DESIGN CHOICE (log 25). -/
def joinPieces (l : Limits) (x : Axis) (target : Int) : List Piece :=
  let settle := settlePieces l (x.r * 65536) (x.v * 65536) (x.a * 65536) 4
  let (p0, v0) := match settle.getLast? with
    | some q => ((q.evalAt q.dur).1, (q.evalAt q.dur).2.1 / 65536)
    | none => (x.r * 65536, x.v)
  let brake := rampPieces l p0 (v0 * 65536) (-v0) 4
  let p1 := endPos p0 brake
  settle ++ brake ++ movePieces l p1 (code32 target - p1) 4

/-- Start a joining move toward `target` at an instant. -/
def Axis.join (x : Axis) (l : Limits) (target : Int) (t : Time) : Axis :=
  { x with pieces := joinPieces l x target, start := t, joining := true, cycles := 0, late := 0, raster := 0,
           rest := target * 65536, seg := 4 }

/-- Elapsed 2^-16 samples since an instant. -/
def elapsed (start t : Time) : Nat := (t - start) * 65536 / sampleDT

/-- The DT span of a duration in 2^-16 samples. -/
def durDT (n : Nat) : Nat := n * sampleDT / 65536

/-- The piece in force at an elapsed time, and the time within it. -/
def pieceAt : List Piece → Nat → Option (Piece × Nat)
  | [], _ => none
  | p :: ps, t => if t < p.dur then some (p, t) else pieceAt ps (t - p.dur)

/-- Move the generator on to an instant: finished motions give way to the next cycle, the profile, or rest
(03 R86, R87). `fuel` bounds the motions that can end between two samples. -/
def advanceGen (l : Limits) (p : Prof) (run : Bool) (t : Time) : Nat → Axis → Axis
  | 0, x => x
  | fuel + 1, x =>
    match pieceAt x.pieces (elapsed x.start t) with
    | some (q, u) =>
      let e := q.evalAt u
      { x with r := e.1 / 65536, v := e.2.1 / 65536, a := e.2.2 / 65536, seg := q.seg }
    | none =>
      if x.pieces.isEmpty && !(x.joining && run) then { x with r := x.rest, v := 0, a := 0 }
      else
        let ended := x.start + durDT (piecesTime x.pieces)
        if !run then { x with pieces := [], joining := false, r := x.rest, v := 0, a := 0 }
        else
          -- raster positions run on until the last one has been visited
          let nxt := p.lo + p.step * (x.raster + 1)
          let more := p.typ = 3 && !x.joining && p.lo ≤ nxt && nxt ≤ p.hi
          let x1 := { x with joining := false, rest := p.lo * 65536, start := ended,
                             raster := if more then x.raster + 1 else 0 }
          if more then advanceGen l p run t fuel { x1 with pieces := cyclePieces l p (x.raster + 1) }
          else if p.k = 0 then advanceGen l p run t fuel { x1 with pieces := cyclePieces l p 0 }
          else if x.joining then { x1 with pieces := [], cycles := 0, r := p.lo * 65536, v := 0, a := 0, seg := 5 }
          else if 1 < x.cycles then
            advanceGen l p run t fuel { x1 with pieces := cyclePieces l p 0, cycles := x.cycles - 1 }
          else if 0 < x.late then
            advanceGen l p run t fuel { x1 with pieces := cyclePieces l p 0, cycles := x.late, late := 0 }
          else { x1 with pieces := [], cycles := 0, r := p.lo * 65536, v := 0, a := 0, seg := 5 }

/-- Scheduling thresholds TH1-TH7 (03 R81). -/
def Dev.thresholds (d : Dev) (a : Nat) : List Int :=
  (List.range 7).map fun j =>
    let w := d.rd (Reg.HCH_SCHED_TH a (j / 2))
    if j % 2 = 0 then sfld w 15 0 else sfld w 31 16

/-- Region of the position band, with hysteresis about the region in force (03 R81). -/
def bandRegion (th : List Int) (hyst : Int) (y : Int) (cur : Nat) : Nat :=
  let up := (List.range 7).foldl (fun r j => if r = j && th.getD j 0 + hyst ≤ y then j + 1 else r) cur
  ((List.range 7).reverse).foldl (fun r j => if r = j + 1 && y < th.getD j 0 - hyst then j else r) up

/-- The region that SCHED_CTL selects (03 R81). -/
def Dev.regionWanted (d : Dev) (a : Nat) (x : Axis) : Nat :=
  let c := d.rd (Reg.HCH_SCHED_CTL a)
  let vz : Int := fld c 31 16 * 256
  match fld c 1 0 with
  | 0 => 0
  | 1 => bandRegion (d.thresholds a) (fld c 15 4) x.y x.region
  | 2 => if vz < x.v then 0 else if x.v < -vz then 1 else 2
  | _ => x.seg

/-- Coefficients of the region in force: KP, KI, KD, KFF, GT_SEL (03 R78, R97). -/
def Dev.coef (d : Dev) (a r : Nat) : Int × Int × Int × Int × Nat :=
  let g := fun w => d.rd (Reg.HCH_REGION a r w)
  (toSigned 24 (g 0).toNat, toSigned 24 (g 1).toNat, toSigned 24 (g 2).toNat, (g 3).toInt, fld (g 4) 0 0)

/-- Gain K(e) in units of 2^-23 from a gain table (03 R75 step 2). -/
def Dev.gain (d : Dev) (a sel : Nat) (e : Int) : Int :=
  let u := (e + 32768).toNat
  let i := min 31 (u / 2048)
  let k := fun n => ((if sel = 0 then d.rd (Reg.HCH_GT0 a n) else d.rd (Reg.HCH_GT1 a n)).toNat % 65536 : Nat)
  (k i : Int) * 2048 + ((k (i + 1) : Int) - k i) * ((u : Int) - 2048 * i)

/-- Shaped error ep = round(K(e) e) (03 R75 step 2). -/
def Dev.shaped (d : Dev) (a sel : Nat) (e : Int) : Int := sat32 (roundDiv (d.gain a sel e * e) 8388608)

/-- KI contribution of an integrator value, limited to I_LIM (03 R75 step 3). -/
def contribution (ki sigma : Int) (lim : Nat) : Int := clampI (-(lim : Int)) lim (roundDiv (ki * sigma) 16777216)

/-- One biquad (03 R77). -/
def biquad (c : Nat → Int) (x : Int) (s : Biq) : Int × Biq :=
  let acc := sat48 (c 0 * x + c 1 * s.x1 + c 2 * s.x2 - c 3 * s.y1 - c 4 * s.y2)
  let y := sat32 (roundDiv acc 4194304)
  (y, { x1 := x, x2 := s.x1, y1 := y, y2 := s.y1 })

/-- Coefficient c of biquad q in force; the registers default to pass-through (03 R77). -/
def Dev.biqCoef (d : Dev) (a q c : Nat) : Int :=
  toSigned 24 (d.rd (Reg.HCH_BIQ a q c)).toNat

/-- Bumpless change of the integrator when KI changes from `k0` to `k1` (03 R82). -/
def bumpless (k0 k1 sigma ih : Int) : Int × Int :=
  if k1 = 0 then (sigma, if k0 = 0 then ih else roundDiv (k0 * sigma) 16777216)
  else if k0 = 0 then (sat40 (if k1 < 0 then roundDiv (-(ih * 16777216)) k1.natAbs else roundDiv (ih * 16777216) k1.natAbs), 0)
  else (sat40 (if k1 < 0 then roundDiv (-(sigma * k0)) k1.natAbs else roundDiv (sigma * k0) k1.natAbs), 0)

/-- Put a servo table's values in force (03 R79, R97). -/
def Dev.putServo (a : Nat) (bs : List Byte) (d : Dev) : Dev :=
  let d := forN 8 (fun r d => forN 5 (fun w d =>
    d.wrN (Reg.HCH_REGION a r w) (if w = 4 then leAt bs (8 + 32 * r + 16) 1 else leAt bs (8 + 32 * r + 4 * w) 4)) d) d
  let d := forN 3 (fun q d => forN 5 (fun c d => d.wrN (Reg.HCH_BIQ a q c) (leAt bs (264 + 20 * q + 4 * c) 4)) d) d
  let d := d.wrN (Reg.HCH_I_LIM a) (leAt bs 324 4)
  forN 33 (fun i d => (d.wrN (Reg.HCH_GT0 a i) (leAt bs (328 + 2 * i) 2)).wrN (Reg.HCH_GT1 a i) (leAt bs (394 + 2 * i) 2)) d

/-- Take up region r, and the shadow table with it when its swap is due: one bumpless change from the coefficients in
force to the new ones (03 R80, R82). -/
def Dev.takeUp (a r : Nat) (x : Axis) (d : Dev) : Axis × Dev :=
  let k0 := (d.coef a x.region).2.1
  let swap := if x.swapDue then x.shadow else none
  let d := match swap with
    | some bs => (d.putServo a bs).raise Ev.HCH_TABLE_SWAP
    | none => d
  let c1 := d.coef a r
  let b := bumpless k0 c1.2.1 x.sigma x.ih
  let x := { x with region := r, sigma := b.1, ih := b.2, epPrev := d.shaped a c1.2.2.2.2 x.ePrev }
  (if swap.isSome then { x with shadow := none, shadowAge := 0, swapDue := false, tblOk := true } else x, d)

/-- Change the region in force of an axis at a sample, before its control law (03 R81, R82). With SWAP_MODE = 0 it makes
the swap of a pending servo table due (03 R80). -/
def Dev.setRegion (a r : Nat) (x : Axis) (d : Dev) : Axis × Dev :=
  let due := x.shadow.isSome && !d.b Reg.HCH_TABLE_CTL 0
  d.takeUp a r { x with regionHeld := 0, swapDue := x.swapDue || due }

/-- The control law of one sample (03 R75, R76). -/
def Dev.control (d : Dev) (a : Nat) (x : Axis) : Axis :=
  let (kp, ki, kd, kff, sel) := d.coef a x.region
  let ilim := d.f (Reg.HCH_I_LIM a) 14 0
  let e := clampI (-32768) 32767 (roundDiv x.r 65536 - x.y)
  let ep := d.shaped a sel e
  let up := sat32 (roundDiv (kp * ep) 65536)
  let ud := sat32 (roundDiv (kd * (ep - x.epPrev)) 65536)
  let s1 := sat40 (x.sigma + ep)
  let raw := (roundDiv (ki * s1) 16777216).natAbs
  let hold := (x.clampSign ≠ 0 && decide (0 < ep * x.clampSign)) || decide (ilim < raw)
  let sigma := if hold then x.sigma else s1
  let i := if ki = 0 then x.ih else contribution ki sigma ilim
  let uff := sat32 (roundDiv (kff * x.a) 4294967296)
  let u0 := sat32 (up + ud + i + uff)
  let b0 := biquad (d.biqCoef a 0) u0 (x.biq.getD 0 {})
  let b1 := biquad (d.biqCoef a 1) b0.1 (x.biq.getD 1 {})
  let b2 := biquad (d.biqCoef a 2) b1.1 (x.biq.getD 2 {})
  let lim : Int := d.f (Reg.HCH_DRV_LIM a) 14 0
  let u := clampI (-lim) lim b2.1
  { x with e := e, ePrev := e, epPrev := ep, sigma := sigma, integ := i, drive := u,
           clampSign := if u < b2.1 then 1 else if b2.1 < u then -1 else 0,
           biq := [b0.2, b1.2, b2.2] }

/-- Move a drive word toward a target by PARK_SLEW codes (03 R90). -/
def slewTo (drive target : Int) (slew : Nat) : Int :=
  if drive < target then min target (drive + slew) else max target (drive - slew)

/-- The excitation current set, with the cap of the energy-limited profile (03 R72). -/
def Dev.exLevel (d : Dev) (a : Nat) : Nat :=
  let lvl := d.f (Reg.HCH_EX_CTL a) 11 2
  if d.b Reg.HKP_EL_CTL 0 then min lvl 102 else lvl

/-- Feedback of a sample is bad (03 R91). -/
def Dev.fbBad (d : Dev) (a : Nat) (p : PfIn) : Bool :=
  let c := d.rd (Reg.HCH_FB_CHK a)
  let lvl := d.exLevel a
  let off := if lvl < p.exRead then p.exRead - lvl else lvl - p.exRead
  [p.x0, p.x1, p.x2, p.x3, p.x4].any (fun v => v = -32768 || v = 32767)
  || (bit c 9 && !p.cmOk) || (bit c 8 && decide (lvl < 4 * off))

/-- Measured position (03 R74). -/
def Dev.measure (d : Dev) (a : Nat) (p : PfIn) : Int :=
  if d.b (Reg.HCH_EX_CTL a) 0 then roundDiv (p.x0 + p.x1 + p.x2 + p.x3) 4
  else
    let y := roundDiv (p.x0 - p.x1 + p.x2 - p.x3) 4
    if d.b (Reg.HCH_EX_CTL a) 1 then -y else y

/-- Counts of the feedback, freeze and tracking checks after a sample (03 R91, R92, R96). The position that a freeze is
judged against is the one FRZ_N samples before; where no sample reaches so far back, the sample does not count. -/
def Dev.axisChecks (d : Dev) (a : Nat) (p : PfIn) (x : Axis) : Axis :=
  if !x.exOn then x
  else
    let m := d.f (Reg.HCH_FRZ_CTL a) 23 16
    let delta := d.f (Reg.HCH_FRZ_CTL a) 15 0
    let vmin := (d.rd (Reg.HCH_FRZ_VMIN a)).toNat
    let fast := x.st = .run && decide (vmin ≤ x.v.natAbs)
    let still := match x.hist[m - 1]? with
      | some y0 => fast && 0 < m && decide ((x.y - y0).natAbs < delta)
      | none => false
    let errMax := d.f (Reg.HCH_ERR_CTL a) 15 0
    { x with
      fbRun := if d.fbBad a p then x.fbRun + 1 else 0,
      frzRun := if still then x.frzRun + 1 else 0,
      errRun := if x.st = .run && decide (errMax < x.e.natAbs) then x.errRun + 1 else 0 }

/-! ## Axis states (R90-R92, R94) -/

/-- Enter OPEN_PARK (03 R90). An axis that already ramps its drive to 0 there goes on doing so (log 108). -/
def Axis.openPark (x : Axis) : Axis := { x with st := .openPark, samples := 0, pieces := [], joining := false, v := 0, a := 0 }

/-- Enter PARKING with a joining move to PARK_POS (03 R90). -/
def Dev.toParking (d : Dev) (a : Nat) (x : Axis) : Axis :=
  let pos := sfld (d.rd (Reg.HCH_PARK a)) 15 0
  { (x.join (d.limits a) pos d.now) with st := .parking, samples := 0 }

/-- Enter RUN with a joining move to the profile (03 R87, R90). -/
def Dev.toRun (d : Dev) (a : Nat) (x : Axis) : Axis :=
  { (x.join (d.limits a) (d.prof a).lo d.now) with st := .run, samples := 0, frzRun := 0, errRun := 0 }

/-- A latched fault bit (03 R90). -/
def Axis.latched (x : Axis) : Bool := x.fbLoss || x.freeze || x.trackErr

/-- ENGAGE is taken: a table is in force, the profile check has passed and no fault is latched (03 R90). -/
def Axis.mayEngage (x : Axis) : Bool := x.tblOk && x.profOk && !x.latched

/-- The axis goes to DISABLED by a ramp of its drive to 0 (03 R90, R94). While the drive ramps the axis stands in
OPEN_PARK, the state with an open loop and excitation: DESIGN CHOICE (log 108). `clear`: the latched faults clear at the
end of it. -/
def Axis.off (clear : Bool) (x : Axis) : Axis :=
  { x.openPark with ramp := true, rampClr := x.rampClr || clear, cmdIgn := false }

/-- The end of the ramp: excitation off, DISABLED, and the latched fault bits cleared when CLEAR or DISABLE asked for it
(03 R90). -/
def Axis.offDone (x : Axis) : Axis :=
  if !x.ramp || x.drive ≠ 0 then x
  else
    let keep := !x.rampClr
    { x with st := .disabled, samples := 0, exOn := false, ramp := false, rampClr := false,
             fbLoss := x.fbLoss && keep, freeze := x.freeze && keep, trackErr := x.trackErr && keep,
             parkTimeout := x.parkTimeout && keep }

/-- A command of AX_CMD acts (03 R90). ENGAGE without a table, without a passed profile check or with a latched fault sets
CMD_IGN, and a command that changes the state clears it. PARK, CLEAR and ENGAGE in a state that they do not leave change
nothing, CMD_IGN included: DESIGN CHOICE (log 109). -/
def Dev.axisDo (a : Nat) (d : Dev) (x : Axis) : AxCmd → Axis
  | .engage =>
    if !x.mayEngage then { x with cmdIgn := true }
    else match x.st with
      | .disabled => { x with st := .engaging, samples := 0, exOn := true, drive := 0, fbRun := 0, cmdIgn := false }
      | .parked => { (d.toRun a x) with cmdIgn := false }
      | _ => x
  | .park => if x.st = .run then { (d.toParking a x) with cmdIgn := false } else x
  | .disable => x.off true
  | .clear => if x.st = .openPark then x.off true else x

/-- What an axis of a quiescing SERVO does: one in RUN parks, and the others ramp their drive to 0 (03 R94). R94 names RUN
and PARKED; an axis in ENGAGING or OPEN_PARK is turned off by the same ramp: DESIGN CHOICE (log 109). -/
def Dev.axisQuiesce (a : Nat) (d : Dev) (x : Axis) : Axis :=
  match x.st with
  | .run => d.toParking a x
  | .parking => x
  | .disabled => x
  | _ => x.off false

/-- The state that a detection of the last sample enters (03 R91, R92). -/
def Dev.axisTrip (a : Nat) (d : Dev) (x : Axis) : Axis :=
  let y := { x with trip := none }
  match x.trip with
  | some .toOpen => if x.exOn then y.openPark else y
  | some .toPark => if x.st = .run then d.toParking a y else y
  | none => y

/-- Changes of state at a servo-sample boundary (03 R90, R97): a detection first, then the commands in order of arrival,
then the quiesce of the domain, then the end of a ramp. The order is the model's: DESIGN CHOICE (log 108). -/
def Dev.axisBoundary (a : Nat) (d : Dev) (x : Axis) : Axis :=
  let x := d.axisTrip a x
  let x := x.cmds.foldl (d.axisDo a) { x with cmds := [] }
  (if d.servoLeaving then d.axisQuiesce a x else x).offDone

/-- A closed-loop state (03 R90). -/
def Axis.closed (x : Axis) : Bool := x.st = .run || x.st = .parking || x.st = .parked

/-- The setpoint never leaves SP_LIM: where a motion would carry it past a limit, it stops there with zero velocity and
acceleration, and a move to its target follows (03 R88). `r0` is the setpoint of the sample before. -/
def Dev.spClamp (a : Nat) (t : Time) (r0 : Int) (d : Dev) (x : Axis) : Axis × Bool :=
  let l := d.limits a
  let ovr := x.closed && (decide (l.hi * 65536 < x.r) || decide (x.r < l.lo * 65536))
  let lim := if l.hi * 65536 < r0 || l.hi * 65536 < x.r then l.hi else l.lo
  let tgt := if x.st = .run then (d.prof a).lo else sfld (d.rd (Reg.HCH_PARK a)) 15 0
  if ovr then
    ({ x with r := lim * 65536, v := 0, a := 0,
              pieces := movePieces l (code32 lim) (code32 (tgt - lim)) 4, start := t, joining := true,
              rest := tgt * 65536 }, true)
  else (x, false)

/-- The drive word of a sample: the tracked word after a handover (R96), the control law, the slew of OPEN_PARK, or 0
(R75, R90). A word that the control law did not form counts as not clamped (R76). -/
def Dev.axisDrive (a : Nat) (d : Dev) (x : Axis) : Axis :=
  let slew := d.f (Reg.HCH_PARK_SLEW a) 14 0
  if x.st = .disabled then { x with drive := 0, clampSign := 0 }
  else if 0 < x.tracked then { x with drive := x.activeDrive, clampSign := 0 }
  else if x.closed then d.control a x
  else if x.st = .openPark then
    { x with drive := slewTo x.drive (if x.ramp then 0 else sfld (d.rd (Reg.HCH_PARK a)) 31 16) slew, clampSign := 0 }
  else { x with drive := 0, clampSign := 0 }

/-- One axis in a servo sample at instant t (03 R73, R75, R81-R91, R95, R96). -/
def Dev.axisSample (a : Nat) (p : PfIn) (t : Time) (d : Dev) : Dev :=
  let d := (d.wr (Reg.HCH_DRIVE a) (wordI (d.ax a).drive)).wrN (Reg.HCH_EX_READ a) p.exRead
  let x := d.axisBoundary a (d.ax a)
  let x := { x with y := d.measure a p, samples := x.samples + 1, regionHeld := x.regionHeld + 1 }
  let r0 := x.r
  let x := if x.closed then advanceGen (d.limits a) (d.prof a) (x.st = .run) t 4 x else x
  let c := d.spClamp a t r0 x
  let d := d.raiseIf c.2 Ev.HCH_SP_CLAMP
  let x := c.1
  -- region changes and due swaps come before the control law (R82)
  let want := d.regionWanted a x
  let u := if x.closed && want ≠ x.region && 4 ≤ x.regionHeld then d.setRegion a want x else d.takeUp a x.region x
  let d := u.2
  let x := d.axisDrive a u.1
  -- the two samples after a handover are not checked (R96)
  let x := if 0 < x.tracked then x else d.axisChecks a p x
  let x := { x with tracked := x.tracked - 1, hist := (x.y :: x.hist).take 255 }
  -- arrival at PARK_POS (R90)
  let errMax := d.f (Reg.HCH_ERR_CTL a) 15 0
  let x := if x.st = .parking && x.pieces.isEmpty && decide (x.e.natAbs ≤ errMax) then
      { x with st := .parked, samples := 0, joining := false } else x
  let d := d.setAx a x
  ((((d.wr (Reg.HCH_POS a) (wordI x.y)).wr (Reg.HCH_SETPOINT a) (wordI x.r)).wr (Reg.HCH_ERR a) (wordI x.e)).wr
    (Reg.HCH_INTEG a) (wordI x.integ)).wrN (Reg.HCH_V_LIN a) (d.vlin a)

/-- SERVO_SAMPLE: sample n of every axis (03 R73). -/
def Dev.servoSample (n : Nat) (xs : List PfIn) (d : Dev) : Dev :=
  if !d.on domSERVO || !d.tim.started || d.pwr.dtFrozen then d
  else
    let t := n * sampleDT
    let d := d.at t
    let d := { d with hch := { d.hch with sample := n } }.wrN Reg.HCH_SAMPLE_NUM n
    xs.zipIdx.foldl (fun d p => if p.2 < 8 then d.axisSample p.2 p.1 t else d) d

/-- A command of AX_CMD arrives: it acts at the next servo sample (03 R97). -/
def Dev.axCmd (a : Nat) (c : AxCmd) (d : Dev) : Dev :=
  if d.on domSERVO then d.modAx a (fun x => { x with cmds := x.cmds ++ [c] }) else d

/-- ENGAGE_COMPLETE: after 80 samples in ENGAGING (03 R90). The rule's "if feedback checks pass" is read as: the last
sample was good and no feedback loss is latched, so that one bad last sample leads to OPEN_PARK without a latched fault:
DESIGN CHOICE (log 109). On entry to RUN the rule sets r, the velocity, the acceleration and the integrator; the derivative
term's last error, the biquad histories and a held contribution stay those of the last closed loop: DESIGN CHOICE
(log 109). -/
def Dev.engageComplete (a : Nat) (d : Dev) : Dev :=
  let x := d.ax a
  if x.st = .engaging && 80 ≤ x.samples then
    if x.fbRun = 0 && !x.fbLoss then
      d.setAx a (d.toRun a { x with r := x.y * 65536, v := 0, a := 0, sigma := 0 })
    else d.setAx a x.openPark
  else d

/-- PARK_TIMEOUT: PARKING lasts 800 samples without arrival (03 R90). -/
def Dev.parkTimeout (a : Nat) (d : Dev) : Dev :=
  let x := d.ax a
  if x.st = .parking && 800 ≤ x.samples then d.setAx a { x.openPark with parkTimeout := true } else d

/-- HCH_FB_LOSS: FB_N consecutive bad samples; OPEN_PARK is entered at the next sample (03 R91). -/
def Dev.fbLoss (a : Nat) (d : Dev) : Dev :=
  let x := d.ax a
  if x.exOn && 0 < x.fbRun && d.f (Reg.HCH_FB_CHK a) 7 0 ≤ x.fbRun then
    (d.setAx a { x with fbLoss := true, fbRun := 0, trip := some .toOpen }).raise (Ev.HCH_FB_LOSS a)
  else d

/-- PARKING is entered at the next sample, unless a feedback loss leads to OPEN_PARK there (03 R90, R92). -/
def Axis.tripPark (x : Axis) : Axis := { x with trip := if x.trip = some .toOpen then x.trip else some .toPark }

/-- HCH_FREEZE: the position has not moved by FRZ_DELTA over FRZ_N samples, in each of FRZ_N samples at speed (03 R92). -/
def Dev.freezeAxis (a : Nat) (d : Dev) : Dev :=
  let x := d.ax a
  let m := d.f (Reg.HCH_FRZ_CTL a) 23 16
  if x.st = .run && 0 < m && m ≤ x.frzRun then
    (d.setAx a { x.tripPark with freeze := true, frzRun := 0 }).raise (Ev.HCH_FREEZE a)
  else d

/-- HCH_TRACK_ERR: the error exceeds ERR_MAX for ERR_N samples (03 R92). -/
def Dev.trackErr (a : Nat) (d : Dev) : Dev :=
  let x := d.ax a
  let n := d.f (Reg.HCH_ERR_CTL a) 23 16
  if x.st = .run && 0 < x.errRun && n ≤ x.errRun then
    (d.setAx a { x.tripPark with trackErr := true, errRun := 0 }).raise (Ev.HCH_TRACK_ERR a)
  else d

/-- The drive and excitation outputs are driven: SERVO is on with its pads released, the unit holds the claim, and no boundary
instruction is loaded (03 R95; 13 R364; 17 R497; 18 R525). -/
def Dev.servoDriven (d : Dev) : Bool := d.on domSERVO && !d.pwr.held.testBit domSERVO && d.drives && !d.sec.bscan

/-- The drive output of an axis: the word in force, or high impedance (03 R71, R95). -/
def Dev.mdOut (d : Dev) (a : Nat) : Option Int :=
  if d.servoDriven then some (d.rd (Reg.HCH_DRIVE a)).toInt else none

/-- The excitation output of an axis: its current code, 0 while excitation is off, or high impedance (03 R71, R72, R95;
10 R300). -/
def Dev.exOut (d : Dev) (a : Nat) : Option Nat :=
  if d.servoDriven then some (if (d.ax a).exOn then d.exLevel a else 0) else none

/-- A servo table's own checks: length, magic, axis, reserved bytes, GT_SEL, CRC (03 R79, R80). -/
def servoTableOk (bs : List Byte) : Bool :=
  let z := fun lo n => ((bs.drop lo).take n).all (fun b => b = 0)
  bs.length = 512 && leAt bs 0 4 = 0x48435401 && leAt bs 4 1 < 8 && z 5 3
  && (List.range 8).all (fun r => leAt bs (8 + 32 * r + 16) 1 ≤ 1 && z (8 + 32 * r + 17) 15)
  && z 460 48 && crcOk bs

/-- A servo table arrives (03 R79, R80): accepted into the shadow bank of its axis, or rejected. -/
def Dev.loadServo (bs : List Byte) (d : Dev) : Bool × Dev :=
  let a := leAt bs 4 1
  if servoTableOk bs then
    (true, (d.modAx a (fun x => { x with shadow := some bs, shadowAge := 0, swapDue := false })).setB Reg.HCH_TABLE_STATUS (8 + a) false)
  else
    let d := if a < 8 then d.setB Reg.HCH_TABLE_STATUS (8 + a) true else d
    (false, d.raise Ev.HCH_TABLE_REJECT)

/-- HCH_TABLE_SWAP: the shadow table comes into force, bumpless in the integral term (03 R80, R82). -/
def Dev.tableSwap (a : Nat) (d : Dev) : Dev :=
  let x := d.ax a
  if x.swapDue && x.shadow.isSome then
    let r := d.takeUp a x.region x
    r.2.setAx a r.1
  else d

/-- The first failing condition of the profile check of an axis (03 R85). -/
def Dev.profFail (d : Dev) (a : Nat) : Option Nat :=
  let p := d.prof a
  let l := d.limits a
  let pos := sfld (d.rd (Reg.HCH_PARK a)) 15 0
  let within := fun (v : Int) => decide (l.lo ≤ v) && decide (v ≤ l.hi)
  let th := d.thresholds a
  let asc := (List.range 6).all (fun i => decide (th.getD i 0 < th.getD (i + 1) 0))
  let dist := (p.hi - p.lo).toNat
  let vl := vLin l p.half dist
  if !((p.typ = 0 || decide (p.lo < p.hi)) && within p.lo && within p.hi && within pos && asc) then some 1
  else if (p.typ = 1 || p.typ = 2) &&
      !((match vl with | some v => decide (v ≤ l.v) | none => false)
        && (p.typ = 2 || (p.np % 2 = 0 && 8 ≤ p.np))) then some 2
  else if p.typ = 2 && !(2 ≤ p.nf && moveTime l dist ≤ p.nf) then some 3
  else if p.typ = 3 && !(p.step ≠ 0 && moveTime l p.step.natAbs ≤ p.np) then some 4
  else if 1 ≤ p.k && d.planLen < p.k * p.np * 2500 then some 5
  else if l.v = 0 || l.a = 0 || l.j = 0 || d.f (Reg.HCH_DRV_LIM a) 14 0 = 0 then some 6
  else none

/-- The tick of one axis: a table swap becomes due, and the profile's cycles start from the tick's exact DT or the
tick is late: then the current cycle alone completes, and the new cycles follow its end (03 R80, R86). The generator is
brought to the tick first, so that every position of a raster and every cycle that has ended by then counts. -/
def Dev.axisTick (t : Time) (a : Nat) (d : Dev) : Dev :=
  let x := d.ax a
  let age := if x.shadow.isSome then x.shadowAge + 1 else 0
  let due := x.shadow.isSome && (d.b Reg.HCH_TABLE_CTL 0 || 16 ≤ age)
  let x := { x with shadowAge := age, swapDue := x.swapDue || due }
  let p := d.prof a
  if x.st = .run && 0 < p.k && !x.joining then
    let g := advanceGen (d.limits a) p true t 64 x
    if g.pieces.isEmpty then
      d.setAx a { x with pieces := cyclePieces (d.limits a) p 0, start := t, cycles := p.k, raster := 0 }
    else
      ((d.setAx a { x with pieces := g.pieces, start := g.start, rest := g.rest, raster := g.raster, cycles := 1, late := p.k }).inc
        Reg.HCH_SYNC_LATE_CNT).raise Ev.HCH_SYNC_LATE
  else d.setAx a x

/-- An axis whose profile or limits changed at a tick starts a joining move (03 R87), and so does one in PARKING or PARKED
whose PARK_POS changed. -/
def Dev.axisRejoin (old : Dev) (a : Nat) (d : Dev) : Dev :=
  let x := d.ax a
  let pos := fun (d : Dev) => sfld (d.rd (Reg.HCH_PARK a)) 15 0
  let limits := decide (d.limits a ≠ old.limits a)
  let moved := decide (pos d ≠ pos old)
  if x.st = .run && (limits || decide (d.prof a ≠ old.prof a)) then d.setAx a (x.join (d.limits a) (d.prof a).lo d.now)
  else if (x.st = .parking && (limits || moved)) || (x.st = .parked && moved) then
    d.setAx a (x.join (d.limits a) (pos d) d.now)
  else d

/-- The SERVO domain is quiesced: park, drive ramp to 0, excitation off (03 R94). -/
def Dev.quiesceServo (d : Dev) : Dev :=
  forN 8 (fun a d => d.modAx a (fun x =>
    { x with st := .disabled, samples := 0, exOn := false, ramp := false, rampClr := false, cmds := [], trip := none,
             drive := 0, pieces := [], joining := false, v := 0, a := 0 })) d

/-- AX_STATE (03 R98). -/
def Dev.axState (d : Dev) (a : Nat) : Word :=
  let x := d.ax a
  let st := match x.st with
    | .disabled => 0 | .engaging => 1 | .run => 2 | .parking => 3 | .parked => 4 | .openPark => 5
  word (st + x.region * 16 + x.seg * 256 + b2n x.fbLoss * 4096 + b2n x.freeze * 8192 + b2n x.trackErr * 16384
    + b2n x.parkTimeout * 32768 + b2n x.tblOk * 65536 + b2n x.profOk * 131072 + b2n x.cmdIgn * 262144
    + b2n x.standby * 524288)

/-- TABLE_STATUS: the axes with a table in their shadow bank, and the last loads rejected (03 R80, R97). -/
def Dev.tableStatus (d : Dev) : Word :=
  let rejected := fld (d.rd Reg.HCH_TABLE_STATUS) 15 8
  word ((List.range 8).foldl (fun m a => if (d.ax a).shadow.isSome then setBit m a else m) 0 + 256 * rejected)

/-- HCH.STATUS (03 R97). -/
def Dev.hchStatus (d : Dev) : Word :=
  let m := fun (p : Axis → Bool) => (List.range 8).foldl (fun acc a => if p (d.ax a) then setBit acc a else acc) 0
  word (m (fun x => x.st = .run) + m (fun x => x.st = .openPark) * 256 + m (fun x => x.standby) * 65536)

end Sys2Proof.Machine
end

