-- ==== Sys2Proof/Machine/Sha.lean ====
section
/-! DEFINITION. SHA-256, HMAC-SHA-256 and PBKDF2 as 12 R358, R359 and 17 R487-R490 name them. -/
namespace Sys2Proof.Machine

/-- The primes below 312, of which FIPS 180-4 takes the first 64 for its constants. -/
def shaPrimes : List Nat :=
  (List.range 312).filter (fun n => decide (2 ≤ n) && (List.range 18).all (fun k => decide (k < 2) || n ≤ k || n % k ≠ 0))

/-- Round constants: the first 32 bits of the fractional part of the cube root of each prime. -/
def shaK : List Word := shaPrimes.map (fun p => word (icbrtGo 36 (p * 2 ^ 96) 0))

/-- The eight working variables. -/
structure Sha where
  a : Word
  b : Word
  c : Word
  d : Word
  e : Word
  f : Word
  g : Word
  h : Word
  deriving DecidableEq, Repr

/-- Initial hash value: the first 32 bits of the fractional part of the square root of each of the first 8 primes. -/
def shaInit : Sha :=
  let r := fun (p : Nat) => word (isqrtGo 35 (p * 2 ^ 64) 0)
  { a := r 2, b := r 3, c := r 5, d := r 7, e := r 11, f := r 13, g := r 17, h := r 19 }

/-- One round. -/
def shaRound (s : Sha) (kw : Word × Word) : Sha :=
  let s1 := s.e.rotateRight 6 ^^^ s.e.rotateRight 11 ^^^ s.e.rotateRight 25
  let ch := (s.e &&& s.f) ^^^ (~~~ s.e &&& s.g)
  let t1 := s.h + s1 + ch + kw.1 + kw.2
  let s0 := s.a.rotateRight 2 ^^^ s.a.rotateRight 13 ^^^ s.a.rotateRight 22
  let maj := (s.a &&& s.b) ^^^ (s.a &&& s.c) ^^^ (s.b &&& s.c)
  { a := t1 + (s0 + maj), b := s.a, c := s.b, d := s.c, e := s.d + t1, f := s.e, g := s.f, h := s.g }

/-- Extend the message schedule: the list is held latest first. -/
def shaExpand : Nat → List Word → List Word
  | 0, w => w
  | n + 1, w =>
    let x := w.getD 14 0
    let y := w.getD 1 0
    let s0 := x.rotateRight 7 ^^^ x.rotateRight 18 ^^^ (x >>> 3)
    let s1 := y.rotateRight 17 ^^^ y.rotateRight 19 ^^^ (y >>> 10)
    shaExpand n ((w.getD 15 0 + s0 + w.getD 6 0 + s1) :: w)

/-- The big-endian number of a byte list. -/
def beNat (bs : List Byte) : Nat := bs.foldl (fun n b => 256 * n + b.toNat) 0

/-- `n` big-endian bytes of a number. -/
def beBytes (n v : Nat) : List Byte := (leBytes n v).reverse

/-- Add two hash values word by word. -/
def Sha.add (x y : Sha) : Sha :=
  { a := x.a + y.a, b := x.b + y.b, c := x.c + y.c, d := x.d + y.d,
    e := x.e + y.e, f := x.f + y.f, g := x.g + y.g, h := x.h + y.h }

/-- One 64-byte block. -/
def shaBlock (s : Sha) (blk : List Byte) : Sha :=
  let w := (List.range 16).map (fun i => BitVec.ofNat 32 (beNat ((blk.drop (4 * i)).take 4)))
  s.add ((shaK.zip (shaExpand 48 w.reverse).reverse).foldl shaRound s)

/-- All blocks of a padded message. -/
def shaBlocks : Nat → List Byte → Sha → Sha
  | 0, _, s => s
  | n + 1, bs, s => shaBlocks n (bs.drop 64) (shaBlock s (bs.take 64))

/-- SHA-256 of a byte list. -/
def sha256 (bs : List Byte) : List Byte :=
  let pad := (119 - bs.length % 64) % 64
  let m := bs ++ [0x80] ++ List.replicate pad 0 ++ beBytes 8 (8 * bs.length)
  let s := shaBlocks (m.length / 64) m shaInit
  [s.a, s.b, s.c, s.d, s.e, s.f, s.g, s.h].flatMap (fun w => beBytes 4 w.toNat)

/-- HMAC-SHA-256. -/
def hmac256 (key msg : List Byte) : List Byte :=
  let k := if 64 < key.length then sha256 key else key
  let k := k ++ List.replicate (64 - k.length) 0
  sha256 (k.map (· ^^^ 0x5c) ++ sha256 (k.map (· ^^^ 0x36) ++ msg))

/-- Iterations of PBKDF2: `u` is the last HMAC output, `acc` the XOR so far. -/
def pbkdf2Go (pw : List Byte) : Nat → List Byte → List Byte → List Byte
  | 0, _, acc => acc
  | n + 1, u, acc =>
    let u := hmac256 pw u
    pbkdf2Go pw n u ((acc.zip u).map (fun x => x.1 ^^^ x.2))

/-- PBKDF2-HMAC-SHA-256 with a 32-byte output (12 R358). -/
def pbkdf2 (pw salt : List Byte) (iter : Nat) : List Byte :=
  let u := hmac256 pw (salt ++ [0, 0, 0, 1])
  pbkdf2Go pw (iter - 1) u u

end Sys2Proof.Machine
end

