-- ==== Sys2Proof/Machine/Safe.lean ====
section
/-! DEFINITION. The safety island: the parameter block, guards, permissions, faults, lock-out, password sessions and
the change log (12). -/
namespace Sys2Proof.Machine

/-! ## The safety parameter block (R351-R353) -/

/-- Byte n of a safety parameter block. -/
def spbByte (t : Tab Word) (n : Nat) : Nat := bitsN (tabGet 0 t (n / 4)).toNat (8 * (n % 4) + 7) (8 * (n % 4))

/-- `k` bytes from byte n, little-endian. -/
def spbN (t : Tab Word) (n : Nat) : Nat → Nat
  | 0 => 0
  | k + 1 => spbByte t n + 256 * spbN t (n + 1) k

/-- The 4,096 bytes of a block. -/
def spbBytes (t : Tab Word) : List Byte := (List.range 4096).map (fun n => BitVec.ofNat 8 (spbByte t n))

/-- The words of a byte list. -/
def wordsOf (bs : List Byte) : Tab Word :=
  ((List.range (bs.length / 4)).map (fun i => (i, word (leAt bs (4 * i) 4)))).filter (fun e => e.2 != 0)

/-- Byte 0 of input pair i's entry, and further fields (R352). -/
def pairByte (t : Tab Word) (i n : Nat) : Nat := spbByte t (192 + 32 * i + n)
/-- The pair is enabled. -/
def pairEn (t : Tab Word) (i : Nat) : Bool := (pairByte t i 0).testBit 0
/-- The pair is antivalent. -/
def pairAnti (t : Tab Word) (i : Nat) : Bool := (pairByte t i 0).testBit 1
/-- CLASS: 1 S, 2 T, 3 S+T. -/
def pairClass (t : Tab Word) (i : Nat) : Nat := bitsN (pairByte t i 0) 3 2
/-- RESTART. -/
def pairRestart (t : Tab Word) (i : Nat) : Bool := (pairByte t i 0).testBit 4
/-- DISC in ms. -/
def pairDisc (t : Tab Word) (i : Nat) : Nat := spbN t (192 + 32 * i + 2) 2
/-- Heads in the pair's head mask. -/
def pairHeads (t : Tab Word) (i : Nat) : Nat := bitsN (pairByte t i 4) 3 0
/-- Outputs in the pair's output mask. -/
def pairOuts (t : Tab Word) (i : Nat) : Nat := bitsN (pairByte t i 4) 7 4
/-- Test output of a channel (0 A, 1 B). -/
def pairTp (t : Tab Word) (i ch : Nat) : Nat := bitsN (pairByte t i 5) (2 * ch + 1) (2 * ch)
/-- Safety output byte. -/
def soByte (t : Tab Word) (k n : Nat) : Nat := spbByte t (448 + 32 * k + n)
/-- Head byte. -/
def headByte (t : Tab Word) (h n : Nat) : Nat := spbByte t (576 + 64 * h + n)
/-- The head is enabled. -/
def headEn (t : Tab Word) (h : Nat) : Bool := (headByte t h 0).testBit 0
/-- SCAN_WIN in us. -/
def scanWin (t : Tab Word) (h : Nat) : Nat := spbN t (576 + 64 * h + 2) 2
/-- SCAN_DELTA in 0.5 mV. -/
def scanDelta (t : Tab Word) (h : Nat) : Nat := spbN t (576 + 64 * h + 4) 2
/-- Axis a (0 fast, 1 slow) of the head is monitored. -/
def axisMonitored (t : Tab Word) (h a : Nat) : Bool := (headByte t h 0).testBit (1 + a)
/-- MON_MODE of the head is carrier. -/
def monCarrier (t : Tab Word) (h : Nat) : Bool := (headByte t h 0).testBit 3
/-- Offset of an emitter's limits. -/
def emOff (e : Nat) : Nat := 576 + 64 * (e / 4) + 16 + 12 * (e % 4)
/-- Charge ceiling of emitter e. -/
def spbCharge (t : Tab Word) (e : Nat) : Nat := spbN t (emOff e) 2 % 4096
/-- Pulse limit of emitter e. -/
def spbPulse (t : Tab Word) (e : Nat) : Nat := spbN t (emOff e + 2) 2 % 8192
/-- Gate limit of emitter e, 0.25 ns. -/
def spbGate (t : Tab Word) (e : Nat) : Nat := spbN t (emOff e + 4) 4 % 16777216
/-- STALL_ACTION. -/
def stallAction (t : Tab Word) : Bool := (spbByte t 140).testBit 0
/-- Test outputs enabled. -/
def tpEnabled (t : Tab Word) : Nat := bitsN (spbByte t 130) 3 0
/-- OFFTEST_LEN in us. -/
def offtestLen (t : Tab Word) : Nat := spbN t 134 2
/-- Sequence number. -/
def spbSeq (t : Tab Word) : Nat := spbN t 8 4

/-- Bits that may be set in byte n of a block, outside the header and the CRC (R351, R352). -/
def spbAllowed (n : Nat) : Nat :=
  if n < 6 then 255 else if n < 8 then 0 else if n < 128 then 255
  else if n < 192 then
    (match n - 128 with
     | 0 => 255 | 1 => 255 | 2 => 15 | 4 => 255 | 5 => 255 | 6 => 255 | 7 => 255
     | 8 => 255 | 9 => 255 | 10 => 255 | 11 => 255 | 12 => 1 | _ => 0)
  else if n < 448 then
    (match (n - 192) % 32 with
     | 0 => 31 | 1 => 255 | 2 => 255 | 3 => 255 | 4 => 255 | 5 => 15 | _ => 0)
  else if n < 576 then
    (match (n - 448) % 32 with
     | 0 => 7 | 1 => 255 | 2 => 15 | _ => 0)
  else if n < 832 then
    let m := (n - 576) % 64
    if m < 16 then (match m with | 0 => 15 | 2 => 255 | 3 => 255 | 4 => 255 | 5 => 255 | _ => 0)
    else (match (m - 16) % 12 with
      | 0 => 255 | 1 => 15 | 2 => 255 | 3 => 31 | 4 => 255 | 5 => 255 | 6 => 255 | _ => 0)
  else 0

/-- A number lies in a range. -/
def inRange (lo hi v : Nat) : Bool := decide (lo ≤ v) && decide (v ≤ hi)

/-- Condition 1 of R353. -/
def spbCond1 (bs : List Byte) (t : Tab Word) : Bool :=
  bs.length = 4096 && spbN t 0 4 = 0x53504201 && spbN t 4 2 = 1 && crcOk bs
  && (List.range 4092).all (fun n => spbByte t n &&& (255 ^^^ spbAllowed n) = 0)

/-- Condition 2 of R353, binding enabled entries. -/
def spbCond2 (t : Tab Word) : Bool :=
  inRange 10000 200000 (spbN t 12 4) && inRange 8 250 (spbN t 128 2) && inRange 1 60 (spbN t 132 2)
  && inRange 100 300 (offtestLen t) && inRange 10 1000 (spbN t 136 4)
  && (List.range 8).all (fun i => !pairEn t i || (decide (pairByte t i 1 ≤ 20) && inRange 5 2000 (pairDisc t i)))
  && (List.range 4).all (fun h => !headEn t h || (inRange 20 1000 (scanWin t h) && inRange 2 2000 (scanDelta t h)))

/-- Condition 3 of R353. -/
def spbCond3 (t : Tab Word) : Bool :=
  let np := ((List.range 8).filter (pairEn t)).length
  let nh := ((List.range 4).filter (headEn t)).length
  !(decide (4 < np) || decide (2 < nh)) || (List.range 8).all (fun i => !pairEn t i || pairClass t i ≠ 1)

/-- Condition 4 of R353. -/
def spbCond4 (t : Tab Word) : Bool :=
  (List.range 8).all fun i => !pairEn t i || pairClass t i < 2 ||
    ((tpEnabled t).testBit (pairTp t i 0) && (tpEnabled t).testBit (pairTp t i 1) && pairTp t i 0 ≠ pairTp t i 1)

/-- Condition 5 of R353. -/
def spbCond5 (t : Tab Word) : Bool := (List.range 8).all (fun i => !pairEn t i || pairClass t i ≠ 0)

/-- A valid block (R353). -/
def spbValid (bs : List Byte) : Bool :=
  let t := wordsOf bs
  spbCond1 bs t && spbCond2 t && spbCond3 t && spbCond4 t && spbCond5 t

/-! ## Guards, permissions and outputs (R326-R341) -/

/-- A change of a guard's accepted readings, or of its entry, takes effect: demand, release, restart wait, start-up
test and discrepancy follow (R331-R333). -/
def Guard.eval (en anti restart : Bool) (g : Guard) : Guard :=
  if !en then { g with demand := true, both := true, wait := false, pending := false, pendBoth := false, discMs := 0 }
  else
    let sa := !g.a
    let sb := if anti then g.b else !g.b
    let any := sa || sb
    let two := sa && sb
    let both := if any && !g.demand then two else g.both || two
    let safe := g.demand && !any && both
    let pendBoth := g.pending && (g.pendBoth || two)
    { g with
      demand := any || (g.demand && !(safe && !restart)),
      both := both,
      wait := safe && restart,
      pending := g.pending && !(pendBoth && !any),
      pendBoth := pendBoth,
      discMs := if sa = sb then 0 else g.discMs,
      clr := if two then max g.clr 1 else if !any && g.clr = 1 then 2 else g.clr }

/-- The guard of pair i in a half. -/
def Half.guard (x : Half) (i : Nat) : Guard := x.guards.getD i {}

/-- Store a guard. -/
def Half.put (x : Half) (i : Nat) (g : Guard) : Half := { x with guards := setAt x.guards i g }

/-- A half of the island: 0 the safety processor, 1 the hard-wired logic. -/
def Island.half (s : Island) (w : Nat) : Half := if w = 0 then s.sp else s.hwl

/-- Store a half. -/
def Island.setHalf (s : Island) (w : Nat) (x : Half) : Island :=
  if w = 0 then { s with sp := x } else { s with hwl := x }

/-- A pair holds its heads and outputs off in a half: in demand or start-up pending (R331, R333). -/
def Island.pairOff (s : Island) (w i : Nat) : Bool :=
  pairEn s.spb i && (((s.half w).guard i).demand || ((s.half w).guard i).pending)

/-- What a half decides for a head from its own inputs (R328, R331, R341, R357). -/
def Island.grant (s : Island) (w h : Nat) : Bool :=
  s.st = .run && headEn s.spb h && !s.stall.testBit h
  && (List.range 8).all (fun i => !(s.pairOff w i && (pairHeads s.spb i).testBit h))

/-- The permission of a head by a half, with the withdrawal of the power state, of debug and boundary scan, and of a
part in FACTORY (16 R468; 17 R485, R494, R497). -/
def State.grants (s : State) (w h : Nat) : Bool :=
  s.isl.grant w h && !s.dev.powerHolds && !s.dev.debugHolds && !(s.fuses.rma && w = 1)

/-- Both halves grant a head: `PERMIT` (R326, R362). -/
def State.permits (s : State) (h : Nat) : Bool := s.grants 0 h && s.grants 1 h

/-- A safety output is on by a half's decision (R331, R336). -/
def Island.soOn (s : Island) (w k : Nat) : Bool :=
  s.st = .run && (soByte s.spb k 0).testBit 0
  && (List.range 8).all (fun i => !(s.pairOff w i && ((soByte s.spb k 1).testBit i || (pairOuts s.spb i).testBit k)))
  && (List.range 4).all (fun h => !((bitsN (soByte s.spb k 2) 3 0).testBit h && s.stall.testBit h))

/-- An off-test runs on output half `2k + w` (R337). -/
def State.offTest (s : State) (j : Nat) : Bool := decide (s.dev.now + 1 < tabGet 0 s.isl.testing j)

/-- Output half w of SOk is driven high (R336-R338, R360). -/
def State.soDrive (s : State) (w k : Nat) : Bool :=
  s.isl.soOn w k && !s.offTest (2 * k + w) && (s.dev.drives || !(soByte s.isl.spb k 0).testBit 2)

/-- LENh half w is driven high (R326, R360). -/
def State.lenDrive (s : State) (w h : Nat) : Bool := s.grants w h && s.dev.drives

/-- A read-back level: the drive, unless the pin is stuck. -/
def readBack (stuck : Nat) (drive : Bool) : Bool := if stuck = 1 then false else if stuck = 2 then true else drive

/-- Read-back of an output half. -/
def State.soRead (s : State) (w k : Nat) : Bool := readBack (tabGet 0 s.isl.soStuck (2 * k + w)) (s.soDrive w k)
/-- Read-back of a laser-enable half. -/
def State.lenRead (s : State) (w h : Nat) : Bool := readBack (tabGet 0 s.isl.lenStuck (2 * h + w)) (s.lenDrive w h)

/-- The internal permission of a head as Burin sees it: both halves grant it and both LEN halves read high. It falls with
the first of these and rises with the last (R326; 02 R46). -/
def State.headMay (s : State) (h : Nat) : Bool := s.permits h && s.lenRead 0 h && s.lenRead 1 h

/-! ## Faults (R343-R345) -/

/-- Change the island only. -/
def State.onIsl (f : Island → Island) (s : State) : State := { s with isl := f s.isl }

/-- Enter an island state; every change raises SAF_STATE (R363). -/
def State.setIsl (x : IslSt) (s : State) : State :=
  if s.isl.st = x then s else (s.onIsl fun i => { i with st := x }).onDev (fun d => d.raise Ev.SAF_STATE)

/-- A fault latches the first cause and enters LOCKOUT; during START and SELFTEST the latch acts at the end of the
self-test (R344, 16 R478). -/
def State.fault (code idx : Nat) (s : State) : State :=
  let latch := fun (i : Island) =>
    if i.fault.isSome then i
    else { i with fault := some { code := code, index := idx, dt := s.dev.now }, okPulses := 0, ticked := false,
                  sp := { i.sp with guards := i.sp.guards.map (fun g => { g with clr := 0 }) },
                  hwl := { i.hwl with guards := i.hwl.guards.map (fun g => { g with clr := 0 }) } }
  match s.isl.st with
  | .internal => s.onIsl latch
  | .lockout => s
  | .run => (((s.onIsl latch).onIsl fun i => { i with lockCnt := satInc i.lockCnt }).onDev
      (fun d => d.raise Ev.SAF_LOCKOUT)).setIsl .lockout
  | .wait => (((s.onIsl latch).onIsl fun i => { i with lockCnt := satInc i.lockCnt }).onDev
      (fun d => d.raise Ev.SAF_LOCKOUT)).setIsl .lockout
  | _ =>
    if s.isl.fault.isSome then s
    else ((s.onIsl latch).onIsl fun i => { i with lockCnt := satInc i.lockCnt }).onDev
      (fun d => d.raise Ev.SAF_LOCKOUT)

/-- An internal fault enters INTERNAL, which only a power-on reset leaves (R345). -/
def State.internalFault (code : Nat) (s : State) : State :=
  if s.isl.st = .internal then s
  else ((s.onIsl fun i => { i with intCode := if i.intCode = 0 then code else i.intCode }).setIsl .internal).onDev
    (fun d => d.raise Ev.SAF_INTERNAL)

/-- The latched cause has cleared (R343). -/
def State.causeCleared (s : State) (c : Cause) : Bool :=
  let i := s.isl
  match c.code with
  | 0x01 => (i.sp.guard c.index).clr = 2 && (i.hwl.guard c.index).clr = 2
  | 0x02 => decide (2 ≤ i.okPulses)
  | 0x03 => decide (2 ≤ i.okPulses)
  | 0x04 => !i.tpDiffer.testBit c.index && decide (1 ≤ i.okPulses)
  | 0x05 => !s.soRead (c.index % 2) (c.index / 2)
  | 0x06 => !s.soRead (c.index % 2) (c.index / 2)
  | 0x07 => !s.lenRead (c.index % 2) (c.index / 2)
  | 0x08 => true
  | 0x09 => i.ticked
  | 0x0A => decide (s.dev.f (Reg.BRN_EM_CTL c.index) 27 16 ≤ spbCharge i.spb c.index + 64)
  | 0x0B => i.ticked
  | 0x0C => s.dev.tim.lock
  | 0x0D => decide (s.dev.thm.shutNow = 0)
  | _ => false

/-! ## Inputs and outputs -/

/-- Pair i is in demand in a half. -/
def Island.inDemand (s : Island) (w i : Nat) : Bool := pairEn s.spb i && ((s.half w).guard i).demand

/-- Re-evaluate pair i of a half with changed readings; entering and leaving demand raise their events
(R331, R363). -/
def State.guardEval (w i : Nat) (f : Guard → Guard) (s : State) : State :=
  let was := s.isl.inDemand 0 i || s.isl.inDemand 1 i
  let x := s.isl.half w
  let t := s.isl.spb
  let s := s.onIsl fun isl => isl.setHalf w (x.put i ((f (x.guard i)).eval (pairEn t i) (pairAnti t i) (pairRestart t i)))
  let now := s.isl.inDemand 0 i || s.isl.inDemand 1 i
  if now && !was then
    (s.onIsl fun isl => { isl with demandCnt := satInc isl.demandCnt }).onDev (fun d => d.raiseOnce Ev.SAF_DEMAND)
  else if was && !now then s.onDev (fun d => d.raiseOnce Ev.SAF_RELEASE)
  else s

/-- A half accepts a reading of a channel (0 A, 1 B) of pair i (R330). -/
def State.guardInput (w i ch : Nat) (closed : Bool) (s : State) : State :=
  s.guardEval w i (fun g => if ch = 0 then { g with a := closed, fa := { g.fa with run := 0 } }
    else { g with b := closed, fb := { g.fb with run := 0 } })

/-- The filter time F of the pair in us (R330). -/
def pairFilter (t : Tab Word) (i : Nat) : Nat := 1000 * pairByte t i 1

/-- A channel of the pair is assigned to a test output: its class is T or S+T (R334). -/
def pairTested (t : Tab Word) (i : Nat) : Bool := decide (2 ≤ pairClass t i)

/-- One sample of a channel whose accepted reading is `acc`: whether its change is accepted, and the filter. A sample is masked
while the test output reads low and for 100 us after it has risen; masked samples do not count, and the new level is accepted
at an unmasked sample once every unmasked one over max(F, 10 us) has read it (R330, R334). `assigned` says that a test output
is assigned. -/
def InFilter.sample (f : Nat) (assigned acc closed tp : Bool) (x : InFilter) : Bool × InFilter :=
  let mask := if assigned && !tp then 10 else x.mask - 1
  if assigned && (!tp || decide (0 < x.mask)) then (false, { run := if x.run = 0 then 0 else x.run + 1, mask := mask })
  else if closed = acc then (false, { run := 0, mask := mask })
  else (decide (max f 10 ≤ 10 * x.run), { run := x.run + 1, mask := mask })

/-- A half samples a channel of pair i (R330, R334). -/
def State.guardSample (w i ch : Nat) (s : State) (x : Bool × Bool) : State :=
  let t := s.isl.spb
  let g := (s.isl.half w).guard i
  let r := InFilter.sample (pairFilter t i) (pairTested t i) (if ch = 0 then g.a else g.b) x.1 x.2 (if ch = 0 then g.fa else g.fb)
  let s := s.onIsl fun isl =>
    isl.setHalf w ((isl.half w).put i (if ch = 0 then { g with fa := r.2 } else { g with fb := r.2 }))
  if r.1 then s.guardInput w i ch x.1 else s

/-- Discrepancy runs in a guard: the channels show different demand (R332). -/
def Island.discRuns (s : Island) (w i : Nat) : Bool :=
  let g := (s.half w).guard i
  pairEn s.spb i && (if pairAnti s.spb i then g.a = g.b else g.a ≠ g.b)

/-- DISCREPANCY: a half's counter reaches the limit, in the band of 1 ms about it (R332). -/
def State.discrepancy (w i : Nat) (s : State) : State :=
  if s.isl.discRuns w i && pairDisc s.isl.spb i ≤ ((s.isl.half w).guard i).discMs + 1 then s.fault 0x01 i else s

/-- Step the discrepancy counters of a half by 1 ms. -/
def Island.stepDisc (s : Island) (w : Nat) : Island :=
  let x := s.half w
  s.setHalf w { x with guards := x.guards.zipIdx.map fun (g, i) =>
    { g with discMs := if s.discRuns w i then g.discMs + 1 else 0 } }

/-- The halves differ in permissions, output states or accepted readings (R327). -/
def State.halvesDiffer (s : State) : Bool :=
  (List.range 4).any (fun h => s.grants 0 h ≠ s.grants 1 h || s.isl.soOn 0 h ≠ s.isl.soOn 1 h)
  || (List.range 8).any (fun i =>
    let p := s.isl.sp.guard i
    let q := s.isl.hwl.guard i
    p.a ≠ q.a || p.b ≠ q.b)

/-- SAFETY_EXCHANGE, every 1 ms: differences are counted and the discrepancy counters step; a discrepancy that has
outlasted its band is a fault (R327, R332). -/
def State.safetyExchange (s : State) : State :=
  let d := s.halvesDiffer
  let s := s.onIsl fun i => { (i.stepDisc 0).stepDisc 1 with differ := if d then i.differ + 1 else 0 }
  (List.range 8).foldl (fun s i =>
    if (List.range 2).any (fun w => s.isl.discRuns w i
        && decide (pairDisc s.isl.spb i + 1 ≤ ((s.isl.half w).guard i).discMs)) then s.fault 0x01 i else s) s

/-- Channel c = 2i + ch of class T or S+T is tested by output k (R335). -/
def Island.tested (s : Island) (c k : Nat) : Bool :=
  pairEn s.spb (c / 2) && pairTested s.spb (c / 2) && pairTp s.spb (c / 2) (c % 2) = k

/-- The island has left START and SELFTEST: its checks run. -/
def Island.checking (s : Island) : Bool := s.st = .wait || s.st = .run || s.st = .lockout

/-- The samples of a low period of TPk as it reads back. -/
def lowPeriod (k : Nat) (xs : List (Nat × Nat)) : List (Nat × Nat) := xs.filter (fun x => !x.2.testBit k)

/-- Channel c reads closed in every sample of the low period of its own output TPk, of 200 us or more (R335). -/
def tpStuckAt (k c : Nat) (xs : List (Nat × Nat)) : Bool :=
  decide (20 ≤ (lowPeriod k xs).length) && (lowPeriod k xs).all (fun x => x.1.testBit c)

/-- Channel c reads open in two or more samples of the low period of TPk while its own output TPj reads high, and closed in the
samples just before and just after (R335). -/
def tpForeignAt (k j c : Nat) (xs : List (Nat × Nat)) : Bool :=
  decide (2 ≤ ((lowPeriod k xs).filter (fun x => x.2.testBit j && !x.1.testBit c)).length)
  && (xs.head?.map (fun x => x.1.testBit c)).getD false && (xs.getLast?.map (fun x => x.1.testBit c)).getD false

/-- Channel c has TP_STUCK in the low period of TPk. -/
def Island.tpStuck (s : Island) (k : Nat) (xs : List (Nat × Nat)) (c : Nat) : Bool := s.tested c k && tpStuckAt k c xs

/-- Channel c has TP_FOREIGN in the low period of TPk. -/
def Island.tpForeign (s : Island) (k : Nat) (xs : List (Nat × Nat)) (c : Nat) : Bool :=
  (List.range 4).any (fun j => j ≠ k && s.tested c j && tpForeignAt k j c xs)

/-- TEST_PULSE of TPk: the channels are checked against its low period (R334, R335). -/
def State.testPulse (k : Nat) (xs : List (Nat × Nat)) (s : State) : State :=
  if !(tpEnabled s.isl.spb).testBit k || !s.isl.checking then s else
  let st := (List.range 16).find? (s.isl.tpStuck k xs)
  let fo := (List.range 16).find? (s.isl.tpForeign k xs)
  let s := s.onIsl fun i =>
    match i.fault with
    | some c =>
      let own := (c.code = 2 || c.code = 3) && i.tested c.index k
      let bad := (c.code = 2 && i.tpStuck k xs c.index) || (c.code = 3 && i.tpForeign k xs c.index)
      let rb := c.code = 4 && c.index = k && !i.tpDiffer.testBit k
      { i with okPulses := if bad then 0 else if own || rb then i.okPulses + 1 else i.okPulses }
    | none => i
  let s := match st with | some c => s.fault 0x02 c | none => s
  match fo with | some c => s.fault 0x03 c | none => s

/-- TPk drives low at `t` us from the start of a period of the test pulses: 250 us from k P / 4 on, where the output is enabled
(R334). -/
def tpLow (p : Tab Word) (k t : Nat) : Bool :=
  let per := 1000 * spbN p 128 2
  (tpEnabled p).testBit k && decide ((t + per - k * per / 4) % per < 250)

/-- The level that TPk drives at `t` us from the start of a period; none is high impedance, without the claim (R334, R360). -/
def State.tpOut (s : State) (k t : Nat) : Option Bool := if s.dev.drives then some (!tpLow s.isl.spb k t) else none

/-- TP_READBACK: the read-back of TPk differs from its drive for 50 us, or agrees again (R335). -/
def State.tpReadback (k : Nat) (differ : Bool) (s : State) : State :=
  if !s.isl.checking || !s.dev.drives then s else
  let s := s.onIsl fun i => { i with tpDiffer := putBit i.tpDiffer k differ, okPulses := if differ then 0 else i.okPulses }
  if differ then s.fault 0x04 k else s

/-- SO_READBACK: the read-back of a half settles at a level; outside off-tests a difference is a fault (R339). -/
def State.soReadback (k w : Nat) (level : Bool) (s : State) : State :=
  if !s.isl.checking || s.offTest (2 * k + w) then s else
  let same := s.soDrive w k = level
  let s := s.onIsl fun i => { i with soStuck := tabPut 0 i.soStuck (2 * k + w) (if same then 0 else 1 + b2n level) }
  if !same && (s.dev.drives || !(soByte s.isl.spb k 0).testBit 2) then s.fault 0x05 (2 * k + w) else s

/-- LEN_READBACK (R339). -/
def State.lenReadback (h w : Nat) (level : Bool) (s : State) : State :=
  if !s.isl.checking then s else
  let same := s.lenDrive w h = level
  let s := s.onIsl fun i => { i with lenStuck := tabPut 0 i.lenStuck (2 * h + w) (if same then 0 else 1 + b2n level) }
  if !same && s.dev.drives then s.fault 0x07 (2 * h + w) else s

/-- SO_OFFTEST_START: an output half that is on is switched off for OFFTEST_LEN; `low` and `high` say whether its
read-back read low before the end and high within 100 us after it (R337, R338). -/
def State.offtestStart (k w : Nat) (low high : Bool) (s : State) : State :=
  if !(s.isl.soOn w k && (soByte s.isl.spb k 0).testBit 1 && (s.dev.drives || !(soByte s.isl.spb k 0).testBit 2)) then s
  else
    let s := s.onIsl fun i => { i with
      testing := tabPut 0 i.testing (2 * k + w) (s.dev.now + offtestLen i.spb * us + 1) }
    if low && high then s else s.fault 0x06 (2 * k + w)

/-- One microsecond of the 5 us low-pass filter of carrier mode: m goes to |v| by a factor of exp(-1/5) (R340). -/
def monFilter (m : Int) (v : Int) : Int :=
  let x := 65536 * (v.natAbs : Int)
  x + roundDiv ((m - x) * 818730753) 1000000000

/-- m at an HWL sample, from the differential voltages of the microseconds up to it, in 0.5 mV (R340). -/
def monValue (carrier : Bool) (m : Int) (vs : List Int) : Int :=
  if carrier then vs.foldl monFilter m else match vs.getLast? with
    | some v => 65536 * v
    | none => m

/-- One HWL sample at t of a monitored axis: a motion event when m lies outside the reference by more than SCAN_DELTA, and the
stall timer (R340, R341). `fired` says that the head has had a fire pulse within the preceding SCAN_WIN. -/
def Mon.sample (carrier : Bool) (delta : Nat) (t : Time) (vs : List Int) (fired : Bool) (x : Mon) : Mon :=
  let m := monValue carrier x.m vs
  let motion := decide (65536 * delta < (m - x.ref).natAbs)
  { m := m, ref := if motion then m else x.ref, timer := if motion || !fired then 0 else x.timer + 10,
    moved := if motion then t + 1 else x.moved }

/-- HWL samples 10 us apart, the first at t. The answer tells whether the axis stalled at one of them (R341). -/
def Mon.run (carrier : Bool) (delta win : Nat) : Time → List (List Int × Bool) → Mon → Bool × Mon
  | _, [], x => (false, x)
  | t, (vs, fired) :: l, x =>
    let y := x.sample carrier delta t vs fired
    let r := Mon.run carrier delta win (t + 10 * us) l y
    (decide (win ≤ y.timer) || r.1, r.2)

/-- A head's stall is latched, once (R341). -/
def State.stallLatch (h : Nat) (s : State) : State :=
  if s.isl.stall.testBit h then s
  else
    let s := (s.onIsl fun i => { i with stall := setBit i.stall h }).onDev (fun d => d.raise (Ev.SAF_STALL h))
    if stallAction s.isl.spb then s.fault 0x08 h else s

/-- SCAN_STALL: the scan monitor of axis a of head h takes its HWL samples, the last at t, and latches the head's stall when
the axis stalls (R340, R341). -/
def State.scanStall (h a : Nat) (t : Time) (xs : List (List Int × Bool)) (s : State) : State :=
  let p := s.isl.spb
  if !axisMonitored p h a then s
  else
    let r := Mon.run (monCarrier p h) (scanDelta p h) (scanWin p h) (t - 10 * us * (xs.length - 1)) xs (tabGet {} s.isl.mon (2 * h + a))
    let s := (s.onDev (fun d => d.at t)).onIsl fun i => { i with mon := tabPut {} i.mon (2 * h + a) r.2 }
    if r.1 then s.stallLatch h else s

/-- Every monitored axis of the head has produced a motion event within the last SCAN_WIN (R341). -/
def State.headMoves (s : State) (h : Nat) : Bool :=
  (List.range 2).all fun a => !axisMonitored s.isl.spb h a ||
    (let m := (tabGet {} s.isl.mon (2 * h + a)).moved
     decide (0 < m) && decide (s.dev.now < m + scanWin s.isl.spb h * us))

/-- STALL_CLR: the stall of a head of the mask clears when its monitored axes move; otherwise the write is ignored (R341). -/
def State.stallClear (mask : Nat) (s : State) : State :=
  s.onIsl fun i => { i with stall := (List.range 4).foldl (fun m h =>
    if mask.testBit h && s.headMoves h then clrBit m h else m) i.stall }

/-- Every class S pair of a half becomes start-up pending (R333, R346). -/
def pendS (t : Tab Word) (x : Half) : Half :=
  let f := fun (g : Guard) (i : Nat) =>
    if pairEn t i && decide (pairClass t i % 2 = 1) then { g with pending := true, pendBoth := false } else g
  { x with guards := x.guards.zipIdx.map (fun gi => f gi.1 gi.2) }

/-- LOCKOUT_RESET: a low pulse on SRST_N of `width` us that both halves accept (R331, R346); a halted safety processor
accepts none (17 R495). A reset of the lock-out leaves no state for a firmware switch to return to (17 R492). -/
def State.srstPulse (width : Nat) (s : State) : State :=
  if width < 190000 || 2010000 < width || s.dev.sec.halted then s else
  let edge := decide (width < 200000) || decide (2000000 < width)
  let b := s.dev.drawB
  let s := if edge then { s with dev := b.2 } else s
  if edge && !b.1 then s else
  match s.isl.st with
  | .run =>
    (List.range 8).foldl (fun s i => (List.range 2).foldl (fun s w =>
      if ((s.isl.half w).guard i).wait then
        s.guardEval w i (fun g => { g with wait := false, demand := false }) else s) s) s
  | .lockout =>
    match s.isl.fault with
    | some c =>
      if s.causeCleared c then
        let s := s.onIsl fun i => { i with
          fault := none, back := none, okPulses := 0, sp := pendS i.spb i.sp, hwl := pendS i.spb i.hwl, pw := {} }
        (s.setIsl (if s.isl.fwRun then .run else .wait)).onDev
          (fun d => (d.dropRegs .l (fun _ => true)).raise Ev.SAF_LOCKOUT_CLEARED)
      else s.onDev (fun d => d.raise Ev.SAF_RESET_REFUSED)
    | none => s
  | _ => s

/-! ## Emission count (R342) -/

/-- The hard-wired logic counts one shot of an emitter at the pins: pulses, gate time in 0.25 ns, LQ code. -/
def State.hwlCount (e pulses gate lq : Nat) (s : State) : State :=
  if pulses = 0 then s else
  let p := tabGet 0 s.isl.count e + pulses
  let g := tabGet 0 s.isl.gate e + gate
  let s := s.onIsl fun i => { i with count := tabPut 0 i.count e p, gate := tabPut 0 i.gate e g }
  let s := if spbPulse s.isl.spb e < p || spbGate s.isl.spb e + 2 * p < g then s.fault 0x09 e else s
  if spbCharge s.isl.spb e + 64 < lq then s.fault 0x0A e else s

/-- A tick `gap` ns after the one before is too early: less than 0.98 TICK_MIN - 1 us (R342). -/
def tickEarly (p : Tab Word) (gap : Nat) : Bool := decide (100 * gap + 100000 < 98000 * spbN p 136 4)

/-- The island at a tick `gap` ns after the one before on the clock of the hard-wired logic: an accepted block comes into force,
counts restart, the tick is judged (R333, R342, R354). A pair whose entry changes to class T is no longer start-up pending. -/
def State.islandTick (gap : Nat) (s : State) : State :=
  let seen := s.isl.tickSeen
  let heads : Tab Nat := (List.range 4).foldl (fun m h =>
    tabPut 0 m h (min 65535 (((List.range 4).map (fun n => tabGet 0 s.isl.count (4 * h + n))).sum))) []
  let s := s.onIsl fun i => { i with headPulses := heads, count := [], gate := [], ticked := true, tickSeen := true }
  let s := if tickEarly s.isl.spb gap && seen then s.fault 0x0B 0 else s
  match s.isl.next with
  | none => s
  | some t =>
    let old := s.isl.spb
    let was := s.isl.defaulted
    let s := s.onIsl fun i => { i with spb := t, next := none, defaulted := false }
    (List.range 8).foldl (fun s i => (List.range 2).foldl (fun s w =>
      let same := !was && (List.range 8).all (fun n => spbN old (192 + 32 * i + 4 * n) 4 = spbN t (192 + 32 * i + 4 * n) 4)
      if same then s
      else s.guardEval w i (fun g => { g with pending := pairClass t i % 2 = 1, pendBoth := false })) s) s

/-! ## Password sessions and the change log (R354-R359) -/

/-- RWP writes are permitted (R358). -/
def Island.rwpOk (i : Island) : Bool := i.pw.openAt.isSome && !i.defaulted

/-- A refused RWP write (R358). -/
def State.rwpDenied (s : State) : State := s.onDev (fun d => d.raise Ev.SAF_RWP_DENIED)

/-- The factory defaults come into force (R357). -/
def Island.toDefaults (i : Island) : Island :=
  { i with spb := [], next := none, defaulted := true,
           sp := { i.sp with guards := i.sp.guards.map (fun g => { g with demand := true, both := true, wait := false, pending := false }) },
           hwl := { i.hwl with guards := i.hwl.guards.map (fun g => { g with demand := true, both := true, wait := false, pending := false }) } }

/-- Whether presentations are refused at this time (R358). -/
def State.pwRefusing (s : State) : Bool :=
  match s.isl.pw.refusing with
  | some t => decide (s.dev.now < t + 60000 * ms)
  | none => false

/-- PW_PRESENT: the password in PW_DATA is presented (R358). -/
def State.pwPresent (len : Nat) (s : State) : State :=
  if s.isl.pw.busy.isSome || s.pwRefusing then s
  else
    let bytes := ((List.range 16).flatMap (fun n => leBytes 4 (tabGet 0 s.isl.pw.data n).toNat)).take len
    s.onIsl fun i => { i with pw := { i.pw with busy := some bytes } }

/-- PW_CLOSE (R358). -/
def State.pwClose (s : State) : State := s.onIsl fun i => { i with pw := { i.pw with openAt := none } }

/-- PW_DERIVATION_DONE: the output is compared with the verifier of the block in force (R358). A length outside 1-64
and a presentation before any block has been accepted fail. -/
def State.pwDone (s : State) : State :=
  match s.isl.pw.busy with
  | none => s
  | some pw =>
    let bs := spbBytes s.isl.spb
    let out := pbkdf2 pw ((bs.drop 16).take 16) (leAt bs 12 4)
    let ok := !s.isl.defaulted && pw.length ≠ 0 && out = (bs.drop 32).take 32
    let s := s.onIsl fun i => { i with pw := { i.pw with busy := none, data := [] } }
    if ok then s.onIsl fun i => { i with pw := { i.pw with openAt := some s.dev.now, fails := 0 } }
    else
      (s.onIsl fun i => { i with pw := { i.pw with
        fails := min 15 (i.pw.fails + 1),
        refusing := if 5 ≤ i.pw.fails + 1 then some s.dev.now else i.pw.refusing } }).onDev
        (fun d => d.raise Ev.SAF_PW_FAIL)

/-- PW_SESSION_TIMEOUT: 600 s after the session opened (R358). -/
def State.pwTimeout (s : State) : State :=
  match s.isl.pw.openAt with
  | some t => (s.onDev (fun d => d.at (t + 600000 * ms))).pwClose
  | none => s

/-- PW_REFUSAL_END: 60 s after the fifth failure (R358). -/
def State.pwRefusalEnd (s : State) : State :=
  match s.isl.pw.refusing with
  | some t => (s.onDev (fun d => d.at (t + 60000 * ms))).onIsl fun i => { i with pw := { i.pw with refusing := none, fails := 0 } }
  | none => s

/-- Every reset closes the session (R358). -/
def Island.closeSession (i : Island) : Island := { i with pw := { i.pw with openAt := none, busy := none, data := [] } }

/-- A reset of any class restores PW_STATUS: the session, a running derivation, the failures counted and a refusal of
presentations end with it (R358, R361; 00 R6). -/
def Island.pwReset (i : Island) : Island := { i with pw := {} }

/-- The change-log entry of a block accepted at run time (R359). -/
def logEntry (old new : List Byte) (t : Time) : List Byte :=
  let zeroed := new.take 64 ++ List.replicate 32 0 ++ (new.drop 96).take 3996
  (old.drop 64).take 32 ++ (new.drop 8).take 4 ++ List.replicate 4 0 ++ leBytes 8 t ++ sha256 zeroed

/-- The completed block: the new head in bytes 64-95 and the CRC recomputed (R359). -/
def completedSpb (new entry : List Byte) : List Byte :=
  let body := new.take 64 ++ sha256 entry ++ (new.drop 96).take 3996
  body ++ leBytes 4 (crc32 body).toNat

/-- Accept or refuse a block (R354, R359). The answer holds whether it was accepted and the bytes for the output
buffer: empty at a first load. -/
def State.spbOffer (bs : List Byte) (s : State) : Bool × List Byte × State :=
  if !s.isl.accepted then
    if spbValid bs then
      (true, [], (s.onIsl fun i => { i with next := some (wordsOf bs), accepted := true }).onDev
        (fun d => d.raise Ev.SAF_SPB_ACCEPTED))
    else (false, [], s.onDev (fun d => d.raise Ev.SAF_SPB_DEFAULTED))
  else
    let cur := (s.isl.next).getD s.isl.spb
    if s.isl.pw.openAt.isSome && spbValid bs && leAt bs 8 4 = (spbSeq cur + 1) % 2 ^ 32 then
      let e := logEntry (spbBytes cur) bs s.dev.now
      let new := completedSpb bs e
      (true, new ++ e, (s.onIsl fun i => { i with
        next := some (wordsOf new), log := (i.log ++ [e]).drop (i.log.length + 1 - 64) }).onDev
        (fun d => d.raise Ev.SAF_SPB_ACCEPTED))
    else (false, [], s.onDev (fun d => d.raise Ev.SAF_SPB_REJECT))

/-! ## Views (R361, R362) -/

/-- SAF.STATUS. -/
def State.safStatus (s : State) : Word :=
  let i := s.isl
  let st := match i.st with
    | .start => 0 | .selftest => 1 | .wait => 2 | .run => 3 | .lockout => 4 | .internal => 5
  let m := fun n (p : Nat → Bool) => (List.range n).foldl (fun acc k => if p k then setBit acc k else acc) 0
  word (st + b2n i.defaulted * 8 + b2n i.fwRun * 16 + m 4 s.permits * 256
    + m 4 (fun k => i.soOn 0 k && i.soOn 1 k) * 4096
    + m 8 (fun k => i.pairOff 0 k || i.pairOff 1 k) * 65536 + i.stall * 16777216)

/-- HEAD_STATE_h. -/
def State.headState (s : State) (h : Nat) : Word :=
  word (b2n (s.grants 0 h) + b2n (s.grants 1 h) * 2 + b2n (s.lenRead 0 h) * 4 + b2n (s.lenRead 1 h) * 8
    + b2n (s.isl.stall.testBit h) * 16 + tabGet 0 s.isl.headPulses h * 65536)

/-- PAIR_STATE_i, from the readings of both halves. -/
def State.pairState (s : State) (i : Nat) : Word :=
  let p := s.isl.sp.guard i
  let q := s.isl.hwl.guard i
  let en := pairEn s.isl.spb i
  word (b2n (p.a && q.a) + b2n (p.b && q.b) * 2 + b2n (s.isl.inDemand 0 i || s.isl.inDemand 1 i) * 4
    + b2n (en && (p.pending || q.pending)) * 8 + b2n (en && (p.wait || q.wait)) * 16
    + b2n (s.isl.discRuns 0 i || s.isl.discRuns 1 i) * 32 + min 65535 (max p.discMs q.discMs) * 65536)

/-- SO_STATE_k. -/
def State.soState (s : State) (k : Nat) : Word :=
  word (b2n (s.soDrive 0 k) + b2n (s.soDrive 1 k) * 2 + b2n (s.soRead 0 k) * 4 + b2n (s.soRead 1 k) * 8
    + b2n (s.offTest (2 * k) || s.offTest (2 * k + 1)) * 16)

/-- PW_STATUS. -/
def State.pwStatus (s : State) : Word :=
  let left := match s.isl.pw.openAt with
    | some t => 600 - (s.dev.now - t) / (1000 * ms)
    | none => 0
  word (b2n s.isl.pw.openAt.isSome + b2n s.isl.pw.busy.isSome * 2 + b2n s.pwRefusing * 4 + s.isl.pw.fails * 16
    + left * 65536)

end Sys2Proof.Machine
end

