-- ==== Sys2Proof/Machine/Burin.lean ====
section
/-! DEFINITION. Burin, the firing engine: code draws, fire positions, the plan check, limits and shots (02). -/
namespace Sys2Proof.Machine

/-! ## Settings -/

/-- EM_CTL_e.EN. -/
def Dev.emEn (d : Dev) (e : Nat) : Bool := d.b (Reg.BRN_EM_CTL e) 0
/-- GATE code. -/
def Dev.emGate (d : Dev) (e : Nat) : Nat := d.f (Reg.BRN_EM_CTL e) 7 1
/-- Pulse-pair mode. -/
def Dev.emPair (d : Dev) (e : Nat) : Bool := d.b (Reg.BRN_EM_CTL e) 8
/-- CHARGE code. -/
def Dev.emCharge (d : Dev) (e : Nat) : Nat := d.f (Reg.BRN_EM_CTL e) 27 16
/-- S. -/
def Dev.emS (d : Dev) (e : Nat) : Nat := d.f (Reg.BRN_EM_START e) 26 0
/-- Q. -/
def Dev.emQ (d : Dev) (e : Nat) : Nat := d.f (Reg.BRN_EM_PERIOD e) 26 0
/-- N. -/
def Dev.emN (d : Dev) (e : Nat) : Nat := d.f (Reg.BRN_EM_COUNT e) 11 0
/-- DITHER_SPAN. -/
def Dev.span (d : Dev) : Nat := d.f Reg.BRN_DITHER_SPAN 15 0
/-- PHASE_MODE. -/
def Dev.phaseMode (d : Dev) : Nat := d.f Reg.BRN_CODE_CTL 9 8
/-- NPH (R57). -/
def Dev.nph (d : Dev) : Nat :=
  match d.f Reg.BRN_CODE_CTL 11 10 with | 0 => 16 | 1 => 32 | _ => 64
/-- Effective span W (R48). -/
def Dev.spanW (d : Dev) : Nat := if d.phaseMode = 0 then d.span else d.span + d.nph - 1
/-- PP_BASE. -/
def Dev.ppBase (d : Dev) : Nat := d.f Reg.BRN_PP_SPACING 13 0
/-- PP_STEP. -/
def Dev.ppStep (d : Dev) : Nat := d.f Reg.BRN_PP_SPACING 25 16
/-- Pair extent X of an emitter (R48). -/
def Dev.pairExtent (d : Dev) (e : Nat) : Nat := if d.emPair e then d.ppBase + 7 * d.ppStep else 0
/-- WIN_OFS_h in fine bins (06 R185). -/
def Dev.winOfs (d : Dev) (h : Nat) : Nat := d.f (Reg.STP_WIN_OFS h) 11 0
/-- Listen end Lh in fine bins (06 R156). -/
def Dev.listenEnd (d : Dev) (h : Nat) : Nat := d.winOfs h + 4224
/-- Pulses of one shot. -/
def Dev.shotPulses (d : Dev) (e : Nat) : Nat := if d.emPair e then 2 else 1
/-- The throttle rule of R63 is active: thermal step 2 or above. -/
def Dev.throttleRule (d : Dev) : Bool := decide (2 ≤ d.thm.step)

/-! ## Coded positions (R52-R57) -/

/-- One step of the 31-bit LFSR with taps 31 and 28 (R53). -/
def lfsrStep (s : Nat) : Nat := ((2 * s) % 2 ^ 31) ||| (b2n (s.testBit 30 ^^ s.testBit 27))

/-- `n` steps. -/
def lfsr : Nat → Nat → Nat
  | 0, s => s
  | n + 1, s => lfsr n (lfsrStep s)

/-- The state at the tick of frame n (R53). -/
def lfsrSeed (seed e g frame : Nat) : Nat :=
  let s := (seed ^^^ (e <<< 27) ^^^ (g <<< 25) ^^^ (frame % 2 ^ 25)) % 2 ^ 31
  if s = 0 then 1 else s

/-- The LFSR state of draw j of sub-group g: after (j + 1) strides (R52, R53). -/
def Dev.draw (d : Dev) (e g j : Nat) : Nat :=
  let stride := 2 * (4 * d.f Reg.BRN_CODE_CTL 3 0 + g) + 1
  lfsr ((j + 1) * stride) (lfsrSeed (d.f Reg.BRN_CODE_SEED 30 0) e g d.glb.frameNum.toNat)

/-- Dither of shot k in fine bins (R52-R54). -/
def Dev.dither (d : Dev) (e k : Nat) : Nat :=
  let g := k % 4
  let j := k / 4
  if d.b Reg.BRN_CODE_CTL 4 then min d.span (tabGet 0 d.brn.table (1024 * g + j % 1024))
  else (bitsN (d.draw e g j) 30 15 * (d.span + 1)) >>> 16

/-- Code c of the second pulse of shot k (R55). -/
def Dev.pairCode (d : Dev) (e k : Nat) : Nat :=
  if d.b Reg.BRN_CODE_CTL 4 then k / 4 % 8 else d.draw e (k % 4) (k / 4) % 8

/-- Shots with index below k that the throttle rule keeps (R57, R63). -/
def keptBelow (throttled : Bool) (k : Nat) : Nat :=
  if throttled then ((List.range k).filter (fun i => !i.testBit 2)).length else k

/-- Planned fire position of shot k in fine bins after the tick (R48, R57). -/
def Dev.firePos (d : Dev) (e k : Nat) : Nat :=
  let base := d.emS e + k * d.emQ e
  let dl := d.dither e k
  if d.phaseMode = 0 then base + dl
  else
    let n := d.nph
    let p0 := base + dl / n * n
    let pk := (if d.phaseMode = 1 then keptBelow d.throttleRule k else d.glb.frameNum.toNat) % n
    let ph := (d.glb.start / 8 + p0) % n
    p0 + (pk + n - ph) % n

/-- Planned fire DT of shot k (R48). -/
def Dev.fireDt (d : Dev) (e k : Nat) : Time := d.glb.start + 8 * d.firePos e k

/-! ## Effective limits and the plan check (R49, R50, R64) -/

/-- The energy-limited profile is enabled (10 R299). -/
def Dev.elOn (d : Dev) : Bool := d.b Reg.HKP_EL_CTL 0

/-- The lowest of the Burin register, the safety-parameter value and the energy cap while enabled (R64). -/
def Dev.effLimit (d : Dev) (reg spb cap : Nat) : Nat :=
  min (min reg spb) (if d.elOn then cap else min reg spb)

/-- Effective charge ceiling. -/
def Dev.effCharge (d : Dev) (t : Tab Word) (e : Nat) : Nat :=
  d.effLimit (d.f (Reg.BRN_LIM_CHARGE e) 11 0) (spbCharge t e) (d.f (Reg.HKP_EL_CHARGE e) 11 0)
/-- Effective pulse limit. -/
def Dev.effPulse (d : Dev) (t : Tab Word) (e : Nat) : Nat :=
  d.effLimit (d.f (Reg.BRN_LIM_PULSE e) 12 0) (spbPulse t e) (d.f (Reg.HKP_EL_PULSE e) 12 0)
/-- Effective gate-time limit, 0.25 ns. -/
def Dev.effGate (d : Dev) (t : Tab Word) (e : Nat) : Nat :=
  d.effLimit (d.f (Reg.BRN_LIM_GATE e) 23 0) (spbGate t e) (d.f (Reg.HKP_EL_GATE e) 23 0)

/-- Condition 1 of R49, CODE_CTL part. -/
def Dev.codeOk (d : Dev) : Bool := d.phaseMode ≠ 3 && d.f Reg.BRN_CODE_CTL 11 10 ≠ 3
/-- Condition 3 of R49 for a train of `n` shots. -/
def Dev.fitsPlan (d : Dev) (e n : Nat) : Bool :=
  decide (d.emS e + (n - 1) * d.emQ e + d.spanW + d.pairExtent e + 32 * d.emGate e + d.listenEnd (e / 4)
    ≤ 128 * d.planLen)

/-- Condition c of R49 holds for emitter e. -/
def Dev.planCond (d : Dev) (t : Tab Word) (e c : Nat) : Bool :=
  let n := d.emN e
  let pulses := n * d.shotPulses e
  match c with
  | 1 => 4 ≤ d.emGate e && d.emGate e ≤ 80 && d.codeOk
  | 2 => 64000 + d.spanW ≤ d.emQ e
  | 3 => d.fitsPlan e n
  | 4 => n ≤ 2000 && pulses ≤ d.effPulse t e
  | 5 => d.emCharge e ≤ d.effCharge t e
  | 6 => pulses * d.emGate e ≤ d.effGate t e
  | _ => !d.emPair e || (32 * d.emGate e + 128 ≤ d.ppBase && d.pairExtent e ≤ 8192)

/-- The first failing condition of an emitter; only enabled emitters with N >= 1 are judged. -/
def Dev.planFail (d : Dev) (t : Tab Word) (e : Nat) : Option Nat :=
  if d.emEn e && decide (1 ≤ d.emN e) then [1, 2, 3, 4, 5, 6, 7].find? (fun c => !d.planCond t e c) else none

/-- The lowest failing emitter with its first failing condition. -/
def Dev.planFirst (d : Dev) (t : Tab Word) : Option (Nat × Nat) :=
  (List.range 16).findSome? (fun e => (d.planFail t e).map (fun c => (e, c)))

/-- Shots that a truncation leaves of the plan in force, plus one; 0 when the train is not truncated (R50). -/
def Dev.truncOf (d : Dev) (t : Tab Word) (e : Nat) : Nat :=
  match d.planFail t e with
  | none => 0
  | some _ =>
    if d.planCond t e 4 && d.planCond t e 5 && d.planCond t e 6 then
      1 + ((List.range (d.emN e)).filter (fun k => d.fitsPlan e (k + 1))).length
    else 1

/-- Put registers back to their values in another state. -/
def Dev.revertTo (old : Dev) (offs : List Nat) (d : Dev) : Dev := offs.foldl (fun d o => d.wr o (old.rd o)) d

/-- Offsets in a range, from a list. -/
def offsIn (lo hi : Nat) (l : List Nat) : List Nat := l.filter (fun o => decide (lo ≤ o) && decide (o < hi))

/-- A Burin emission limit register (R68). -/
def isBrnLimit (o : Nat) : Bool := decide (Reg.BRN_LIM_CHARGE 0 ≤ o) && decide (o < Reg.BRN_LIM_GATE 0 + 64)

/-- The plan check of a tick (R49, R50): `old` is the state before step 2, `staged` the offsets staged. -/
def Dev.planCheck (t : Tab Word) (old : Dev) (staged : List Nat) (d : Dev) : Dev :=
  let mine := (offsIn 0x100000 0x200000 staged).filter (fun o => !isBrnLimit o)
  let code := if mine.contains Reg.BRN_CODE_CTL && !d.codeOk then some (0, 1) else none
  let fail := match d.planFirst t with
    | some x => some x
    | none => code
  let reject := !mine.isEmpty && fail.isSome
  let fam := d.f Reg.BRN_CODE_CTL 3 0
  let d := if reject then
      let d := (Dev.revertTo old mine d).raise Ev.BRN_PLAN_REJECT
      -- the family set of a cascade device comes from SEED and is no staged value (R56)
      if d.cascOn then d.setF Reg.BRN_CODE_CTL 3 0 fam else d
    else d
  let trunc : Tab Nat := (List.range 16).foldl (fun m e => tabPut 0 m e (d.truncOf t e)) []
  let begins := trunc.any (fun x => tabGet 0 old.brn.trunc x.1 = 0)
  let d := { d with brn := { d.brn with trunc := trunc } }.raiseIf begins Ev.BRN_PLAN_TRUNC
  let shown := if reject then fail else d.planFirst t
  let tr := b2n (!trunc.isEmpty) * 4096
  d.wrN Reg.BRN_PLAN_STATUS (match shown with
    | some (e, c) => 2 + e * 16 + c * 256 + tr
    | none => 1 + tr)

/-! ## Ticks and shots -/

/-- Planned shots of an emitter in the frame. -/
def Dev.planned (d : Dev) (e : Nat) : Nat := if d.brn.ranging && d.emEn e then d.emN e else 0

/-- The frame's counts are published at its end (R68). A pulse that a unit without the claim observed on the fire net was
fired by its partner, and no count of skipped pulses holds it (13 R372, and the example under R383). -/
def Dev.brnEnd (d : Dev) : Dev :=
  let m := (List.range 16).foldl (fun m e => if tabGet 0 d.brn.fired e = 0 then m else setBit m e) 0
  let d := forN 16 (fun e d =>
    let f := tabGet 0 d.brn.fired e
    (d.wrN (Reg.BRN_FIRED e) f).wrN (Reg.BRN_SKIP e) (d.planned e * d.shotPulses e - f - tabGet 0 d.brn.seen e)) d
  { d.wrN Reg.BRN_STATUS m with
    brn := { d.brn with fired := [], gate := [], seen := [], next := [], second := 0, stopped := 0 } }

/-- After step 2 of a tick: charge codes that changed, the code table, the status bits (R47, R54, R68). -/
def Dev.brnStart (old : Dev) (d : Dev) : Dev :=
  let m := (List.range 16).foldl (fun m e => if d.emCharge e ≠ old.emCharge e then setBit m e else m) 0
  let tbl := (d.brn.shadow).getD d.brn.table
  { d with brn := { d.brn with recharged := m, table := tbl, shadow := none } }.wrN Reg.BRN_STATUS
    (d.f Reg.BRN_STATUS 15 0 + b2n (d.phaseMode ≠ 0) * 65536 + b2n d.throttleRule * 131072)

/-- Emitter of a bank, when the bank is assigned (R58). -/
def Dev.bankEmitter (d : Dev) (b : Nat) : Option Nat :=
  if d.b Reg.BRN_ILLUM_EN b then some (d.f (Reg.BRN_ILLUM_MAP (b / 8)) (4 * (b % 8) + 3) (4 * (b % 8))) else none

/-- A bank of the receive front end. -/
def Dev.bank (d : Dev) (b : Nat) : Bank := tabGet {} d.afe.banks b

/-- Store a bank. -/
def Dev.setBank (d : Dev) (b : Nat) (x : Bank) : Dev := { d with afe := { d.afe with banks := tabPut {} d.afe.banks b x } }

/-- A shot reference goes to Stipple: every bank that the emitter lights awaits its listen window (R58, R59). -/
def Dev.shotRef (e k : Nat) (t : Time) (d : Dev) : Dev :=
  forN 32 (fun b d => if d.bankEmitter b = some e then
    let x := d.bank b
    d.setBank b { x with refs := x.refs ++ [(k, t)] } else d) d

/-- A planned shot did not fire: its planned close is a shot boundary of the banks that the emitter lights (04 R105). -/
def Dev.shotMissed (e : Nat) (t : Time) (d : Dev) : Dev :=
  forN 32 (fun b d => if d.bankEmitter b = some e then
    let x := d.bank b
    d.setBank b { x with missed := x.missed ++ [t] } else d) d

/-- Pulses that the counter of R66 still lets out of `n`. -/
def Dev.counterRoom (d : Dev) (t : Tab Word) (e n : Nat) : Nat :=
  let left := d.effPulse t e - tabGet 0 d.brn.fired e
  let gleft := (d.effGate t e - tabGet 0 d.brn.gate e) / max 1 (d.emGate e)
  min n (min left gleft)

/-- Every source permits emission from emitter e (01 R45; 02 R46, R60); a lock loss stops the fire outputs (05 R132). -/
def State.mayEmit (s : State) (e : Nat) : Bool := s.headMay (e / 4) && s.dev.thermalOk && s.dev.drives && s.dev.tim.lock

/-- The planned shot is one that the plan fires: not truncated, thinned by the throttle, or before its charge code has
settled (R47, R50, R63). -/
def Dev.planFires (d : Dev) (e k : Nat) : Bool :=
  let tr := tabGet 0 d.brn.trunc e
  (tr = 0 || decide (k + 1 < tr)) && !(d.throttleRule && k.testBit 2)
  && !(d.brn.recharged.testBit e && decide (d.fireDt e k < d.glb.start + 2 * us))

/-- The fire and charge outputs of the emitters are driven: ACQ is on with its pads released, and the unit holds the
claim. Without the claim they are high impedance, and inactive once a boundary instruction is loaded (R62; 13 R364; 16 R470;
17 R497). -/
def Dev.emDriven (d : Dev) : Bool := d.on domACQ && !d.pwr.held.testBit domACQ && d.drives && !d.sec.bscan

/-- The code that charge output LQe carries; none is high impedance (R46, R47, R62; 17 R497). -/
def Dev.lqOut (d : Dev) (e : Nat) : Option Nat := if d.emDriven then some (d.emCharge e) else none

/-- DT of the next pulse of shot k: the second pulse of a pair follows the first (R48, R55). -/
def Dev.pulseDt (d : Dev) (e k : Nat) (second : Bool) : Time :=
  d.fireDt e k + (if second then 8 * (d.ppBase + d.ppStep * d.pairCode e k) else 0)

/-- The reference of shot k goes to Stipple and to the plates' SHOT sources with its first pulse (R55, R59; 07 R226). A
pair of which the second pulse alone fires passes none: DESIGN CHOICE (log 106). -/
def Dev.passRef (e k : Nat) (t : Time) (second : Bool) (d : Dev) : Dev :=
  if second then d else { d with brn := { d.brn with last := tabPut 0 d.brn.last e (t + 1) } }.shotRef e k t

/-- One pulse leaves the fire output: count it (R66). -/
def Dev.fireOut (e : Nat) (d : Dev) : Dev :=
  { d with brn := { d.brn with
    fired := tabMod 0 d.brn.fired e (· + 1), gate := tabMod 0 d.brn.gate e (· + d.emGate e) } }

/-- The time of one pulse has come: the train moves on, to the second pulse of a pair or to the next shot. -/
def Dev.pulsePast (e k : Nat) (second : Bool) (d : Dev) : Dev :=
  if d.emPair e && !second then { d with brn := { d.brn with second := setBit d.brn.second e } }
  else { d with brn := { d.brn with next := tabPut 0 d.brn.next e (k + 1), second := clrBit d.brn.second e } }

/-- A pulse that does not fire; with its first pulse the shot has no reference. -/
def Dev.pulseMissed (e : Nat) (t : Time) (second : Bool) (d : Dev) : Dev := if second then d else d.shotMissed e t

/-- A permitted pulse: it fires, unless the counter of R66 has no room for it. -/
def State.pulseOut (e k : Nat) (t : Time) (second : Bool) (s : State) : State :=
  if s.dev.counterRoom s.isl.spb e 1 = 0 then
    let s := s.onDev (Dev.pulseMissed e t second)
    if s.dev.brn.stopped.testBit e then s
    else s.onDev fun d => (({ d with brn := { d.brn with stopped := setBit d.brn.stopped e } }).setB
      Reg.BRN_LIMIT_HIT e true).raise Ev.BRN_COUNT_STOP
  else s.onDev fun d => (d.fireOut e).passRef e k t second

/-- A unit without the claim observes a pulse of the plan on the shared net: whatever its own throttle or truncation, the
pulse was fired and its shot has a reference (R62; 13 R372). -/
def Dev.pulseSeen (e k n : Nat) (t : Time) (second : Bool) (d : Dev) : Dev :=
  if n = 0 then d.pulseMissed e t second
  else { d with brn := { d.brn with seen := tabMod 0 d.brn.seen e (· + 1) } }.passRef e k t second

/-- SHOT_FIRE: the next pulse of the next planned shot of emitter e (R47, R48, R59, R60, R63, R66; 12 R342; 13 R372).
A pulse pair takes two commands, one per pulse, since R60 samples the permission for each pulse. -/
def State.shotFire (e : Nat) (o : FireObs) (s : State) : State :=
  let k := tabGet 0 s.dev.brn.next e
  if !s.dev.on domACQ || s.dev.planned e ≤ k then s.hwlCount e o.pulses o.gate o.lq
  else
    let second := s.dev.brn.second.testBit e
    let first := s.dev.fireDt e k
    let t := s.dev.pulseDt e k second
    let s := s.onDev fun d => (d.at t).pulsePast e k second
    let charge := s.dev.brn.recharged.testBit e && decide (first < s.dev.glb.start + 2 * us)
    let s := if charge then s.onDev (fun d => d.raiseOnce Ev.BRN_CHARGE_SKIP) else s
    let s :=
      if !s.dev.drives then s.onDev (Dev.pulseSeen e k o.pulses t second)
      else if s.dev.planFires e k && s.mayEmit e then s.pulseOut e k t second
      else s.onDev (Dev.pulseMissed e t second)
    s.hwlCount e o.pulses o.gate o.lq

/-- BRN_LIMIT_WRITE (R65; 12 R358): refused without a session, ignored above the safety-parameter value or the energy
cap, else staged for the tick. -/
def State.limitWrite (off : Nat) (v : Word) (s : State) : State :=
  let i := (off - 0x100200) / 4
  let e := i % 16
  let kind := i / 16
  let val := if kind = 0 then fld v 11 0 else if kind = 1 then fld v 12 0 else fld v 23 0
  let lim := if kind = 0 then spbCharge s.isl.spb e else if kind = 1 then spbPulse s.isl.spb e else spbGate s.isl.spb e
  let cap := if kind = 0 then s.dev.f (Reg.HKP_EL_CHARGE e) 11 0
    else if kind = 1 then s.dev.f (Reg.HKP_EL_PULSE e) 12 0 else s.dev.f (Reg.HKP_EL_GATE e) 23 0
  if !s.isl.rwpOk then s.rwpDenied
  else if lim < val || (s.dev.elOn && cap < val) then s.onDev (fun d => d.raise Ev.BRN_LIMIT_REJECT)
  else s.onDev fun d => { d with glb := { d.glb with staged := d.glb.staged ++ [(off, word val)] } }

end Sys2Proof.Machine
end

