-- ==== Sys2Proof/Machine/Tim.lean ====
section
/-! DEFINITION. The timebase: PLL, reference, capture units, TI inputs and interval units (05). -/
namespace Sys2Proof.Machine

/-! ## PLL and reference (R129-R132) -/

/-- Frame 0 begins without a tick (01 R21); budgets come into force (01 R36). -/
def Dev.frame0 (d : Dev) : Dev :=
  let d := { d with glb := { d.glb with
    run := true, frameNum := 0, tickDt := 0, start := d.now, ticks := 0, src := .internal, deferred := false,
    subst := false, deferredNow := false, memCfg := d.rd Reg.GLB_MEM_CFG, memCfgNew := false } }
  d.biteFrame false

/-- PLL_LOCK: after a power-on or cold reset DT starts from 0 and frame 0 begins (R129; 01 R21, R22). While CORE wakes,
DT continues and frame 0 waits for the wake's end (16 R470, R477). -/
def Dev.pllLock (d : Dev) : Dev :=
  if d.tim.lock || d.tim.noRef || d.tim.lockLost || d.pwr.shutHold then d
  else
    let first := !d.tim.started
    let d := { d with tim := { d.tim with lock := true, refOk := true, started := true } }
    if first then { d with tim := { d.tim with dt := 0 } }.frame0 else d

/-- PLL_NO_REFERENCE: no reference 10 ms after supplies good (R129). -/
def Dev.pllNoRef (d : Dev) : Dev :=
  if d.tim.lock || d.tim.started then d else { d with tim := { d.tim with noRef := true } }

/-- Every capture unit discards its edges: the events of the channels that run deliver no hit (R132). -/
def Dev.dropEdges (d : Dev) : Dev :=
  let drop := fun (m : Tab Chan) (e : Nat × Chan) => tabMod {} m e.1 (fun x => { x with ev := none })
  { d with afe := { d.afe with chans := d.afe.chans.foldl drop d.afe.chans } }

/-- TIM_PLL_UNLOCK: the lock loss of R132; the safety island takes the fault CLOCK. -/
def State.pllUnlock (s : State) : State :=
  if !s.dev.tim.lock then s
  else (s.onDev fun d => { d.dropEdges with tim := { d.tim with lock := false, lockLost := true, holdover := false } }.raise
    Ev.TIM_PLL_UNLOCK).fault 0x0C 0

/-- TIM_REF_LOSS: holdover, or a lock loss with HOLD_EN = 0 (R130, R131). -/
def State.refLoss (s : State) : State :=
  if !s.dev.tim.lock || !s.dev.tim.refOk then s
  else
    let s := s.onDev fun d => { d with tim := { d.tim with refOk := false } }.inc Reg.TIM_REF_LOSS_CNT
    if s.dev.b Reg.TIM_REF_CTL 0 then
      s.onDev fun d => { d with tim := { d.tim with holdover := true } }.raise Ev.TIM_REF_LOSS
    else s.pllUnlock

/-- TIM_REF_RESTORED: the reference is valid again; a holdover ends (R131). After a lock loss REF_OK alone follows it
(R132, R152). -/
def Dev.refRestored (d : Dev) : Dev :=
  if d.tim.refOk then d
  else
    let e := { d with tim := { d.tim with holdover := false, refOk := true } }
    if d.tim.holdover then e.raise Ev.TIM_REF_RESTORED else e

/-- The ageing adjustment in force: none in a cascade member that follows the cascade alignment (R127). -/
def Dev.ageApplied (d : Dev) : Word := if d.cascMember && !d.mdv.freerun then 0 else d.rd Reg.TIM_AGE_TRIM

/-! ## Capture units (R133-R137) -/

/-- Entry k of a bin-width table stored two entries a word from register `w` (R151). -/
def Dev.binEntry (d : Dev) (w : Nat → Nat) (k : Nat) : Nat :=
  if k % 2 = 0 then d.f (w (k / 2)) 15 0 else d.f (w (k / 2)) 31 16

/-- The corrected time of an edge: 512 p + floor((C[k] + 32) / 64) (R134). -/
def Dev.edgeTime (d : Dev) (w : Nat → Nat) (x : Edge) : Time := 512 * x.p + (d.binEntry w x.k.val + 32) / 64

/-- A table is nominal: C[k] = 512 k + 256 (R135). -/
def Dev.nominal (d : Dev) (w : Nat → Nat) : Bool := (List.range 64).all (fun k => d.binEntry w k = 512 * k + 256)

/-- Any unit of channel c is nominal (R137). -/
def Dev.chanNominal (d : Dev) (c : Nat) : Bool := (List.range 3).any (fun m => d.nominal (Reg.TIM_TBL c m))

/-! ## Interval units (R142-R149) -/

/-- An interval unit. -/
def Dev.iu (d : Dev) (u : Nat) : Iu := tabGet {} d.tim.iu u
/-- Store an interval unit. -/
def Dev.setIu (d : Dev) (u : Nat) (x : Iu) : Dev := { d with tim := { d.tim with iu := tabPut {} d.tim.iu u x } }
/-- A length in ns limited to 16 ns - 1 s, in DT (R145, R147). -/
def iuLen (v : Nat) : Time := max 16 (min 1000000000 v) * ns
/-- MODE of a unit; 0b11 acts as off. -/
def Dev.iuMode (d : Dev) (u : Nat) : Nat := let m := d.f (Reg.TIM_IU_CTL u) 1 0; if m = 3 then 0 else m
/-- GMODE. -/
def Dev.iuGmode (d : Dev) (u : Nat) : Nat := d.f (Reg.TIM_IU_CTL u) 3 2
/-- The unit is enabled (R144). -/
def Dev.iuOn (d : Dev) (u : Nat) : Bool := d.on domACQ && d.iuMode u ≠ 0 && d.iuGmode u ≠ 3
/-- The table registers of a TI input edge: unit R or F. -/
def tiTable (i : Nat) (rising : Bool) (q : Nat) : Nat := Reg.TIM_TBL_TI i (if rising then 0 else 1) q

/-- A capture unit that the interval unit uses holds the nominal table (R148). DESIGN CHOICE (log 111): the unit of the start
edge counts as used, in interval mode that of the stop edge too, whether an edge of it was taken or not, and that of the
gate never; it is judged when the record is formed. -/
def Dev.iuStale (d : Dev) (u : Nat) : Bool :=
  let c := d.rd (Reg.TIM_IU_CTL u)
  d.nominal (tiTable (fld c 6 4) (!bit c 7)) || (d.iuMode u = 1 && d.nominal (tiTable (fld c 10 8) (!bit c 11)))

/-- Form a result (R148, R149). -/
def Dev.iuResult (u : Nat) (ref : Time) (iv : Int) (n flags : Nat) (d : Dev) : Dev :=
  let x := d.iu u
  let fl := flags + b2n (d.iuStale u) * 32
  if 64 ≤ x.fifo.length then
    ((d.setIu u { x with seq := (x.seq + 1) % 2 ^ 32, lost := true }).inc (Reg.TIM_IU_LOST u)).raiseOnce (Ev.TI_FIFO_FULL u)
  else
    let r := leBytes 8 ref ++ leBytes 8 (ofSigned 64 iv) ++ leBytes 4 (min n 0xFFFFFFFF)
      ++ leBytes 2 (fl + b2n x.lost * 64) ++ leBytes 1 (u + d.iuMode u * 16) ++ leBytes 1 0
      ++ leBytes 4 d.glb.frameNum.toNat ++ leBytes 4 x.seq
    d.setIu u { x with seq := (x.seq + 1) % 2 ^ 32, lost := false, fifo := x.fifo ++ [r] }

/-- Set a unit's state. -/
def Dev.iuSt (u : Nat) (st : IuSt) (d : Dev) : Dev := d.setIu u { d.iu u with st := st }

/-- Arm a unit at an instant: a frequency unit opens its gate interval (R144, R147). -/
def Dev.iuArmAt (u : Nat) (t : Time) (d : Dev) : Dev :=
  d.iuSt u (if d.iuMode u = 2 then .count t 0 0 0 else .armed t)

/-- A measurement ends at an instant: the unit is idle, and re-arms 16 ns later at the earliest (R144). -/
def Dev.iuEnd (u : Nat) (t : Time) (d : Dev) : Dev := d.setIu u { d.iu u with st := .idle, ready := t + 16 * ns }

/-- The gate input of a unit is at its active level (R144). A disabled input counts as inactive: DESIGN CHOICE (log 111). -/
def Dev.iuGate (d : Dev) (u : Nat) : Bool :=
  let c := d.rd (Reg.TIM_IU_CTL u)
  let i := fld c 14 12
  d.b (Reg.TIM_TI_IN i) 20 && decide (tabGet 0 d.tim.level i = b2n (!bit c 15))

/-- An idle unit arms by itself in FREE mode, and in LEVEL mode while its gate is active, at the earliest instant that R144
allows once that instant has come by time t. -/
def Dev.iuAutoArm (u : Nat) (t : Time) (d : Dev) : Dev :=
  let x := d.iu u
  if d.iuOn u && x.st = .idle && (d.iuGmode u = 0 || (d.iuGmode u = 2 && d.iuGate u)) && decide (x.ready ≤ t) then
    (d.at x.ready).iuArmAt u x.ready
  else d

/-- The gate of a frequency unit ends at an instant: its result is formed (R147). -/
def Dev.iuCountEnd (u : Nat) (t : Time) (d : Dev) : Dev :=
  match (d.iu u).st with
  | .count _ n first last =>
    (d.iuResult u first (if n < 2 then 0 else (last - first : Nat)) n (if n < 2 then 16 else 0)).iuEnd u t
  | _ => d

/-- The interval of R146 is complete, with its second edge. -/
def Dev.iuInterval (u : Nat) (start stop : Time) (d : Dev) : Dev :=
  let iv : Int := (stop : Int) - start
  let co := decide (-8 < iv) && decide (iv < 8)
  (d.iuResult u start (if co then 0 else iv) 0
    (b2n co + b2n (!co && decide (iv < 0)) * 2)).iuEnd u (max start stop)

/-- The measurement of a unit takes an accepted edge: start or stop of an interval, or a counted edge (R145-R147). -/
def Dev.iuTake (isStart isStop : Bool) (t : Time) (u : Nat) (d : Dev) : Dev :=
  match (d.iu u).st with
  | .armed t0 =>
    if t < t0 then d
    else if isStart then d.iuSt u (.one true t (t + iuLen (d.f (Reg.TIM_IU_WIN u) 29 0)))
    else if isStop then d.iuSt u (.one false t (t + iuLen (d.f (Reg.TIM_IU_WIN u) 29 0)))
    else d
  | .one first t1 until_ =>
    if until_ < t then d
    else if first && isStop then d.iuInterval u t1 t
    else if !first && isStart then d.iuInterval u t t1
    else d
  | .count since n f _ =>
    if isStart && since ≤ t && (d.iuGmode u = 2 || t < since + iuLen (d.f (Reg.TIM_IU_GLEN u) 29 0)) then
      d.iuSt u (.count since (n + 1) (if n = 0 then t else f) t)
    else d
  | .idle => d

/-- What an edge of the gate input does to a unit whose state before the edge was `st` (R144): an active edge arms an idle
unit 4 ns later, the end of the level disarms one or ends its gate interval, and an edge during a measurement arms nothing. -/
def Dev.iuGateEdge (active : Bool) (st : IuSt) (t : Time) (u : Nat) (d : Dev) : Dev :=
  let x := d.iu u
  if d.iuGmode u = 1 then (if active && st = .idle then d.iuArmAt u (t + 4 * ns) else d)
  else if d.iuGmode u ≠ 2 then d
  else if active then (if st = .idle then d.setIu u { x with ready := max x.ready (t + 4 * ns) } else d)
  else match x.st with
    | .armed _ => d.iuSt u .idle
    | .count _ _ _ _ => d.iuCountEnd u t
    | _ => d

/-- An accepted edge of input i, corrected time t, at unit u (R144-R147). -/
def Dev.iuEdge (i : Nat) (rising : Bool) (t : Time) (u : Nat) (d : Dev) : Dev :=
  let c := d.rd (Reg.TIM_IU_CTL u)
  if !d.iuOn u then d
  else
    let st := (d.iu u).st
    let d := d.iuTake (fld c 6 4 = i && (bit c 7 ≠ rising)) (fld c 10 8 = i && (bit c 11 ≠ rising)) t u
    if fld c 14 12 = i then d.iuGateEdge (decide (bit c 15 ≠ rising)) st t u else d

/-- TI_EDGE: an edge at input i (R142, R143). The level of the input follows it whatever else happens; an input that is
disabled yields no edge. Units that arm by themselves before it are armed first. -/
def Dev.tiEdge (i : Nat) (rising : Bool) (x : Edge) (d : Dev) : Dev :=
  let t := d.edgeTime (tiTable i rising) x
  let t' := ((t : Int) - sfld (d.rd (Reg.TIM_TI_OFS i)) 15 0).toNat
  let setLevel := fun (d : Dev) =>
    let level : Tab Nat := tabPut 0 d.tim.level i (b2n rising)
    { d with tim := { d.tim with level := level } }
  if !d.on domACQ then d
  else if !d.b (Reg.TIM_TI_IN i) 20 || !d.tim.lock then setLevel (d.at t)
  else
    let d := setLevel (((List.range 4).foldl (fun d u => d.iuAutoArm u t') d).at t)
    let last := tabGet 0 d.tim.lastEdge i
    if last ≠ 0 && t < last - 1 + max 1 (d.f (Reg.TIM_TI_IN i) 19 12) * 4 * ns then d.inc (Reg.TIM_TI_HOLD_CNT i)
    else
      let d := { d with tim := { d.tim with lastEdge := tabPut 0 d.tim.lastEdge i (t + 1) } }
      (List.range 4).foldl (fun d u => d.iuEdge i rising t' u) d

/-- IU_ARM: an idle unit that arms by itself does so, at the instant that R144 gives, once time t has reached it. -/
def Dev.iuArm (u : Nat) (t : Time) (d : Dev) : Dev := d.iuAutoArm u t

/-- IU_WINDOW_EXPIRY: the second edge did not come (R145, R146). -/
def Dev.iuExpire (u : Nat) (d : Dev) : Dev :=
  match (d.iu u).st with
  | .one first t1 until_ => ((d.at until_).iuResult u t1 0 0 (4 + b2n (!first) * 8)).iuEnd u until_
  | _ => d

/-- IU_GATE_END: a gate interval of IU_GLEN ends; in FREE mode the next one follows at once (R147). In LEVEL mode the gate
edge ends it. -/
def Dev.iuGateEnd (u : Nat) (d : Dev) : Dev :=
  match (d.iu u).st with
  | .count since _ _ _ =>
    if d.iuGmode u = 2 then d
    else
      let stop := since + iuLen (d.f (Reg.TIM_IU_GLEN u) 29 0)
      let d := (d.at stop).iuCountEnd u stop
      if d.iuGmode u = 0 then d.iuArmAt u stop else d
  | _ => d

/-- Word j of the head record of a unit (R149). -/
def Dev.iuWord (d : Dev) (u j : Nat) : Word :=
  match (d.iu u).fifo with
  | [] => 0
  | r :: _ => word (leAt r (4 * j) 4)

/-- Remove the head record. -/
def Dev.iuPop (u : Nat) (d : Dev) : Dev := let x := d.iu u; d.setIu u { x with fifo := x.fifo.drop 1 }

/-- At a tick, a changed setting abandons the measurement in progress (R150); a unit that arms by itself does so 4 ns after
the tick (R144). R144 says it of FREE mode; a LEVEL unit enabled while its gate is active does the same: DESIGN CHOICE (log
111). -/
def Dev.iuTick (old : Dev) (d : Dev) : Dev :=
  (List.range 4).foldl (fun d u =>
    if d.rd (Reg.TIM_IU_CTL u) = old.rd (Reg.TIM_IU_CTL u) && d.rd (Reg.TIM_IU_WIN u) = old.rd (Reg.TIM_IU_WIN u)
        && d.rd (Reg.TIM_IU_GLEN u) = old.rd (Reg.TIM_IU_GLEN u) then d
    else d.setIu u { d.iu u with st := .idle, ready := d.glb.tickDt + 4 * ns }) d

/-- ACQ goes off: measurements are abandoned and the stores emptied (R150). -/
def Dev.iuOff (d : Dev) : Dev :=
  (List.range 4).foldl (fun d u => let x := d.iu u; d.setIu u { x with st := .idle, fifo := [], lost := false }) d

/-- IU_STATUS_u (R151). -/
def Dev.iuStatus (d : Dev) (u : Nat) : Word :=
  let x := d.iu u
  let armed := match x.st with | .armed _ => true | .count _ n _ _ => n = 0 | _ => false
  let meas := match x.st with | .one _ _ _ => true | .count _ n _ _ => 0 < n | _ => false
  word (b2n armed + b2n meas * 2 + x.fifo.length * 256)

/-- TIM.STATUS (R152). -/
def Dev.timStatus (d : Dev) : Word :=
  word (b2n d.tim.refSel + b2n d.tim.refOk * 2 + b2n d.tim.holdover * 4 + b2n d.tim.lock * 8 + b2n d.tim.lockLost * 16)

end Sys2Proof.Machine
end

