-- ==== Sys2Proof/Machine/PltBase.lean ====
section
/-! DEFINITION. What other blocks use of the plates: access to plate state, the marks of range changes and borrowed
taps, LPDDR4X memory, and metered cascade messages (07 R191, R195, R220-R223; 13 R387). -/
namespace Sys2Proof.Machine

/-- A plate. -/
def Dev.plt (d : Dev) (p : Nat) : Plt := tabGet {} d.wave.plt p
/-- Store a plate. -/
def Dev.setPlt (d : Dev) (p : Nat) (x : Plt) : Dev := { d with wave := { d.wave with plt := tabPut {} d.wave.plt p x } }
/-- A filter chain. -/
def Dev.flt (d : Dev) (p : Nat) : Flt := tabGet {} d.wave.flt p
/-- Store a filter chain. -/
def Dev.setFlt (d : Dev) (p : Nat) (x : Flt) : Dev := { d with wave := { d.wave with flt := tabPut {} d.wave.flt p x } }

/-- Inputs that a plate mode uses (07 R188). -/
def modeInputs : Nat → Nat
  | 0 => 1 | 1 => 2 | 2 => 4 | _ => 0

/-- Inputs in use of a plate. -/
def Dev.pltInputs (d : Dev) (p : Nat) : Nat := modeInputs (d.f (Reg.PLT_CTL p) 1 0)

/-- SRC of input j of a plate (07 R191). -/
def Dev.pltSrc (d : Dev) (p j : Nat) : Nat := d.f (Reg.PLT_IN_SEL p j) 9 0

/-- Plate inputs in use that select a source, as (plate, input). -/
def Dev.pltTaps (d : Dev) (src : Nat) : List (Nat × Nat) :=
  (List.range 8).flatMap (fun p => ((List.range (d.pltInputs p)).filter (fun j => d.pltSrc p j = src)).map (fun j => (p, j)))

/-- Note something in a plate's history; nothing is kept while the plate is not acquiring. -/
def Dev.pltMark (p : Nat) (m : Mark) (d : Dev) : Dev :=
  let x := d.plt p
  if x.acquiring then d.setPlt p { x with marks := x.marks ++ [m] } else d

/-- A range change of a source is passed to every plate input that selects it, with the DT of its boundary
(04 R116; 07 R195). -/
def Dev.tapRange (src old new : Nat) (tap : Bool) (t : Time) (d : Dev) : Dev :=
  (d.pltTaps src).foldl (fun d x => d.pltMark x.1 { dt := t, kind := .range x.2 old new tap } ) d

/-! ## LPDDR4X -/

/-- Memory holds its canonical form: addresses rise strictly and no entry holds 0, which an unlisted byte reads as. -/
def Memory.wf (m : List Host.Cell) : Bool := tabWf (0 : Byte) m

/-- Read a byte of memory. -/
def Memory.read (m : List Host.Cell) (a : Nat) : Byte := tabGet (0 : Byte) m a

/-- Write a byte of memory. -/
def Memory.write (m : List Host.Cell) (a : Nat) (b : Byte) : List Host.Cell := tabPut (0 : Byte) m a b

/-- Write bytes from an address up. -/
def Memory.writeBytes : List Host.Cell → Nat → List Byte → List Host.Cell
  | m, _, [] => m
  | m, a, b :: bs => Memory.writeBytes (Memory.write m a b) (a + 1) bs

/-- Read `n` bytes from an address up. -/
def Memory.readBytes (m : List Host.Cell) (a n : Nat) : List Byte := (List.range n).map (fun i => Memory.read m (a + i))

/-- Write a burst of up to 64 bytes: a burst written anew holds no error. -/
def Dev.memPut (a : Nat) (bs : List Byte) (d : Dev) : Dev :=
  let m := d.wave.mem
  { d with wave := { d.wave with mem := { m with
      cells := Memory.writeBytes m.cells a bs, bad := m.bad.filter (fun b => b ≠ a / 64), soft := m.soft.filter (fun b => b ≠ a / 64) } } }

/-! ## Cascade messages -/

/-- This device's position in the cascade (13 R385). -/
def Dev.cascPos (d : Dev) : Nat := if d.cascRole = 2 then 0 else d.f Reg.MDV_CASC_CTL 5 2

/-- A message leaves the cascade transmitter, where the unit drives it: the transmitters are shared stages (13 R364, R386). -/
def Dev.cascOut (m : CascMsg) (d : Dev) : Dev :=
  if d.drives then { d with mdv := { d.mdv with tx := d.mdv.tx ++ [m] } } else d

/-- Put a message on the cascade lanes; metered ones count 16 bytes under CASC and wait while it is paused
(13 R387; 01 R33, R35). -/
def Dev.cascPut (m : CascMsg) (metered : Bool) (d : Dev) : Dev :=
  if !d.cascOn then d
  else if !metered then d.cascOut m
  else
    let r := d.spend actCASC 16
    if r.1 then r.2.cascOut m
    else { r.2 with mdv := { r.2.mdv with txWait := r.2.mdv.txWait ++ [m] } }

/-- Send a message of this device's own. -/
def Dev.cascSend (typ plate arg : Nat) (dt payload : Nat) (metered : Bool) (d : Dev) : Dev :=
  d.cascPut { typ := typ, pos := d.cascPos, plate := plate, arg := arg, dt := dt, payload := payload } metered

/-- An enabled member repeats a message in the direction it travels, 128 ns after it came, where the unit drives its
transmitters (13 R386). -/
def Dev.cascRepeat (up : Bool) (m : CascMsg) (t : Time) (d : Dev) : Dev :=
  if d.cascMember && d.drives then
    { d with mdv := { d.mdv with rep := d.mdv.rep ++ [{ dt := t + 128 * 1024, up := up, msg := m }] } }
  else d

/-- A message received on the cascade lanes at `t`: one with a bad CRC is discarded and counted; another is repeated and acted
on (13 R386, R387). -/
def Dev.cascReceive (up crc : Bool) (m : CascMsg) (t : Time) (act : Dev → Dev) (d : Dev) : Dev :=
  if crc then act (d.cascRepeat up m t)
  else if d.cascOn then (d.at t).inc Reg.MDV_CASC_CRC_CNT
  else d

/-- At a tick, metered messages not sent are discarded and counted (01 R35). -/
def Dev.cascDrop (d : Dev) : Dev :=
  let n := d.mdv.txWait.length
  let d := { d with mdv := { d.mdv with tx := [], rep := [], txWait := [] } }
  if n = 0 then d else (d.add Reg.BIT_DROP_CASC n).raiseOnce Ev.BIT_DROP

end Sys2Proof.Machine
end

