-- ==== Sys2Proof/Machine/Hits.lean ====
section
/-! DEFINITION. From a timed hit to the counts of a histogram: walk correction, gates, pulse pairs and binning
(06 R154-R159). -/
namespace Sys2Proof.Machine

/-- Head of a channel, and of a bank (04 R100). -/
def headOf (c : Nat) : Nat := c / 128
/-- Bank of a channel (04 R100). -/
def bankOf (c : Nat) : Nat := c / 16

/-- A receive channel. -/
def Dev.chan (d : Dev) (c : Nat) : Chan := tabGet {} d.afe.chans c
/-- Store a channel. -/
def Dev.setChan (d : Dev) (c : Nat) (x : Chan) : Dev := { d with afe := { d.afe with chans := tabPut {} d.afe.chans c x } }
/-- Stipple's state of a channel. -/
def Dev.stp1 (d : Dev) (c : Nat) : StpCh := tabGet {} d.stp.chans c
/-- Store Stipple's state of a channel. -/
def Dev.setStp1 (d : Dev) (c : Nat) (x : StpCh) : Dev := { d with stp := { d.stp with chans := tabPut {} d.stp.chans c x } }
/-- Stipple's shot counts of a bank. -/
def Dev.stpBank (d : Dev) (b : Nat) : StpBank := tabGet {} d.stp.banks b
/-- Store the shot counts of a bank. -/
def Dev.setStpBank (d : Dev) (b : Nat) (x : StpBank) : Dev :=
  { d with stp := { d.stp with banks := tabPut {} d.stp.banks b x } }

/-- Channel enable (04 R123). -/
def Dev.chEn (d : Dev) (c : Nat) : Bool := d.b (Reg.AFE_CH_CTL c) 28
/-- A channel is borrowed by Proof in this frame (09). -/
def Dev.borrowed (d : Dev) (c : Nat) : Bool := d.prf.borrowed.testBit c

/-- The near-field gate of a head in fine bins (R156, R185). -/
def Dev.nearGate (d : Dev) (h : Nat) : Nat := max 128 (d.f (Reg.STP_NEAR h) 11 0)

/-- Walk entry i of range r of a head: W and amplitude code (R182, R185). -/
def Dev.walkEntry (d : Dev) (h r i : Nat) : Int × Nat :=
  let w := d.rd (Reg.STP_WALK h r i)
  (sfld w 15 0, fld w 23 16)

/-- Walk of the table at a time over threshold; none is unknown and takes entry 63 (R155). -/
def Dev.walkTable (d : Dev) (h r : Nat) (tot : Option Nat) : Int :=
  match tot with
  | none => (d.walkEntry h r 63).1
  | some t =>
    let i := min 63 (t / 256)
    let w0 := (d.walkEntry h r i).1
    if i = 63 then w0
    else
      let w1 := (d.walkEntry h r (i + 1)).1
      roundDiv (256 * w0 + (w1 - w0) * ((t : Int) - 256 * i)) 256

/-- Amplitude of a hit in G0 steps (R155). -/
def Dev.hitAmp (d : Dev) (h r : Nat) (tot : Option Nat) : Nat :=
  let i := match tot with | none => 63 | some t => min 63 (t / 256)
  (d.walkEntry h r i).2 * 4 ^ r

/-- Walk-corrected time of a hit of channel c at range r (R155). -/
def Dev.walkTime (d : Dev) (c r : Nat) (on : Time) (hi : Option Time) (tot : Option Nat) : Int :=
  let h := headOf c
  let ctl := d.rd (Reg.AFE_CH_CTL c)
  let lo := fld ctl 7 0
  let hg := fld ctl 15 8
  let tbl := (on : Int) + d.walkTable h r tot
  match d.f (Reg.STP_WALK_CTL h) 1 0 with
  | 0 => on
  | 1 => tbl
  | _ =>
    match hi with
    | some t =>
      if lo < hg then (on : Int) - clampI (-4096) 4096 (roundDiv (((t : Int) - on) * lo) (hg - lo)) else tbl
    | none => tbl

/-- Add a hit to a bin: the count saturates at 65,535; beside it stand the count of its code sub-group, the tally of
clipped hits and the sum of amplitudes (R158). -/
def Bin.addHit (b : Bin) (g : Nat) (clip : Bool) (amp : Nat) : Bin :=
  { b with
    n := min 65535 (b.n + 1),
    g0 := b.g0 + b2n (g = 0), g1 := b.g1 + b2n (g = 1), g2 := b.g2 + b2n (g = 2), g3 := b.g3 + b2n (g = 3),
    clip := b.clip + b2n clip, amp := b.amp + amp }

/-- Count a hit in a zoom window whose bins contain u (R158). -/
def zoomAdd (u g : Nat) (clip : Bool) (amp : Nat) (z : Option Zoom) : Option Zoom :=
  match z with
  | none => none
  | some w =>
    if 8 * w.zs ≤ u && u < 8 * w.zs + 1024 then
      some { w with bins := tabMod {} w.bins ((u - 8 * w.zs) / 8) (fun b => b.addHit g clip amp) }
    else some w

/-- Whether span position u lies in a window. -/
def inZoom (u : Nat) : Option Zoom → Bool
  | none => false
  | some w => decide (8 * w.zs ≤ u) && decide (u < 8 * w.zs + 1024)

/-- Count a hit of a shot with sub-group g (R156, R158, R159). -/
def Dev.countHit (c g : Nat) (fine : Bool) (x : Hit) (d : Dev) : Dev :=
  let h := headOf c
  let u := x.tau - 8 * d.winOfs h
  if u < 8 * d.nearGate h || 32768 ≤ u then d
  else
    let n := u.toNat
    let s := d.stp1 c
    let zooms := if fine then s.zooms.map (zoomAdd n g x.clip x.amp) else s.zooms
    let coarse : Tab Bin := tabMod {} s.coarse (n / 64) (fun b => b.addHit g x.clip x.amp)
    let hit := inZoom n (s.zooms.headD none)
    let d := d.setStp1 c { s with coarse := coarse, zooms := zooms }
    if hit then
      ((d.pltTaps c).map (fun t => t.1)).eraseDups.foldl
        (fun d p => { d with stp := { d.stp with strobes := d.stp.strobes ++ [(p, c, x.tw)] } }) d
    else d

/-- Whether the shots of a channel with a given window opening are fine shots (R160-R162). -/
def Dev.fineShot (d : Dev) (c : Nat) (opened : Time) : Bool :=
  match (d.stp1 c).mode with
  | .none => false
  | .tracking => true
  | .inFrame =>
    let sp := (d.stpBank (bankOf c)).split
    sp ≠ 0 && decide (sp - 1 + 250 * ns ≤ opened)

/-- A hit of channel c in its bank's window: corrected, and counted at once or held for pairing (R154-R158). -/
def Dev.takeHit (c : Nat) (w : Win) (on : Time) (hi : Option Time) (tot : Option Nat) (clip : Bool) (d : Dev) : Dev :=
  let r := (d.chan c).gain
  let tw := d.walkTime c r on hi tot
  let x : Hit := { tau := tw - w.fire, tw := tw, clip := clip, amp := d.hitAmp (headOf c) r tot }
  if d.emPair w.e then
    let s := d.stp1 c
    d.setStp1 c { s with hits := s.hits ++ [x] }
  else d.countHit c (w.k % 4) (d.fineShot c w.opened) x

/-- Insert a hit in order of shot time; equal times keep their order. -/
def insHit (x : Hit) : List Hit → List Hit
  | [] => [x]
  | y :: ys => if x.tau < y.tau then x :: y :: ys else y :: insHit x ys

/-- Remove the first hit that passes a test; none when there is none. -/
def takeFirst (p : Hit → Bool) : List Hit → Option (List Hit)
  | [] => none
  | y :: ys => if p y then some ys else (takeFirst p ys).map (fun l => y :: l)

/-- Pair the hits of a shot, in time order: the counted ones and the number without a partner (R157). `fuel` bounds
the hits. -/
def pairHits (s tol : Int) : Nat → List Hit → List Hit × Nat
  | 0, _ => ([], 0)
  | _, [] => ([], 0)
  | fuel + 1, x :: xs =>
    match takeFirst (fun y => decide (((y.tau - x.tau - 8 * s).natAbs : Int) ≤ 8 * tol)) xs with
    | some rest =>
      let r := pairHits s tol fuel rest
      (x :: r.1, r.2)
    | none =>
      let r := pairHits s tol fuel xs
      (r.1, r.2 + 1)

/-- At a window's close the held hits of channel c are paired and counted (R157). -/
def Dev.closeHits (c : Nat) (w : Win) (d : Dev) : Dev :=
  let s := d.stp1 c
  if s.hits.isEmpty then d
  else
    let hs := s.hits.foldl (fun l x => insHit x l) []
    let sp : Int := d.ppBase + d.ppStep * d.pairCode w.e w.k
    let r := pairHits sp (d.f Reg.STP_PP_CTL 7 0) hs.length hs
    let d := d.setStp1 c { s with hits := [] }
    let fine := d.fineShot c w.opened
    (r.1.foldl (fun d x => d.countHit c (w.k % 4) fine x) d).add (Reg.STP_PP_REJ_CNT (headOf c)) r.2

end Sys2Proof.Machine
end

