-- ==== Sys2Proof/Machine/Afe.lean ====
section
/-! DEFINITION. The receive front end: listen windows, comparator events, gain ranges and auto-ranging, ambient light
and detector bias (04). -/
namespace Sys2Proof.Machine

/-- VIN mode of a bank (R123). -/
def Dev.bankVin (d : Dev) (b : Nat) : Bool := d.b (Reg.AFE_BANK_CTL b) 0

/-- The gain-range byte of a channel (R109). -/
def Dev.gainByte (d : Dev) (c : Nat) : Nat := (d.chan c).gain + 4 * b2n (d.bankVin (bankOf c))

/-- Channels of a bank. -/
def bankChans (b : Nat) : List Nat := (List.range 16).map (fun i => 16 * b + i)

/-- A bank has no listen windows in this frame: every instant is a shot boundary (R105). -/
def Dev.noWin (d : Dev) (b : Nat) : Bool := d.afe.noWin.testBit b

/-- Set a channel's range at an instant; a change restarts the auto-ranging counts and goes to the plates
(R107, R109, R116). `tick` marks the register value of a tick. -/
def Dev.setRange (c r : Nat) (tick : Bool) (t : Time) (d : Dev) : Dev :=
  let x := d.chan c
  if x.gain = r then d
  else
    let d := d.setChan c { x with gain := r, clipRun := 0, quietRun := 0, changed := x.changed || !tick }
    let d := if tick then d else
      let b := d.bank (bankOf c)
      d.setBank (bankOf c) { b with gchg := b.gchg + 1 }
    d.tapRange c x.gain r true t

/-! ## Listen windows (R101, R105, 06 R156) -/

/-- LISTEN_WINDOW_OPEN: the window of the bank's oldest shot reference. The shot of a window that opens before a mode change
has settled is not counted for the bank (R104). A borrowed channel has no listen window (R101, R109). -/
def Dev.windowOpen (b : Nat) (d : Dev) : Dev :=
  let x := d.bank b
  match x.refs, x.win, d.bankEmitter b with
  | (k, fire) :: rest, none, some e =>
    if !d.on domACQ then d else
    let h := b / 8
    let opened := fire + 8 * d.winOfs h
    let n := decide (x.settle ≤ opened)
    let w : Win := { e := e, k := k, fire := fire, opened := opened,
                     close := fire + 8 * (d.pairExtent e + d.listenEnd h), counted := n }
    let d := (d.at opened).setBank b { x with refs := rest, win := some w }
    let s := d.stpBank b
    let g := k % 4
    let one := fun (i : Nat) => b2n (n && decide (g = i))
    let s := { s with g0 := s.g0 + one 0, g1 := s.g1 + one 1, g2 := s.g2 + one 2, g3 := s.g3 + one 3,
                      late := s.late + b2n (n && s.split ≠ 0 && decide (s.split - 1 + 250 * ns ≤ opened)) }
    let d := if n then d.setStpBank b s else d
    (bankChans b).foldl (fun d c =>
      if d.borrowed c then d else
      let ch := d.chan c
      d.setChan c { ch with winCode := some (d.gainByte c), evCount := 0 }) d
  | _, _, _ => d

/-- End the event of a channel at an instant: the hit goes to Stipple (R114, R115). `tot` is none when the end is
forced. -/
def Dev.endEvent (c : Nat) (w : Win) (stop : Time) (tot : Option Nat) (clip : Bool) (d : Dev) : Dev :=
  let x := d.chan c
  match x.ev with
  | none => d
  | some ev =>
    let d := d.setChan c { x with ev := none, lastEnd := stop + 1 }
    d.takeHit c w ev.on ev.hi tot (ev.clip || clip)

/-- Dead time and hold-off of a bank in DT (R115, R123). -/
def Dev.deadTime (d : Dev) (b : Nat) : Nat :=
  let h := max 1 (min 32 (d.f (Reg.AFE_BANK_CTL b) 9 4))
  max 1536 (512 * h)

/-- LOW_COMPARATOR_TURN_ON (R101, R114, R115). -/
def Dev.lowOn (c : Nat) (x : Edge) (d : Dev) : Dev :=
  let ch := d.chan c
  let b := bankOf c
  if ch.low then d else
  let t := d.edgeTime (Reg.TIM_TBL c 0) x
  let d := (d.at t).setChan c { ch with low := true }
  let ch := d.chan c
  match (d.bank b).win with
  | none => d
  | some w =>
    if !d.on domACQ || !d.chEn c || d.borrowed c || !d.tim.lock || !w.counted || t < w.opened || w.close < t
        || (d.prf.settle.testBit c && t < d.glb.start + us) then d
    else if ch.lastEnd ≠ 0 && t < ch.lastEnd - 1 + d.deadTime b then d
    else if 4 ≤ ch.evCount then
      let k := d.bank b
      (d.setBank b { k with ovf := k.ovf + 1 }).raiseOnce Ev.AFE_EVT_OVF
    else d.setChan c { ch with ev := some { on := t, hi := none, clip := false }, evCount := ch.evCount + 1 }

/-- HIGH_COMPARATOR_TURN_ON: the first one during an event gives its high time (R114). After a lock loss the capture unit
discards it (05 R132). -/
def Dev.highOn (c : Nat) (x : Edge) (d : Dev) : Dev :=
  let ch := d.chan c
  if !d.tim.lock then d else
  let t := d.edgeTime (Reg.TIM_TBL c 2) x
  match ch.ev with
  | some ev => if ev.hi.isNone then (d.at t).setChan c { ch with ev := some { ev with hi := some t } } else d
  | none => d

/-- LOW_COMPARATOR_TURN_OFF: the event ends and its hit is delivered (R114); an event older than 16 ns ended at that
limit (R115). After a lock loss the capture unit discards the edge, and the event with it (05 R132). -/
def Dev.lowOff (c : Nat) (x : Edge) (clip : Bool) (d : Dev) : Dev :=
  let ch := d.chan c
  if !ch.low then d else
  if !d.tim.lock then d.setChan c { ch with low := false, ev := none } else
  let t := d.edgeTime (Reg.TIM_TBL c 1) x
  let d := (d.at t).setChan c { ch with low := false }
  match ch.ev, (d.bank (bankOf c)).win with
  | some ev, some w =>
    if ev.on + 16 * ns < t then d.endEvent c w (ev.on + 16 * ns) none true
    else d.endEvent c w t (some (t - ev.on)) clip
  | _, _ => d

/-- EVENT_TIME_LIMIT: an event still running 16 ns after it began ends there and is marked clipped (R115). -/
def Dev.eventLimit (c : Nat) (d : Dev) : Dev :=
  match (d.chan c).ev, (d.bank (bankOf c)).win with
  | some ev, some w => (d.at (ev.on + 16 * ns)).endEvent c w (ev.on + 16 * ns) none true
  | _, _ => d

/-- Auto-ranging at a window close: the step decided, if any (R107). DEDUCED from the chapter's worked example, whose
GAIN_CHG_CNT counts one channel's changes: a channel that is not enabled, or is borrowed, decides nothing. R107 speaks of a
step that would leave [AGC_MIN, AGC_MAX]; a step whose target lies outside the interval is refused too where the range
itself already lay outside: DESIGN CHOICE (log 110). -/
def Dev.agcDecide (c : Nat) (clip seen : Bool) (d : Dev) : Option Nat × Dev :=
  if !d.chEn c || d.borrowed c then (none, d) else
  let x := d.chan c
  let ctl := d.rd (Reg.AFE_BANK_CTL (bankOf c))
  let x := { x with clipRun := if clip then x.clipRun + 1 else 0, quietRun := if seen then 0 else x.quietRun + 1,
                    clipCnt := min 255 (x.clipCnt + b2n clip) }
  let lo := fld ctl 15 14
  let hi := fld ctl 17 16
  let keep := fun (r : Nat) => decide (lo ≤ r) && decide (r ≤ hi)
  if !bit ctl 12 then (none, d.setChan c { x with clipRun := 0, quietRun := 0 })
  else if fld ctl 24 22 + 1 ≤ x.clipRun then
    if x.gain < 3 && keep (x.gain + 1) then (some (x.gain + 1), d.setChan c x)
    else (none, (d.setChan c { x with clipRun := 0, quietRun := 0 }).raiseOnce Ev.AFE_AGC_LIMIT)
  else if 8 * (fld ctl 21 18 + 1) ≤ x.quietRun then
    if 0 < x.gain && keep (x.gain - 1) then (some (x.gain - 1), d.setChan c x)
    else (none, (d.setChan c { x with clipRun := 0, quietRun := 0 }).raiseOnce Ev.AFE_AGC_LIMIT)
  else (none, d.setChan c x)

/-- The next listen window of a bank in this frame opens at this instant, when one is planned. -/
def Dev.nextWindow (d : Dev) (b : Nat) : Option Time :=
  match (d.bank b).refs with
  | (_, fire) :: _ => some (fire + 8 * d.winOfs (b / 8))
  | [] =>
    match d.bankEmitter b with
    | some e =>
      let k := tabGet 0 d.brn.next e + b2n (d.brn.second.testBit e)
      if k < d.planned e then some (d.fireDt e k + 8 * d.winOfs (b / 8)) else none
    | none => none

/-- A shot boundary of a channel: a waiting command prevails over an auto-ranging decision; both wait for the next
boundary when a window opens within 30 ns (R105, R106). -/
def Dev.boundary (c : Nat) (decided : Option Nat) (t : Time) (d : Dev) : Dev :=
  let x := d.chan c
  let near := match d.nextWindow (bankOf c) with
    | some n => decide (n < t + 30 * ns)
    | none => false
  let dec := match decided with | some r => some r | none => x.deferred
  if near then d.setChan c { x with deferred := dec }
  else
    let d := d.setChan c { x with cmd := none, deferred := none }
    match x.cmd, dec with
    | some r, _ => d.setRange c r false t
    | none, some r => d.setRange c r false t
    | none, none => d

/-- LISTEN_WINDOW_CLOSE: running events end, pulse pairs are counted, auto-ranging decides and waiting changes apply.
`clip` and `seen` list the channels whose clip and range detectors fired. With no window open it is the instant at which
the window of the oldest shot that did not fire would have closed: R161 takes its planned fire time (R105, R107, R115; 06
R157, R161). -/
def Dev.windowClose (b : Nat) (clip seen : List Nat) (d : Dev) : Dev :=
  match (d.bank b).win with
  | some w =>
    let d := d.at w.close
    let d := (bankChans b).foldl (fun d c => (d.endEvent c w w.close none true).closeHits c w) d
    let x := d.bank b
    let d := d.setBank b { x with win := none }
    (bankChans b).foldl (fun d c =>
      let r := d.agcDecide c (clip.contains c) (seen.contains c)
      r.2.boundary c r.1 w.close) d
  | none =>
    let x := d.bank b
    match x.missed, d.bankEmitter b with
    | fire :: rest, some e =>
      if !d.on domACQ then d else
      let t := fire + 8 * (d.pairExtent e + d.listenEnd (b / 8))
      (bankChans b).foldl (fun d c => d.boundary c none t) ((d.at t).setBank b { x with missed := rest })
    | _, _ => d

/-- GAIN_SET: the range waits for the channel's first shot boundary; throughout a frame without listen windows every
instant is one (R105, R106). -/
def Dev.gainSet (c r : Nat) (all : Bool) (d : Dev) : Dev :=
  let cs := if all then bankChans (bankOf c) else [c]
  cs.foldl (fun d c =>
    let x := d.chan c
    if d.noWin (bankOf c) then (d.setChan c { x with cmd := none }).setRange c r false d.now
    else d.setChan c { x with cmd := some r }) d

/-! ## The tick -/

/-- The bank has no listen windows in the frame that begins (R105). -/
def Dev.bankIdle (d : Dev) (b : Nat) : Bool :=
  match d.bankEmitter b with
  | some e => d.planned e = 0
  | none => true

/-- Ambient light of a channel as published (R111, R112): the limit value in overload, nothing for a borrowed
channel. -/
def Dev.ambWord (d : Dev) (c : Nat) (v : Int) (ovr : Bool) : Word :=
  if d.borrowed c then 0
  else if d.bankVin (bankOf c) then
    let v := if ovr then (if v < 0 then -25600 else 25600) else v
    word (ofSigned 16 v)
  else
    let m := if ovr then 51200 else min 65535 v.natAbs
    word (m + b2n (decide (v < 0)) * 65536)

/-- Channels that hold something of the front end or a register value: the others keep their defaults. -/
def Dev.chanKeys (d : Dev) : List Nat :=
  (d.regs.filterMap (fun e =>
      if Reg.AFE_CH_CTL 0 ≤ e.1 && e.1 < Reg.AFE_CH_CTL 512 then some ((e.1 - Reg.AFE_CH_CTL 0) / 4) else none)
    ++ d.afe.chans.map (fun e => e.1)).foldl (fun l c => insSorted c l) []

/-- Publish what the ending frame measured: ambient light, overflow and gain-change counts (R111, R112, R122). `o` is
what the part measured over the frame. -/
def Dev.afePublish (o : TickObs) (d : Dev) : Dev :=
  let d := { d with regs := d.regs.filter (fun e => !(Reg.AFE_AMB 0 ≤ e.1 && e.1 < Reg.AFE_AMB 512)),
                    afe := { d.afe with ovr := (o.ovr.filter (fun c => !d.borrowed c)).foldl (fun l c => insSorted (c % 512) l) [] } }
  let vals := o.amb ++ (o.ovr.filter (fun c => !(o.amb.any (fun x => x.1 = c)))).map (fun c => (c, 51200))
  let d := vals.foldl (fun d x => d.wr (Reg.AFE_AMB (x.1 % 512)) (d.ambWord (x.1 % 512) x.2 (d.afe.ovr.contains (x.1 % 512)))) d
  let d := forN 16 (fun w d => d.wrN (Reg.AFE_AMB_OVER w)
    (d.afe.ovr.foldl (fun m c => if c / 32 = w then setBit m (c % 32) else m) 0)) d
  let d := d.raiseIf (!d.afe.ovr.isEmpty) Ev.AFE_AMB_OVER
  forN 32 (fun b d =>
    let x := d.bank b
    ((d.setBank b { x with ovf := 0, gchg := 0, win := none, refs := [], missed := [] }).wr (Reg.AFE_OVF_CNT b) (satAdd 0 x.ovf)).wr
      (Reg.AFE_GAIN_CHG_CNT b) (satAdd 0 x.gchg)) d

/-- One channel at a tick: its register range applies, waiting changes are discarded, its counts restart
(R106, R109). -/
def Dev.chanTick (c : Nat) (d : Dev) : Dev :=
  let d := d.setRange c (d.f (Reg.AFE_CH_CTL c) 25 24) true d.now
  let x := d.chan c
  d.setChan c { x with cmd := none, deferred := none, clipPrev := x.clipCnt, clipCnt := 0, changed := false,
                       winCode := none }

/-- One bank at a tick: a change of MODE or POL restarts its loops until T+5 us (R104). -/
def Dev.bankTick (old : Dev) (b : Nat) (d : Dev) : Dev :=
  let step := d.f (Reg.AFE_BANK_CTL b) 1 0 ≠ old.f (Reg.AFE_BANK_CTL b) 1 0
  let x := d.bank b
  d.setBank b { x with modeStep := step, settle := if step then d.now + 5 * us else x.settle }

/-- The target code of a head's bias, whether clamping acts, and whether the temperature is lost (R118, R119). DESIGN
CHOICES (log 110): TC x (T - T0) is rounded to nearest with ties away from zero; with MIN above MAX the clamp gives MIN for a
value below MIN and MAX for any other; a slot that is OVERRANGE or has no value yet holds the code and sets TEMP_LOST, as
SUSPECT, OPEN and a failed sensor do by R119. -/
def Dev.biasTarget (d : Dev) (h : Nat) : Int × Bool × Bool :=
  let ctl := d.rd (Reg.AFE_BIAS_CTL h)
  let lim := d.rd (Reg.AFE_BIAS_LIM h)
  let lo : Int := fld lim 13 0
  let hi : Int := fld lim 29 16
  let vset : Int := fld ctl 13 0
  if !bit ctl 22 then (clampI lo hi vset, clampI lo hi vset ≠ vset, false)
  else
    let j := fld ctl 21 16
    let good := d.f (Reg.HKP_SLOT_STAT j) 2 0 = 1
      && !(j < 24 && (tabGet {} d.thm.sensors j).failed)
      && !((List.range 8).any (fun k => d.b (Reg.THM_EXT_CFG k) 6 && d.f (Reg.THM_EXT_CFG k) 5 0 = j
            && (tabGet {} d.thm.sensors (24 + k)).failed))
    let tc := d.rd (Reg.AFE_BIAS_TC h)
    let v := vset + roundDiv (sfld tc 15 0 * ((d.rd (Reg.HKP_SLOT_VAL j)).toInt - sfld tc 31 16)) 16384
    (clampI lo hi v, clampI lo hi v ≠ v, !good)

/-- A detector bias output of a head. -/
def Dev.bias (d : Dev) (h : Nat) : Bias := tabGet {} d.afe.bias h

/-- Move one bias output after a completed slow round (R118, R119). With EN = 0 LIMITED and TEMP_LOST read 0: DESIGN CHOICE
(log 110). -/
def Dev.biasMove (h : Nat) (d : Dev) : Dev :=
  let x := d.bias h
  let en := d.b (Reg.AFE_BIAS_CTL h) 14
  let put := fun (x : Bias) (d : Dev) => { d with afe := { d.afe with bias := tabPut {} d.afe.bias h x } }
  if !en then put { code := 0, limited := false, lost := false } d
  else if !d.afe.roundDone then d
  else
    let (t, lim, lost) := d.biasTarget h
    if lost then (put { x with lost := true } d).raiseIf (!x.lost) (Ev.AFE_BIAS_TEMP_LOST h)
    else
      let step := d.f (Reg.AFE_BIAS_SLEW h) 13 0
      let c := if (x.code : Int) < t then min t (x.code + step) else max t (x.code - step)
      (put { code := c.toNat, limited := lim, lost := false } d).raiseIf (lim && !x.limited) (Ev.AFE_BIAS_LIMIT h)

/-- The front end at a tick, after the staged writes: ranges, mode changes, listen windows of the frame and bias
(R104-R106, R118). -/
def Dev.afeTick (old : Dev) (d : Dev) : Dev :=
  if !d.on domACQ then d else
  let d := d.chanKeys.foldl (fun d c => d.chanTick c) d
  let d := forN 32 (fun b d => Dev.bankTick old b d) d
  let d := d.raiseIf ((List.range 32).any (fun b => (d.bank b).modeStep)) Ev.AFE_MODE_SETTLE
  let m := (List.range 32).foldl (fun m b => if d.bankIdle b then setBit m b else m) 0
  let d := { d with afe := { d.afe with noWin := m } }
  let d := forN 4 Dev.biasMove d
  { d with afe := { d.afe with roundDone := false } }

/-- BIASh drives this code; 0 V with EN = 0, with ACQ off or its pads held, or once a boundary instruction is loaded, and high
impedance (none) for a shared output without the claim (R117, R120; 16 R470; 17 R497). -/
def Dev.biasOut (d : Dev) (h : Nat) : Option Nat :=
  if d.b (Reg.AFE_BIAS_CTL h) 15 && !d.drives then none
  else if d.b (Reg.AFE_BIAS_CTL h) 14 && d.on domACQ && !d.pwr.held.testBit domACQ && !d.sec.bscan then some (d.bias h).code else some 0

/-- The ACQ domain goes off: channels and bias take the state of R121. -/
def Dev.afeOff (d : Dev) : Dev :=
  let d := d.afe.chans.foldl (fun d e => d.setChan e.1 { e.2 with low := false, ev := none }) d
  { d with afe := { d.afe with banks := [], bias := [] } }

/-- BIAS_OUT_h (R122). -/
def Dev.biasWord (d : Dev) (h : Nat) : Word :=
  let x := d.bias h
  word (x.code + b2n x.limited * 65536 + b2n x.lost * 131072)

/-- CH_STATE_c (R123). -/
def Dev.chState (d : Dev) (c : Nat) : Word :=
  let x := d.chan c
  word (x.gain + b2n (d.bankVin (bankOf c)) * 4 + x.clipPrev * 256 + b2n x.cmd.isSome * 65536)

/-- AFE.STATUS (R122). -/
def Dev.afeStatus (d : Dev) : Word :=
  let pend := d.afe.chans.any (fun e => e.2.cmd.isSome)
  let lim := (List.range 4).foldl (fun m h => if (d.bias h).limited then setBit m h else m) 0
  word (b2n (!d.afe.ovr.isEmpty) + b2n pend * 2 + lim * 16)

end Sys2Proof.Machine
end

