-- ==== Sys2Proof/Machine/Stipple.lean ====
section
/-! DEFINITION. Stipple: background, peak finding, zoom windows, measurement, persistence, records and the Stipple
check (06). Every quantity is formed in exact integer arithmetic. -/
namespace Sys2Proof.Machine

/-! ## Background and candidates (R164, R165) -/

/-- The first coarse bin above the near-field gate of a head (R156). -/
def Dev.firstBin (d : Dev) (h : Nat) : Nat := (d.nearGate h + 7) / 8

/-- The bins of a histogram as a list. -/
def binList (n : Nat) (t : Tab Bin) : List Bin := (List.range n).map (fun i => tabGet {} t i)

/-- Remove the `n` largest of a list of counts. -/
def dropLargest : Nat → List Nat → List Nat
  | 0, l => l
  | n + 1, l => dropLargest n (l.erase (l.foldl max 0))

/-- n - b > T with T = K/16 sqrt(b) + off, b = num / den (R165). -/
def exceeds (k off : Nat) (b : Bg) (n : Nat) : Bool :=
  let x : Int := n * b.den - b.num - off * b.den
  decide (0 < x) && decide ((k * k * b.num * b.den : Nat) < 256 * x * x)

/-- The background of the counts above the gate (R164). `fv` is the free value taken when the mean is over no bin. -/
def background (k off guard fv : Nat) (ns : List Nat) : Bg :=
  let rest := dropLargest 32 ns
  let b0 : Bg := if rest.isEmpty then { num := fv, den := 1 } else { num := rest.sum, den := rest.length }
  let hot := ((List.range ns.length).filter (fun i => exceeds k off b0 (ns.getD i 0)))
  let un := (List.range ns.length).filter (fun i => !(hot.any (fun j => decide (i ≤ j + guard) && decide (j ≤ i + guard))))
  if un.length < 64 then b0 else { num := (un.map (fun i => ns.getD i 0)).sum, den := un.length }

/-- Runs of set entries, as (first, last), joined across at most `merge` clear ones (R165). -/
def runsGo (merge : Nat) : List Nat → List (Nat × Nat) → List (Nat × Nat)
  | [], acc => acc.reverse
  | i :: is, [] => runsGo merge is [(i, i)]
  | i :: is, (a, b) :: acc => if i ≤ b + merge + 1 then runsGo merge is ((a, i) :: acc) else runsGo merge is ((i, i) :: (a, b) :: acc)

/-- The extents of runs: widened, kept within [lo, hi], and shared out at the midpoint between neighbours (R165). -/
def extents (ext lo hi : Nat) (rs : List (Nat × Nat)) : List (Nat × Nat) :=
  (List.range rs.length).map fun i =>
    let r := rs.getD i (0, 0)
    let a := max lo (r.1 - ext)
    let b := min hi (r.2 + ext)
    let a := if i = 0 then a else max a (((rs.getD (i - 1) (0, 0)).2 + r.1) / 2 + 1)
    let b := if i + 1 < rs.length then min b ((r.2 + (rs.getD (i + 1) (0, 0)).1) / 2) else b
    (a, b)

/-- Bins lo..hi of a list. -/
def slice {α : Type} (l : List α) (lo hi : Nat) : List α := (l.drop lo).take (hi + 1 - lo)

/-- Net hits over bins, times the background's denominator. -/
def netOf (b : Bg) (bs : List Bin) : Int := ((bs.map (fun x => x.n)).sum * b.den : Nat) - (bs.length * b.num : Nat)

/-- Remove the candidate with the fewest net hits, the latest among equals. -/
def dropWeakest (l : List Cand) : List Cand :=
  match l.map (fun c => c.net) with
  | [] => []
  | n :: ns =>
    let m := ns.foldl min n
    let r := l.reverse
    match r.findIdx? (fun c => c.net = m) with
    | some i => (r.eraseIdx i).reverse
    | none => l

/-- Keep at most `n` candidates, those with the most net hits; `fuel` bounds the removals. -/
def keepBest (n : Nat) : Nat → List Cand → List Cand
  | 0, l => l
  | fuel + 1, l => if l.length ≤ n then l else keepBest n fuel (dropWeakest l)

/-- Sub-groups present in an extent (R166): Xg = hg - Bext Ng / Nall, all over the same denominator. -/
def sgMask (b : Bg) (shots : List Nat) (frac : Nat) (bs : List Bin) : Nat :=
  let all := shots.sum
  let hs := [(bs.map Bin.g0).sum, (bs.map Bin.g1).sum, (bs.map Bin.g2).sum, (bs.map Bin.g3).sum]
  let xs : List Int := (List.range 4).map fun g =>
    ((hs.getD g 0 * b.den * all : Nat) : Int) - (b.num * bs.length * shots.getD g 0 : Nat)
  let tot := xs.sum
  (List.range 4).foldl (fun m g => if 0 < tot && decide (frac * tot ≤ 64 * xs.getD g 0) then setBit m g else m) 0

/-- The result of a peak finding: background, candidates found, echoes, and what the counters count. -/
structure Found where
  b : Bg
  cands : Nat
  echoes : List Cand
  dropped : Nat
  failed : Nat
  late : Bool
  deriving DecidableEq, Repr

/-- The peak finder of a channel (R164-R167). -/
def Dev.findPeaks (d : Dev) (c fv : Nat) : Found :=
  let h := headOf c
  let lo := d.firstBin h
  let pk := d.rd Reg.STP_PEAK_CTL
  let cc := d.rd Reg.STP_CC_CTL
  let bins := binList 512 (d.stp1 c).coarse
  let ns := bins.map (fun x => x.n)
  let k := fld pk 7 0
  let off := fld pk 15 8
  let b := background k off (fld pk 23 20) fv (ns.drop lo)
  let hot := (List.range 512).filter (fun i => decide (lo ≤ i) && exceeds k off b (ns.getD i 0))
  let rs := runsGo (fld pk 17 16) hot []
  let xs := extents (fld pk 19 18) lo 511 rs
  let s := d.stpBank (bankOf c)
  let all : List Cand := (List.range rs.length).map fun i =>
    let r := rs.getD i (0, 0)
    let x := xs.getD i (0, 0)
    let bs := slice bins x.1 x.2
    { runLo := r.1, runHi := r.2, lo := x.1, hi := x.2, net := netOf b bs,
      sg := if bit cc 0 then sgMask b [s.g0, s.g1, s.g2, s.g3] (fld cc 8 4) bs else 15, foreign := false }
  let eight := keepBest 8 all.length all
  let fails := fun (x : Cand) => bit cc 0 && decide (popCount 4 x.sg < fld cc 3 1)
  let passed := if bit cc 9 then eight.map (fun x => { x with foreign := fails x }) else eight.filter (fun x => !fails x)
  let four := keepBest 4 passed.length passed
  { b := b, cands := all.length, echoes := four,
    dropped := (all.length - eight.length) + (passed.length - four.length),
    failed := (eight.filter fails).length, late := decide (four.length < passed.length) }

/-! ## Measurement (R168-R172) -/

/-- SNR code: 40 log10(S^2 / (S + Bx)) rounded, 0-255; `a` and `b` are numerator and denominator of S^2 / (S + Bx). -/
def snrCode (a b : Nat) : Nat :=
  ((List.range 255).filter (fun i => decide (10 ^ (2 * i + 1) * b ^ 80 ≤ a ^ 80))).length

/-- Amplitude code of a mean of `sum` over `n` (R169). -/
def ampCode (sum n : Nat) : Nat :=
  let m := fun e => (2 * sum + n * 4 ^ e) / (2 * n * 4 ^ e)
  match [0, 1, 2, 3].find? (fun e => decide (m e ≤ 255)) with
  | some e => m e + 256 * e
  | none => 255 + 256 * 3

/-- Measure bins `bs` with centres `cs` counted from u = 0 against a background per bin; `unit` is fine bins per bin,
`ofs` the span offset in DT (R169, R178). -/
def measure (b : Bg) (bs : List Bin) (cs : List Nat) (unit ofs : Nat) : Meas :=
  let ms := bs.map (fun x => x.n * b.den - b.num)
  let sm := ms.sum
  let mc := (List.zipWith (fun m c => m * c) ms cs).sum
  let mcc := (List.zipWith (fun m c => m * c * c) ms cs).sum
  let top := ms.foldl max 0
  let hits := (bs.map (fun x => x.n)).sum
  let v := 4 * 256 * (mcc * sm - mc * mc) * b.den / (sm * sm * sm)
  { time := (2 * (ofs * sm + mc) + sm) / (2 * sm),
    width := unit * (ms.filter (fun m => decide (top ≤ 2 * m))).length,
    hits := min 65535 hits,
    snr := snrCode (sm * sm) (b.den * (sm + bs.length * b.num)),
    amp := ampCode (bs.map (fun x => x.amp)).sum hits,
    sigma := min 65535 ((isqrt v + 1) / 2),
    clip := (bs.map (fun x => x.clip)).sum,
    full := bs.any (fun x => x.n = 65535),
    ampOver := bs.any (fun x => decide (16777216 ≤ x.amp)) }

/-- Measure a candidate on the coarse histogram. -/
def coarseMeas (b : Bg) (bins : List Bin) (ofs : Nat) (x : Cand) : Meas :=
  measure b (slice bins x.lo x.hi) ((List.range (x.hi + 1 - x.lo)).map (fun i => 64 * (x.lo + i) + 32)) 8 ofs

/-- Measure the fine histogram of a window; none when its result is discarded (R168, R170). -/
def fineMeas (k off ext : Nat) (bf : Bg) (z : Zoom) (ofs : Nat) : Option Meas :=
  let bins := binList 128 z.bins
  let hot := (List.range 128).filter (fun i => exceeds k off bf ((bins.getD i {}).n))
  let rs := runsGo 0 hot []
  let net := fun (r : Nat × Nat) => netOf bf (slice bins r.1 r.2)
  match rs with
  | [] => none
  | r0 :: rest =>
    let r := rest.foldl (fun best r => if net best < net r then r else best) r0
    let lo := r.1 - ext
    let hi := min 127 (r.2 + ext)
    if lo = 0 || hi = 127 then none
    else some (measure bf (slice bins lo hi) ((List.range (hi + 1 - lo)).map (fun i => 8 * z.zs + 8 * (lo + i) + 4)) 1 ofs)

/-- Placement centre of an echo time: round((t - 8 WIN_OFS - 4) / 8) (R163). -/
def centreOf (t ofs : Nat) : Int := roundDiv ((t : Int) - ofs - 4) 8

/-- Window start on a placement centre (R163). -/
def startOf (p : Int) : Nat := (clampI 0 3968 (p - 64)).toNat

/-- Whether echo `x` comes before `y` in policy order; entries are (time, net hits) (R163). -/
def policyLt (pol : Nat) (pred : Option Int) (x y : Nat × Int) : Bool :=
  let strong := decide (y.2 < x.2) || (x.2 = y.2 && decide (x.1 < y.1))
  match pol with
  | 0 => x.1 < y.1
  | 1 => strong
  | 2 => decide (y.1 < x.1)
  | _ => match pred with
    | none => strong
    | some p =>
      let dx := ((x.1 : Int) - p).natAbs
      let dy := ((y.1 : Int) - p).natAbs
      decide (dx < dy) || (dx = dy && decide (x.1 < y.1))

/-- Insert by an order. -/
def insBy {α : Type} (lt : α → α → Bool) (x : α) : List α → List α
  | [] => [x]
  | y :: ys => if lt x y then x :: y :: ys else y :: insBy lt x ys

/-- Sort by an order, equal entries in their first order. -/
def sortBy {α : Type} (lt : α → α → Bool) (l : List α) : List α := l.foldl (fun acc x => insBy lt x acc) []

/-- Starts of windows 0 and 1 from echoes (time, net) (R163). -/
def placeWindows (pol : Nat) (two : Bool) (pred : Option Int) (ofs : Nat) (es : List (Nat × Int)) : List (Option Nat) :=
  match sortBy (policyLt pol pred) es with
  | [] => [none, none]
  | e :: rest =>
    let p := centreOf e.1 ofs
    let second := if two then rest.find? (fun x => decide (64 < (centreOf x.1 ofs - p).natAbs)) else none
    [some (startOf p), second.map (fun x => startOf (centreOf x.1 ofs))]

/-- The predicted time of a channel (R163). -/
def predicted : List (Option Nat) → Option Int
  | some t1 :: some t2 :: _ => some (2 * (t1 : Int) - t2)
  | some t1 :: _ => some t1
  | _ => none

/-- Windows and echoes served one to one, nearest first: pairs (window, echo index) (R168). -/
def serve (zs : List (Option Zoom)) (ps : List (Nat × Int)) : List (Nat × Nat) :=
  let pairs := (List.range zs.length).flatMap fun w =>
    match zs.getD w none with
    | none => []
    | some z => (ps.filter (fun (x : Nat × Int) => decide ((z.zs : Int) + 8 ≤ x.2) && decide (x.2 ≤ (z.zs : Int) + 119))).map
        (fun (x : Nat × Int) => ((x.2 - ((z.zs : Int) + 64)).natAbs, w, x.1))
  let lt := fun (a b : Nat × Nat × Nat) =>
    decide (a.1 < b.1) || (a.1 = b.1 && (decide (a.2.1 < b.2.1) || (a.2.1 = b.2.1 && decide (a.2.2 < b.2.2))))
  (sortBy lt pairs).foldl (fun acc x =>
    if acc.any (fun y => y.1 = x.2.1 || y.2 = x.2.2) then acc else acc ++ [(x.2.1, x.2.2)]) []

/-- Fired shots of a channel's bank, and its fine shots. -/
def StpBank.all (s : StpBank) : Nat := s.g0 + s.g1 + s.g2 + s.g3

/-- Fine shots of a channel in the frame (R160, R161). -/
def Dev.fineShots (d : Dev) (c : Nat) : Nat :=
  let s := d.stpBank (bankOf c)
  match (d.stp1 c).mode with
  | .none => 0
  | .tracking => s.all
  | .inFrame => s.late

/-- The final echoes of a channel, in order of time (R167-R170). -/
def Dev.echoes (d : Dev) (c : Nat) (f : Found) : List Echo :=
  let h := headOf c
  let ofs := 8 * d.winOfs h
  let s := d.stp1 c
  let bins := binList 512 s.coarse
  let pk := d.rd Reg.STP_PEAK_CTL
  let bf : Bg := { num := f.b.num * d.fineShots c, den := f.b.den * max 1 (d.stpBank (bankOf c)).all * 8 }
  let cm := f.echoes.map (coarseMeas f.b bins ofs)
  let ps := ((List.range f.echoes.length).filter (fun i => !((f.echoes.map (fun x => x.foreign)).getD i true))).map
    (fun i => (i, centreOf ((cm.map (fun m => m.time)).getD i 0) ofs))
  let sv := serve s.zooms ps
  sortBy (fun (a b : Echo) => decide (a.m.time < b.m.time)) ((f.echoes.zip cm).zipIdx.map fun x =>
    let win := (sv.find? (fun y => y.2 = x.2)).map (fun y => y.1)
    let fine := match win.bind (fun w => s.zooms.getD w none) with
      | some z => fineMeas (fld pk 7 0) (fld pk 31 24) (fld pk 19 18) bf z ofs
      | none => none
    { cand := x.1.1, m := fine.getD x.1.2, zwin := win, fine := fine.isSome })

/-- The time of the echo that window 0 served in the frame, for the prediction (R163). -/
def servedBy0 (es : List Echo) : Option Nat := (es.find? (fun e => e.zwin = some 0)).map (fun e => e.m.time)

/-- Time and net hits of an echo: what the policy orders it by (R163). -/
def Echo.key (e : Echo) : Nat × Int := (e.m.time, e.cand.net)

/-- The indices of the echoes that carry ZOOM_MISS (R170): of the first, and with ZOOM2 the second, echo in policy order,
those whose time is a coarse one. -/
def zoomMisses (pol : Nat) (pred : Option Int) (two : Bool) (es : List Echo) : List Nat :=
  let order := sortBy (fun (a b : Echo × Nat) => policyLt pol pred a.1.key b.1.key)
    (es.zipIdx.filter (fun x => !x.1.cand.foreign))
  ((order.take (if two then 2 else 1)).filter (fun x => !x.1.fine)).map (fun x => x.2)

/-! ## Records (R173-R179) -/

/-- Presence count of an echo time in the history of earlier frames (R173). -/
def presence (hist : List (List Nat)) (tol t : Nat) : Nat :=
  1 + (hist.filter (fun l => l.any (fun x => decide (x ≤ t + 8 * tol) && decide (t ≤ x + 8 * tol)))).length

/-- Flags of a channel that describe the frame (R177, R179). -/
def Dev.frameFlags (d : Dev) (c : Nat) : Nat :=
  let fade := (d.pltTaps c).any (fun x => (d.flt x.1).faded || (d.flt x.1).fade.isSome)
  b2n ((d.chan c).changed || (d.bank (bankOf c)).modeStep) * 2 ^ 15 + b2n d.stp.throttled * 2 ^ 16
  + b2n (d.prf.stale.testBit c) * 2 ^ 19 + b2n (d.prf.step.testBit c) * 2 ^ 20
  + b2n d.glb.handover * 2 ^ 21 + b2n (decide (0 < d.mdv.aged)) * 2 ^ 22 + b2n fade * 2 ^ 24

/-- The gain-range byte of a channel's records (R109). -/
def Dev.recGain (d : Dev) (c : Nat) : Nat := ((d.chan c).winCode).getD (d.gainByte c)

/-- Range in 1/64 mm (R175). -/
def Dev.rangeOf (d : Dev) (c t : Nat) : Int :=
  let h := headOf c
  let zr := sfld (d.rd (Reg.STP_ZR_CAL h)) 23 0 + sfld (d.rd (Reg.STP_ZR_ADJ h)) 23 0
  if d.b Reg.STP_ECHO_CTL 0 then roundDiv (((t : Int) - zr) * (d.rd Reg.STP_RANGE_SCALE).toNat) 16777216 else 0

/-- Background in 1/16 count, rounded to nearest and saturating (R164, R169). -/
def Bg.sixteenth (b : Bg) : Nat := min 65535 ((32 * b.num + b.den) / (2 * b.den))

/-- The class of an echo and its TRANSIENT flag (R174). -/
def Dev.classOf (d : Dev) (e : Echo) (pers : Nat) : Nat × Bool :=
  let vol := d.f Reg.STP_ECHO_CTL 15 4
  let en := d.b Reg.STP_PERS_CTL 0
  if e.cand.foreign then (3, false)
  else if vol ≠ 0 && vol < e.m.width then (1, false)
  else if !en then (2, false)
  else if pers < d.f Reg.STP_PERS_CTL 5 1 then (1, true)
  else (0, false)

/-- One echo record (R176-R178). `miss` is ZOOM_MISS, `amp` the amplitude field. -/
def Dev.echoRecord (d : Dev) (c i : Nat) (f : Found) (e : Echo) (miss : Bool) (amp : Nat) : List Byte :=
  let s := d.stp1 c
  let en := d.b Reg.STP_PERS_CTL 0
  let n := d.f Reg.STP_PERS_CTL 10 6
  let hist := s.hist.take (n - 1)
  let pers := if en then presence hist (d.f Reg.STP_PERS_CTL 19 12) e.m.time else 0
  let cl := d.classOf e pers
  let pend := en && decide (pers < d.f Reg.STP_PERS_CTL 5 1) && decide (s.hist.length < n - 1)
  let lo := d.firstBin (headOf c)
  let edge := e.cand.hi = 511 || e.cand.lo = lo
  let sat := decide (d.f Reg.STP_ECHO_CTL 19 16 * e.m.hits ≤ 16 * e.m.clip) || e.m.full || d.afe.ovr.contains c
  let bins := binList 512 s.coarse
  let ext := (List.range (e.cand.hi + 1 - e.cand.lo)).map (fun j => e.cand.lo + j)
  let peak := ext.foldl (fun best j => if (bins.getD best {}).n < (bins.getD j {}).n then j else best) e.cand.lo
  let shots := if e.fine then d.fineShots c else (d.stpBank (bankOf c)).all
  let flags := d.frameFlags c + b2n sat * 2 ^ 14 + b2n e.cand.foreign * 2 ^ 17 + b2n cl.2 * 2 ^ 18
    + b2n miss * 2 ^ 25 + b2n pend * 2 ^ 26
  let q := e.cand.sg + b2n e.fine * 16 + (e.zwin.getD 0) * 32 + b2n edge * 64 + min 15 pers * 256
    + e.m.sigma * 2 ^ 16 + min 65535 shots * 2 ^ 32 + peak * 2 ^ 48
  leBytes 4 (c + i * 512 + cl.1 * 2048 + flags) ++ leBytes 4 e.m.time ++ leBytes 4 (ofSigned 32 (d.rangeOf c e.m.time))
  ++ leBytes 2 amp ++ leBytes 2 e.m.width ++ leBytes 2 e.m.hits ++ leBytes 2 f.b.sixteenth ++ leBytes 1 e.m.snr
  ++ leBytes 1 (d.recGain c) ++ leBytes 2 d.glb.ended.toNat ++ leBytes 8 q

/-- A record of class NONE: measurement fields 0, frame flags set (R179). -/
def Dev.noneRecord (d : Dev) (c : Nat) (borrowed : Bool) : List Byte :=
  leBytes 4 (c + 7 * 2048 + d.frameFlags c + b2n borrowed * 2 ^ 23) ++ leBytes 16 0 ++ leBytes 1 0
  ++ leBytes 1 (d.recGain c) ++ leBytes 2 d.glb.ended.toNat ++ leBytes 4 0
  ++ leBytes 2 (if borrowed then 0 else min 65535 (d.stpBank (bankOf c)).all) ++ leBytes 2 0

/-- Every hit of a channel in ambient overload counts as clipped (04 R112). -/
def clipAll (t : Tab Bin) : Tab Bin := t.map (fun e => (e.1, { e.2 with clip := max e.2.clip e.2.n }))

/-- Draw the amplitude fields: free where a 24-bit sum has been passed (R158). -/
def Dev.drawAmps : List Echo → Dev → List Nat × Dev
  | [], d => ([], d)
  | e :: es, d =>
    let v := if e.m.ampOver then d.drawN 10 else (e.m.amp, d)
    let r := Dev.drawAmps es v.2
    (v.1 :: r.1, r.2)

/-- Publish one enabled channel at the tick that ends a frame: its records, counters, history and dump store
(R159, R162-R179). -/
def Dev.publishChan (c : Nat) (d : Dev) : List (List Byte) × Dev :=
  let h := headOf c
  let bank := d.stpBank (bankOf c)
  let s := d.stp1 c
  let d := if d.afe.ovr.contains c then
      let zs : List (Option Zoom) := s.zooms.map (fun z => z.map (fun w => { w with bins := clipAll w.bins }))
      d.setStp1 c { s with coarse := clipAll s.coarse, zooms := zs }
    else d
  let s := d.stp1 c
  let data := !d.borrowed c && decide (0 < bank.all)
  let fv := d.drawN 16
  let d := if d.firstBin h < 480 then d else fv.2
  let f := d.findPeaks c fv.1
  let es := if data then d.echoes c f else []
  let pol := d.f Reg.STP_ZOOM_CTL 13 12
  let pred := predicted s.pred
  let mine := (es.filter (fun e => !e.cand.foreign)).map Echo.key
  let miss := if d.f Reg.STP_ZOOM_CTL 1 0 = 0 then [] else zoomMisses pol pred (d.b Reg.STP_ZOOM_CTL 14) es
  let amps := Dev.drawAmps es d
  let d := amps.2
  let recs := es.zipIdx.map (fun x => d.echoRecord c x.2 f x.1 (miss.contains x.2) (amps.1.getD x.2 0))
  let recs := if d.borrowed c then [d.noneRecord c true]
    else if recs.isEmpty && d.b Reg.STP_ECHO_CTL 1 then [d.noneRecord c false] else recs
  let misses := miss.length
  let d := if data then
      let d := ((d.add (Reg.STP_ECHO_DROP_CNT h) f.dropped).add (Reg.STP_CODE_FAIL_CNT h) f.failed).add
        (Reg.STP_ZOOM_MISS_CNT h) misses
      let d := if 0 < f.failed then (d.setB Reg.STP_STATUS (12 + h) true).raiseOnce Ev.STP_CODE_FAIL else d
      let d := if 0 < misses then (d.setB Reg.STP_STATUS (8 + h) true).raiseOnce Ev.STP_ZOOM_MISS else d
      if f.late then d.raiseOnce Ev.STP_ECHO_DROP else d
    else d
  let d := d.wrN (Reg.STP_ECHO_SUM c)
    (if data then es.length + min 15 f.cands * 256 + f.b.sixteenth * 65536 else 0)
  let pubd : Published := {
    frame := d.glb.ended, coarse := s.coarse, zooms := s.zooms, coarseShots := bank.all,
    fineShots := d.fineShots c, winOfs := d.winOfs h, bg := (if data then f.b.sixteenth else 0), gain := d.recGain c,
    mode := d.f Reg.STP_ZOOM_CTL 1 0 }
  let times := (es.filter (fun e => !e.cand.foreign)).map (fun e => e.m.time)
  (recs, d.setStp1 c { s with
    coarse := [], zooms := [none, none], hits := [],
    hist := if data then (times :: s.hist).take 16 else s.hist,
    pred := if data then (servedBy0 es :: s.pred).take 2 else s.pred,
    ends := if data then mine else [], predWas := pred,
    store := (pubd :: s.store).take 2 })

/-- A channel that is not enabled ends a frame: it makes no record, its summary reads 0, and its dump store takes the frame,
in which it counted nothing (R159, R185). -/
def Dev.publishIdle (c : Nat) (d : Dev) : Dev :=
  let s := d.stp1 c
  let pubd : Published := {
    frame := d.glb.ended, coarse := s.coarse, zooms := s.zooms, coarseShots := (d.stpBank (bankOf c)).all,
    fineShots := d.fineShots c, winOfs := d.winOfs (headOf c), bg := 0, gain := d.recGain c,
    mode := d.f Reg.STP_ZOOM_CTL 1 0 }
  (d.wrN (Reg.STP_ECHO_SUM c) 0).setStp1 c { s with
    coarse := [], zooms := [none, none], hits := [], ends := [], predWas := none, store := (pubd :: s.store).take 2,
    pred := if d.borrowed c || (d.stpBank (bankOf c)).all = 0 then s.pred else (none :: s.pred).take 2 }

/-- Enabled channels. -/
def Dev.onChans (d : Dev) : List Nat := d.chanKeys.filter d.chEn

/-- Channels of which Stipple holds something. -/
def Dev.stpKeys (d : Dev) : List Nat := (d.onChans ++ d.stp.chans.map (fun e => e.1)).foldl (fun l c => insSorted c l) []

/-- Publish a frame: the records of every enabled channel in channel order, and the dump stores of all (R159, R179). -/
def Dev.stpPublish (d : Dev) : List (List Byte) × Dev :=
  let d := d.wrN Reg.STP_STATUS (d.f Reg.STP_STATUS 7 0)
  let r := d.stpKeys.foldl (fun acc c =>
    if acc.2.chEn c then
      let r := acc.2.publishChan c
      (acc.1 ++ r.1, r.2)
    else (acc.1, acc.2.publishIdle c)) (([] : List (List Byte)), d)
  (r.1, { r.2 with stp := { r.2.stp with ended := some {
    frame := d.glb.ended, banks := d.stp.banks, ofs := (List.range 4).map d.winOfs, mode := d.f Reg.STP_ZOOM_CTL 1 0 } } })

/-- What the dump store of a channel holds of its latest published frame (R159): for a channel that has counted nothing
since acquisition went on, an empty frame. -/
def Dev.dumpStore (d : Dev) (c : Nat) : Option Published :=
  match (d.stp1 c).store, d.stp.ended with
  | p :: _, _ => some p
  | [], some x => some {
      frame := x.frame, coarse := [], zooms := [none, none], coarseShots := (tabGet {} x.banks (bankOf c)).all, fineShots := 0,
      winOfs := x.ofs.getD (headOf c) 0, bg := 0, gain := d.recGain c, mode := x.mode }
  | [], none => none

/-! ## Zoom windows of a frame (R160-R163) -/

/-- Planned shots of the emitter that lights a bank. -/
def Dev.bankShots (d : Dev) (b : Nat) : Nat :=
  match d.bankEmitter b with
  | some e => d.planned e
  | none => 0

/-- One channel at the tick that begins a frame, after the staged writes: its zoom mode and windows (R160, R162). -/
def Dev.zoomChan (old : Dev) (c : Nat) (d : Dev) : Dev :=
  let h := headOf c
  let s := d.stp1 c
  let z := d.rd Reg.STP_ZOOM_CTL
  let mode := fld z 1 0
  let valid := !s.ends.isEmpty && d.winOfs h = old.winOfs h && d.f Reg.STP_ZOOM_CTL 1 0 = old.f Reg.STP_ZOOM_CTL 1 0
    && !d.stp.fresh
  let many := decide (8 ≤ d.bankShots (bankOf c))
  let starts := placeWindows (fld z 13 12) (bit z 14) s.predWas (8 * d.winOfs h) s.ends
  let ws : List (Option Zoom) := starts.map (fun o => o.map (fun zs => { zs := zs, bins := [] }))
  let r : ZMode × List (Option Zoom) :=
    if mode = 0 || !d.chEn c then (.none, [none, none])
    else if mode = 1 && many then (.inFrame, [none, none])
    else if valid then (.tracking, ws)
    else if bit z 2 && many then (.inFrame, [none, none])
    else (.none, [none, none])
  d.setStp1 c { s with mode := r.1, zooms := r.2, ends := [], predWas := none }

/-- Persistence histories restart when acquisition starts, PERS_CTL changes or the channel is disabled (R173). -/
def Dev.histChan (old : Dev) (c : Nat) (d : Dev) : Dev :=
  let s := d.stp1 c
  if d.stp.fresh || d.rd Reg.STP_PERS_CTL ≠ old.rd Reg.STP_PERS_CTL || !d.chEn c then
    d.setStp1 c { s with hist := [] } else d

/-- Stipple at a tick, after the staged writes. -/
def Dev.stpTick (old : Dev) (d : Dev) : Dev :=
  let d := { d with stp := { d.stp with banks := [], strobes := [] } }
  d.stpKeys.foldl (fun d c => Dev.histChan old c (Dev.zoomChan old c d)) d

/-- The split index of an emitter (R161). -/
def Dev.splitIndex (d : Dev) (e : Nat) : Nat :=
  let n := d.planned e
  max 4 (min (n - 4) (n * d.f Reg.STP_ZOOM_CTL 9 4 / 64))

/-- The split instant of a bank lit by emitter e: the close of the window of shot ks - 1, which its planned fire time gives
whether it fires or not (R161). -/
def Dev.splitInstant (d : Dev) (b e : Nat) : Time :=
  d.fireDt e (d.splitIndex e - 1) + 8 * (d.pairExtent e + d.listenEnd (b / 8))

/-- Place the windows of one channel at the split, from its coarse counts so far (R161). -/
def Dev.splitChan (c : Nat) (d : Dev) : Dev :=
  let s := d.stp1 c
  let h := headOf c
  if s.mode ≠ .inFrame then d else
  let z := d.rd Reg.STP_ZOOM_CTL
  let fv := d.drawN 16
  let d := if d.firstBin h < 480 then d else fv.2
  let f := d.findPeaks c fv.1
  let bins := binList 512 s.coarse
  let es := (f.echoes.filter (fun x => !x.foreign)).map
    (fun x => ((coarseMeas f.b bins (8 * d.winOfs h) x).time, x.net))
  let ws : List (Option Zoom) :=
    (placeWindows (fld z 13 12) (bit z 14) (predicted s.pred) (8 * d.winOfs h) es).map
      (fun o => o.map (fun zs => { zs := zs, bins := [] }))
  d.setStp1 c { s with zooms := ws }

/-- ZOOM_SPLIT: the split instant of emitter e's banks in a frame in which it plans at least 8 shots (R161). -/
def Dev.zoomSplit (e : Nat) (d : Dev) : Dev :=
  if d.planned e < 8 || tabGet 0 d.brn.next e < d.splitIndex e then d
  else forN 32 (fun b d =>
    let s := d.stpBank b
    if d.bankEmitter b = some e && s.split = 0 then
      let d := (d.at (d.splitInstant b e)).setStpBank b { s with split := d.splitInstant b e + 1 }
      ((bankChans b).filter d.chEn).foldl (fun d c => d.splitChan c) d
    else d) d

/-! ## The Stipple check (R181) and walk tables (R182) -/

/-- The first failing condition of R181. -/
def Dev.stpFail (d : Dev) : Option Nat :=
  let z := d.rd Reg.STP_ZOOM_CTL
  let p := d.rd Reg.STP_PERS_CTL
  if fld z 1 0 = 3 || fld z 9 4 < 4 || 60 < fld z 9 4 then some 1
  else if fld p 5 1 < 1 || fld p 10 6 < fld p 5 1 || 16 < fld p 10 6 then some 2
  else if d.f Reg.STP_CC_CTL 3 1 < 1 || 4 < d.f Reg.STP_CC_CTL 3 1 then some 3
  else if (List.range 4).any (fun h => d.f (Reg.STP_WALK_CTL h) 1 0 = 3) then some 4
  else none

/-- The Stipple check of a tick: a failure discards the STP registers staged (R181). -/
def Dev.stpCheck (old : Dev) (staged : List Nat) (d : Dev) : Dev :=
  let mine := offsIn 0x500000 0x600000 staged
  let keep := d.f Reg.STP_STATUS 15 8 * 256
  match d.stpFail with
  | none => d.wrN Reg.STP_STATUS (1 + keep)
  | some c => ((Dev.revertTo old mine d).raise Ev.STP_CFG_REJECT).wrN Reg.STP_STATUS (2 + c * 16 + keep)

/-- A walk table's own checks (R182). -/
def walkTableOk (bs : List Byte) : Bool :=
  bs.length = 1036 && leAt bs 0 4 = 0x53545701 && leAt bs 4 1 < 4 && leAt bs 5 3 = 0 && crcOk bs
  && (List.range 256).all (fun i =>
    let w := toSigned 16 (leAt bs (8 + 4 * i) 2)
    decide (-4096 ≤ w) && decide (w ≤ 4096) && leAt bs (11 + 4 * i) 1 = 0)

/-- A walk table arrives: it waits for the next tick, or is rejected (R182). -/
def Dev.loadWalk (bs : List Byte) (d : Dev) : Bool × Dev :=
  if walkTableOk bs then
    let h := leAt bs 4 1
    let l : List (Nat × List Byte) := d.stp.walkShadow.filter (fun x => x.1 ≠ h)
    (true, { d with stp := { d.stp with walkShadow := l ++ [(h, bs)] } })
  else (false, d.raise Ev.STP_TABLE_REJECT)

/-- At a tick, loaded walk tables come into force (R182). -/
def Dev.walkTick (d : Dev) : Dev :=
  let l := d.stp.walkShadow
  let d := { d with stp := { d.stp with walkShadow := [] } }
  l.foldl (fun d x => forN 256 (fun i d => d.wrN (Reg.STP_WALK x.1 (i / 64) (i % 64)) (leAt x.2 (8 + 4 * i) 3)) d) d

/-- ZOOM_POS_c (R185). -/
def Dev.zoomPos (d : Dev) (c : Nat) : Word :=
  let z := fun (i : Nat) => match (d.stp1 c).zooms.getD i none with
    | some w => w.zs + 32768
    | none => 0
  word (z 0 + z 1 * 65536)

/-- The dump of a published frame (R180). -/
def Dev.dumpBytes (d : Dev) (c : Nat) (p : Published) : List Byte :=
  let ctl := d.rd Reg.STP_DUMP_CTL
  let z := fun (i : Nat) => if bit ctl 1 then p.zooms.getD i none else none
  let zs := fun (i : Nat) => match p.zooms.getD i none with | some w => w.zs | none => 0xFFFF
  let counts := fun (n : Nat) (t : Tab Bin) => (binList n t).flatMap (fun b => leBytes 2 b.n)
  let win := fun (i : Nat) => match z i with | some w => counts 128 w.bins | none => []
  leBytes 2 c ++ leBytes 1 (b2n (bit ctl 0) + b2n (z 0).isSome * 2 + b2n (z 1).isSome * 4) ++ leBytes 1 p.mode
  ++ leBytes 4 p.frame.toNat ++ leBytes 2 p.coarseShots ++ leBytes 2 p.fineShots ++ leBytes 2 p.winOfs
  ++ leBytes 2 (zs 0) ++ leBytes 2 (zs 1) ++ leBytes 2 p.bg
  ++ leBytes 2 (min 65535 ((p.coarse.map (fun e => e.2.clip)).sum)) ++ leBytes 1 p.gain ++ leBytes 9 0
  ++ (if bit ctl 0 then counts 512 p.coarse else []) ++ win 0 ++ win 1

end Sys2Proof.Machine
end

