-- ==== Sys2Proof/Machine/Chain.lean ====
section
/-! DEFINITION. The filter chain: grids, stage 0, cross-fades, stage 1, group delay and corrected time, coefficient
banks, switches and SYNC (08). -/
namespace Sys2Proof.Machine

/-! ## Settings -/

/-- Throttle step 1 halves the plates' rate (07 R217). -/
def Dev.halfRate (d : Dev) : Bool := decide (1 ≤ d.thm.step)

/-- Input sample period of a plate in DT (07 R188, R217). -/
def Dev.ts (d : Dev) (p : Nat) : Nat :=
  let m := d.f (Reg.PLT_CTL p) 1 0
  (if m = 0 then 128 else if m = 1 then 256 else 512) * (if (d.plt p).half then 2 else 1)

/-- A bank that was never loaded. -/
def noBank : FirBank := { n := 0, d0 := 1, s0 := 0, sym := false, gd := 0, h := [] }

/-- The chain of a plate with the settings in force. -/
def Dev.chain (d : Dev) (p : Nat) : Chain :=
  let fir := d.b (Reg.FLTP_CHAIN_CTL p) 0
  let bank := ((d.flt p).act).getD noBank
  { ts := d.ts p, fir := fir, l := d.f (Reg.FLTP_MA_CTL p) 12 0, d1 := d.f (Reg.FLTP_MA_CTL p) 28 16,
    s1 := d.f (Reg.FLTP_CHAIN_CTL p) 7 4, d0 := (if fir then bank.d0 else 1), bank := bank }

/-- Pass-through (R232). -/
def Chain.pass (c : Chain) : Bool := !c.fir && c.l = 1 && c.d1 = 1
/-- Total decimation (R236). -/
def Chain.dc (c : Chain) : Nat := c.d0 * c.d1

/-- Fixed latency P (R244). -/
def latP : Nat := 32768

/-- Applied group delay of a bank in a chain (R244). -/
def Chain.gd (c : Chain) (b : FirBank) : Int :=
  (latP : Int) + (if c.fir then (if b.sym then (((b.n - 1) * c.ts / 2 : Nat) : Int) else b.gd * ((c.ts / 64 : Nat) : Int)) else 0)
  + (((c.l - 1) * c.d0 * c.ts / 2 : Nat) : Int)

/-! ## Arithmetic (R233-R235) -/

/-- Round to nearest with ties toward +infinity, by a shift (R233). -/
def rshift (v : Int) (s : Nat) : Int := if s = 0 then v else (v + 2 ^ (s - 1)) / (2 ^ s : Int)
/-- 16-bit saturation (R233). -/
def sat16 (v : Int) : Int := clampI (-32768) 32767 v

/-- A raw code by sample index; what the capture does not hold reads 0. -/
def rawAt (base : Nat) (xs : List Int) (n : Nat) : Int := if n < base then 0 else xs.getD (n - base) 0

/-- Stage-0 output of a bank with newest sample n (R234). -/
def firAt (b : FirBank) (x : Nat → Int) (n : Nat) : Int :=
  sat16 (rshift ((b.h.zipIdx.map (fun hk => if hk.2 ≤ n then hk.1 * x (n - hk.2) else 0)).sum) b.s0)

/-! ## Grids (R250, R252) -/

/-- Sample n is the newest of an output of a stage with total decimation `dec`: the phase counters run from the last
reset at or before it. -/
def onGrid (bases : List (Time × Bool)) (ts dec n : Nat) : Bool :=
  match bases.find? (fun b => decide (b.1 ≤ n * ts)) with
  | some b => (n + 1 - b.1 / ts) % dec = 0
  | none => false

/-- A stage-0 output: its newest sample, the banks that blend in it and the blend position j of W = 2^k; j = 0 outside
a fade. -/
structure S0 where
  n : Nat
  old : FirBank
  new : FirBank
  j : Nat
  k : Nat
  deriving DecidableEq, Repr

/-- The dominant bank of a stage-0 output (R242). -/
def S0.dom (s : S0) : FirBank := if s.j = 0 || 2 ^ s.k ≤ 2 * s.j then s.new else s.old

/-- Stage-0 outputs over rising newest samples, under the fades in order (R242). `cur` is a fade in progress with its
outputs so far. -/
def s0Go (ts : Nat) : List Nat → List Fade → Option (Fade × Nat) → FirBank → List S0
  | [], _, _, _ => []
  | n :: ns, fs, some (f, j), b =>
    let s : S0 := { n := n, old := f.old, new := f.new, j := j + 1, k := f.k }
    s :: (if j + 1 = 2 ^ f.k then s0Go ts ns fs none f.new else s0Go ts ns fs (some (f, j + 1)) b)
  | n :: ns, [], none, b => { n := n, old := b, new := b, j := 0, k := 0 } :: s0Go ts ns [] none b
  | n :: ns, f :: fs, none, b =>
    if f.due ≤ n * ts then
      let s : S0 := { n := n, old := f.old, new := f.new, j := 1, k := f.k }
      s :: (if f.k = 0 then s0Go ts ns fs none f.new else s0Go ts ns fs (some (f, 1)) b)
    else { n := n, old := b, new := b, j := 0, k := 0 } :: s0Go ts ns (f :: fs) none b

/-- The fades of a chain, earliest first. -/
def Flt.fades (x : Flt) : List Fade := x.past.reverse ++ (match x.fade with | some f => [f] | none => [])

/-- Stage-0 outputs with newest samples up to hi, from those that a chain output at lo needs, over the fades in order. -/
def s0Of (bases : List (Time × Bool)) (fades : List Fade) (c : Chain) (lo hi : Nat) : List S0 :=
  let fs := if c.fir then fades else []
  let from_ := fs.foldl (fun m f => min m (f.due / c.ts)) lo - c.l * c.d0
  let ns := (List.range (hi + 1 - from_)).filterMap (fun i => if onGrid bases c.ts c.d0 (from_ + i) then some (from_ + i) else none)
  let b0 := match fs with | f :: _ => f.old | [] => c.bank
  s0Go c.ts ns fs none b0

/-- Value of a stage-0 output (R231, R234, R242). -/
def S0.val (s : S0) (fir : Bool) (x : Nat → Int) : Int :=
  if !fir then x s.n
  else if s.j = 0 then firAt s.new x s.n
  else sat16 (rshift (((2 ^ s.k : Int) - s.j) * firAt s.old x s.n + s.j * firAt s.new x s.n) s.k)

/-- A chain output: newest sample, oldest raw sample behind it, newest sample of its centre stage-0 output, corrected input
time, applied group delay, the dominant bank, whether its window holds a blended output, and its value per input. -/
structure COut where
  n : Nat
  oldest : Nat
  ctr : Nat
  cm : Int
  gd : Int
  bank : FirBank
  blend : Bool
  vals : List Int
  deriving DecidableEq, Repr

/-- Chain outputs with newest samples from lo to hi, over the raw codes of a capture (R235, R245). -/
def chainOuts (bases : List (Time × Bool)) (fades : List Fade) (c : Chain) (lo hi : Nat) (cap : Capture) : List COut :=
  let ss := s0Of bases fades c lo hi
  let v : List (List Int) := cap.raw.map (fun xs => ss.map (fun s => s.val c.fir (rawAt cap.base xs)))
  (List.range ss.length).filterMap fun i =>
    match ss[i]? with
    | none => none
    | some s =>
      if s.n < lo || !onGrid bases c.ts c.dc s.n then none
      else
        let first := i + 1 - c.l
        let win := slice ss first i
        let centre := (ss[i - (c.l - 1) / 2]?).getD s
        let o := win.foldl (fun m w => min m (w.n - (if c.fir then max w.old.n w.new.n - 1 else 0))) s.n
        let vals := v.map (fun l =>
          if c.pass then l.getD i 0 else sat16 (rshift ((slice l first i).sum) c.s1))
        let g := c.gd centre.dom
        some { n := s.n, oldest := o, ctr := centre.n, cm := (s.n * c.ts : Nat) + latP - g, gd := g, bank := centre.dom,
               blend := win.any (fun w => w.j ≠ 0), vals := vals }

/-- The instant of input time at which a group that begins at a chain output begins (R245, R246): with Dc = 1 the input
sample that the output is aligned to, otherwise its corrected time. -/
def COut.at (c : Chain) (o : COut) : Int :=
  if c.dc = 1 then ((o.n : Int) - (o.gd - latP) / (c.ts : Int)) * c.ts else o.cm

/-! ## Coefficient banks (R238, R239) -/

/-- The bank in a table's bytes. -/
def bankOfBytes (bs : List Byte) : FirBank :=
  let n := leAt bs 6 2
  { n := n, d0 := leAt bs 8 1, s0 := leAt bs 9 1, sym := (leAt bs 5 1).testBit 0, gd := toSigned 32 (leAt bs 12 4),
    h := (List.range n).map (fun i => toSigned 18 (leAt bs (16 + 4 * i) 4)) }

/-- A bank's own checks (R239). -/
def bankOk (bs : List Byte) : Bool :=
  let n := leAt bs 6 2
  let b := bankOfBytes bs
  1 ≤ n && n ≤ 384 && bs.length = 20 + 4 * n && leAt bs 0 4 = 0x464C5401 && leAt bs 4 1 < 8 && leAt bs 5 1 < 2
  && 1 ≤ b.d0 && b.d0 ≤ 64 && b.s0 ≤ 31 && n ≤ 32 * b.d0 && leAt bs 10 2 = 0 && crcOk bs
  && (List.range n).all (fun i =>
    let w := leAt bs (16 + 4 * i) 4
    ofSigned 32 (toSigned 18 w) = w)
  && (!b.sym || (b.gd = 0 && b.h = b.h.reverse))

/-- A bank arrives: accepted into the shadow bank of its plate, held while a fade runs, or rejected (R239). The first
result says whether its descriptor completes now, the second whether it was accepted. -/
def Dev.loadBank (bs : List Byte) (x : Desc) (d : Dev) : Bool × Bool × Dev :=
  if !bankOk bs then (true, false, d.raise Ev.FLT_BANK_REJECT)
  else
    let p := leAt bs 4 1
    let f := d.flt p
    if f.fade.isSome then (false, true, d.setFlt p { f with held := f.held ++ [(bankOfBytes bs, x)] })
    else (true, true, d.setFlt p { f with shd := some (bankOfBytes bs) })

/-! ## Switches (R240-R243, R248) -/

/-- The first newest sample of a fade's first blended output, from the instant it is due. `fuel` bounds the search by
one output period. -/
def nextOut (bases : List (Time × Bool)) (ts dec : Nat) : Nat → Nat → Nat
  | 0, n => n
  | fuel + 1, n => if onGrid bases ts dec n then n else nextOut bases ts dec fuel (n + 1)

/-- The history is cleared at an instant (R237). -/
def Flt.clear (x : Flt) (t : Time) : Flt := { x with cleared := t, past := [] }

/-- The newest sample of the first blended output of a fade. -/
def Flt.fadeFirst (x : Flt) (c : Chain) (f : Fade) : Nat :=
  nextOut x.bases c.ts c.d0 (c.d0 + 1) ((f.due + c.ts - 1) / c.ts)

/-- The stage-0 outputs of a fade and of the chain outputs that they enter. -/
def Flt.fadeSpan (x : Flt) (c : Chain) (f : Fade) : Nat :=
  let resets := (x.bases.filter (fun b => decide (f.due ≤ b.1))).length
  (2 ^ f.k + c.l + (resets + 2) * c.d1 + 4) * c.d0

/-- The latched delays and times of a fade (R248), found on the chain outputs that its stage-0 outputs enter. -/
def Flt.latch (x : Flt) (c : Chain) (f : Fade) : Flt :=
  let lo := x.fadeFirst c f
  let hi := lo + x.fadeSpan c f
  let os := chainOuts x.bases [f] c lo hi { base := 0, raw := [] }
  let first := os.find? (fun o => o.blend)
  let dom := (s0Of x.bases [f] c lo hi).find? (fun s => s.j ≠ 0 && decide (2 ^ s.k ≤ 2 * s.j))
  let mid := dom.bind (fun s => os.find? (fun o => decide (s.n ≤ o.ctr)))
  { x with gdOld := c.gd f.old, gdNew := c.gd f.new, fadeDt := (first.map (fun o => o.cm)).getD 0,
           midDt := (mid.map (fun o => o.cm)).getD 0 }

/-- No segment of a plate that is still to be captured or formed reaches back past this instant. The margin of 1 ms is more
than the longest history of a chain. -/
def Dev.histFrom (d : Dev) (p : Nat) : Time :=
  let x := d.plt p
  (if x.acquiring then min x.fill ((x.seg.map (fun s => s.fill)).getD x.fill) else d.now) - ms

/-- Phase restarts and past fades that no segment needs any more are forgotten. -/
def Flt.keep (t : Time) (x : Flt) : Flt :=
  { x with bases := keepSince t (fun b => b.1) x.bases, past := keepSince t (fun f => f.due) x.past }

/-- The phase counters of a plate restart at an instant, by a SYNC or without one (R250, R252). A fade that runs reaches its
latched times on the outputs that follow. -/
def Dev.addBase (p : Nat) (b : Time × Bool) (d : Dev) : Dev :=
  let x := ({ d.flt p with bases := b :: (d.flt p).bases }).keep (d.histFrom p)
  d.setFlt p (match x.fade with
    | some f => x.latch (d.chain p) f
    | none => x)

/-- A switch falls due at an instant (R240-R243). A bank of another D0 than that of the active one is refused while the plate
acquires, whatever FIR_EN is. -/
def Dev.switchDue (p : Nat) (t : Time) (d : Dev) : Dev :=
  let x := d.flt p
  let c := d.chain p
  match x.shd with
  | none => d
  | some new =>
    let differ := x.act.any (fun b => decide (b.d0 ≠ new.d0))
    if x.fade.isSome then d.setFlt p { x with due := x.due ++ [t] }
    else if differ && (d.plt p).acquiring then d.raise Ev.FLT_SWITCH_REJECT
    else match x.act with
      | some old =>
        if !c.fir || differ then d.setFlt p ({ x with act := some new, shd := x.act }.clear t)
        else
          let f : Fade := { due := t, k := min 12 (d.f (Reg.FLTP_SW_CTL p) 3 0), old := old, new := new }
          d.setFlt p { (x.latch c f) with act := some new, shd := x.act, fade := some f, faded := true }
      | none => d.setFlt p ({ x with act := some new, shd := none }.clear t)

/-- SW_GO: requests a switch, in place of a request that is not due yet; ignored while the shadow bank is empty (R240). -/
def Dev.swGo (p : Nat) (d : Dev) : Dev :=
  let x := d.flt p
  if !d.on domWAVE then d
  else if x.shd.isNone then d.raise Ev.FLT_SWITCH_REJECT
  else d.setFlt p { x with sw := .asked }

/-- Switches that wait for the end of a fade fall due again, one by one, until one of them fades (R240). `fuel` bounds
them. -/
def Dev.dueGo (p : Nat) (start : Time) : Nat → Dev → Dev
  | 0, d => d
  | fuel + 1, d =>
    let x := d.flt p
    match x.fade, x.due with
    | none, _ :: rest => Dev.dueGo p start fuel ((d.setFlt p { x with due := rest }).switchDue p start)
    | _, _ => d

/-- The fade of a plate is over: the loads held are written and their descriptors complete, then a waiting switch starts at
the instant given (R239, R240, R242). -/
def Dev.fadeOver (p : Nat) (start : Time) (d : Dev) : Dev :=
  let x := d.flt p
  match x.fade with
  | none => d
  | some f =>
    let y := ({ x with fade := none, past := f :: x.past, held := [] }).keep (d.histFrom p)
    let d := (((d.setFlt p y).inc (Reg.FLTP_FADE_CNT p))).raise (Ev.FLT_FADE_DONE p)
    let d := x.held.foldl (fun d h => (d.setFlt p { (d.flt p) with shd := some h.1 }).finish h.2 stOK) d
    Dev.dueGo p start x.due.length d

/-- FLT_FADE_DONE: the fade's last output has come (R242); a switch that waits starts at the first stage-0 output after it. -/
def Dev.fadeDone (p : Nat) (d : Dev) : Dev :=
  let x := d.flt p
  let c := d.chain p
  match x.fade with
  | none => d
  | some f =>
    let lo := x.fadeFirst c f
    let last := (s0Of x.bases [f] c lo (lo + x.fadeSpan c f)).find? (fun s => s.j = 2 ^ f.k)
    d.fadeOver p (((last.map (fun s => s.n)).getD lo + 1) * c.ts)

/-- At a tick, requests made before it are accepted: due now, or at the next SYNC (R240). -/
def Dev.fltTick (p : Nat) (d : Dev) : Dev :=
  let x := d.flt p
  let d := d.setFlt p { x with faded := x.fade.isSome }
  match x.sw with
  | .asked =>
    if d.b (Reg.FLTP_SW_CTL p) 4 then d.setFlt p { (d.flt p) with sw := .atSync }
    else (d.setFlt p { (d.flt p) with sw := .none }).switchDue p d.now
  | _ => d

/-- The chain's history is cleared when its settings or the plate mode change (R237). -/
def Dev.fltClear (old : Dev) (p : Nat) (d : Dev) : Dev :=
  let same := d.f (Reg.PLT_CTL p) 1 0 = old.f (Reg.PLT_CTL p) 1 0
    && d.rd (Reg.FLTP_CHAIN_CTL p) = old.rd (Reg.FLTP_CHAIN_CTL p) && d.rd (Reg.FLTP_MA_CTL p) = old.rd (Reg.FLTP_MA_CTL p)
  if same then d else d.setFlt p ((d.flt p).clear d.now)

/-- FILLED (R237). -/
def Dev.fltFilled (d : Dev) (p : Nat) (t : Time) : Bool :=
  let c := d.chain p
  let x := d.flt p
  !x.bases.isEmpty && decide (x.cleared + ((if c.fir then c.bank.n else 0) + c.l * c.d0) * c.ts ≤ t)

/-! ## SYNC (R249-R252) -/

/-- The first multiple of 1,024 at or after an instant. -/
def up1024 (t : Time) : Time := (t + 1023) / 1024 * 1024

/-- Insert into the list of SYNC instants to come. -/
def Dev.syncAdd (t : Time) (d : Dev) : Dev :=
  { d with wave := { d.wave with sync := { d.wave.sync with due := insSorted t d.wave.sync.due } } }

/-- LEAD in DT. -/
def Dev.syncLead (d : Dev) : Nat := d.f Reg.FLT_SYNC_CTL 31 16 * 1024

/-- The master forwards a SYNC of its own (R249). -/
def Dev.syncForward (ts : Time) (d : Dev) : Dev :=
  if d.cascRole = 2 && d.b Reg.FLT_SYNC_CTL 2 then d.cascSend 4 0 0 ts 0 false else d

/-- SYNC_N_EDGE: a falling edge of at least 2 ns, timed to one fine bin (R249; 01 R16). -/
def Dev.syncNEdge (t : Time) (d : Dev) : Dev :=
  if !d.on domWAVE || !d.b Reg.FLT_SYNC_CTL 0 then d
  else
    let t := t / 8 * 8
    let last := d.wave.sync.edge
    if last ≠ 0 && t ≤ last - 1 + us then (d.at t).inc Reg.FLT_SYNC_IGN_CNT
    else
      let ts := up1024 (t + 40960 + d.syncLead)
      let d := d.at t
      (({ d with wave := { d.wave with sync := { d.wave.sync with edge := t + 1 } } }).syncAdd ts).syncForward ts

/-- SYNC_CMD: a SYNC at the next tick (R249). -/
def Dev.syncCmd (d : Dev) : Dev :=
  if d.on domWAVE then { d with wave := { d.wave with sync := { d.wave.sync with cmd := true } } } else d

/-- The tick that gives a SYNC_CMD its instant (R249). -/
def Dev.syncTick (d : Dev) : Dev :=
  if !d.wave.sync.cmd then d
  else
    let ts := up1024 (d.now + d.syncLead)
    (({ d with wave := { d.wave with sync := { d.wave.sync with cmd := false } } }).syncAdd ts).syncForward ts

/-- CASC_SYNC_MESSAGE (R249; 13 R386): late ones are applied at the first multiple of 1,024 after their arrival. -/
def Dev.cascSync (ts t : Time) (crc : Bool) (d : Dev) : Dev :=
  d.cascReceive false crc { typ := 4, pos := 0, plate := 0, arg := 0, dt := ts, payload := 0 } t fun d =>
    if !d.on domWAVE || !d.b Reg.FLT_SYNC_CTL 1 then d
    else if t ≤ ts then (d.at t).syncAdd (up1024 ts)
    else (((d.at t).inc Reg.FLT_SYNC_LATE_CNT).raise Ev.FLT_SYNC_LATE).syncAdd (t / 1024 * 1024 + 1024)

/-- SYNC_INSTANT: the earliest SYNC instant to come acts on every plate (R250). -/
def Dev.syncInstant (d : Dev) : Dev :=
  match d.wave.sync.due with
  | [] => d
  | ts :: rest =>
    let d := d.at ts
    let moved := (List.range 8).any fun p =>
      let c := d.chain p
      let n := ts / c.ts
      !(onGrid (d.flt p).bases c.ts c.d0 (n - 1)) || !(onGrid (d.flt p).bases c.ts c.dc (n - 1))
    let d := { d with wave := { d.wave with sync := { d.wave.sync with due := rest } } }
    let d := forN 8 (fun p d => d.addBase p (ts, true)) d
    let d := (d.wr64 Reg.FLT_SYNC_DT_LO ts).inc Reg.FLT_SYNC_CNT
    let d := d.raiseIf moved Ev.FLT_SYNC
    forN 8 (fun p d => match (d.flt p).sw with
      | .atSync => (d.setFlt p { (d.flt p) with sw := .none }).switchDue p ts
      | _ => d) d

/-- The phase counters of a plate start or restart without a SYNC (R252). -/
def Dev.phaseReset (p : Nat) (t : Time) (d : Dev) : Dev := d.addBase p (up1024 t, false)

/-- FLT.STATUS of a plate (R261). -/
def Dev.fltStatus (d : Dev) (p : Nat) : Word :=
  let x := d.flt p
  let y := d.plt p
  word (b2n x.fade.isSome + b2n (x.sw ≠ .none || !x.due.isEmpty) * 2 + b2n x.shd.isSome * 4 + b2n (d.fltFilled p d.now) * 8
    + y.fltCheck * 16 + y.fltCond * 256)

/-- BANK_ACT and BANK_SHD (R260). -/
def bankWord : Option FirBank → Word
  | some b => word (b.n + b.d0 * 65536 + b.s0 * 2 ^ 24 + b2n b.sym * 2 ^ 31)
  | none => 0

/-- GD_APPLIED (R244). -/
def Dev.gdApplied (d : Dev) (p : Nat) : Int :=
  let x := d.flt p
  let c := d.chain p
  match x.fade with
  | none => c.gd c.bank
  | some f =>
    let ss := s0Of x.bases x.fades c (f.due / c.ts) (d.now / c.ts)
    c.gd ((ss.getLast?.map S0.dom).getD f.old)

end Sys2Proof.Machine
end

