-- ==== Sys2Proof/Machine/Plate.lean ====
section
/-! DEFINITION. Plates: trigger events, the arming sequence, segments and their slots, envelope and accumulation, the
plate and filter checks, AUX ranges and LPDDR4X training (07; 08 R253-R258). -/
namespace Sys2Proof.Machine

/-! ## Settings and states -/

/-- Change the state of a plate at an instant. The states before it are kept as far back as a trigger may name (R210). -/
def Plt.to (x : Plt) (st : PSt) (t : Time) : Plt :=
  { x with st := st, since := t, trail := (t, st) :: keepSince (t - (2 * us + x.cfg.postDly * 1024)) (fun e => e.1) x.trail }

/-- The state of a plate at an instant (R208). -/
def Plt.stAt (x : Plt) (t : Time) : PSt :=
  match x.trail.find? (fun e => decide (e.1 ≤ t)) with
  | some e => e.2
  | none => (x.trail.getLast?.map (fun e => e.2)).getD x.st

/-- DEC_CTL.MODE. -/
def Dev.decMode (d : Dev) (p : Nat) : Nat := d.f (Reg.PLT_DEC_CTL p) 2 0
/-- RATIO. -/
def Dev.decR (d : Dev) (p : Nat) : Nat := d.f (Reg.PLT_DEC_CTL p) 24 8
/-- Values per group: 2 in PEAK and ENVELOPE (R206). -/
def Dev.perGroup (d : Dev) (p : Nat) : Nat := if d.decMode p = 1 || d.decMode p = 3 then 2 else 1
/-- Phase bins Q (08 R254). -/
def Dev.accQ (d : Dev) (p : Nat) : Nat :=
  if d.b (Reg.FLTP_ACC_CTL p) 20 then 16 * 2 ^ d.f (Reg.PLT_CTL p) 1 0 else 1
/-- SEG_LEN. -/
def Dev.segLen (d : Dev) (p : Nat) : Nat := d.f (Reg.PLT_SEG_LEN p) 20 0
/-- KIND = STREAM. -/
def Dev.isStream (d : Dev) (p : Nat) : Bool := d.b (Reg.PLT_CTL p) 2
/-- RING. -/
def Dev.isRing (d : Dev) (p : Nat) : Bool := d.b (Reg.PLT_CTL p) 3
/-- A value is 10-bit packed (R189). -/
def Dev.packed (d : Dev) (p : Nat) : Bool := (d.chain p).pass && (d.decMode p = 0 || d.decMode p = 1)

/-- Bytes of `n` values of one input (R189). -/
def Dev.valBytes (d : Dev) (p n : Nat) : Nat :=
  if d.packed p then (n + 3) / 4 * 5 else if d.decMode p = 4 then 4 * n else 2 * n

/-- Data bytes of a full segment (R215; 08 R255). -/
def Dev.segData (d : Dev) (p : Nat) : Nat :=
  if d.decMode p = 4 then d.pltInputs p * d.accQ p * d.segLen p * 4 + 4 * d.accQ p
  else d.pltInputs p * d.valBytes p (d.segLen p)

/-- The slot size (R215). -/
def Dev.slotSizeOf (d : Dev) (p : Nat) : Nat := 64 + (d.segData p + 63) / 64 * 64

/-- Whole slots in the region. -/
def Dev.slotCount (d : Dev) (p : Nat) : Nat := d.f (Reg.PLT_REGION_SIZE p) 22 0 * 4096 / d.slotSizeOf p

/-- The settings that a segment takes at its SETUP (R225). -/
def Dev.pcfg (d : Dev) (p : Nat) : PCfg :=
  { ctl := d.rd (Reg.PLT_CTL p), preLen := d.f (Reg.PLT_PRE_LEN p) 20 0, postDly := (d.rd (Reg.PLT_POST_DLY p)).toNat,
    envN := d.f (Reg.PLT_ENV_N p) 16 0, trg := d.rd (Reg.PLT_TRG_CTL p), lvl := d.rd (Reg.PLT_TRG_LVL p),
    hyst := d.f (Reg.PLT_TRG_HYST p) 5 0, wmin := d.f (Reg.PLT_WMIN p) 23 0, wmax := d.f (Reg.PLT_WMAX p) 23 0,
    holdoff := d.f (Reg.PLT_HOLDOFF p) 29 0, autoTo := d.f (Reg.PLT_AUTO_TO p) 23 0,
    shotDly := d.f (Reg.PLT_SHOT_DLY p) 23 0, extOfs := sfld (d.rd (Reg.PLT_EXT_OFS p)) 15 0 }

/-- The pre-trigger span in DT (R206). -/
def Dev.preSpan (d : Dev) (p : Nat) (c : PCfg) : Nat :=
  if d.isStream p then 0 else c.preLen / d.perGroup p * d.decR p * (d.chain p).dc * d.ts p

/-- Bytes held in the capture buffer: segments formed, the working record, and the room of the segments cut short that are
still to be formed (R214). -/
def Dev.bufLevel (d : Dev) (p : Nat) : Nat :=
  let x := d.plt p
  let combined := d.decMode p = 3 || d.decMode p = 4
  let cut := if combined then b2n (x.work.isNone && !x.closing.isEmpty) else x.closing.length
  ((x.buf.map (fun o => o.data.length - o.done)).sum) + (b2n x.work.isSome + cut) * d.segData p

/-- A PLATE_DRAIN is transferring a slot of a RING acquisition (R216). -/
def Dev.slotBusy (d : Dev) (p slot : Nat) : Bool :=
  let ring := (d.plt p).ring
  ring ≠ 0 && d.dsc.drains.any (fun w => w.plate = p && w.moving && w.next % ring = slot)

/-- Room for a whole segment, and in RING mode a slot that no PLATE_DRAIN is transferring (R207, R214, R216). -/
def Dev.pltRoom (d : Dev) (p : Nat) : Bool :=
  let x := d.plt p
  (x.work.isSome || decide (d.bufLevel p + d.segData p ≤ 2097152))
    && !d.slotBusy p ((d.rd (Reg.PLT_SEQ p)).toNat % max 1 x.ring)

/-! ## Segment formation (R205-R219; 08 R246-R257) -/

/-- A group of chain outputs. -/
abbrev Group := List COut

/-- A list of outputs in groups of `r`; the last one may hold fewer. `fuel` bounds the groups. -/
def groupsOf (r : Nat) : Nat → List COut → List Group
  | 0, _ => []
  | _, [] => []
  | fuel + 1, l => l.take r :: groupsOf r fuel (l.drop r)

/-- Runs of outputs between SYNC instants. -/
def runsAt (cut : COut → COut → Bool) : List COut → List (List COut)
  | [] => []
  | o :: os =>
    match os, runsAt cut os with
    | q :: _, g :: gs => if cut o q then [o] :: g :: gs else (o :: g) :: gs
    | _, _ => [[o]]

/-- The groups from the reference output on (R206, 08 R251): a SYNC instant closes the group in progress with the outputs it
holds, and the next group begins after it; a group that the outputs leave unfinished is no group yet. -/
def groupsAfter (r : Nat) : List (List COut) → List Group
  | [] => []
  | [l] => (groupsOf r l.length l).filter (fun g => decide (r ≤ g.length))
  | l :: ls => groupsOf r l.length l ++ groupsAfter r ls

/-- The groups before output `m`, the reference (R206, 08 R251). Up to the first SYNC instant they lie on the grid of the
reference group; a SYNC instant closes the group in progress, and the next one begins after it; the reference closes the
last one. `cut` says that the reference never came, so that the last group is no group unless it is whole. -/
def groupsBefore (r m : Nat) (cut : Bool) : List (List COut) → List Group
  | [] => []
  | l :: ls =>
    let gs := (l.drop (m % r) :: ls).flatMap (fun x => groupsOf r x.length x)
    match gs.getLast? with
    | some g => if cut && decide (g.length < r) then gs.dropLast else gs
    | none => gs

/-- A SYNC instant lies between two outputs. -/
def syncBetween (bases : List (Time × Bool)) (ts : Nat) (a b : COut) : Bool :=
  bases.any (fun x => x.2 && decide (min a.n b.n * ts < x.1) && decide (x.1 ≤ max a.n b.n * ts))

/-- Stored values of a group for one input (R212). `full` is R. -/
def groupVals (mode : Nat) (pass : Bool) (j : Nat) (g : Group) : List Int :=
  let vs := g.map (fun o => o.vals.getD j 0)
  let lo := vs.foldl min (vs.headD 0)
  let hi := vs.foldl max (vs.headD 0)
  match mode with
  | 1 => [lo, hi]
  | 2 =>
    let s := vs.sum * (if pass then 64 else 1)
    let n := vs.length
    [sat16 ((2 * s + n) / (2 * (n : Int)))]
  | 3 => [vs.headD 0, vs.headD 0]
  | _ => [vs.headD 0]

/-- The chain outputs from which a group's values are computed (R195, R212). -/
def groupUsed (mode : Nat) (g : Group) : Group := if mode = 0 || mode = 4 then g.take 1 else g

/-- Pack four 10-bit values into five bytes (R189). -/
def pack10 : List Int → List Byte
  | [] => []
  | [a] => leBytes 5 (ofSigned 10 a)
  | [a, b] => leBytes 5 (ofSigned 10 a + ofSigned 10 b * 1024)
  | [a, b, c] => leBytes 5 (ofSigned 10 a + ofSigned 10 b * 1024 + ofSigned 10 c * 1048576)
  | a :: b :: c :: e :: l =>
    leBytes 5 (ofSigned 10 a + ofSigned 10 b * 1024 + ofSigned 10 c * 1048576 + ofSigned 10 e * 1073741824) ++ pack10 l

/-- A record formed from a segment's raw codes: values per input, its trigger time, counts, flags and range-change entries. -/
structure Rec where
  vals : List (List Int)
  trig : Time
  n : Nat
  pre : Nat
  gd : Int
  bank : FirBank
  flags : Nat
  blend : Bool
  sync : Bool
  ranges : List RangeEnt
  packed : Bool
  /-- Input time of the group after the last, and one more than the newest sample used. -/
  nextT : Int
  nextN : Nat
  deriving DecidableEq, Repr

/-- The range-change entry of a mark against the values of a segment; none when it falls outside (R195, R218). Values
are given by the oldest and newest raw samples behind them. -/
def rangeEntry (ts : Nat) (vs : List (Nat × Nat)) (m : Mark) : Option RangeEnt :=
  match m.kind with
  | .range input old new tap =>
    let s := (m.dt + ts - 1) / ts
    let e := if tap then (m.dt + 30 * ns) / ts else s + 11
    let first := vs.findIdx (fun v => decide (s ≤ v.2))
    let settle := (vs.filter (fun v => decide (s ≤ v.2) && decide (v.1 ≤ e))).length
    let inside := decide (first < vs.length) && (decide (0 < settle) || vs.any (fun v => decide (v.1 < s)))
    if inside then some { first := first, new := new % 4, old := old % 4, input := input, settle := min 65535 settle } else none
  | _ => none

/-- The bytes of a range-change entry (R218). -/
def RangeEnt.bytes (e : RangeEnt) : List Byte :=
  leBytes 4 (e.first + e.new * 2 ^ 20 + e.old * 2 ^ 22 + e.input * 2 ^ 24) ++ leBytes 2 e.settle ++ leBytes 2 0

/-- An RX tap source is borrowed at some instant from `lo` to `hi` (R219). -/
def tapBorrowed (ms : List Mark) (lo hi : Time) : Bool :=
  ms.zipIdx.any fun x =>
    match x.1.kind with
    | .borrowed j => decide (x.1.dt ≤ hi) &&
        (match (ms.drop (x.2 + 1)).find? (fun m => m.kind = .returned j) with
         | some e => decide (lo < e.dt)
         | none => true)
    | _ => false

/-- What the values of a segment of a plate are formed under, as things stand. -/
def Dev.form (d : Dev) (p : Nat) : Form :=
  { chain := d.chain p, fades := (d.flt p).fades, bases := (d.flt p).bases, mode := d.decMode p, ratio := d.decR p,
    len := d.segLen p, stream := d.isStream p, pmode := d.f (Reg.PLT_CTL p) 1 0, acc := d.rd (Reg.FLTP_ACC_CTL p),
    sel := (List.range (d.pltInputs p)).map (fun j => d.pltSrc p j ≠ 0x3FF), marks := (d.plt p).marks }

/-- Values per group. -/
def Form.perGroup (f : Form) : Nat := if f.mode = 1 || f.mode = 3 then 2 else 1
/-- Chain outputs per group. -/
def Form.r (f : Form) : Nat := max 1 (if f.mode = 3 || f.mode = 4 then 1 else f.ratio)
/-- Phase bins Q (08 R254). -/
def Form.q (f : Form) : Nat := if bit f.acc 20 then 16 * 2 ^ f.pmode else 1

/-- The raw codes of the inputs in use; an input that selects nothing reads code 0 (R191). -/
def Form.codes (f : Form) (cap : Capture) : List (List Int) :=
  f.sel.zipIdx.map (fun x => let xs := cap.raw.getD x.2 []; if x.1 then xs else xs.map (fun _ => 0))

/-- The index of the output at which the group of value PRE_LEN begins: the last one at or before the reference point, counted
on at the output period where the outputs end before it (R206). A stream goes on with the first output that it has not used
(R211). -/
def Form.refIdx (f : Form) (s : Seg) (point : Int) (os : List COut) : Nat :=
  let c := f.chain
  if s.after ≠ 0 then os.findIdx (fun o => decide (s.after ≤ o.n))
  else
    let step : Int := (c.dc * c.ts : Nat)
    match os.getLast? with
    | none => 0
    | some o =>
      if o.at c + step ≤ point then os.length - 1 + ((point - o.at c) / step).toNat
      else ((os.zipIdx.filter (fun q => decide (q.1.at c ≤ point))).getLast?.map (fun q => q.2)).getD 0

/-- Form the record of a segment from a capture. -/
def Form.record (f : Form) (s : Seg) (cap : Capture) : Rec :=
  let c := f.chain
  let ts := c.ts
  let g := f.perGroup
  let r := f.r
  let raw := f.codes cap
  let last := cap.base + (raw.map List.length).foldl max 0 - 1
  let os := (chainOuts f.bases f.fades c cap.base last { base := cap.base, raw := raw }).filter (fun o => match s.cut with
    | some t => decide (o.n * ts ≤ t)
    | none => true)
  let pre := if f.stream then 0 else s.cfg.preLen
  let post := if f.stream then 0 else s.cfg.postDly
  let point : Int := if c.dc = 1 then (((s.ref / ts + post) * ts : Nat) : Int) else ((s.trig + post * ts : Nat) : Int)
  let m := f.refIdx s point os
  let cut := syncBetween f.bases ts
  let before := groupsBefore r m (decide (os.length ≤ m)) (runsAt cut (os.take m))
  let before := before.drop (before.length - pre / g)
  let before := if s.short then before.filter (fun q => match q.head? with
      | some o => decide ((s.fill : Int) ≤ o.at c)
      | none => false) else before
  let gs := before ++ (groupsAfter r (runsAt cut (os.drop m))).take ((f.len - pre) / g)
  let used := gs.map (groupUsed f.mode)
  let newest := fun (q : Group) => (q.map (fun o => o.n)).foldl max 0
  let oldest := fun (q : Group) => (q.map (fun o => o.oldest)).foldl min (newest q)
  let sup := used.flatMap (fun q => List.replicate g (oldest q, newest q))
  let hi := (sup.map (fun v => v.2)).foldl max 0
  let lo := (sup.map (fun v => v.1)).foldl min hi
  let some_ := !gs.isEmpty
  let entries := f.marks.filterMap (rangeEntry ts sup)
  let sat := used.flatten.any (fun o => raw.any (fun xs =>
    (slice xs (o.oldest - cap.base) (o.n - cap.base)).any (fun v => v = -512 || v = 511)))
  let blend := used.flatten.any (fun o => o.blend)
  let o0 := ((gs.flatten.head?).map (fun o => o.n)).getD 0
  let o1 := gs.flatten.getLast?
  let sync := some_ && f.bases.any (fun b => b.2 && decide (o0 * ts < b.1) && decide (b.1 ≤ ((o1.map (fun o => o.n)).getD 0) * ts))
  let cal := some_ && f.marks.any (fun k => k.kind = .calStep && decide (lo * ts ≤ k.dt) && decide (k.dt ≤ hi * ts))
  let flags := b2n s.forced + b2n s.short * 2 + b2n (!entries.isEmpty) * 8 + b2n (decide (4 < entries.length)) * 16
    + b2n sat * 32 + b2n s.cut.isSome * 64 + b2n s.gap * 128 + b2n s.throttled * 256 + b2n blend * 512 + b2n sync * 1024
    + b2n cal * 2048 + b2n (some_ && tapBorrowed f.marks (lo * ts) (hi * ts)) * 4096
  { vals := (List.range raw.length).map (fun j => gs.flatMap (groupVals f.mode c.pass j)),
    trig := match f.stream, os[m]? with | true, some o => (o.at c).toNat | _, _ => s.trig,
    n := gs.length * g, pre := before.length * g,
    gd := ((os[m]?).map (fun o => o.gd)).getD (c.gd c.bank), bank := ((os[m]?).map (fun o => o.bank)).getD c.bank,
    flags := flags, blend := blend, sync := sync, ranges := entries, packed := c.pass && (f.mode = 0 || f.mode = 1),
    nextT := (o1.map (fun o => (o.at c + (c.dc * ts : Nat) : Int))).getD point, nextN := ((o1.map (fun o => o.n + 1)).getD 0) }

/-- The head block of a segment (R218). TRIGGER_BLIND is set when it is written. -/
def headBlock (p seq : Nat) (s : Seg) (trig : Time) (n pre flags : Nat) (gd : Int) (ranges : List RangeEnt)
    (mode combined : Nat) : List Byte :=
  leBytes 8 trig ++ leBytes 4 seq ++ leBytes 4 n ++ leBytes 4 pre ++ leBytes 2 flags
  ++ leBytes 1 (s.src + fld s.cfg.ctl 1 0 * 16 + fld s.cfg.trg 9 8 * 64) ++ leBytes 1 s.frac
  ++ leBytes 4 (ofSigned 32 gd) ++ leBytes 1 (min 255 ranges.length) ++ leBytes 1 (p + b2n s.half * 8 + mode * 16)
  ++ leBytes 2 (min 65535 combined) ++ ((ranges.take 4).flatMap RangeEnt.bytes ++ List.replicate 32 0).take 32

/-- The place and end of the segment with a sequence number: its slot and slot address, and whether it is the last of a SINGLE
acquisition (R215). -/
def Dev.slotAt (d : Dev) (p seq : Nat) : Nat × Nat × Bool :=
  let x := d.plt p
  let slot := if x.ring = 0 then seq else seq % x.ring
  (slot, x.base + slot * x.slotSize, x.ring = 0 && decide (seq + 1 = d.f (Reg.PLT_SEG_COUNT p) 22 0))

/-- A formed segment enters the capture buffer with its sequence number and slot (R214-R216). -/
def Dev.pushOut (p : Nat) (s : Seg) (trig : Time) (n pre flags : Nat) (gd : Int) (ranges : List RangeEnt) (mode combined : Nat)
    (data : List Byte) (d : Dev) : Dev :=
  let x := d.plt p
  let seq := (d.rd (Reg.PLT_SEQ p)).toNat
  let w := d.slotAt p seq
  let pad := (64 - data.length % 64) % 64
  let o : Out := {
    seq := seq, slot := w.1, addr := w.2.1, head := headBlock p seq s trig n pre flags gd ranges mode combined,
    data := data ++ List.replicate pad 0, done := 0, last := w.2.2 }
  let d := d.setPlt p { x with buf := x.buf ++ [o], gap := false }
  let d := if 4 < ranges.length then d.raiseOnce Ev.PLT_RANGE_OVF else d
  d.wrN (Reg.PLT_SEQ p) (seq + 1)

/-- Bytes of a record's values (R189, R215). -/
def recBytes (packed : Bool) (vals : List (List Int)) : List Byte :=
  vals.flatMap (fun vs => if packed then pack10 vs else vs.flatMap (fun v => leBytes 2 (ofSigned 16 v)))

/-- The working record of an envelope or accumulation is written out as a segment (R213; 08 R255, R257). More than four range
changes over its records overflow the list (R218). -/
def Dev.flushWork (p : Nat) (cut fade : Bool) (d : Dev) : Dev :=
  let x := d.plt p
  match x.work with
  | none => d
  | some w =>
    let d := d.setPlt p { x with work := none }
    let flags := w.flags ||| (b2n cut * 64) ||| (b2n fade * 512) ||| (b2n (decide (4 < w.ranges.length)) * 16)
    let data := if w.mode = 4 then
        w.vals.flatMap (fun v => leBytes 4 (ofSigned 32 v)) ++ w.counts.flatMap (fun n => leBytes 4 n)
      else w.vals.flatMap (fun v => leBytes 2 (ofSigned 16 v))
    d.pushOut p w.first w.first.trig w.len w.preVals flags w.gd w.ranges w.mode w.n data

/-- Combine the values of a record into the min/max pairs of an envelope (R213): `ofs` positions are missing in
front. -/
def envCombine (cur : List Int) (ofs : Nat) (vs : List Int) : List Int :=
  cur.zipIdx.map fun x =>
    if x.2 < ofs then x.1
    else match vs[x.2 - ofs]? with
      | some v => if x.2 % 2 = 0 then min x.1 v else max x.1 v
      | none => x.1

/-- Add a record to an envelope (R213). The range changes of a record that lacks its first values name the values of the
combined one. -/
def Dev.addEnv (p : Nat) (f : Form) (s : Seg) (r : Rec) (d : Dev) : Dev :=
  let x := d.plt p
  let empty := (List.range f.len).map (fun i => if i % 2 = 0 then (32767 : Int) else -32768)
  let w := x.work.getD {
    first := s, gd := r.gd, vals := r.vals.flatMap (fun _ => empty), counts := [], flags := 0, n := 0,
    ranges := [], bank := some r.bank, preVals := r.pre, mode := 3, len := f.len }
  let ofs := s.cfg.preLen - r.pre
  let vals := (List.range r.vals.length).flatMap fun j =>
    envCombine (slice w.vals (j * f.len) (j * f.len + f.len - 1)) ofs (r.vals.getD j [])
  let w := { w with vals := vals, flags := w.flags ||| r.flags, n := w.n + 1, preVals := max w.preVals r.pre,
                    ranges := w.ranges ++ r.ranges.map (fun e => { e with first := e.first + ofs }) }
  let d := if r.n = 0 then d else d.setPlt p { x with work := some w }
  if s.cut.isSome then d.flushWork p true false
  else if w.first.cfg.envN ≤ w.n then d.flushWork p false false else d

/-- Add a record to an accumulation, or skip it; a record under another dominant bank closes the accumulation first
(08 R253-R257). -/
def Dev.addAcc (p : Nat) (f : Form) (s : Seg) (r : Rec) (d : Dev) : Dev :=
  let phase := bit f.acc 20
  if s.cut.isSome then d.flushWork p true false
  else if s.short || !r.ranges.isEmpty || (s.forced && phase) || r.blend || (1 < f.chain.dc && r.sync) then
    d.inc (Reg.FLTP_ACC_SKIP p)
  else
    let other := match (d.plt p).work with
      | some w => decide (w.bank ≠ some r.bank)
      | none => false
    let d := if other then
        ((d.flushWork p false true).inc (Reg.FLTP_ACC_CLOSE_CNT p)).raise Ev.FLT_ACC_CLOSED else d
    let x := d.plt p
    let len := f.len
    let q := f.q
    let ni := r.vals.length
    let w : Work := x.work.getD {
      first := s, gd := r.gd, vals := List.replicate (ni * q * len) 0, counts := List.replicate q 0, flags := 0, n := 0,
      ranges := [], bank := some r.bank, preVals := r.pre, mode := 4, len := len }
    let b := s.frac * q / 64
    let vals := w.vals.zipIdx.map fun v =>
      let j := v.2 / (q * len)
      if v.2 / len % q = b then
        clampI (-2147483648) 2147483647 (v.1 + (r.vals.getD j []).getD (v.2 % len) 0) else v.1
    let counts := setAt w.counts b (w.counts.getD b 0 + 1)
    let w : Work := { w with vals := vals, counts := counts, flags := w.flags ||| r.flags, n := w.n + 1 }
    let d := d.setPlt p { x with work := some w }
    if fld f.acc 16 0 ≤ w.n then d.flushWork p false false else d

/-- A segment's samples are complete, or it was cut short: its record is stored, combined or accumulated. -/
def Dev.storeSeg (p : Nat) (s : Seg) (cap : Capture) (d : Dev) : Dev :=
  let f := s.form.getD (d.form p)
  let r := f.record s cap
  let d := if f.stream && s.cut.isNone then d.setPlt p { (d.plt p) with streamNext := r.nextT.toNat, streamLast := r.nextN } else d
  match f.mode with
  | 3 => d.addEnv p f s r
  | 4 => d.addAcc p f s r
  | m => d.pushOut p s r.trig r.n r.pre r.flags r.gd r.ranges m 1 (recBytes r.packed r.vals)

/-! ## The arming sequence (R207-R211) -/

/-- Sequence numbers used up by an acquisition, those of segments cut short that are still to be formed included. -/
def Dev.seqUsed (d : Dev) (p : Nat) : Nat :=
  let x := d.plt p
  let cut := match d.decMode p with
    | 3 => b2n (!x.closing.isEmpty)
    | 4 => b2n (!x.closing.isEmpty && x.work.isSome)
    | _ => x.closing.length
  (d.rd (Reg.PLT_SEQ p)).toNat + cut

/-- SEGMENT count of the acquisition is reached (R207). -/
def Dev.pltFull (d : Dev) (p : Nat) : Bool := !d.isRing p && decide (d.f (Reg.PLT_SEG_COUNT p) 22 0 ≤ d.seqUsed p)

/-- The acquisition ends with its last segment (R207). A record that closed the last accumulation (08 R256) has no segment to
go to: DESIGN CHOICE (log 112). -/
def Dev.pltEnd (p : Nat) (t : Time) (d : Dev) : Dev :=
  let x := (d.plt p).to .stopped t
  d.setPlt p { x with acquiring := false, work := if x.closing.isEmpty then none else x.work }

/-- Enter SETUP: the segment to come takes the settings in force (R225). -/
def Dev.toSetup (p : Nat) (t : Time) (d : Dev) : Dev := d.setPlt p { ((d.plt p).to .setup t) with cfg := d.pcfg p, seg := none }

/-- Start the acquisition of a plate at a tick (R207; 15 R445). Cascade triggers that wait go on waiting (R210). -/
def Dev.pltStart (p : Nat) (t : Time) (d : Dev) : Dev :=
  let x := d.plt p
  let d := d.setPlt p { x with acquiring := true, seg := none, closing := [], work := none, blind := false, holdEnd := 0, holdN := 0,
                                marks := [], slots := [], slotSize := d.slotSizeOf p, streamNext := 0, streamLast := 0,
                                base := d.f (Reg.PLT_REGION_BASE p) 22 0 * 4096, fill := t,
                                ring := if d.isRing p then max 1 (d.slotCount p) else 0, gap := false }
  let d := ((d.wr (Reg.PLT_SEQ p) 0).wr (Reg.PLT_SEG_COMMIT p) 0)
  if 3 ≤ d.thm.step then d.setPlt p ((d.plt p).to .suspended t) else d.toSetup p t

/-- What a plate has in hand ends early at an instant: a segment being captured is formed with the values it has by then, and
what was combined so far is written with CUT; without an accepted trigger there is no segment (R209, R213; 08 R257). -/
def Dev.cutSeg (p : Nat) (t : Time) (d : Dev) : Dev :=
  let x := { d.plt p with streamNext := 0, streamLast := 0 }
  match x.seg with
  | some s => d.setPlt p { x with seg := none, closing := x.closing ++ [{ s with cut := some t, form := some (d.form p) }] }
  | none => if x.closing.isEmpty then (d.setPlt p x).flushWork p true false else d.setPlt p x

/-- Stop a plate (R209; 15 R445). -/
def Dev.pltStop (p : Nat) (t : Time) (d : Dev) : Dev :=
  if !(d.plt p).acquiring then d
  else
    let d := d.cutSeg p t
    d.setPlt p { ((d.plt p).to .stopped t) with acquiring := false }

/-- Accept a trigger (R201, R203, R204, R208). -/
def Dev.pltAccept (p : Nat) (t : Time) (ref : Time) (frac : Nat) (forced short : Bool) (d : Dev) : Dev :=
  let x := d.plt p
  let trg := x.cfg.trg
  let s : Seg := {
    trig := t, frac := frac, ref := ref, src := fld trg 3 0, forced := forced, short := short,
    gap := false, throttled := decide (1 ≤ d.thm.step), half := x.half, fill := x.fill, cfg := x.cfg,
    heldEnd := x.holdEnd, heldN := x.holdN }
  let x := { x with seg := some s, holdEnd := if bit trg 13 then 0 else t + x.cfg.holdoff * ns,
                    holdN := if bit trg 13 then x.cfg.holdoff else 0,
                    bus := if bit trg 14 && !forced then (t + 64 * ns) :: keepSince t (fun b => b) x.bus else x.bus }
  let d := d.setPlt p (x.to .capturing t)
  let d := d.wr64 (Reg.PLT_LAST_TRIG_LO p) t
  if bit trg 15 && !forced then d.cascSend 6 p 0 t 0 true else d

/-- TRIG_BUS is pulled low at an instant: 50 ns from the start of each pulse, which merge where they overlap, while the unit
drives its shared stages (R203; 13 R364). -/
def Dev.trigBusLow (d : Dev) (t : Time) : Bool :=
  d.drives && !d.sec.bscan && (List.range 8).any (fun p => (d.plt p).bus.any (fun b => decide (b ≤ t) && decide (t < b + 50 * ns)))

/-- A trigger event counted in MISSED (R208). -/
def Dev.pltMissed (p : Nat) (d : Dev) : Dev :=
  ((d.inc (Reg.PLT_MISSED p)).setPlt p { (d.plt p) with blind := true }).raiseOnce (Ev.PLT_MISSED p)

/-- A real event at the very sample of a forced trigger takes precedence: the segment is not forced (R202). -/
def Dev.pltReal (p : Nat) (g : Seg) (t ref : Time) (frac : Nat) (d : Dev) : Dev :=
  if t < g.heldEnd || 0 < g.heldN then d.inc (Reg.PLT_HOLD_IGN p)
  else
    let n := (d.rd (Reg.PLT_FORCED_CNT p)).toNat
    (if n = 0xFFFFFFFF then d else d.wrN (Reg.PLT_FORCED_CNT p) (n - 1)).pltAccept p t ref frac false false

/-- A trigger event at time t with its reference sample and fraction (R201, R208). -/
def Dev.pltEvent (p : Nat) (t ref : Time) (frac : Nat) (d : Dev) : Dev :=
  let x := d.plt p
  if !x.acquiring || d.isStream p then d
  else match x.seg.filter (fun g => g.forced && g.ref = ref) with
  | some g => d.pltReal p g t ref frac
  | none =>
    if t < x.holdEnd then d.inc (Reg.PLT_HOLD_IGN p)
    else if 0 < x.holdN then (d.setPlt p { x with holdN := x.holdN - 1 }).inc (Reg.PLT_HOLD_IGN p)
    else
      match x.stAt t with
      | .armed => if x.st = .armed then d.pltAccept p t ref frac false false else d.pltMissed p
      | .filling =>
        if bit x.cfg.ctl 4 then d.pltMissed p
        else if x.st = .filling || x.st = .armed then d.pltAccept p t ref frac false true
        else d.pltMissed p
      | .capturing => d.pltMissed p
      | .rearm => d.pltMissed p
      | .setup => d.pltMissed p
      | .stopped => d
      | .suspended => d

/-- An event at time t whose reference sample is the last one at or before it (R199). -/
def Dev.pltEventAt (p : Nat) (t : Time) (d : Dev) : Dev :=
  let ts := d.ts p
  d.pltEvent p t (t / ts * ts) (t % ts * 64 / ts)

/-- Enter ARMED; source IMMEDIATE triggers at once (R197, R207). -/
def Dev.toArmed (p : Nat) (t : Time) (d : Dev) : Dev :=
  let d := d.setPlt p ((d.plt p).to .armed t)
  if fld (d.plt p).cfg.trg 3 0 = 8 then d.pltEventAt p t else d

/-- Begin a stream segment whose first group is at an instant; after a gap it begins by time, otherwise with the first output
that the last segment did not use (R211). -/
def Dev.streamBegin (p : Nat) (t now : Time) (d : Dev) : Dev :=
  let x := d.plt p
  let ts := d.ts p
  let s : Seg := {
    trig := t, frac := 0, ref := t / ts * ts, src := 8, forced := false, short := false, gap := x.gap,
    throttled := decide (1 ≤ d.thm.step), half := x.half, fill := t, cfg := x.cfg, after := if x.gap then 0 else x.streamLast }
  d.setPlt p { (x.to .capturing now) with seg := some s, gap := false, fill := t }

/-- Span of a whole stream segment in DT. -/
def Dev.segSpan (d : Dev) (p : Nat) : Nat := d.segLen p / d.perGroup p * d.decR p * (d.chain p).dc * d.ts p

/-- Skip stream segments: their sequence numbers are used up (R211), at most those that the acquisition still has. -/
def Dev.streamPass (p n : Nat) (d : Dev) : Dev :=
  let x := d.plt p
  let seq := (d.rd (Reg.PLT_SEQ p)).toNat
  let n := if d.isRing p then n else min n (d.f (Reg.PLT_SEG_COUNT p) 22 0 - seq)
  if n = 0 then d
  else
    let d := d.setPlt p { x with streamNext := x.streamNext + n * d.segSpan p, gap := true }
    (d.add (Reg.PLT_SEG_SKIP p) n).wrN (Reg.PLT_SEQ p) (seq + n)

/-- PLATE_SETUP_DONE: 16 ns have passed, the chain is filled and buffer room is reserved (R207, R211, 08 R237). Stream segments
whose first group is past by then are skipped. -/
def Dev.setupDone (p : Nat) (t : Time) (d : Dev) : Dev :=
  let x := d.plt p
  if x.st ≠ .setup || t < x.since + 16 * ns || !d.pltRoom p || !d.fltFilled p t then d
  else
    let d := d.at t
    if d.isStream p then
      let ts := d.ts p
      let late := if x.streamNext = 0 then 0 else (t - x.streamNext + d.segSpan p - 1) / d.segSpan p
      let d := d.streamPass p late
      if d.pltFull p then d.pltEnd p t
      else
        let d := if (d.plt p).gap then d.raiseOnce Ev.PLT_STREAM_GAP else d
        let first := (d.plt p).streamNext
        d.streamBegin p (if first = 0 then (t + ts - 1) / ts * ts else first) t
    else
      let d := d.setPlt p { (x.to .filling t) with fill := t }
      if d.preSpan p x.cfg ≤ x.cfg.postDly * d.ts p then d.toArmed p t else d

/-- PLATE_FILL_DONE: the pre-trigger span less POST_DLY has elapsed (R207). -/
def Dev.fillDone (p : Nat) (t : Time) (d : Dev) : Dev :=
  let x := d.plt p
  if x.st ≠ .filling || t + x.cfg.postDly * d.ts p < x.since + d.preSpan p x.cfg then d
  else (d.at t).toArmed p t

/-- Marks that a segment still to come may need: those from an instant on, and taps that are still borrowed. -/
def keepMarks (t : Time) (ms : List Mark) : List Mark :=
  (ms.zipIdx.filter (fun x => decide (t ≤ x.1.dt) || (match x.1.kind with
    | .borrowed j => !((ms.drop (x.2 + 1)).any (fun m => m.kind = .returned j))
    | _ => false))).map (fun x => x.1)

/-- CAPTURE_COMPLETE: the last value of a segment is in the capture buffer; `cap` holds the raw codes behind it. A
segment that was cut short is formed first (R207, R209, R211). -/
def Dev.captureDone (p : Nat) (t : Time) (cap : Capture) (d : Dev) : Dev :=
  let x := d.plt p
  match x.closing with
  | s :: rest => (d.setPlt p { x with closing := rest }).storeSeg p s cap
  | [] =>
    match x.seg with
    | none => d
    | some s =>
      let d := ((d.at t).setPlt p { x with seg := none }).storeSeg p s cap
      let x := d.plt p
      let d := d.setPlt p { x with marks := keepMarks (d.histFrom p) x.marks }
      if d.pltFull p then d.pltEnd p t
      else if d.isStream p then
        let d := d.setPlt p { (d.plt p) with cfg := d.pcfg p }
        if d.pltRoom p then d.streamBegin p (d.plt p).streamNext t
        else d.setPlt p ((d.plt p).to .setup t)
      else d.setPlt p ((d.plt p).to .rearm t)

/-- REARM_DONE: 16 ns have passed in REARM (R207). -/
def Dev.rearmDone (p : Nat) (t : Time) (d : Dev) : Dev :=
  let x := d.plt p
  if x.st ≠ .rearm || t < x.since + 16 * ns then d else (d.at t).toSetup p t

/-- HOLDOFF_END: holdoff by time has ended (R201). The end stays known, for events handled later whose trigger time lies
before it. -/
def Dev.holdoffEnd (p : Nat) (t : Time) (d : Dev) : Dev := if (d.plt p).holdEnd ≤ t then d.at t else d

/-- AUTO_TRIGGER: no trigger within AUTO_TO of becoming armed; the trigger time is the sample of the timeout (R202). -/
def Dev.autoTrigger (p : Nat) (t : Time) (d : Dev) : Dev :=
  let x := d.plt p
  let ts := d.ts p
  let out := x.since + x.cfg.autoTo * us
  if x.st = .armed && bit x.cfg.trg 12 && decide (out ≤ t) then
    let t' := out / ts * ts
    ((((d.at t).pltAccept p t' t' 0 true false).inc (Reg.PLT_FORCED_CNT p))).raiseOnce (Ev.PLT_FORCED p)
  else d

/-- STREAM_SEGMENT_SKIP: no room by the time the next stream segment's first group begins (R211). The acquisition ends when it
has no sequence number left. -/
def Dev.streamSkip (p : Nat) (d : Dev) : Dev :=
  let x := d.plt p
  if !x.acquiring || !d.isStream p || x.st ≠ .setup || x.streamNext = 0 || d.pltRoom p then d
  else
    let d := (d.at x.streamNext).streamPass p 1
    if d.pltFull p then d.pltEnd p d.now else d

/-! ## Trigger events (R197-R199, R210) -/

/-- Progress of the search for a qualifying event over the raw codes of the trigger input. -/
structure Scan where
  prev : Option Int := none
  readyR : Bool := false
  readyF : Bool := false
  /-- Start of a pulse above LA, and of one below it, in 1/64 sample, plus one. -/
  up : Nat := 0
  down : Nat := 0
  runtR : Bool := false
  runtF : Bool := false
  n : Nat := 0
  /-- Level crossed at the last sample, when it completes a qualifying event. -/
  hit : Option Int := none
  deriving DecidableEq, Repr

/-- The fraction of a crossing of level l between x0 and x1, in 1/64 (R199). -/
def crossFrac (l x0 x1 : Int) : Nat :=
  let dx := x1 - x0
  let num := if 0 < dx then l - x0 else x0 - l
  (roundDiv (64 * num) dx.natAbs).toNat

/-- Trigger type settings: type, slope (rising, falling), levels, hysteresis and widths (R198). -/
structure TrgSet where
  typ : Nat
  rise : Bool
  fall : Bool
  la : Int
  lb : Int
  h : Int
  wmin : Nat
  wmax : Nat
  deriving DecidableEq, Repr

/-- The trigger settings of a segment. -/
def PCfg.trgSet (x : PCfg) : TrgSet :=
  let s := fld x.trg 11 10
  { typ := fld x.trg 6 4, rise := s ≠ 1, fall := s = 1 || s = 2, la := sfld x.lvl 9 0, lb := sfld x.lvl 25 16,
    h := (x.hyst : Nat), wmin := x.wmin, wmax := x.wmax }

/-- One sample of the search (R198). -/
def scanStep (c : TrgSet) (s : Scan) (x : Int) : Scan :=
  match s.prev with
  | none => { s with prev := some x, n := 1, readyR := x ≤ c.la - c.h, readyF := c.la + c.h ≤ x, hit := none }
  | some x0 =>
    let up := x0 < c.la && c.la ≤ x
    let down := c.la ≤ x0 && x < c.la
    let downE := c.la < x0 && x ≤ c.la
    let at64 := fun (l : Int) => 64 * (s.n - 1) + crossFrac l x0 x
    let inside := fun (v : Int) => c.la ≤ v && v ≤ c.lb
    let wide := fun (start : Nat) => start ≠ 0 && 64 * c.wmin < at64 c.la + 1 - start
      && (c.wmax = 0 || at64 c.la + 1 - start < 64 * c.wmax)
    let hit : Option Int :=
      match c.typ with
      | 0 => if (c.rise && up && s.readyR) || (c.fall && downE && s.readyF) then some c.la else none
      | 1 =>
        if c.rise && !inside x0 && inside x then some (if x0 < c.la then c.la else c.lb)
        else if c.fall && inside x0 && !inside x then some (if x < c.la then c.la else c.lb) else none
      | 2 => if (c.rise && down && wide s.up) || (c.fall && up && wide s.down) then some c.la else none
      | _ =>
        if c.rise && down && s.runtR then some c.la
        else if c.fall && x0 < c.lb && c.lb ≤ x && s.runtF then some c.lb else none
    let fired := hit.isSome
    { prev := some x, n := s.n + 1, hit := hit,
      readyR := x ≤ c.la - c.h || (s.readyR && !(up && (fired || c.typ = 3))),
      readyF := (if c.typ = 3 then c.lb + c.h ≤ x else c.la + c.h ≤ x)
        || (s.readyF && !((downE && fired) || (c.typ = 3 && c.lb ≤ x0 && x < c.lb))),
      up := if up then at64 c.la + 1 else if down then 0 else s.up,
      down := if down then at64 c.la + 1 else if up then 0 else s.down,
      runtR := if c.lb ≤ x || down then false else if up then s.readyR else s.runtR,
      runtF := if x ≤ c.la || (x0 < c.lb && c.lb ≤ x) then false
        else if c.lb ≤ x0 && x < c.lb then s.readyF else s.runtF }

/-- A LOCAL event at the last of the raw codes: its trigger time, reference sample and fraction (R198, R199). -/
def localEvent (c : TrgSet) (ts : Nat) (n : Time) (xs : List Int) : Option (Time × Time × Nat) :=
  let s := xs.foldl (scanStep c) {}
  match s.hit, xs.reverse with
  | some l, x1 :: x0 :: _ =>
    let f := crossFrac l x0 x1
    if f = 64 then some (n, n, 0) else some (n - ts + f * ts / 64, n - ts, f)
  | _, _ => none

/-- The raw codes of the trigger input; an input that is not in use or selects nothing reads code 0 (R191). -/
def Dev.trgCodes (d : Dev) (p input : Nat) (xs : List Int) : List Int :=
  if input < d.pltInputs p && d.pltSrc p input ≠ 0x3FF then xs else xs.map (fun _ => 0)

/-- TRIGGER_EVENT (R197-R199, R208): an event of the source that the segment's settings select (R225). Edges of pins and of
TRIG_BUS are timed to one fine bin (01 R16). -/
def Dev.trigger (p : Nat) (x : TrigIn) (d : Dev) : Dev :=
  let y := d.plt p
  let src := fld y.cfg.trg 3 0
  let arg := fld y.cfg.trg 24 16
  let slope := fld y.cfg.trg 11 10
  if !d.on domWAVE || !y.acquiring then d else
  match x with
  | .samples n xs =>
    if src ≠ 0 then d else
    match localEvent y.cfg.trgSet (d.ts p) n (d.trgCodes p (fld y.cfg.trg 9 8) xs) with
    | some (t, ref, f) => (d.at n).pltEvent p t ref f
    | none => d
  | .edge pin t rising =>
    let wanted := if slope = 1 then !rising else slope = 2 || rising
    let good := match pin with
      | .in0 => src = 3 && wanted
      | .in1 => src = 4 && wanted
      | .bus => src = 5 && !rising
    if good then (d.at t).pltEventAt p (((t / 8 * 8 : Nat) : Int) - y.cfg.extOfs).toNat else d
  | .own =>
    if src = 1 then
      match d.stp.strobes.find? (fun s => s.1 = p && s.2.1 = arg) with
      | some (_, c, tw) =>
        let l : List (Nat × Nat × Int) := d.stp.strobes.erase (p, c, tw)
        { d with stp := { d.stp with strobes := l } }.pltEventAt p tw.toNat
      | none => d
    else if src = 2 then
      let k := tabGet 0 d.brn.last (arg % 16)
      if k = 0 || y.used = k then d
      else (d.setPlt p { y with used := k }).pltEventAt p (k - 1 + y.cfg.shotDly)
    else if src = 6 then
      match y.casc with
      | (t, who) :: rest =>
        let d := (d.at t).setPlt p { y with casc := rest }
        if who = arg then d.pltEventAt p t else d
      | [] => d
    else if src = 7 then
      let k := (d.rd (Reg.PLT_LAST_TRIG_LO (arg % 8))).toNat + (d.rd (Reg.PLT_LAST_TRIG_HI (arg % 8))).toNat * 2 ^ 32
      if k = 0 || y.used = k + 1 then d else (d.setPlt p { y with used := k + 1 }).pltEventAt p k
    else d

/-- A cascade trigger of sender `who` received at `t` with DT `dt` at one plate (R210). An early one waits whatever the plate
does meanwhile. A late one is treated as of its DT while the history holds the segment's first group; otherwise it is late,
on a plate that acquires triggered segments. -/
def Dev.cascTrigPlate (p who : Nat) (dt t : Time) (d : Dev) : Dev :=
  let x := d.plt p
  if t < dt then
    let l : List (Time × Nat) := insBy (fun a b => decide (a.1 < b.1)) (dt, who) x.casc
    d.setPlt p { x with casc := l }
  else if !x.acquiring || d.isStream p || fld x.cfg.trg 3 0 ≠ 6 || fld x.cfg.trg 24 16 ≠ who then d
  else if t ≤ dt + x.cfg.postDly * d.ts p + 2 * us then d.pltEventAt p dt
  else (d.pltMissed p).inc (Reg.PLT_MISSED_LATE p)

/-- A plate selects the cascade triggers of a sender, in the settings of its segment or in those of segments to come. -/
def Dev.cascPicks (d : Dev) (p who : Nat) : Bool :=
  let picks := fun (c : Word) => fld c 3 0 = 6 && fld c 24 16 = who
  picks (d.rd (Reg.PLT_TRG_CTL p)) || ((d.plt p).acquiring && picks (d.plt p).cfg.trg)

/-- A device acts on the master's copy of a TRIG (R197, R210). -/
def Dev.cascTrigAct (who : Nat) (dt t : Time) (d : Dev) : Dev :=
  if !d.on domWAVE then d else forN 8 (fun p d => if d.cascPicks p who then d.cascTrigPlate p who dt t else d) (d.at t)

/-- CASC_TRIG_MESSAGE (R197, R210; 13 R386, R387): a TRIG on its way up is acted on by the master alone, which sends it down to
every device; a member acts on what comes down. -/
def Dev.cascTrig (pos plate : Nat) (dt t : Time) (up crc : Bool) (d : Dev) : Dev :=
  let m : CascMsg := { typ := 6, pos := pos, plate := plate, arg := 0, dt := dt, payload := 0 }
  d.cascReceive up crc m t fun d =>
    if !d.cascOn then d
    else if d.cascRole = 2 then (if up then (d.cascPut m true).cascTrigAct (plate + 8 * pos) dt t else d)
    else if up then d
    else d.cascTrigAct (plate + 8 * pos) dt t

/-! ## The drain to LPDDR4X (R214-R216) -/

/-- Write data bursts of a segment under the DRAIN budget; `fuel` bounds the bursts. The Bool says whether all data is
written. -/
def Dev.drainData : Nat → Nat → Out → Dev → Bool × Out × Dev
  | 0, _, o, d => (decide (o.data.length ≤ o.done), o, d)
  | fuel + 1, p, o, d =>
    if o.data.length ≤ o.done then (true, o, d)
    else
      let r := d.spend actDRAIN 64
      if r.1 then
        Dev.drainData fuel p { o with done := o.done + 64 }
          (r.2.memPut (o.addr + 64 + o.done) ((o.data.drop o.done).take 64))
      else (false, o, r.2)

/-- The head block with TRIGGER_BLIND where MISSED has counted since the last segment (R208, R219). -/
def blindHead (blind : Bool) (head : List Byte) : List Byte := if blind then setAt head 20 (head.getD 20 0 ||| 4) else head

/-- SEGMENT_COMMIT: the oldest segment of the capture buffer is written to its slot, data before head block, as far as
the DRAIN budget allows and no PLATE_DRAIN is transferring the slot; with its head block written it is committed (R214,
R216). -/
def Dev.segCommit (p : Nat) (d : Dev) : Dev :=
  let x := d.plt p
  match x.buf with
  | [] => d
  | o :: rest =>
    if !d.wave.mem.ready || !d.on domMEM || d.slotBusy p o.slot then d else
    let r := Dev.drainData (o.data.length / 64 + 1) p o d
    let d := r.2.2
    let put := fun (b : List Out) (d : Dev) => d.setPlt p { (d.plt p) with buf := b }
    if !r.1 then put (r.2.1 :: rest) d
    else
      let h := d.spend actDRAIN 64
      if !h.1 then put (r.2.1 :: rest) h.2
      else
        let d := (h.2.memPut o.addr (blindHead x.blind o.head)).inc (Reg.PLT_SEG_COMMIT p)
        let d := put rest d
        let y := d.plt p
        let d := d.setPlt p { y with blind := false, slots := tabPut 0 y.slots o.slot (o.seq + 1) }
        d.raiseIf o.last (Ev.PLT_ACQ_DONE p)

/-- WAVE powers down: what is captured ends with CUT, and what is not committed is lost (R209, R223). -/
def Dev.waveOff (d : Dev) : Dev :=
  let d := forN 8 (fun p d =>
    let x := d.plt p
    let n := x.buf.length + x.closing.length + b2n x.seg.isSome + b2n x.work.isSome
    (d.setPlt p { x with st := .stopped, acquiring := false, seg := none, closing := [], work := none, buf := [], casc := [],
                         trail := [] }).add (Reg.PLT_SEG_LOST p) n) d
  forN 8 (fun p d => d.setFlt p { (d.flt p) with fade := none, past := [], bases := [], sw := .none, due := [] }) d

/-! ## AUX inputs (R193, R194) -/

/-- Range in force of AUX input k. -/
def Dev.auxRange (d : Dev) (k : Nat) : Nat := tabGet 2 d.wave.aux k
/-- AUX_CTL of input k. -/
def auxCtlOff (k : Nat) : Nat := Reg.PLT_AUX_CTL (k / 2) (k % 2)

/-- Change the range of AUX input k; the switch sample is at instant t. Its counts restart (R194, R195). -/
def Dev.setAux (k r : Nat) (t : Time) (d : Dev) : Dev :=
  let old := d.auxRange k
  let d := { d with wave := { d.wave with auxRun := tabErase d.wave.auxRun k } }
  if old = r then d
  else { d with wave := { d.wave with aux := tabPut 2 d.wave.aux k r } }.tapRange (512 + k) old r false t

/-- The sample period that governs the counts of AUX input k (R194). -/
def Dev.auxTs (d : Dev) (k : Nat) : Nat :=
  match (d.pltTaps (512 + k)).map (fun x => d.ts x.1) with
  | [] => 512
  | t :: ts => ts.foldl min t

/-- A run of `n` equal codes at AUX input k, the first at instant t (R194): when a count reaches its limit and the step lies
within AR_MIN to AR_MAX, the range switches at the sample after the deciding one, and the rest of the run is counted at the
new range. `fuel` bounds the steps of a run. -/
def Dev.auxCount (k : Nat) (code : Int) : Nat → Time → Nat → Dev → Dev
  | 0, _, _, d => d
  | fuel + 1, t, n, d =>
    let c := d.rd (auxCtlOff k)
    let ts := d.auxTs k
    let r := d.auxRange k
    let was := tabGet (0, 0) d.wave.auxRun k
    let clip := decide (480 ≤ code.natAbs)
    let quiet := decide (code.natAbs < 96)
    let limit := if clip then max 1 (fld c 11 8) else 2 ^ (max 4 (min 24 (fld c 16 12)))
    let step := if clip then r + 1 else r - 1
    let allowed := if clip then decide (step ≤ min 2 (fld c 6 5) ∧ fld c 4 3 ≤ step)
      else quiet && decide (0 < r ∧ fld c 4 3 ≤ step ∧ step ≤ min 2 (fld c 6 5))
    let need := max 1 (limit - (if clip then was.1 else was.2))
    if allowed && decide (need ≤ n) then
      Dev.auxCount k code fuel (t + need * ts) (n - need) (d.setAux k step (t + need * ts))
    else
      let now : Nat × Nat := (if clip then was.1 + n else 0, if quiet then was.2 + n else 0)
      { d with wave := { d.wave with auxRun := tabPut (0, 0) d.wave.auxRun k (if n = 0 then was else now) } }

/-- AUX_AUTORANGE: raw codes of an input that ranges itself, as runs of equal codes from instant t on (R194). -/
def Dev.auxAuto (k : Nat) (t : Time) (xs : List (Int × Nat)) (d : Dev) : Dev :=
  if !d.on domWAVE || !d.b (auxCtlOff k) 2 then d
  else (xs.foldl (fun (a : Time × Dev) x =>
    let len := x.2 * a.2.auxTs k
    (a.1 + len, (Dev.auxCount k x.1 3 a.1 x.2 a.2).at (a.1 + len))) (t, d)).2

/-- A range written for the tick applies, and the counts restart (R193, R194). -/
def Dev.auxTick (staged : List Nat) (d : Dev) : Dev :=
  forN 16 (fun k d => if staged.contains (auxCtlOff k) then d.setAux k (min 2 (d.f (auxCtlOff k) 1 0)) d.now else d) d

/-! ## Throttle (R217) and the tick -/

/-- A change of rate (R217; 08 R237, R252, R257, R259): what is in hand ends with CUT under the old rate, the fade that runs is
over, and the history is cleared. A plate that was capturing rearms, or stops after its last segment; one that was filling or
armed returns to SETUP. -/
def Dev.pltRate (half : Bool) (p : Nat) (d : Dev) : Dev :=
  let x := d.plt p
  let d := if x.acquiring then d.cutSeg p d.now else d
  let d := (d.setPlt p { (d.plt p) with half := half }).fadeOver p d.now
  let d := (d.setFlt p ((d.flt p).clear d.now)).phaseReset p d.now
  if !x.acquiring || x.st = .suspended then d
  else if d.pltFull p then d.pltEnd p d.now
  else if x.st = .capturing then d.setPlt p ((d.plt p).to .rearm d.now)
  else if x.st = .filling || x.st = .armed then d.toSetup p d.now
  else d

/-- A plate at a tick that changes the throttle step from `was` (R217). -/
def Dev.pltThrottle (was p : Nat) (d : Dev) : Dev :=
  let now := d.thm.step
  let d := if decide (1 ≤ was) ≠ decide (1 ≤ now) then d.pltRate (decide (1 ≤ now)) p else d
  let x := d.plt p
  if 3 ≤ now && was < 3 && x.acquiring then
    let d := d.cutSeg p d.now
    if d.pltFull p then d.pltEnd p d.now
    else d.setPlt p { ((d.plt p).to .suspended d.now) with seg := none }
  else if now < 3 && 3 ≤ was && x.st = .suspended then d.toSetup p d.now
  else d

/-- The taps of a plate that Proof borrows in the frame that begins, and those that it no longer borrows (R219). -/
def Dev.tapTick (p : Nat) (d : Dev) : Dev :=
  (List.range (d.pltInputs p)).foldl (fun d j =>
    let c := d.pltSrc p j
    let last := (d.plt p).marks.reverse.find? (fun m => m.kind = .borrowed j || m.kind = .returned j)
    let was := (last.map (fun m => decide (m.kind = .borrowed j))).getD false
    let now := decide (c < 512) && d.borrowed c
    if now = was then d else d.pltMark p { dt := d.now, kind := if now then .borrowed j else .returned j }) d

/-- Plates at a tick after the checks: throttle, SYNC_CMD, switches, AUX ranges, phase counters at the first tick after
power-up, and taps borrowed by Proof in the frame. -/
def Dev.waveTick (old : Dev) (was : Nat) (staged : List Nat) (d : Dev) : Dev :=
  if !d.on domWAVE then d else
  let d := d.auxTick staged
  let d := forN 8 (fun p d =>
    let d := if (d.flt p).bases.isEmpty then
        (d.setPlt p { (d.plt p) with half := d.halfRate }).phaseReset p d.now else d
    let d := Dev.pltThrottle was p d
    let d := Dev.fltClear old p d
    (d.fltTick p).tapTick p) d
  d.syncTick

/-- Configured capacity in bytes; none for a code that names no capacity (R220). -/
def memCapacity : Nat → Option Nat
  | 0 => some (2 * 2 ^ 30) | 1 => some (4 * 2 ^ 30) | 2 => some (8 * 2 ^ 30) | 3 => some (12 * 2 ^ 30)
  | 4 => some (16 * 2 ^ 30) | _ => none

/-- Usable capacity in 4 KB units (R222). -/
def Dev.memUsable (d : Dev) : Nat :=
  match memCapacity (d.f Reg.GLB_MEM_CFG 2 0) with
  | some b => (if d.b Reg.GLB_MEM_CFG 8 then (b - 65536) * 7 / 8 else b - 65536) / 4096
  | none => 0

/-! ## The plate and filter checks (R224, 08 R258) -/

/-- The first failing condition of the filter check of a plate (08 R258). -/
def Dev.fltFail (d old : Dev) (p : Nat) : Option Nat :=
  let l := d.f (Reg.FLTP_MA_CTL p) 12 0
  let d1 := d.f (Reg.FLTP_MA_CTL p) 28 16
  let acc := d.rd (Reg.FLTP_ACC_CTL p)
  let n := fld acc 16 0
  if 12 < d.f (Reg.FLTP_CHAIN_CTL p) 7 4 || l < 1 || 4096 < l || d1 < 1 || l < d1 then some 1
  else if d.b (Reg.FLTP_CHAIN_CTL p) 0 && (d.flt p).act.isNone then some 2
  else if d.decMode p = 4 && (d.decR p ≠ 1 || d.isStream p || n < 1 || 65536 < n
      || (bit acc 20 && (d.chain p).dc ≠ 1) || 1048576 < d.segData p) then some 3
  else if (d.plt p).acquiring && (d.rd (Reg.FLTP_CHAIN_CTL p) ≠ old.rd (Reg.FLTP_CHAIN_CTL p)
      || d.rd (Reg.FLTP_MA_CTL p) ≠ old.rd (Reg.FLTP_MA_CTL p) || acc ≠ old.rd (Reg.FLTP_ACC_CTL p)) then some 4
  else none

/-- The bytes of a plate's region. -/
def Dev.region (d : Dev) (p : Nat) : Nat × Nat :=
  (d.f (Reg.PLT_REGION_BASE p) 22 0, d.f (Reg.PLT_REGION_BASE p) 22 0 + d.f (Reg.PLT_REGION_SIZE p) 22 0)

/-- Two plate regions overlap. -/
def Dev.overlap (d : Dev) (p q : Nat) : Bool :=
  let a := d.region p
  let b := d.region q
  decide (a.1 < b.2) && decide (b.1 < a.2)

/-- Following PLATE sources from a plate comes back to it (R224 condition 4). -/
def Dev.plateCycle (d : Dev) (p : Nat) : Nat → Nat → Bool
  | 0, _ => true
  | fuel + 1, q =>
    let c := d.rd (Reg.PLT_TRG_CTL q)
    if fld c 3 0 ≠ 7 then false
    else
      let n := fld c 24 16 % 8
      n = p || Dev.plateCycle d p fuel n

/-- Condition 1 of R224. -/
def Dev.pltCond1 (d : Dev) (p : Nat) : Bool :=
  let n := d.segLen p
  let pre := d.f (Reg.PLT_PRE_LEN p) 20 0
  let c := d.f (Reg.PLT_SEG_COUNT p) 22 0
  d.f (Reg.PLT_CTL p) 1 0 ≠ 3 && n % 64 = 0 && 64 ≤ n && n ≤ 1048576 && pre ≤ n && 1 ≤ c && c ≤ 4194304
  && (d.perGroup p = 1 || pre % 2 = 0)

/-- Condition 2. -/
def Dev.pltCond2 (d : Dev) (p : Nat) : Bool :=
  let r := d.decR p
  let e := d.f (Reg.PLT_ENV_N p) 16 0
  let data := d.segData p
  match d.decMode p with
  | 0 => 1 ≤ r && r ≤ 65536 && data ≤ 2097152
  | 1 => 2 ≤ r && r ≤ 65536 && data ≤ 2097152
  | 2 => 1 ≤ r && r ≤ 65536 && data ≤ 2097152
  | 3 => r = 1 && !d.isStream p && 2 ≤ e && e ≤ 65536 && data ≤ 1048576
  | 4 => data ≤ 2097152
  | _ => false

/-- Condition 3: `others` are the plates whose regions count. -/
def Dev.pltCond3 (d : Dev) (p : Nat) (others : List Nat) : Bool :=
  let r := d.region p
  d.wave.mem.ready && r.1 < r.2 && r.2 ≤ d.memUsable && !(others.any (fun q => q ≠ p && d.overlap p q))
  && (if d.isRing p then 2 ≤ d.slotCount p else d.f (Reg.PLT_SEG_COUNT p) 22 0 ≤ d.slotCount p)

/-- Condition 4. -/
def Dev.pltCond4 (d : Dev) (p : Nat) : Bool :=
  let c := d.rd (Reg.PLT_TRG_CTL p)
  let srcs := (List.range (d.pltInputs p)).map (d.pltSrc p)
  let src := fld c 3 0
  srcs.all (fun s => s ≤ 527 || s = 0x3FF)
  && srcs.all (fun s => s = 0x3FF || decide ((d.pltTaps s).length ≤ 4))
  && src ≤ 8 && (src ≠ 1 || srcs.contains (fld c 24 16))
  && (src ≠ 7 || (fld c 24 16 < 8 && fld c 24 16 ≠ p && !Dev.plateCycle d p 8 p))
  && !(bit c 14 && src = 5) && (src ≠ 2 || fld c 24 16 < 16)

/-- Condition 5. -/
def Dev.pltCond5 (d : Dev) (p : Nat) : Bool :=
  let c := d.rd (Reg.PLT_TRG_CTL p)
  let t := (d.pcfg p).trgSet
  let ho := d.f (Reg.PLT_HOLDOFF p) 29 0
  let au := d.f (Reg.PLT_AUTO_TO p) 23 0
  t.typ ≤ 3 && (if bit c 13 then 1 ≤ ho && ho ≤ 65535 else 8 ≤ ho && ho ≤ 1000000000)
  && (!bit c 12 || (1 ≤ au && au ≤ 10000000)) && (!(t.typ = 1 || t.typ = 3) || t.la < t.lb)

/-- Condition 7. -/
def Dev.pltCond7 (d old : Dev) (p : Nat) : Bool :=
  !(d.plt p).acquiring ||
  (d.f (Reg.PLT_CTL p) 3 0 = old.f (Reg.PLT_CTL p) 3 0 && (List.range 4).all (fun j => d.rd (Reg.PLT_IN_SEL p j) = old.rd (Reg.PLT_IN_SEL p j))
   && d.rd (Reg.PLT_SEG_LEN p) = old.rd (Reg.PLT_SEG_LEN p) && d.rd (Reg.PLT_SEG_COUNT p) = old.rd (Reg.PLT_SEG_COUNT p)
   && d.rd (Reg.PLT_REGION_BASE p) = old.rd (Reg.PLT_REGION_BASE p) && d.rd (Reg.PLT_REGION_SIZE p) = old.rd (Reg.PLT_REGION_SIZE p)
   && d.rd (Reg.PLT_DEC_CTL p) = old.rd (Reg.PLT_DEC_CTL p))

/-- The first failing condition of the plate check. -/
def Dev.pltFail (d old : Dev) (p : Nat) (others : List Nat) : Option Nat :=
  if !d.pltCond1 p then some 1
  else if !d.pltCond2 p then some 2
  else if !d.pltCond3 p others then some 3
  else if !d.pltCond4 p then some 4
  else if !d.pltCond5 p then some 5
  else if (Dev.fltFail d old p).isSome then some 6
  else if !Dev.pltCond7 d old p then some 7
  else none

/-- The plates that a tick checks: those with staged registers of plate, chain or AUX controls, all after a MEM_CFG
write, and those that a PLATE_ARM arms (R224). -/
def pltChecked (staged : List Nat) (memCfg : Bool) (arms : List Nat) : List Nat :=
  (List.range 8).filter fun p =>
    memCfg || arms.contains p || !(offsIn (0x600000 + 65536 * p) (0x600000 + 65536 * (p + 1)) staged).isEmpty
    || !(offsIn (Reg.FLTP_STATUS p) (Reg.FLTP_STATUS p + 8192) staged).isEmpty

/-- The plate check of a tick (R224): a failing plate's staged PLT registers are discarded, and its FLT registers when
the filter check fails. `ok` collects the plates that pass. -/
def Dev.pltCheckGo (old : Dev) (staged : List Nat) : List Nat → List Nat → Dev → List Nat × Dev
  | [], ok, d => (ok, d)
  | p :: ps, ok, d =>
    let others := ((List.range 8).filter (fun q => (d.plt q).acquiring)) ++ ok
    let fl := Dev.fltFail d old p
    let f := Dev.pltFail d old p others
    let d := match fl with
      | some _ => Dev.revertTo old (offsIn (Reg.FLTP_STATUS p) (Reg.FLTP_STATUS p + 8192) staged) d
      | none => d
    let d := d.setPlt p { (d.plt p) with fltCheck := (if fl.isSome then 2 else 1), fltCond := fl.getD 0,
                                         check := (if f.isSome then 2 else 1), cond := f.getD 0 }
    match f with
    | some _ =>
      let d := Dev.revertTo old (offsIn (0x600000 + 65536 * p) (0x600000 + 65536 * (p + 1)) staged) d
      Dev.pltCheckGo old staged ps ok (d.raise Ev.PLT_CFG_REJECT)
    | none => Dev.pltCheckGo old staged ps (p :: ok) d

/-! ## LPDDR4X training (R220-R222) -/

/-- Change the memory state. -/
def Dev.modMem (d : Dev) (f : Mem → Mem) : Dev := { d with wave := { d.wave with mem := f d.wave.mem } }

/-- Training fails on the channels of a mask (R221). -/
def Dev.trainFail (mask : Nat) (d : Dev) : Dev :=
  (d.modMem (fun m => { m with training := false, ready := false, fail := true, failMask := mask % 256 })).raise
    Ev.MEM_TRAIN_FAIL

/-- MEM_TRAIN: a write of TRAIN (R221); ignored while MEM is off or at its self-refresh level. The devices of a woken
MEM stay in self-refresh until training starts (16 R479). -/
def Dev.memTrain (d : Dev) : Dev :=
  if !d.on domMEM then d
  else if (memCapacity (d.f Reg.GLB_MEM_CFG 2 0)).isNone then d.trainFail 0xFF
  else ({ d with pwr := { d.pwr with selfRefresh := false } }).modMem (fun m => { m with training := true, ready := false, fail := false, failMask := 0 })

/-- MEM_TRAIN_DONE: training succeeds (R221, R222). -/
def Dev.memTrainDone (d : Dev) : Dev :=
  if !d.wave.mem.training then d
  else (d.modMem (fun m => { m with training := false, ready := true })).raise Ev.MEM_TRAIN_DONE

/-- MEM_TRAIN_FAIL (R221). -/
def Dev.memTrainFailed (mask : Nat) (d : Dev) : Dev := if d.wave.mem.training then d.trainFail mask else d

/-- Reading a burst (R222): with ECC a single-bit error is corrected and a double-bit one is delivered as read; without it
every error is delivered as read. The answers say whether the error is reported as uncorrectable, and whether the bytes
delivered are wrong. -/
def Dev.memCheck (burst : Nat) (d : Dev) : Bool × Bool × Dev :=
  let bad := d.wave.mem.bad.contains burst
  let soft := d.wave.mem.soft.contains burst
  if !d.b Reg.GLB_MEM_CFG 8 then (false, bad || soft, d)
  else if bad then
    (true, true, ((d.inc Reg.GLB_MEM_UE_CNT).wrN Reg.GLB_MEM_UE_ADDR (burst % 2 ^ 28)).raise Ev.MEM_UE)
  else (false, false, if soft then (d.inc Reg.GLB_MEM_CE_CNT).raiseOnce Ev.MEM_CE else d)

/-- The bytes that a burst delivers: free ones where an error is delivered as read, since the spec does not say which bits are
wrong (R222, log 100). -/
def Dev.readBurst (burst : Nat) (d : Dev) : Bool × List Byte × Dev :=
  let c := d.memCheck burst
  if c.2.1 then
    let r := Dev.drawBytes 64 c.2.2
    (c.1, r.1, r.2)
  else (c.1, Memory.readBytes c.2.2.wave.mem.cells (64 * burst) 64, c.2.2)

/-- Bursts that went wrong in the frame that a tick ends. -/
def Dev.memErrors (l : List (Nat × Bool)) (d : Dev) : Dev :=
  d.modMem (fun m => l.foldl (fun (m : Mem) e =>
    if e.2 then { m with bad := insSorted e.1 m.bad } else { m with soft := insSorted e.1 m.soft }) m)

/-- GLB.MEM_STATUS (R229). -/
def Dev.memStatus (d : Dev) : Word :=
  let m := d.wave.mem
  word (b2n m.ready + b2n m.training * 2 + b2n m.fail * 4 + b2n d.pwr.selfRefresh * 8 + m.failMask * 256)

/-- PLT.STATUS (R227). -/
def Dev.pltStatus (d : Dev) (p : Nat) : Word :=
  let x := d.plt p
  let st := match x.st with
    | .stopped => 0 | .setup => 1 | .filling => 2 | .armed => 3 | .capturing => 4 | .rearm => 5 | .suspended => 6
  word (st + x.check * 16 + x.cond * 256 + b2n x.half * 4096 + b2n x.acquiring * 8192)

end Sys2Proof.Machine
end

