-- ==== Sys2Proof/Machine/Thermocouple.lean ====
section
/-! DEFINITION. Thermocouples: the reference functions of IEC 60584-1 that 10 R286 names, and their inverse. The spec names the
standard; its coefficients stand here (PRESUMED, log 114). -/
namespace Sys2Proof.Machine

/-! ## Coefficients: EMF in mV by powers of the temperature in °C, each (m, p) for m / 10^p -/

/-- Type K below 0 °C. -/
def tcKLow : List (Int × Nat) :=
  [(0, 0), (39450128025, 12), (23622373598, 15), (-32858906784, 17), (-49904828777, 19), (-67509059173, 21),
   (-57410327428, 23), (-31088872894, 25), (-10451609365, 27), (-19889266878, 30), (-16322697486, 33)]
/-- Type K above. -/
def tcKHigh : List (Int × Nat) :=
  [(-17600413686, 12), (38921204975, 12), (18558770032, 15), (-99457592874, 18), (31840945719, 20),
   (-56072844889, 23), (56075059059, 26), (-32020720003, 29), (97151147152, 33), (-12104721275, 36)]

/-- Type J up to 760 °C. -/
def tcJLow : List (Int × Nat) :=
  [(0, 0), (50381187815, 12), (3047583693, 14), (-8568106572, 17), (13228195295, 20), (-17052958337, 23),
   (20948090697, 26), (-12538395336, 29), (15631725697, 33)]
/-- Type J above. -/
def tcJHigh : List (Int × Nat) :=
  [(29645625681, 8), (-14976127786, 10), (31787103924, 13), (-31847686701, 16), (15720819004, 19),
   (-30691369056, 23)]

/-- Type N below 0 °C. -/
def tcNLow : List (Int × Nat) :=
  [(0, 0), (26159105962, 12), (10957484228, 15), (-93841111554, 18), (-46412039759, 21), (-26303357716, 22),
   (-22653438003, 24), (-76089300791, 27), (-93419667835, 30)]
/-- Type N above. -/
def tcNHigh : List (Int × Nat) :=
  [(0, 0), (25929394601, 12), (1571014188, 14), (43825627237, 18), (-25261169794, 20), (64311819339, 23),
   (-10063471519, 25), (99745338992, 29), (-60863245607, 32), (20849229339, 35), (-30682196151, 39)]

/-- Type T below 0 °C. -/
def tcTLow : List (Int × Nat) :=
  [(0, 0), (38748106364, 12), (44194434347, 15), (11844323105, 17), (20032973554, 18), (90138019559, 20),
   (22651156593, 21), (36071154205, 23), (38493939883, 25), (28213521925, 27), (14251594779, 29), (48768662286, 32),
   (1079553927, 33), (13945027062, 37), (79795153927, 41)]
/-- Type T above. -/
def tcTHigh : List (Int × Nat) :=
  [(0, 0), (38748106364, 12), (3329222788, 14), (20618243404, 17), (-21882256846, 19), (10996880928, 21),
   (-30815758772, 24), (4547913529, 26), (-27512901673, 30)]

/-! ## The functions -/

/-- The scale of an EMF: mV times this. -/
def tcScale : Int := 10 ^ 50 * 128 ^ 14

/-- A polynomial at n / 128 °C, times `tcScale`. -/
def tcPoly (cs : List (Int × Nat)) (n : Int) : Int :=
  (cs.zipIdx.map (fun c => c.1.1 * 10 ^ (50 - c.1.2) * n ^ c.2 * 128 ^ (14 - c.2))).sum

/-- The terms of the series of exp(-r), r in 2^-96, from term `i` on; `fuel` bounds them. -/
def expSeries (r : Int) : Nat → Nat → Int → Int
  | 0, _, _ => 0
  | fuel + 1, i, term => term + expSeries r fuel (i + 1) (-(term * r) / (2 ^ 96 * (i : Int)))

/-- exp(-x) times 2^96, of x in 2^-96: x = q ln 2 + r. -/
def expNeg (x : Nat) : Int :=
  let ln2 := 54916777467707473351141471128
  expSeries (x % ln2 : Nat) 30 1 (2 ^ 96) / 2 ^ (x / ln2)

/-- The exponential term of type K at n / 128 °C, times `tcScale`: 0.1185976 exp(-1.183432e-4 (t - 126.9686)^2). -/
def tcBump (n : Int) : Int :=
  let u := n * 10000 - 128 * 1269686
  let x := (1183432 * u * u * 2 ^ 96 / (10 ^ 10 * 1280000 ^ 2)).toNat
  1185976 * expNeg x * tcScale / (10 ^ 7 * 2 ^ 96)

/-- The EMF of a thermocouple TYPE (0x5 K, 0x6 J, 0x7 N, 0x8 T) at n / 128 °C, times `tcScale`. -/
def tcEmf (typ : Nat) (n : Int) : Int :=
  match typ with
  | 5 => if n < 0 then tcPoly tcKLow n else tcPoly tcKHigh n + tcBump n
  | 6 => if n ≤ 760 * 128 then tcPoly tcJLow n else tcPoly tcJHigh n
  | 7 => if n < 0 then tcPoly tcNLow n else tcPoly tcNHigh n
  | _ => if n < 0 then tcPoly tcTLow n else tcPoly tcTHigh n

/-- Valid span of a thermocouple type in degrees (10 R286). -/
def tcSpan : Nat → Int × Int
  | 5 => (-200, 1372)
  | 6 => (-210, 1200)
  | 7 => (-200, 1300)
  | _ => (-200, 400)

/-- The lowest temperature for which the reference function of a type is defined. -/
def tcFrom (typ : Nat) : Int := if typ = 6 then -210 else -270

end Sys2Proof.Machine
end

