-- ==== Sys2Proof/Machine/Housekeeping.lean ====
section
/-! DEFINITION. Housekeeping inputs, the slow round, current loops and the energy-limited profile (10). -/
namespace Sys2Proof.Machine

/-! ## Slots (R283-R288) -/

/-- A slot value that stands for no measurement (R286, R290). -/
def noValue : Int := -2147483648

/-- A register of the round as it stood when the round started. -/
def Dev.roundReg (d : Dev) (cfg : Tab Word) (off : Nat) : Word := tabGet (regDflt d.straps.eqSel off) cfg off

/-- The registers that a round takes at its start (R291). -/
def Dev.roundCfg (d : Dev) : Tab Word := tabKeep (fun o => 0x900004 ≤ o && o < 0x900500) d.regs

/-- Conversion time of a RATE code (R283). -/
def convTime : Nat → Time
  | 0 => 250 * us
  | 1 => 1000 * us
  | 2 => us * 166667 / 10
  | _ => 20000 * us

/-- DIS of a slot in DT (R284, R303). -/
def slotDis (aux : Word) : Time := max 1 (min 32 (fld aux 5 0)) * (us / 4)
/-- SETTLE of a slot in DT. -/
def slotSettle (aux : Word) : Time := max 1 (min 1000 (fld aux 15 6)) * us
/-- From slot start to step 3 (R284). -/
def slotConnect (aux : Word) : Time := us / 5 + slotDis aux
/-- The slot time (R284); `rate` is the RATE code. -/
def slotTime (aux : Word) (rate : Nat) : Time := slotConnect aux + slotSettle aux + convTime rate

/-- TYPE of a slot word (R303). -/
def slotType (cfg : Word) : Nat := fld cfg 4 1
/-- RATE of slot j; fixed slots run at 4,000 S/s (R285). -/
def slotRate (j : Nat) (cfg : Word) : Nat := if j < 24 then 0 else fld cfg 13 12
/-- The slot is in the round: fixed, or enabled (R285). -/
def slotOn (j : Nat) (cfg : Word) : Bool := j < 24 || bit cfg 0

/-- Inputs whose pins a slot uses, the excitation pin included (R282, R290). -/
def slotInputs (j : Nat) (cfg : Word) : List Nat :=
  if j < 24 then []
  else
    let i := fld cfg 9 5
    (if slotType cfg = 0 then [i] else [2 * (i % 16), 2 * (i % 16) + 1])
    ++ (if bit cfg 19 then [fld cfg 18 14] else [])

/-- Delivered excitation current in 10 nA: the set level corrected by the trim, capped at 1 mA while the
energy-limited profile is enabled (R287, R300). -/
def Dev.excitation (d : Dev) (cfg : Word) : Nat :=
  let trim := sfld (d.rd (Reg.PRF_TRIM_EX 8)) 7 0
  let c := ((fld cfg 26 20 : Int) * (1000 + trim)).toNat
  if d.elOn then min c 100000 else c

/-- Largest magnitude of a range in 0.1 uV (R283). -/
def rangeMax : Nat → Int
  | 0 => 16000000
  | 1 => 4000000
  | _ => 1000000

/-- What a conversion yields. -/
inductive Conv where
  | value (v : Int)
  /-- Outside the range of the converter or the valid span. -/
  | ovr
  /-- The spec states no value. -/
  | unstated
  deriving DecidableEq, Repr

/-- The Callendar-Van Dusen ratio R(T)/R0 at T = m/128 degrees, times 10^15 x 128^4 (R286). -/
def cvd (m : Int) : Int :=
  10 ^ 15 * 128 ^ 4 + 39083 * 10 ^ 8 * 128 ^ 3 * m - 5775 * 10 ^ 5 * 128 ^ 2 * m * m
    + (if m < 0 then -4183 * (m - 12800) * m * m * m else 0)

/-- The greatest n from `lo` on, below lo + 2^k, at which a falling predicate still holds. -/
def lastTrue (p : Int → Bool) : Nat → Int → Int
  | 0, lo => lo
  | k + 1, lo => lastTrue p k (if p (lo + 2 ^ k) then lo + 2 ^ k else lo)

/-- RTD: temperature in 1/64 degree of a voltage v (0.1 uV) at current c (10 nA) with nominal resistance r0
(R286). -/
def rtdTemp (v : Int) (c r0 : Nat) : Conv :=
  let r : Int := 10 * v * (10 ^ 15 * 128 ^ 4)
  let at_ := fun (m : Int) => (r0 * c : Nat) * cvd m
  if c = 0 || r < at_ (-25600) || at_ 108800 < r then .ovr
  else .value (lastTrue (fun n => n ≤ 54400 && at_ (2 * n - 1) ≤ r) 17 (-12800))

/-- Bits of the base-2 logarithm of m / 2^64 in [1, 2), `n` of them. -/
def logBits : Nat → Nat → Nat → Nat
  | 0, _, acc => acc
  | n + 1, m, acc =>
    let q := m * m / 2 ^ 64
    if 2 ^ 65 ≤ q then logBits n (q / 2) (2 * acc + 1) else logBits n q (2 * acc)

/-- The natural logarithm of a positive ratio a / b, times 2^48. -/
def lnRatio (a b : Nat) : Int :=
  let x := a * 2 ^ 64 / b
  let e : Int := (Nat.log2 x : Int) - 64
  let m := if 0 ≤ e then x / 2 ^ e.toNat else x * 2 ^ (-e).toNat
  roundDiv ((e * 2 ^ 48 + logBits 48 m 0) * 195103586505167) (2 ^ 48)

/-- A value that the signed 32 bits of a slot hold; outside them the spec states none (R286). -/
def fits32 (v : Int) : Conv := if -2147483648 ≤ v && v < 2147483648 then .value v else .unstated

/-- Thermistor: temperature in 1/64 degree (R286). The logarithm of a resistance that is not positive has no value, nor has
the quotient where its divisor is 0. -/
def ntcTemp (v : Int) (c beta rb : Nat) : Conv :=
  if v ≤ 0 || c = 0 || rb = 0 || beta = 0 then .unstated
  else
    let n : Int := 29815 * 2 ^ 48 * beta
    let den : Int := 100 * 2 ^ 48 * beta + 29815 * lnRatio v.toNat (c * rb)
    if den = 0 then .unstated
    else
      let num := 640 * n - 174816 * den
      fits32 (roundDiv (if den < 0 then -num else num) (10 * den.natAbs))

/-- Thermocouple: temperature in 1/64 degree, nearest (R286), of a voltage v (0.1 uV) with the cold junction at `cj`. Outside
the span of the reference function the cold junction has no EMF. -/
def tcTemp (typ : Nat) (v cj : Int) : Conv :=
  let lo := (tcSpan typ).1
  let hi := (tcSpan typ).2
  if cj < 64 * tcFrom typ || 64 * hi < cj then .unstated
  else
    let e := v * (tcScale / 10000) + tcEmf typ (2 * cj)
    if e < tcEmf typ (128 * lo) || tcEmf typ (128 * hi) < e then .ovr
    else .value (lastTrue (fun n => n ≤ 64 * hi && tcEmf typ (2 * n - 1) ≤ e) 17 (64 * lo))

/-- The value of slot j from what the converter measured: 0.1 uV for host slots, 1/64 degree for the on-die sensors;
`cj` is the cold junction's value in the round (R286, R305). -/
def Dev.convert (d : Dev) (j : Nat) (cfg thm : Word) (cj : Option Int) (x : Option Int) : Conv :=
  match x with
  | none => .ovr
  | some v =>
    if j < 24 then (if v < -3520 || 9600 < v then .ovr else .value v)
    else
      let typ := slotType cfg
      let m := rangeMax (fld cfg 11 10)
      if m < v || v < (if typ = 0 then 0 else -m) then .ovr
      else
        match typ with
        | 0 => .value v
        | 1 => .value v
        | 2 => rtdTemp v (d.excitation cfg) 100
        | 3 => rtdTemp v (d.excitation cfg) 1000
        | 4 => ntcTemp v (d.excitation cfg) (fld thm 15 0) (fld thm 31 16)
        | _ => match cj with
          | some t => tcTemp typ v t
          | none => .unstated

/-! ## What the pins of an input carry (R282, R287, R288) -/

/-- The slot word in force (R291). -/
def Dev.slotCfg (d : Dev) (j : Nat) : Word := d.roundReg d.hkp.slots (Reg.HKP_SLOT_CFG j)

/-- Input i is biased to VMID: it is the negative pin of the pair of an enabled thermocouple slot (R282). -/
def Dev.vmidBias (d : Dev) (i : Nat) : Bool :=
  d.on domHK && i % 2 = 1
  && (List.range 64).any (fun j => 24 ≤ j && bit (d.slotCfg j) 0 && 5 ≤ slotType (d.slotCfg j) && fld (d.slotCfg j) 9 5 = i / 2)

/-- The housekeeping excitation at an instant: the pin and the current in 10 nA, from step 3 to step 5 of a slot that has it,
and at no other time (R284, R287, R293). -/
def Dev.excPin (d : Dev) (t : Time) : Option (Nat × Nat) :=
  match d.hkp.round with
  | none => none
  | some r =>
    let cfg := d.roundReg r.cfg (Reg.HKP_SLOT_CFG r.slot)
    let aux := d.roundReg r.cfg (Reg.HKP_SLOT_AUX r.slot)
    if d.on domHK && 24 ≤ r.slot && bit cfg 19 && decide (r.slotAt + slotConnect aux ≤ t)
        && decide (t < r.slotAt + slotTime aux (slotRate r.slot cfg)) then some (fld cfg 18 14, d.excitation cfg)
    else none

/-- Magnitude of a BURN code in 0.1 uA; 10 uA acts as 2 uA while the energy-limited profile is enabled (R288, R300). -/
def burnLevel (el : Bool) : Nat → Nat
  | 0 => 0
  | 1 => 5
  | 2 => 20
  | _ => if el then 20 else 100

/-- The burn-out current of input i in 0.1 uA, positive into the pin: it flows while HK is powered (R288, R293). -/
def Dev.burnOut (d : Dev) (i : Nat) : Int :=
  if !d.on domHK then 0
  else
    let c := d.rd (Reg.HKP_HK_IN i)
    if bit c 2 then -(burnLevel d.elOn (fld c 1 0) : Int) else burnLevel d.elOn (fld c 1 0)

/-! ## Rounds (R284-R290) -/

/-- HK_ROUND_START: a round starts on the comparator grid, ROUND_PERIOD after the one before (R285). -/
def Dev.hkRoundStart (t : Time) (d : Dev) : Dev :=
  if !d.on domHK || d.hkp.round.isSome || t < d.hkp.next || t % (250 * us) ≠ 0 then d
  else
    let d := d.at t
    let cfg := d.roundCfg
    let todo := (List.range 64).filter (fun j => slotOn j (d.roundReg cfg (Reg.HKP_SLOT_CFG j)))
    let period := fld (d.roundReg cfg Reg.HKP_ROUND_PERIOD) 19 0 * us
    { d with hkp := { d.hkp with
        next := t + period, slots := cfg,
        round := some { cfg := cfg, slot := todo.headD 0, slotAt := t, todo := todo.drop 1,
                        openAt := (d.rd Reg.HKP_OPEN_NOW).toNat, changes := [], capped := false, done := [] } } }

/-- Whether an input was open at an instant of the running slot. -/
def Round.openWhen (r : Round) (i : Nat) (t : Time) : Bool :=
  r.changes.foldl (fun b c => if c.2.1 = i && decide (c.1 ≤ t) then c.2.2 else b) (r.openAt.testBit i)

/-- HK_SLOT_END: the slot's conversion ends with `x` and the next slot begins (R284). -/
def Dev.hkSlotEnd (x : Option Int) (d : Dev) : Dev :=
  match d.hkp.round with
  | none => d
  | some r =>
    let j := r.slot
    let cfg := d.roundReg r.cfg (Reg.HKP_SLOT_CFG j)
    let aux := d.roundReg r.cfg (Reg.HKP_SLOT_AUX j)
    let stop := r.slotAt + slotTime aux (slotRate j cfg)
    let opened := (slotInputs j cfg).any (fun i => r.openWhen i (r.slotAt + slotConnect aux))
    let cj := (r.done.find? (fun s => s.slot = fld aux 21 16)).bind (fun s => s.value)
    let conv := d.convert j cfg (d.roundReg r.cfg (Reg.HKP_SLOT_THM j)) cj x
    let d := d.at stop
    let v := d.drawN 32
    let d := if conv = Conv.unstated then v.2 else d
    let value : Option Int := match conv with
      | .value n => some n
      | .ovr => none
      | .unstated => some (toSigned 32 v.1)
    let done := r.done ++ [{ slot := j, value := value, opened := opened, capped := r.capped }]
    match r.todo with
    | n :: rest =>
      { d with hkp := { d.hkp with round := some { r with
          done := done, slot := n, todo := rest, slotAt := stop, openAt := (d.rd Reg.HKP_OPEN_NOW).toNat,
          changes := [], capped := false } } }
    | [] => { d with hkp := { d.hkp with round := none, pub := some ({ r with done := done }, stop) } }

/-- The published status of a slot (R290): `out` names the slots whose watch span held an out-of-window sample, `st`
the statuses of the round's lower slots. -/
def Dev.slotStatus (d : Dev) (r : Round) (out : List Nat) (st : Tab Nat) (s : SlotRun) : Nat :=
  let typ := slotType (d.roundReg r.cfg (Reg.HKP_SLOT_CFG s.slot))
  let cj := fld (d.roundReg r.cfg (Reg.HKP_SLOT_AUX s.slot)) 21 16
  if s.opened then 3
  else if out.contains s.slot || s.capped || (24 ≤ s.slot && 5 ≤ typ && tabGet 0 st cj ≠ 1) then 2
  else if s.value.isNone then 4
  else 1

/-- Publish one slot; a SUSPECT result whose conversion gave no value has a free one. -/
def Dev.publishSlot (r : Round) (out : List Nat) (acc : Tab Nat × Dev) (s : SlotRun) : Tab Nat × Dev :=
  let (sts, d) := acc
  let st := d.slotStatus r out sts s
  let v := d.drawN 32
  let d := if st = 2 && s.value.isNone then v.2 else d
  let value := if st = 3 || st = 4 then noValue else s.value.getD (toSigned 32 v.1)
  let d := (d.wr (Reg.HKP_SLOT_VAL s.slot) (wordI value)).wrN (Reg.HKP_SLOT_STAT s.slot)
    (st + (d.rd Reg.HKP_ROUND_CNT).toNat % 65536 * 65536)
  (tabPut 0 sts s.slot st, d)

/-- The results of a round replace those of the round before together (R285). -/
def Dev.publishRound (r : Round) (out : List Nat) (d : Dev) : Dev :=
  let d := d.wr Reg.HKP_ROUND_CNT (d.rd Reg.HKP_ROUND_CNT + 1)
  let (sts, d) := r.done.foldl (Dev.publishSlot r out) ([], d)
  let d := if sts.any (fun e => e.2 = 4) then d.raiseOnce Ev.HK_OVERRANGE else d
  { d with afe := { d.afe with roundDone := true }, hkp := { d.hkp with pub := none } }

/-- HK_OPEN: the third consecutive out-of-window sample of an input (R289). -/
def Dev.hkOpen (i : Nat) (t : Time) (d : Dev) : Dev :=
  if !d.on domHK || !d.b (Reg.HKP_HK_IN i) 3 || d.b Reg.HKP_OPEN_NOW i then d
  else
    let d := d.at t
    let d := (d.setB Reg.HKP_OPEN_NOW i true).setB Reg.HKP_OPEN_LATCH i true
    let rd : Option Round := d.hkp.round.map fun r => { r with changes := r.changes ++ [(t, i, true)] }
    { d with hkp := { d.hkp with round := rd } }.raiseOnce Ev.HK_OPEN

/-- HK_OPEN_CLEARED: the third consecutive in-window sample (R289). -/
def Dev.hkOpenCleared (i : Nat) (t : Time) (d : Dev) : Dev :=
  if !d.on domHK || !d.b Reg.HKP_OPEN_NOW i then d
  else
    let d := d.at t
    let d := d.setB Reg.HKP_OPEN_NOW i false
    let rd : Option Round := d.hkp.round.map fun r => { r with changes := r.changes ++ [(t, i, false)] }
    { d with hkp := { d.hkp with round := rd } }.raiseOnce Ev.HK_OPEN_CLEARED

/-- The HK domain goes down: the round is abandoned (R293). -/
def Dev.hkOff (d : Dev) : Dev := { d with hkp := { d.hkp with round := none, pub := none } }

/-- The HK domain comes up: the first round starts at the first grid instant at least 1 ms later (R285, R293). -/
def Dev.hkUp (d : Dev) : Dev :=
  { d with hkp := { d.hkp with round := none, pub := none, next := d.now + ms, wdStart := [], wdFault := 0,
                               opens := 0, devs := 0, read := [], slots := [], loopCur := [], loopAt := [] } }

/-! ## The housekeeping check (R291) -/

/-- A register of the round or of the inputs. -/
def isHkRound (o : Nat) : Bool := o = 0x900004 || (0x900100 ≤ o && o < 0x900180) || (0x900200 ≤ o && o < 0x900500)

/-- Enabled host slots. -/
def Dev.hostSlots (d : Dev) : List Nat :=
  (List.range 64).filter (fun j => 24 ≤ j && d.b (Reg.HKP_SLOT_CFG j) 0)

/-- Condition 2 for a slot. -/
def slotOk (cfg : Word) : Bool :=
  let typ := slotType cfg
  decide (typ ≤ 8) && decide (fld cfg 11 10 ≤ 2) && (typ ≠ 0 || fld cfg 11 10 = 0)
  && (typ = 0 || decide (fld cfg 9 5 ≤ 15)) && (!bit cfg 19 || inRange 10 100 (fld cfg 26 20))
  && (!(2 ≤ typ && typ ≤ 4) || bit cfg 19)

/-- Condition 3 for a thermocouple slot: CJ names a lower slot that is an on-die sensor, or an enabled RTD or
thermistor slot. -/
def Dev.cjOk (d : Dev) (j : Nat) : Bool :=
  let c := d.f (Reg.HKP_SLOT_AUX j) 21 16
  let w := d.rd (Reg.HKP_SLOT_CFG c)
  decide (c < j) && (c < 24 || (bit w 0 && 2 ≤ slotType w && slotType w ≤ 4))

/-- The first condition of R291 that fails. -/
def Dev.hkFail (d : Dev) : Option Nat :=
  let on := d.hostSlots
  let typ := fun j => slotType (d.rd (Reg.HKP_SLOT_CFG j))
  let total := (((List.range 24) ++ on).map (fun j =>
    slotTime (d.rd (Reg.HKP_SLOT_AUX j)) (slotRate j (d.rd (Reg.HKP_SLOT_CFG j))))).sum
  let period := d.f Reg.HKP_ROUND_PERIOD 19 0
  if !inRange 2000 1000000 period then some 1
  else if !on.all (fun j => slotOk (d.rd (Reg.HKP_SLOT_CFG j))) then some 2
  else if !on.all (fun j => typ j < 5 || d.cjOk j) then some 3
  else if !on.all (fun j => typ j ≠ 4 ||
      (inRange 1000 10000 (d.f (Reg.HKP_SLOT_THM j) 15 0) && d.f (Reg.HKP_SLOT_THM j) 31 16 ≠ 0)) then some 4
  else if period * us < total then some 5
  else none

/-- The housekeeping check at a tick (R291). -/
def Dev.hkCheck (old : Dev) (staged : List Nat) (d : Dev) : Dev :=
  let mine := staged.filter isHkRound
  if mine.isEmpty then d
  else match d.hkFail with
    | none => { d with hkp := { d.hkp with check := 1, cond := 0 } }
    | some c =>
      let d := Dev.revertTo old mine d
      { d with hkp := { d.hkp with check := 2, cond := c } }.raise Ev.HK_CFG_REJECT

/-- A slot enabled at this tick reads NONE until it is measured (R290). -/
def Dev.hkTick (old : Dev) (d : Dev) : Dev :=
  let fresh := d.hostSlots.filter (fun j => !old.b (Reg.HKP_SLOT_CFG j) 0)
  fresh.foldl (fun d j => (d.wr (Reg.HKP_SLOT_VAL j) (wordI noValue)).wr (Reg.HKP_SLOT_STAT j) 0) d

/-! ## Current loops (R294-R298) -/

/-- A loop's output: the commanded current in 0.5 uA (none is high impedance), whether a fault source is active, and
the limits of R295. -/
structure LoopOut where
  cur : Option Nat
  fault : Bool
  clamped : Bool
  capped : Bool
  deriving DecidableEq, Repr

/-- A fault source of loop l is active (R296); `lockout` is the safety lock-out. -/
def Dev.loopFaultAct (d : Dev) (lockout : Bool) (l : Nat) : Bool :=
  let c := d.rd (Reg.HKP_LOOP_CTL l)
  bit c 2 || (bit c 3 && lockout) || (bit c 4 && decide (d.thm.critPhase ≠ 0)) || d.hkp.wdFault.testBit l

/-- The current to which a loop read-back run drives loop l: 4 mA, then 20 mA, 100 ms each (09 R266). -/
def Dev.calLoop (d : Dev) (l : Nat) : Option Nat :=
  match d.prf.active with
  | some r => if r.kind = 6 then (r.todo.head?).bind (fun t =>
      if t.id = l then some (if d.now < t.since + 100 * ms then 8000 else 40000) else none) else none
  | none => none

/-- The current that loop l is commanded to carry (R295, R298). -/
def Dev.loopOut (d : Dev) (lockout : Bool) (l : Nat) : LoopOut :=
  let c := d.rd (Reg.HKP_LOOP_CTL l)
  let fault := d.loopFaultAct lockout l
  let set := d.f (Reg.HKP_LOOP_SET l) 15 0
  let lim := max 7600 (min 41000 set)
  let lvl := d.rd Reg.HKP_LOOP_FAULT_LVL
  let want := if fault then (if bit c 1 then max 42000 (min 48000 (fld lvl 31 16)) else min 7200 (fld lvl 15 0)) else lim
  let capped := d.elOn && decide (44000 < want)
  let z : LoopOut := { cur := none, fault := fault, clamped := false, capped := false }
  if !d.on domHK || d.pwr.held.testBit domHK || d.sec.bscan || (bit c 5 && !d.drives) || d.thm.shut || decide (d.thm.shutNow ≠ 0) then z
  else if (d.calLoop l).isSome then { z with cur := d.calLoop l }
  else if !bit c 0 then z
  else { cur := some (if capped then 44000 else want), fault := fault, clamped := !fault && decide (lim ≠ set),
         capped := capped }

/-- The safety island is locked out (12 R344, R345). -/
def State.lockedOut (s : State) : Bool := s.isl.st = .lockout || s.isl.st = .internal

/-- The commanded currents that have changed are noted with the instant. -/
def State.loopNote (s : State) : State :=
  s.onDev (forN 8 (fun l d =>
    let cur := (d.loopOut s.lockedOut l).cur
    if tabGet none d.hkp.loopCur l = cur then d
    else { d with hkp := { d.hkp with loopCur := tabPut none d.hkp.loopCur l cur, loopAt := tabPut 0 d.hkp.loopAt l d.now } }))

/-- A read-back sample against the commanded current: `dev` tells more than 1 mA above it from more than 1 mA below it with
the regulator at full drive. A sample is the current in 0.5 uA and whether the regulator is at full drive (R297). -/
def loopOff (dev : Bool) (cmd : Nat) (x : Nat × Bool) : Bool :=
  if dev then decide (cmd + 2000 < x.1) else decide (x.1 + 2000 < cmd) && x.2

/-- The checks of loop l ran at the last four samples on the comparator grid, the last at t: the loop is driven, and its
commanded current had not changed for 1 ms (R297). The answer is that current. -/
def State.loopChecked (s : State) (l : Nat) (t : Time) : Option Nat :=
  match (s.dev.loopOut s.lockedOut l).cur with
  | none => none
  | some c =>
    if tabGet none s.dev.hkp.loopCur l = some c && t % (250 * us) = 0 && decide (tabGet 0 s.dev.hkp.loopAt l + 1750 * us ≤ t)
    then some c else none

/-- LOOP_FAULT: a read-back check of a loop finds its condition in 4 consecutive samples (R297). -/
def State.loopFault (l : Nat) (dev : Bool) (t : Time) (xs : Vector (Nat × Bool) 4) (s : State) : State :=
  let h := s.dev.hkp
  match s.loopChecked l t with
  | none => s
  | some c =>
    if (if dev then h.devs else h.opens).testBit l || !xs.toList.all (loopOff dev c) then s
    else
      let h := { h with read := tabPut 0 h.read l (xs[3].1 % 65536) }
      let h := if dev then { h with devs := setBit h.devs l } else { h with opens := setBit h.opens l }
      { s with dev := { s.dev.at t with hkp := h }.raise (Ev.LOOP_FAULT l) }

/-- LOOP_FAULT_CLEARED: the condition has been absent for 4 consecutive samples (R297). -/
def State.loopFaultCleared (l : Nat) (dev : Bool) (t : Time) (xs : Vector (Nat × Bool) 4) (s : State) : State :=
  let h := s.dev.hkp
  match s.loopChecked l t with
  | none => s
  | some c =>
    if xs.toList.any (loopOff dev c) then s
    else
      let h := { h with read := tabPut 0 h.read l (xs[3].1 % 65536) }
      let h := if dev then { h with devs := clrBit h.devs l } else { h with opens := clrBit h.opens l }
      { s with dev := { s.dev.at t with hkp := h } }

/-- LOOP_WDOG: n ms have passed, as of the last tick, without a tick that applied a write of LOOP_SET (R296). -/
def Dev.loopWdog (l : Nat) (d : Dev) : Dev :=
  let n := d.f (Reg.HKP_LOOP_WDOG l) 15 0
  if !d.on domHK || n = 0 || d.hkp.wdFault.testBit l || d.glb.tickDt < tabGet 0 d.hkp.wdStart l + n * ms then d
  else { d with hkp := { d.hkp with wdFault := setBit d.hkp.wdFault l } }.raise Ev.LOOP_WDOG

/-- Loops at a tick: a tick that applies a write of LOOP_SET restarts the watchdog and ends its fault; a watchdog
switched on counts from its tick (R296). Read-backs are taken. -/
def Dev.loopTick (old : Dev) (staged : List Nat) (loops : List (Nat × Nat)) (d : Dev) : Dev :=
  let d := forN 8 (fun l d =>
    let on := old.f (Reg.HKP_LOOP_WDOG l) 15 0 = 0 && d.f (Reg.HKP_LOOP_WDOG l) 15 0 ≠ 0
    if staged.contains (Reg.HKP_LOOP_SET l) then
      { d with hkp := { d.hkp with wdStart := tabPut 0 d.hkp.wdStart l d.now, wdFault := clrBit d.hkp.wdFault l } }
    else if on then { d with hkp := { d.hkp with wdStart := tabPut 0 d.hkp.wdStart l d.now } }
    else d) d
  let read := loops.foldl (fun m x => tabPut 0 m (x.1 % 8) (x.2 % 65536)) d.hkp.read
  { d with hkp := { d.hkp with read := if d.on domHK then read else d.hkp.read } }

/-- LOOP_READ_l (R303). -/
def State.loopRead (s : State) (l : Nat) : Word :=
  let out := s.dev.loopOut s.lockedOut l
  word (tabGet 0 s.dev.hkp.read l + b2n (s.dev.hkp.opens.testBit l) * 65536 + b2n (s.dev.hkp.devs.testBit l) * 131072
    + b2n out.fault * 262144 + b2n out.clamped * 524288 + b2n out.capped * 1048576)

/-! ## The energy-limited profile (R299, R300) -/

/-- The value that EL_CTL takes when a write applies at a tick: LOCK stays once set, and EN stays once locked
(R299, R302). -/
def elCtlNew (old val : Word) : Word :=
  let lock := bit old 1
  word (b2n (bit val 0 || (lock && bit old 0)) + b2n (lock || bit val 1) * 2)

/-- A change of EN at a tick: the event, and the slot that runs is marked (R299). -/
def Dev.elTick (old : Dev) (d : Dev) : Dev :=
  if old.elOn = d.elOn then d
  else
    let rd : Option Round := d.hkp.round.map fun r => { r with capped := true }
    { d with hkp := { d.hkp with round := rd } }.raise Ev.EL_CHANGED

/-- HKP.STATUS (R302). -/
def Dev.hkStatus (d : Dev) : Word :=
  word (d.hkp.check + d.hkp.cond * 16 + b2n d.elOn * 256 + b2n (d.b Reg.HKP_EL_CTL 1) * 512
    + b2n (d.hkp.round.isSome || d.hkp.pub.isSome) * 1024)

end Sys2Proof.Machine
end

