-- ==== Sys2Proof/Machine/Thermal.lean ====
section
/-! DEFINITION. Thermal management: sensors, levels, throttle steps, the orderly stop and the SHUT comparators (11). -/
namespace Sys2Proof.Machine

/-- A sensor of thermal management: 0-23 on-die, 24-31 external. -/
def Dev.sensor (d : Dev) (s : Nat) : Sensor := tabGet {} d.thm.sensors s
/-- Store a sensor. -/
def Dev.setSensor (d : Dev) (s : Nat) (x : Sensor) : Dev :=
  { d with thm := { d.thm with sensors := tabPut {} d.thm.sensors s x } }
/-- Change thermal management. -/
def Dev.modThm (f : Thm → Thm) (d : Dev) : Dev := { d with thm := f d.thm }
/-- External entry of sensor 24 + k. -/
def Dev.extCfg (d : Dev) (s : Nat) : Word := d.rd (Reg.THM_EXT_CFG (s - 24))
/-- The sensor takes part: on-die, or an enabled external entry (R307). -/
def Dev.sensorOn (d : Dev) (s : Nat) : Bool := s < 24 || bit (d.extCfg s) 6
/-- Sensors that take part. -/
def Dev.sensorList (d : Dev) : List Nat := (List.range 32).filter d.sensorOn
/-- The housekeeping slot of a sensor (R305, R307). -/
def Dev.sensorSlot (d : Dev) (s : Nat) : Nat := if s < 24 then s else fld (d.extCfg s) 5 0
/-- Its published status and value (10 R290). -/
def Dev.sensorStat (d : Dev) (s : Nat) : Nat := d.f (Reg.HKP_SLOT_STAT (d.sensorSlot s)) 2 0
/-- The published value. -/
def Dev.sensorVal (d : Dev) (s : Nat) : Int := (d.rd (Reg.HKP_SLOT_VAL (d.sensorSlot s))).toInt
/-- The published value is a temperature. -/
def Dev.hasTemp (d : Dev) (s : Nat) : Bool := d.sensorStat s = 1 || d.sensorStat s = 2

/-- Thresholds of a sensor by level 1-3, in 1/64 degree (R309, R307). -/
def Dev.threshold (d : Dev) (s lvl : Nat) : Int :=
  let w := if s < 24 then d.rd Reg.THM_THR else d.rd (Reg.THM_EXT_THR (s - 24))
  64 * (fld w (8 * lvl - 1) (8 * lvl - 8) : Nat)
/-- HYST in 1/64 degree. -/
def Dev.hyst (d : Dev) : Int := 64 * (d.f Reg.THM_THR 27 24 : Nat)
/-- ENTER_N. -/
def Dev.enterN (d : Dev) : Nat := d.f Reg.THM_TIMING 3 0
/-- DWELL_N. -/
def Dev.dwellN (d : Dev) : Nat := d.f Reg.THM_TIMING 7 4
/-- FAIL_N. -/
def Dev.failN (d : Dev) : Nat := d.f Reg.THM_TIMING 19 16

/-- Neighbours of a sensor; an external sensor has none (R306, R307). -/
def sensorNbrs (s : Nat) : List Nat := if s < 24 then neighbours s else []

/-- Twice the median of a list of two or three; the median of two is their mean (R314). -/
def median2 (l : List Int) : Option Int :=
  match l with
  | [] => none
  | [a] => some (2 * a)
  | [a, b] => some (a + b)
  | a :: b :: c :: _ => some (2 * max (min a b) (min (max a b) c))

/-- The round deviates for sensor s (R314). `old` holds the failures before the round. -/
def Dev.deviates (old d : Dev) (s : Nat) : Bool :=
  if 24 ≤ s then d.sensorStat s = 3 || d.sensorStat s = 4
  else if d.sensorStat s ≠ 1 then true
  else
    let ns := (sensorNbrs s).filter (fun n => !(old.sensor n).failed && d.hasTemp n)
    match median2 (ns.map d.sensorVal) with
    | none => false
    | some m => decide (128 * (d.f Reg.THM_XCHK 7 0 : Int) < (2 * d.sensorVal s - m).natAbs)

/-- An external sensor with SUSPECT or NONE takes no part in the round (R314). -/
def Dev.skipped (d : Dev) (s : Nat) : Bool := 24 ≤ s && (d.sensorStat s = 0 || d.sensorStat s = 2)

/-- Declare a sensor failed (R314, R315): a sensor at THROTTLE is held, and a failed external sensor with FAILSAFE is
raised to THROTTLE. -/
def Dev.failSensor (s : Nat) (d : Dev) : Dev :=
  let x := d.sensor s
  let lvl := if 24 ≤ s && bit (d.extCfg s) 7 then max x.level 2 else x.level
  (d.setSensor s { x with failed := true, dev := 0, held := x.level = 2, level := lvl, down := 0 }).raise Ev.THM_SENSOR_FAIL

/-- Cross-check of one sensor in a round: its run of deviating rounds grows, ends, or ends in failure (R314). -/
def Dev.crossCheck (old : Dev) (s : Nat) (d : Dev) : Dev :=
  let x := d.sensor s
  if x.failed || d.skipped s then d
  else if !Dev.deviates old d s then d.setSensor s { x with dev := 0 }
  else
    let d := d.setSensor s { x with dev := x.dev + 1 }
    if d.failN ≤ x.dev + 1 then d.failSensor s else d

/-- The level and counts of a sensor are frozen in this round: it is in a run of deviating rounds (R315). -/
def Dev.frozen (d : Dev) (s : Nat) : Bool := !(d.sensor s).failed && decide (0 < (d.sensor s).dev)

/-- Pin neighbours that have both failed (R316). -/
def Dev.pinPairs (d : Dev) : Dev :=
  let new := (List.range 24).filter (fun s =>
    (d.sensor s).failed && !(d.sensor s).pinned && (sensorNbrs s).any (fun n => (d.sensor n).failed))
  let d := new.foldl (fun d s => d.setSensor s { (d.sensor s) with pinned := true }) d
  d.raiseIf (!new.isEmpty) Ev.THM_AREA_PINNED

/-- The value used of a sensor in a round, after the cross-checks (R315); none leaves the one before. -/
def Dev.valueUsed (d : Dev) (s : Nat) : Option Int :=
  if (d.sensor s).failed then
    let ns := (sensorNbrs s).filter (fun n => !(d.sensor n).failed && d.hasTemp n)
    match ns.map d.sensorVal with
    | [] => none
    | a :: l => some (l.foldl max a + 64 * (d.f Reg.THM_XCHK 15 8 : Nat))
  else some (d.sensorVal s)

/-- The rate of a sensor exceeds RATE_LIM: the rise over 4 rounds, in 1/64 degree, against 0.1 degree per second. Without a
value in round n - 4 there is no rate (R311). -/
def Dev.rateOver (d : Dev) (hist : List (Option Int)) (v : Int) : Bool :=
  let lim := d.f Reg.THM_RATE_LIM 7 0
  let period := fld (d.roundReg d.hkp.slots Reg.HKP_ROUND_PERIOD) 19 0
  match hist with
  | [_, _, _, some o] => lim ≠ 0 && decide ((256 * lim * period : Nat) < (v - o) * 10000000)
  | _ => false

/-- Add a round's value to the history of a sensor (R311). -/
def Sensor.push (x : Sensor) (v : Option Int) : Sensor := { x with hist := (v :: x.hist).take 4 }

/-- The level rules of one sensor in a round with value `v` (R309-R311, R315, R316, R319). The flag tells that the
rate rule brought it to THROTTLE. -/
def Dev.levelStep (d : Dev) (s : Nat) (v : Int) (x : Sensor) : Sensor × Bool :=
  let run := fun (lvl n : Nat) => if d.threshold s lvl ≤ v then n + 1 else 0
  let n1 := run 1 x.n1
  let n2 := run 2 x.n2
  let n3 := run 3 x.n3
  let en := d.enterN
  let goal := if en ≤ n3 then 3 else if en ≤ n2 then 2 else if en ≤ n1 then 1 else 0
  let ovr := d.rateOver x.hist v
  let rateRun := if 1 ≤ x.level && ovr then x.rateRun + 1 else 0
  let byRate := ovr && decide (en ≤ rateRun) && decide (max x.level goal < 2)
  let goal := if byRate then 2 else goal
  let goal := if x.pinned then max goal 2 else goal
  let y := { x.push (some v) with used := v, n1 := n1, n2 := n2, n3 := n3, rateHigh := ovr, rateRun := rateRun }
  if x.level < goal then ({ y with level := goal, down := 0, byRate := byRate, held := false }, byRate)
  else if x.level = 0 || (x.pinned && x.level = 2) then (y, false)
  else
    let ok := decide (v < d.threshold s x.level - d.hyst) && !(x.byRate && ovr)
    let down := if ok then x.down + 1 else 0
    let need := d.dwellN + (if x.held then d.f Reg.THM_TIMING 15 12 else 0)
    if x.level < 3 && decide (need ≤ down) && ok then
      ({ y with level := x.level - 1, down := 0, byRate := false, held := false }, false)
    else ({ y with down := min down 255 }, false)

/-- One sensor's round after the cross-checks. In a run of deviating rounds only its history goes on (R311, R315). -/
def Dev.sensorRound (s : Nat) (d : Dev) : Dev :=
  let x := d.sensor s
  if d.frozen s || d.skipped s || (24 ≤ s && x.failed) then
    d.setSensor s (x.push (if d.hasTemp s && !x.failed then some (d.sensorVal s) else none))
  else match d.valueUsed s with
    | none => d.setSensor s { x.push none with level := if x.pinned then max x.level 2 else x.level }
    | some v =>
      let r := d.levelStep s v x
      (d.setSensor s r.1).raiseIf r.2 Ev.THM_RATE

/-- The highest level of any sensor that takes part (R308). -/
def Dev.partLevel (d : Dev) : Nat := (d.sensorList.map (fun s => (d.sensor s).level)).foldl max 0

/-- Sensors at THROTTLE, none of them pinned, with values at or above their THROTTLE thresholds (R312). -/
def Dev.hotSensors (d : Dev) : List Nat :=
  d.sensorList.filter (fun s =>
    let x := d.sensor s
    x.level = 2 && !x.pinned && decide (d.threshold s 2 ≤ x.used))

/-- The step and its round count after an evaluation that leaves a sensor at THROTTLE or above (R312). -/
def Dev.escalate (d : Dev) (t : Thm) : Thm :=
  let hot := d.hotSensors
  if hot.any (fun s => !d.frozen s) then
    if d.f Reg.THM_TIMING 11 8 ≤ t.stepRun + 1 then { t with stepNext := min 3 (t.stepNext + 1), stepRun := 0 }
    else { t with stepRun := t.stepRun + 1 }
  else if hot.isEmpty then { t with stepRun := 0 } else t

/-- The part level and the step that the next tick brings (R308, R312, R318). -/
def Dev.partRound (d : Dev) : Dev :=
  let was := d.thm.level
  let lvl := d.partLevel
  let d := (d.modThm (fun t => { t with level := lvl })).raiseIf (was = 0 && decide (1 ≤ lvl)) Ev.THM_WARN
  let crit := lvl = 3 && d.thm.critPhase = 0
  let d := (d.modThm (fun t => { t with critPhase := if crit then 1 else t.critPhase })).raiseIf crit Ev.THM_CRIT
  if lvl < 2 then d.modThm (fun t => { t with stepNext := 0, stepRun := 0 })
  else if d.thm.stepNext = 0 then
    ((d.modThm (fun t => { t with stepNext := 1, stepRun := 0 })).inc Reg.THM_THROTTLE_CNT).raise Ev.THM_THROTTLE
  else d.modThm d.escalate

/-- Every sensor at CRIT has lain below its release value long enough (R319). -/
def Dev.critCool (d : Dev) : Bool :=
  d.sensorList.all (fun s => (d.sensor s).level ≠ 3 || decide (d.dwellN ≤ (d.sensor s).down))

/-- A CRIT_CLR request takes effect: the latch clears and the sensors return to THROTTLE (R319). -/
def Dev.critRelease (d : Dev) : Dev :=
  if d.thm.clrReq && d.thm.critLatch && d.critCool then
    let crit := (List.range 32).filter (fun s => (d.sensor s).level = 3)
    let d := crit.foldl (fun d s => d.setSensor s { (d.sensor s) with level := 2, down := 0 }) d
    (d.modThm (fun t => { t with critLatch := false, critPhase := 0, clrReq := false, level := d.partLevel }))
  else d

/-- The evaluation of a published round, in the order of R308. -/
def Dev.thmRound (d : Dev) : Dev :=
  let old := d
  let d := d.sensorList.foldl (fun d s => Dev.crossCheck old s d) d
  let d := d.pinPairs
  let d := d.sensorList.foldl (fun d s => d.sensorRound s) d
  (d.partRound).critRelease

/-- THM_SENSOR_FAIL: a sensor whose run of deviating rounds has reached FAIL_N is declared failed (R314). -/
def Dev.sensorFail (s : Nat) (d : Dev) : Dev :=
  let x := d.sensor s
  if d.sensorOn s && !x.failed && decide (0 < x.dev) && decide (d.failN ≤ x.dev) then (d.failSensor s).pinPairs else d

/-- SENSOR_CLR: failed and pinned sensors are judged afresh, with their counts empty; a CRIT level is left only under
R319 (R317). -/
def Dev.sensorClear (mask : Word) (d : Dev) : Dev :=
  (List.range 32).foldl (fun d s =>
    let x := d.sensor s
    if bit mask s && (x.failed || x.pinned) then
      d.setSensor s { used := x.used, level := if x.level = 3 then 3 else 0 }
    else d) d

/-- CRIT_CLR: requests release while the latch holds (R319). -/
def Dev.critClear (d : Dev) : Dev :=
  if d.thm.critLatch then (d.modThm (fun t => { t with clrReq := true })).critRelease else d

/-- Thermal management at a tick: the step of the last evaluation takes effect, and the orderly stop proceeds
(R308, R312, R318). -/
def Dev.thmTick (d : Dev) : Dev :=
  let was := d.thm.step
  let new := d.thm.stepNext
  let d := (d.modThm (fun t => { t with step := new }))
  let d := d.raiseIf (was ≠ new) Ev.THM_STEP
  let d := d.raiseIf (was ≠ 0 && new = 0) Ev.THM_RELEASE
  if d.thm.critPhase = 1 then (d.modThm (fun t => { t with critPhase := 2, critLatch := true }))
  else if d.thm.critPhase = 2 then
    let d := d.modThm (fun t => { t with critPhase := 3 })
    ({ d with pwr := { d.pwr with votes := d.pwr.votes.map (fun v => v &&& 0x18C) } }).raise Ev.THM_CRIT_DONE
  else d

/-- The first condition of R322 that fails. -/
def Dev.thmFail (d : Dev) : Option Nat :=
  let ext := (List.range 8).filter (fun k => d.b (Reg.THM_EXT_CFG k) 6)
  let rise := fun (w : Word) => decide (fld w 7 0 < fld w 15 8) && decide (fld w 15 8 < fld w 23 16)
  let t := d.rd Reg.THM_THR
  if !(rise t && decide (fld t 23 16 ≤ 115) && ext.all (fun k => rise (d.rd (Reg.THM_EXT_THR k)))) then some 1
  else if !(inRange 1 10 (fld t 27 24) && d.enterN ≠ 0 && d.dwellN ≠ 0 && d.f Reg.THM_TIMING 11 8 ≠ 0 && d.failN ≠ 0)
  then some 2
  else if !ext.all (fun k =>
      let j := d.f (Reg.THM_EXT_CFG k) 5 0
      let c := d.rd (Reg.HKP_SLOT_CFG j)
      decide (24 ≤ j) && bit c 0 && inRange 2 8 (slotType c)) then some 3
  else none

/-- The thermal check at a tick (R322). -/
def Dev.thmCheck (old : Dev) (staged : List Nat) (d : Dev) : Dev :=
  let mine := offsIn 0xA00000 0xA10000 staged
  if mine.isEmpty then d
  else match d.thmFail with
    | none => (d.modThm (fun t => { t with check := 1, cond := 0 }))
    | some c =>
      let d := Dev.revertTo old mine d
      (d.modThm (fun t => { t with check := 2, cond := c })).raise Ev.THM_CFG_REJECT

/-- The temperature of an area sensor as thermal management uses it (R306; 09 R269, R275). -/
def Dev.areaTemp (d : Dev) (s : Nat) : Int := if (d.sensor s).failed then (d.sensor s).used else d.sensorVal s

/-- The area sensor of a bank (R306). -/
def bankSensor (b : Nat) : Nat := 4 * (b / 8) + b % 8 / 2
/-- The area sensor of a plate. -/
def plateSensor (p : Nat) : Nat := 16 + p / 2

/-! ## Views (R323, R324) -/

/-- THM.STATUS. -/
def Dev.thmStatus (d : Dev) : Word :=
  word (d.thm.level + d.thm.step * 16 + b2n d.thm.critLatch * 256 + d.thm.check * 65536 + d.thm.cond * 1048576)

/-- TS_STATE_s and EXT_STATE_k. -/
def Dev.sensorWord (d : Dev) (s : Nat) : Word :=
  let x := d.sensor s
  word (ofSigned 16 x.used + x.level * 65536 + b2n x.failed * 262144 + b2n x.pinned * 524288 + b2n x.rateHigh * 1048576)

/-- A mask over sensors in the layout of SENSOR_FAIL. -/
def Dev.sensorMask (d : Dev) (p : Sensor → Bool) : Word :=
  word ((List.range 32).foldl (fun m s => if p (d.sensor s) then setBit m s else m) 0)

/-- HOTTEST: the sensor with the greatest value used, the lowest among equals. -/
def Dev.hottest (d : Dev) : Word :=
  match d.sensorList with
  | [] => 0
  | s :: l =>
    let h := l.foldl (fun b n => if (d.sensor b).used < (d.sensor n).used then n else b) s
    word (h + ofSigned 16 (d.sensor h).used * 65536)

end Sys2Proof.Machine
end

