-- ==== Sys2Proof/Machine/Proof.lean ====
section
/-! DEFINITION. Calibration: runs, repeat and agree, the staging set, borrowing, stale calibration and images (09). -/
namespace Sys2Proof.Machine

/-- Change calibration state. -/
def Dev.modPrf (f : Prf → Prf) (d : Dev) : Dev := { d with prf := f d.prf }

/-! ## Targets (R263, R266) -/

/-- Number of targets of a run kind (15 R445). -/
def kindCount : Nat → Nat
  | 1 => 512
  | 2 => 1552
  | 3 => 8
  | 4 => 4
  | 5 => 9
  | _ => 8

/-- The kind borrows channels while acquiring (R266). -/
def kindBorrows (k : Nat) : Bool := k = 1 || k = 2 || k = 4

/-- Engine cost in ns: per borrowed frame, or of one measurement (R266). -/
def kindCost : Nat → Nat
  | 1 => 8000
  | 2 => 2000
  | 3 => 200000
  | 4 => 2000
  | 5 => 40000
  | _ => 10000

/-- Channel c is set in BORROW_EXCL. -/
def Dev.excluded (d : Dev) (c : Nat) : Bool := d.b (Reg.PRF_BORROW_EXCL (c / 32)) (c % 32)

/-- The channel that a target borrows: the channel itself, the channel of a capture unit, or the lowest enabled,
non-excluded channel of a head (R266). -/
def Dev.targetChan (d : Dev) (kind id : Nat) : Option Nat :=
  match kind with
  | 1 => some id
  | 2 => if id < 1536 then some (id / 3) else none
  | 4 => (d.chanKeys.filter (fun c => headOf c = id && d.chEn c && !d.excluded c)).head?
  | _ => none

/-- The area sensor of a target (11 R306). -/
def Dev.targetSensor (d : Dev) (kind id : Nat) : Nat :=
  match kind with
  | 1 => bankSensor (bankOf id)
  | 2 => if id < 1536 then bankSensor (bankOf (id / 3)) else 23
  | 3 => plateSensor id
  | 4 => bankSensor (bankOf ((d.targetChan 4 id).getD (128 * id)))
  | 5 => if id < 8 then 20 else 22
  | _ => 22

/-- The precondition of a target (R266). -/
def Dev.targetReady (d : Dev) (r : CalRun) (id : Nat) : Bool :=
  d.on (kindDomain r.kind) &&
  (match r.kind with
   | 2 => id < 1536 || !d.b (Reg.TIM_TI_IN ((id - 1536) / 2)) 20
   | 3 => !(d.plt id).acquiring
   | 4 => (d.targetChan 4 id).isSome
   | 6 => r.force
   | _ => true)

/-- The rotation key of a channel (R273). -/
def rotKey (c : Nat) : Nat := c % 16 * 32 + c / 16

/-! ## Items (R271-R277) -/

/-- Items of a section type, and bytes of each (R276). -/
def sectionKind : Nat → Option (Nat × Nat)
  | 1 => some (512, 1)
  | 2 => some (512, 2)
  | 3 => some (32, 8)
  | 4 => some (1552, 128)
  | 5 => some (32, 4)
  | 6 => some (9, 1)
  | 7 => some (8, 2)
  | 8 => some (4, 4)
  | _ => none

/-- Put an item into the staging set: a later value replaces the earlier one (R271). -/
def stageItem (x : CalItem) (l : List CalItem) : List CalItem :=
  l.filter (fun y => !(y.typ = x.typ && y.idx = x.idx)) ++ [x]

/-- Stage items in order. -/
def Dev.stage (xs : List CalItem) (d : Dev) : Dev :=
  d.modPrf (fun p => { p with staging := xs.foldl (fun l x => stageItem x l) p.staging })

/-- The table register of a capture unit: unit 3c + m, or 1,536 + 2i + m for a TI input (R276). -/
def unitTable (u q : Nat) : Nat :=
  if u < 1536 then Reg.TIM_TBL (u / 3) (u % 3) q else Reg.TIM_TBL_TI ((u - 1536) / 2) ((u - 1536) % 2) q

/-- Put a bin-width table into force: 32 registers from 128 bytes. -/
def Dev.putTable (u : Nat) (bs : List Byte) (d : Dev) : Dev :=
  forN 32 (fun q d => d.wrN (unitTable u q) (leAt bs (4 * q) 4)) d

/-- Return a capture unit to the nominal table (R265). -/
def Dev.nominalTable (u : Nat) (d : Dev) : Dev :=
  (forN 32 (fun q d => d.wr (unitTable u q) (regDflt d.straps.eqSel (unitTable u q))) d).modPrf
    (fun p => { p with tables := tabPut none p.tables u none })

/-- Every capture unit of a bank returns to the nominal table (R265). -/
def Dev.bankNominal (b : Nat) (d : Dev) : Dev :=
  (List.range 48).foldl (fun d i => d.nominalTable (48 * b + i)) d

/-- A byte of an item. -/
def CalItem.byte (x : CalItem) (i : Nat) : Nat := (x.data.getD i 0).toNat

/-- Put one staged item into force at a tick (R265, R271). A plate whose trims change notes it (07 R219). -/
def Dev.applyItem (x : CalItem) (d : Dev) : Dev :=
  match x.typ with
  | 1 => d.setF (Reg.PRF_TRIM_AFE x.idx) 7 0 (x.byte 0)
  | 2 => (d.setF (Reg.PRF_TRIM_AFE x.idx) 13 8 (x.byte 0)).setF (Reg.PRF_TRIM_AFE x.idx) 21 16 (x.byte 1)
  | 3 =>
    let new := fun (q : Nat) => leAt x.data (4 * q) 4 &&& 0x3F3F3F3F
    let same := (List.range 2).all (fun q => (d.rd (Reg.PRF_TRIM_PG x.idx q)).toNat = new q)
    let d := forN 2 (fun q d => d.wrN (Reg.PRF_TRIM_PG x.idx q) (new q)) d
    if same then d else d.bankNominal x.idx
  | 4 => (d.putTable x.idx x.data).modPrf (fun p => { p with tables := tabPut none p.tables x.idx x.temp })
  | 5 =>
    let off := Reg.PRF_TRIM_PLT (x.idx / 4) (x.idx % 4)
    let e := d.wrN off (leAt x.data 0 3)
    if e.rd off = d.rd off then e else e.pltMark (x.idx / 4) { dt := d.now, kind := .calStep }
  | 6 => d.wrN (Reg.PRF_TRIM_EX x.idx) (x.byte 0)
  | 7 => d.wrN (Reg.PRF_TRIM_LOOP x.idx) (x.byte 0 + x.byte 1 * 256)
  | _ => (d.wrN (Reg.STP_ZR_CAL x.idx) (leAt x.data 0 4)).modPrf (fun p => { p with
      zr := tabPut none p.zr x.idx x.temp, zrSet := setBit p.zrSet x.idx })

/-- The channels that an item may touch. -/
def CalItem.chans (x : CalItem) : List Nat :=
  match x.typ with
  | 1 => [x.idx]
  | 2 => [x.idx]
  | 3 => bankChans x.idx
  | 4 => if x.idx < 1536 then [x.idx / 3] else []
  | 8 => (List.range 128).map (fun i => 128 * x.idx + i)
  | _ => []

/-- The AFE trims of a channel differ (R272). -/
def Dev.afeStep (old d : Dev) (c : Nat) : Bool := d.rd (Reg.PRF_TRIM_AFE c) ≠ old.rd (Reg.PRF_TRIM_AFE c)

/-- The AFE trims, a capture-unit table or the zero-range delay of a channel differ (R272). -/
def Dev.calStep (old d : Dev) (c : Nat) : Bool :=
  Dev.afeStep old d c || d.rd (Reg.STP_ZR_CAL (headOf c)) ≠ old.rd (Reg.STP_ZR_CAL (headOf c))
  || (List.range 3).any (fun m => (List.range 32).any (fun q => d.rd (unitTable (3 * c + m) q) ≠ old.rd (unitTable (3 * c + m) q)))

/-- The staging set comes into force as one step at a tick: at the first tick with MODE 0, at the first after
APPLY.GO with MODE 1 (R271). Channels whose values change carry CAL_STEP, and those whose AFE trims change take no hits
before T+1 us (R272). -/
def Dev.applyStaging (d : Dev) : Dev :=
  let go := d.prf.go || !d.b Reg.PRF_APPLY_CTL 0
  let items := d.prf.staging
  let d := d.modPrf (fun p => { p with go := false, step := 0, settle := 0 })
  if go && !items.isEmpty then
    let e := items.foldl (fun d x => d.applyItem x) d
    let cs := items.flatMap CalItem.chans
    (e.modPrf (fun p => { p with
      staging := [], step := (cs.filter (Dev.calStep d e)).foldl setBit 0,
      settle := (cs.filter (Dev.afeStep d e)).foldl setBit 0 })).raise Ev.PRF_APPLIED
  else d

/-- APPLY_GO (R271). -/
def Dev.applyGo (d : Dev) : Dev := d.modPrf (fun p => { p with go := true })

/-- APPLY_DISCARD (R271). -/
def Dev.applyDiscard (d : Dev) : Dev := d.modPrf (fun p => { p with staging := [] })

/-! ## Measurements (R266, R269, R270; 05 R140) -/

/-- Mean of two codes, to nearest, ties toward zero (R269). -/
def meanCode (a b : Int) : Int := Int.tdiv (a + b) 2

/-- Sums of the counts before each code. -/
def prefixSums : Int → List Int → List Int
  | _, [] => []
  | s, n :: l => s :: prefixSums (s + n) l

/-- The bin-width table of the counts n0-n63 (05 R140). -/
def codeTable (ns : List Int) : List Int :=
  ((prefixSums 0 ns).zip ns).map (fun x => (2 * x.1 + x.2 + 32) / 64)

/-- The counts pass (05 R140). -/
def codePass (ns : List Int) : Bool := ns.all (fun n => decide (4096 ≤ n) && decide (n ≤ 49152))

/-- Values that one measurement of a kind delivers: 64 hit counts for code density, otherwise the codes of R263 or the
delay. -/
def kindValues : Nat → Nat
  | 1 => 3
  | 2 => 64
  | 3 => 12
  | 4 => 1
  | 5 => 1
  | _ => 2

/-- Tolerance of value i (R269). -/
def kindTol (kind i : Nat) : Nat :=
  match kind with
  | 2 => 64
  | 3 => if i % 3 = 2 then 2 else 1
  | 4 => 4
  | _ => 1

/-- Two measurements agree (R269). -/
def agrees (kind : Nat) (a b : List Int × Int × Bool) : Bool :=
  a.2.2 && b.2.2 && decide ((a.2.1 - b.2.1).natAbs ≤ 128)
  && ((a.1.zip b.1).zipIdx.all (fun x => decide ((x.1.1 - x.1.2).natAbs ≤ kindTol kind x.2)))

/-- The accepted values (R269). -/
def acceptedValues (kind : Nat) (a b : List Int) : List Int :=
  (a.zip b).map (fun x => if kind = 2 then (x.1 + x.2 + 1) / 2 else meanCode x.1 x.2)

/-- `n` bytes of an integer. -/
def intBytes (n : Nat) (v : Int) : List Byte := leBytes n (ofSigned (8 * n) v)

/-- The items of an accepted target, with the temperature at acceptance (R263, R275, R276). -/
def acceptedItems (kind id : Nat) (v : List Int) (temp : Int) : List CalItem :=
  let g := fun i => v.getD i 0
  match kind with
  | 1 => [{ typ := 1, idx := id, data := intBytes 1 (g 0), temp := some temp },
          { typ := 2, idx := id, data := leBytes 1 (ofSigned 6 (g 1)) ++ leBytes 1 (ofSigned 6 (g 2)), temp := some temp }]
  | 2 => [{ typ := 4, idx := id, data := v.flatMap (intBytes 2), temp := some temp }]
  | 3 =>
    let sub := fun (s : Nat) => intBytes 1 (g (3 * s)) ++ intBytes 1 (g (3 * s + 1)) ++ intBytes 1 (g (3 * s + 2)) ++ [0]
    (List.range 4).map (fun s => ({ typ := 5, idx := 4 * id + s, data := sub s, temp := some temp } : CalItem))
  | 4 => [{ typ := 8, idx := id, data := intBytes 4 (g 0), temp := some temp }]
  | 5 => [{ typ := 6, idx := id, data := intBytes 1 (g 0), temp := some temp }]
  | _ => [{ typ := 7, idx := id, data := intBytes 1 (g 0) ++ intBytes 1 (g 1), temp := some temp }]

/-! ## Images (R276-R278) -/

/-- One section of an image: head and body of one item. -/
def sectionBytes (x : CalItem) : List Byte :=
  leBytes 2 x.typ ++ leBytes 2 x.idx ++ leBytes 4 x.data.length
  ++ (match x.temp with | some t => intBytes 4 t | none => leBytes 4 0x80000000) ++ x.data

/-- The image of a list of items, one section each (R276, R278). -/
def Dev.calImage (d : Dev) (xs : List CalItem) : List Byte :=
  let body := xs.flatMap sectionBytes
  let bs := leBytes 4 0x50524601 ++ leBytes 2 1 ++ leBytes 2 xs.length ++ leBytes 4 (28 + body.length)
    ++ leBytes 4 (d.rd Reg.PRF_DIE_ID_LO).toNat ++ leBytes 4 (d.rd Reg.PRF_DIE_ID_HI).toNat ++ leBytes 4 0 ++ body
  bs ++ leBytes 4 (crc32 bs).toNat

/-- A bin table that keeps R135: strictly ascending entries below 32,768. -/
def tableOk (bs : List Byte) : Bool :=
  let e := (List.range 64).map (fun k => leAt bs (2 * k) 2)
  (e.zip (e.drop 1)).all (fun x => decide (x.1 < x.2)) && e.all (fun v => decide (v < 32768))

/-- Items of the sections of an image body; none when a section is refused (R277). -/
def sectionsGo : Nat → List Byte → Option (List CalItem)
  | 0, bs => if bs.isEmpty then some [] else none
  | n + 1, bs =>
    let typ := leAt bs 0 2
    let first := leAt bs 2 2
    let len := leAt bs 4 4
    let t := toSigned 32 (leAt bs 8 4)
    match sectionKind typ with
    | none => none
    | some (count, size) =>
      let k := len / size
      let body := (bs.drop 12).take len
      let item := fun (i : Nat) => (body.drop (size * i)).take size
      if bs.length < 12 + len || len % size ≠ 0 || count < first + k then none
      else if typ = 4 && !(List.range k).all (fun i => tableOk (item i)) then none
      else (sectionsGo n (bs.drop (12 + len))).map fun l =>
        (List.range k).map (fun i =>
          ({ typ := typ, idx := first + i, data := item i, temp := if t = noValue then none else some t } : CalItem)) ++ l

/-- The items of a calibration image; none when it is rejected (R277). The image is as long as its header says; a descriptor
moves whole words (15 R442), so up to 3 bytes may follow it (log 113). -/
def Dev.parseImage (d : Dev) (bs : List Byte) : Option (List CalItem) :=
  let n := leAt bs 8 4
  let im := bs.take n
  if leAt bs 0 4 = 0x50524601 && leAt bs 4 2 = 1 && decide (n ≤ bs.length) && decide (bs.length < n + 4) && decide (28 ≤ n)
    && leAt bs 12 4 = (d.rd Reg.PRF_DIE_ID_LO).toNat && leAt bs 16 4 = (d.rd Reg.PRF_DIE_ID_HI).toNat && crcOk im
  then sectionsGo (leAt bs 6 2) ((im.drop 24).take (n - 28)) else none

/-- Load a calibration image: its items are staged, or it is rejected as a whole (R276, R277). -/
def Dev.loadCal (bs : List Byte) (d : Dev) : Bool × Dev :=
  match d.parseImage bs with
  | some xs => (true, d.stage xs)
  | none => (false, d.raise Ev.PRF_IMAGE_REJECT)

/-! ## Runs (R266-R270) -/

/-- A target begins a measurement: its area temperature is noted (R269). -/
def Dev.beginTarget (d : Dev) (kind : Nat) (t : Target) : Target :=
  { t with frames := 0, since := d.now, temp := d.areaTemp (d.targetSensor kind t.id),
           left := if kindBorrows kind then 0 else kindCost kind }

/-- A run completes: its status, RESULT, export image, and RUN_STATUS (R270, R278, R280; 15 R445). -/
def Dev.runReport (r : CalRun) (aborted : Bool) (d : Dev) : Dev :=
  let res := if aborted then 3 else if r.rejected = 0 then 0 else if r.accepted = 0 then 2 else 1
  let st := if aborted then stABORTED else if r.rejected = 0 then stOK else if r.accepted = 0 then stREJECTED else stPARTIAL
  let img := if r.desc.lenB = 0 then [] else d.calImage r.out
  let d := d.modPrf (fun p => { p with result := res, lastKind := r.kind, lastAcc := r.accepted })
  let d := if aborted then d.raise Ev.PRF_RUN_ABORT else d
  let d := d.raise Ev.PRF_RUN_DONE
  let d := if img.isEmpty then d else d.memWrite (some actDESC) r.desc.addrB img
  d.done r.desc st img.length (leBytes 4 r.accepted ++ leBytes 4 r.rejected)

/-- The completion of the run that executes. -/
def Dev.runEnd (r : CalRun) (aborted : Bool) (d : Dev) : Dev :=
  (d.modPrf (fun p => { p with active := none, banks := 0 })).runReport r aborted

/-- The first target of a run that does not borrow gets its turn: targets whose precondition fails are rejected
without measurement (R266). -/
def Dev.nextTarget (d : Dev) : Nat → CalRun → CalRun
  | 0, r => r
  | n + 1, r =>
    match r.todo with
    | [] => r
    | t :: l =>
      if d.targetReady r t.id then { r with todo := d.beginTarget r.kind t :: l }
      else d.nextTarget n { r with todo := l, rejected := r.rejected + 1 }

/-- Spend engine time of a run that does not borrow on its present measurement, within the CAL budget (01 R33,
R35). -/
def Dev.calSpend (d : Dev) : Dev :=
  match d.prf.active with
  | none => d
  | some r =>
    if kindBorrows r.kind then d
    else match r.todo with
      | [] => d
      | t :: l =>
        let room := d.eff actCAL - (d.rd (Reg.BIT_METER actCAL)).toNat
        let n := if d.bite.paused.testBit actCAL then 0 else min t.left room
        let d := if n = 0 then d else d.charge actCAL n
        let d := if n < t.left then d.pause actCAL else d
        d.modPrf (fun p => { p with active := some { r with todo := { t with left := t.left - n } :: l } })

/-- Make a run the one that executes; a run left without targets completes at once. -/
def Dev.runBegin (r : CalRun) (d : Dev) : Dev :=
  let r := if kindBorrows r.kind then r else d.nextTarget r.todo.length r
  if r.todo.isEmpty then d.runEnd r false
  else (d.modPrf (fun p => { p with active := some r })).calSpend

/-- The runs that wait begin in the order they were fetched, until one executes (R266). -/
def Dev.runNext : Nat → Dev → Dev
  | 0, d => d
  | n + 1, d =>
    if d.prf.active.isSome then d
    else match d.prf.queue with
      | [] => d
      | r :: q => Dev.runNext n ((d.modPrf (fun p => { p with queue := q })).runBegin r)

/-- The run that executes has ended: it completes and the next begins. -/
def Dev.runDone (r : CalRun) (aborted : Bool) (d : Dev) : Dev := (d.runEnd r aborted).runNext 8

/-- Abort the run that executes when it meets a condition; the next begins (R268). -/
def Dev.activeAbort (when_ : CalRun → Bool) (d : Dev) : Dev :=
  match d.prf.active with
  | some r => if when_ r then d.runDone r true else d
  | none => d

/-- Abort the run that executes and the runs that wait, in order, when they meet a condition (R268; 11 R318, 16 R480). -/
def Dev.runAbort (when_ : CalRun → Bool) (d : Dev) : Dev :=
  let gone := d.prf.queue.filter when_
  let d := d.modPrf (fun p => { p with queue := p.queue.filter (fun r => !when_ r) })
  let d := match d.prf.active with
    | some r => if when_ r then d.runEnd r true else d
    | none => d
  (gone.foldl (fun d r => d.runReport r true) d).runNext 8

/-- ACQ_STOP is applied: a borrowing run, which has targets outstanding, aborts (R268). -/
def Dev.stopAbort (d : Dev) : Dev := d.activeAbort (fun r => r.kind = 4 || (d.brn.ranging && kindBorrows r.kind))

/-- A queued run. -/
def calRunOf (x : Desc) : CalRun :=
  let first := descPar x 34 2
  { desc := x, kind := descPar x 32 1, force := descPar x 33 1 = 1,
    todo := (List.range (descPar x 36 2)).map (fun i => { id := first + i }) }

/-- The CAL_RUN descriptor is well formed (R266; 15 R442, R445, R446). An export buffer holds an image of every
target. -/
def calRunGood (x : Desc) : Bool :=
  let k := descPar x 32 1
  let n := descPar x 36 2
  let size := 28 + n * (match k with | 1 => 27 | 2 => 140 | 3 => 64 | 4 => 16 | 5 => 13 | _ => 14)
  descNoA x && descUnusedZero x [32, 33, 34, 35, 36, 37] && inRange 1 6 k && decide (descPar x 33 1 ≤ 1)
  && decide (1 ≤ n) && decide (descPar x 34 2 + n ≤ kindCount k) && (x.lenB = 0 || decide (size ≤ x.lenB))

/-- CAL_RUN: the run is queued, or completes BUSY when 8 runs wait (R266), NOT_READY while its domain is off (16 R480). -/
def Dev.calRun (x : Desc) (d : Dev) : Dev :=
  Dev.dispatch x (calRunGood x) (fun _ => true) (fun d =>
    if !d.on (kindDomain (descPar x 32 1)) then d.finish x stNOT_READY
    else if d.prf.active.isSome && decide (8 ≤ d.prf.queue.length) then d.finish x stBUSY
    else (d.modPrf (fun p => { p with queue := p.queue ++ [calRunOf x] })).runNext 8) d

/-- The outcome of an attempt on a target: the run after it, with the items accepted. -/
def Dev.judge (d : Dev) (r : CalRun) (t : Target) (a b : List Int × Int × Bool) : CalRun × List CalItem :=
  let rest := r.todo.filter (fun x => x.id ≠ t.id)
  let sensor := d.areaTemp (d.targetSensor r.kind t.id)
  if agrees r.kind a b then
    let items := acceptedItems r.kind t.id (acceptedValues r.kind a.1 b.1) sensor
    ({ r with todo := rest, accepted := r.accepted + 1, out := r.out ++ items }, items)
  else if 3 ≤ t.attempt then ({ r with todo := rest, rejected := r.rejected + 1, rejSeen := true }, [])
  else
    let t := d.beginTarget r.kind { t with attempt := t.attempt + 1, first := none }
    ({ r with todo := r.todo.map (fun x => if x.id = t.id then t else x) }, [])

/-- The measurement of a target may complete now: it has run in a frame, or its engine time is spent. Zero-range needs
4,096 edges at 256 a frame (R266). -/
def measurable (kind : Nat) (t : Target) : Bool :=
  if kind = 4 then decide (16 ≤ t.frames) else if kindBorrows kind then decide (1 ≤ t.frames) else t.left = 0

/-- The hit counters of a capture unit hold exactly 2^20 edges: its part of the run is complete (05 R139). -/
def countsFull (v : List Int) : Bool := v.all (fun n => decide (0 ≤ n)) && v.sum = 1048576

/-- CAL_MEASUREMENT_DONE: a measurement of a target of the run that executes delivers its values (R266, R269,
R270). -/
def Dev.calMeasured (id : Nat) (v : List Int) (d : Dev) : Dev :=
  match d.prf.active with
  | none => d
  | some r =>
    let turn := if kindBorrows r.kind then r.todo else r.todo.take 1
    match turn.find? (fun t => t.id = id) with
    | none => d
    | some t =>
      if v.length ≠ kindValues r.kind || !measurable r.kind t || (r.kind = 2 && !countsFull v) then d
      else
        let pass := r.kind ≠ 2 || codePass v
        let d := d.raiseIf (!pass) Ev.TIM_CD_DNL_FAIL
        let m := (if r.kind = 2 then codeTable v else v, t.temp, pass)
        match t.first with
        | none =>
          let t := d.beginTarget r.kind { t with first := some m }
          -- the second AFE measurement belongs to the same borrowed frame
          let t := if r.kind = 1 then { t with frames := 1 } else t
          let todo := r.todo.map (fun x => if x.id = id then t else x)
          (d.modPrf (fun p => { p with active := some { r with todo := todo } })).calSpend
        | some a =>
          let (r', items) := d.judge r t a m
          let d := d.stage items
          let d := if r'.rejected = r.rejected then d
            else (d.inc Reg.PRF_REJ_CNT).raiseIf (!r.rejSeen) Ev.CAL_REJECT
          let r' := if kindBorrows r'.kind || r'.todo.length = r.todo.length then r' else d.nextTarget r'.todo.length r'
          if r'.todo.isEmpty then d.runDone r' false
          else (d.modPrf (fun p => { p with active := some r' })).calSpend

/-! ## Borrowing (R267, R273, R274) -/

/-- Channels still to be measured, in rotation order from a key (R273). -/
def Dev.rotation (d : Dev) (r : CalRun) : List Nat :=
  let cs := (r.todo.filterMap (fun t => d.targetChan r.kind t.id)).eraseDups
  let cs := sortBy (fun a b => decide (rotKey a < rotKey b)) cs
  cs.filter (fun c => decide (r.key ≤ rotKey c)) ++ cs.filter (fun c => decide (rotKey c < r.key))

/-- Take channels in rotation until one cannot be taken: its bank is taken, it is excluded, MAX are borrowed, or the
cost does not fit (R273). Gives the channels taken and the key at which the pointer stops. -/
def takeRotation (bad : Nat → Bool) (max_ : Nat) : List Nat → List Nat → Nat → List Nat × Nat
  | [], acc, key => (acc, key)
  | c :: cs, acc, _ =>
    if bad c || decide (max_ ≤ acc.length) || acc.any (fun x => bankOf x = bankOf c) then (acc, rotKey c)
    else takeRotation bad max_ cs (acc ++ [c]) ((rotKey c + 1) % 512)

/-- Targets that need no channel or have none: those that fail their precondition when their turn comes are rejected (R266). -/
def Dev.dropUnready (d : Dev) (r : CalRun) : CalRun :=
  let ok := r.todo.filter (fun t => (d.targetChan r.kind t.id).isSome || d.targetReady r t.id)
  { r with todo := ok, rejected := r.rejected + (r.todo.length - ok.length) }

/-- Targets run in the frame: a measurement that begins notes its temperature. -/
def Dev.runTargets (d : Dev) (r : CalRun) (p : Target → Bool) : CalRun :=
  let run := fun (t : Target) => if t.frames = 0 then d.beginTarget r.kind t else t
  let one := fun (t : Target) =>
    if p t then { run t with frames := t.frames + 1 } else if r.kind = 1 then { t with frames := 0 } else t
  { r with todo := r.todo.map one }

/-- Frames' engine cost that still fits the CAL budget. -/
def Dev.calFits (d : Dev) (kind : Nat) : Nat :=
  if d.bite.paused.testBit actCAL then 0
  else (d.eff actCAL - (d.rd (Reg.BIT_METER actCAL)).toNat) / kindCost kind

/-- Borrow for the frame that the tick begins (R273), or run up to 4 banks of a code-density or AFE-offset run while acquisition
is stopped (R267). TI units, and heads without a channel, have their turn after the channels. -/
def Dev.borrowRun (r : CalRun) (d : Dev) : Dev :=
  let fit := d.calFits r.kind
  let own := fun (t : Target) => (d.targetChan r.kind t.id).isNone
  let stopped := !d.brn.ranging && r.kind ≠ 4
  let taken : List Nat × Nat :=
    if stopped then ([], r.key) else takeRotation d.excluded (min (d.f Reg.PRF_BORROW_CTL 4 0) fit) (d.rotation r) [] r.key
  let cs := taken.1
  let all := ((r.todo.filterMap (fun t => d.targetChan r.kind t.id)).map bankOf).eraseDups
  let bs := if stopped then (sortBy (fun a b => decide (a < b)) all).take (min 4 fit) else []
  let used := cs.length + bs.length
  let turn := r.todo.any own && decide (used < fit)
  let r := if turn then d.dropUnready r else r
  if r.todo.isEmpty then d.runDone r false
  else
    let extra := turn && r.todo.any own
    let run := d.runTargets r (fun t => match d.targetChan r.kind t.id with
      | some c => cs.contains c || bs.contains (bankOf c)
      | none => extra)
    let n := used + b2n extra
    let d := if n = 0 then d else d.charge actCAL (n * kindCost r.kind)
    d.modPrf (fun p => { p with active := some { run with key := taken.2 }, borrowed := cs.foldl setBit 0, banks := bs.foldl setBit 0 })

/-- The calibration engine at a tick, after the staging set has been applied: the budget of the new frame is spent or
channels are borrowed; a plate run aborts whose plate under measurement has left STOPPED (R268). -/
def Dev.calTick (d : Dev) : Dev :=
  let d := d.modPrf (fun p => { p with borrowed := 0, banks := 0 })
  let d := d.activeAbort (fun r => r.kind = 3 && (r.todo.take 1).any (fun t => (d.plt t.id).acquiring))
  let d := match d.prf.active with
    | none => d
    | some r => if kindBorrows r.kind then d.borrowRun r else d.calSpend
  forN 16 (fun w d => d.wrN (Reg.PRF_BORROW_NOW w) (bitsN d.prf.borrowed (32 * w + 31) (32 * w))) d

/-! ## Stale calibration (R275) -/

/-- Two temperatures differ by more than DT degrees; an item without a recorded temperature is not compared. -/
def Dev.tempStale (d : Dev) (now : Int) : Option Int → Bool
  | none => false
  | some t => decide (64 * d.f Reg.PRF_STALE_CTL 7 0 < (now - t).natAbs)

/-- The records of channel c carry CAL_STALE (R275; 05 R137). -/
def Dev.chanStale (d : Dev) (c : Nat) : Bool :=
  let now := d.areaTemp (bankSensor (bankOf c))
  d.chanNominal c || (List.range 3).any (fun m => d.tempStale now (tabGet none d.prf.tables (3 * c + m)))
  || !d.prf.zrSet.testBit (headOf c) || d.tempStale now (tabGet none d.prf.zr (headOf c))

/-- Judge CAL_STALE for the frame that is published; PRF_STALE marks the first frame of a channel (R275, R279). -/
def Dev.staleFrame (d : Dev) : Dev :=
  let was := d.prf.stale
  let new := (d.onChans).foldl (fun m c => if d.chanStale c then setBit m c else m) 0
  let d := d.modPrf (fun p => { p with stale := new })
  let d := d.raiseIf ((List.range 512).any (fun c => new.testBit c && !was.testBit c)) Ev.PRF_STALE
  forN 16 (fun w d => d.wrN (Reg.PRF_STALE w) (bitsN new (32 * w + 31) (32 * w))) d

/-! ## Views (R279, R280) -/

/-- PRF.STATUS. -/
def Dev.prfStatus (d : Dev) : Word :=
  let k := match d.prf.active with | some r => r.kind | none => 0
  word (b2n d.prf.active.isSome + k * 2 + min 8 d.prf.queue.length * 16 + b2n (!d.prf.staging.isEmpty) * 256)

/-- PRF.RUN_STATUS. -/
def Dev.prfRunStatus (d : Dev) : Word := word (d.prf.result + d.prf.lastKind * 4 + min 2047 d.prf.lastAcc * 65536)

/-- The 16-bit temperature of a register, 0x8000 for none. -/
def tempHalf : Option Int → Nat
  | none => 0x8000
  | some t => ofSigned 16 t

/-- ZR_TJ_h: 0x8000 for a fused value. -/
def Dev.zrTj (d : Dev) (h : Nat) : Word := word (if d.prf.zrSet.testBit h then tempHalf (tabGet none d.prf.zr h) else 0x8000)

/-- CD_TJ_c: the temperature recorded with the channel's tables that lies farthest from the present one; 0x8000 while
a unit is nominal. -/
def Dev.cdTj (d : Dev) (c : Nat) : Word :=
  if d.chanNominal c then 0x8000
  else
    let now := d.areaTemp (bankSensor (bankOf c))
    let ts := (List.range 3).filterMap (fun m => tabGet none d.prf.tables (3 * c + m))
    match ts with
    | [] => 0x8000
    | t :: l => word (ofSigned 16 (l.foldl (fun b x => if (b - now).natAbs < (x - now).natAbs then x else b) t))

end Sys2Proof.Machine
end

