-- ==== Sys2Proof/Machine/Pairs.lean ====
section
/-! DEFINITION. Redundant pairs: claim arbitration, self-checks, shadow compares, fail-over and state copy
(13 R364-R384). -/
namespace Sys2Proof.Machine

/-- Change pair and cascade state. -/
def Dev.modMdv (f : Mdv → Mdv) (d : Dev) : Dev := { d with mdv := f d.mdv }

/-- The unit's priority; 0 acts as 1 (R396). -/
def Dev.prio (d : Dev) : Nat := max 1 (d.f Reg.MDV_PAIR_CTL 4 0)

/-- The unit's claim number (R368). -/
def Dev.claimNum (d : Dev) : Nat := d.prio + 32 * b2n d.mdv.active

/-- CFG_STATUS.DEFAULTED (15 R456). -/
def Dev.defaulted (d : Dev) : Bool := d.b Reg.DSC_CFG_STATUS 0

/-- The self-checks of R371: bit n set while check n passes. -/
def State.selfChk (s : State) : Nat :=
  let d := s.dev
  let axes := (List.range 8).all (fun a => (d.ax a).st = .disabled || !(d.ax a).fbLoss)
  b2n (s.isl.st = .run && !s.isl.defaulted)
  + b2n (d.tim.lock && !d.tim.lockLost) * 2
  + b2n (!d.thm.critLatch && !d.thm.shut) * 4
  + b2n (d.on domACQ && d.on domSERVO && d.target.testBit domACQ && d.target.testBit domSERVO) * 8
  + b2n (!d.defaulted) * 16 + b2n axes * 32 + b2n (!d.mdv.wdog) * 64 + b2n (!(d.mdv.xlink && d.mdv.digestOff)) * 128

/-- All self-checks pass. -/
def State.checksPass (s : State) : Bool := s.selfChk = 255

/-- A starter (R369). -/
def Dev.starter (d : Dev) : Bool :=
  !d.mdv.sawOther && ((d.mdv.xlink && d.mdv.partnerPrio ≠ d.prio) || d.b Reg.MDV_PAIR_CTL 9)

/-- The unit bids in a round (R369, R375, R383). -/
def State.mayBid (s : State) : Bool :=
  let d := s.dev
  let m := d.mdv
  let same := m.xlink && m.partnerPrio = d.prio
  d.straps.pairEn && !d.debugHolds && !s.fuses.rma && s.checksPass && !m.yielding && !m.dark && !m.stopped && (!same || m.active)
  && (m.won || (m.qualified && !m.suspect) || d.starter)

/-- The unit loses its qualification (R382). -/
def Dev.unqualify (d : Dev) : Dev :=
  (d.modMdv (fun m => { m with qualified := false, image := false, matchRun := 0, since := [] })).raiseIf d.mdv.qualified
    Ev.PAIR_UNQUALIFIED

/-- The unit turns its shared stages off and holds no claim. -/
def Mdv.drop (m : Mdv) : Mdv := { m with stages := false, active := false, bidding := false, won := false, handoverDue := false }

/-- Both cross-link partners hold the same priority: PAIR_CFG_MISMATCH, once until they differ or the link comes up again
(R369). -/
def Dev.prioCheck (d : Dev) : Dev :=
  let same := d.mdv.xlink && d.mdv.partnerPrio = d.prio
  (d.modMdv (fun m => { m with prioSeen := same })).raiseIf (same && !d.mdv.prioSeen) Ev.PAIR_CFG_MISMATCH

/-- CLAIM_ROUND: the round that starts at `t`, with the highest claim number of the other units that bid, if any
(R368, R369, R376, R382, R383). -/
def State.claimRound (t : Time) (other : Option Nat) (s : State) : State :=
  if !s.dev.straps.pairEn then s else
  let bid := s.mayBid
  let own := s.dev.claimNum
  let win := bid && (match other with | some o => decide (o ≤ own) | none => true)
  let winner := if win then own else other.getD 0
  let lost := s.dev.mdv.hbLost && !win && other.isSome
  let empty := !win && other.isNone
  let yielded := s.dev.mdv.yielding && other.isSome
  s.onDev fun d =>
    let d := d.at (t + 2000 * ns)
    let was := d.mdv
    let d := d.modMdv (fun m =>
      if win then { m with bidding := true, won := true, winner := winner, active := true, wdog := false,
                           handoverDue := m.handoverDue || !m.won, hbLost := false }
      else { m.drop with bidding := bid, winner := winner, sawOther := m.sawOther || other.isSome, hbLost := false,
                         yielding := m.yielding && !yielded })
    let d := d.prioCheck
    -- heartbeats lost while the active unit still wins: a fault of the cross-link
    let d := if lost then (d.unqualify).raise Ev.PAIR_LINK_LOST else d
    -- the active unit is gone and no qualified standby is present
    if empty && was.sawOther && !was.dark then (d.modMdv (fun m => { m with dark := true })).raise Ev.PAIR_UNQUALIFIED
    else d

/-! ## State copy (R378-R381) -/

/-- The tracking windows of an applied epoch: a window that starts elsewhere begins without counts (06 R183; DESIGN CHOICE,
log 37: its earlier hits were counted against the other start). -/
def epochWindows (s : StpCh) (wins : List (Option Nat)) : List (Option Zoom) :=
  if s.mode ≠ .tracking then s.zooms
  else (List.range 2).map fun i =>
    match wins.getD i none, s.zooms.getD i none with
    | some zs, some z => if z.zs = zs then some z else some { zs := zs, bins := [] }
    | some zs, none => some { zs := zs, bins := [] }
    | none, _ => none

/-- Apply one channel of an epoch: its history row, predicted times and tracking windows replace the unit's own, with its
AFE state (R379; 06 R183). `push` says that the row is that of a further frame (R381). -/
def Dev.epochChan (push : Bool) (x : EpochChan) (d : Dev) : Dev :=
  let s := d.stp1 x.c
  let ch := d.chan x.c
  let rest := if push then s.hist.take 15 else s.hist.drop 1
  let d := d.setStp1 x.c { s with hist := if rest.isEmpty && x.row.isEmpty then [] else x.row :: rest,
                                   pred := x.pred.take 2, zooms := epochWindows s x.wins }
  d.setChan x.c { ch with gain := x.gain % 4, clipRun := x.clipRun, quietRun := x.quietRun }

/-- The Burin and Proof state of an epoch (R379). -/
def Dev.epochState (e : Epoch) (d : Dev) : Dev :=
  let d := (d.setF Reg.BRN_CODE_CTL 3 0 e.famset).wr Reg.BRN_CODE_SEED (e.seed &&& 0x7FFFFFFF)
  let act : Option CalRun := d.prf.active.map fun r => { r with key := e.key % 512 }
  d.modPrf (fun p => { p with active := act })

/-- Apply an epoch: Stipple, AFE, Burin and Proof state (R379). -/
def Dev.applyEpoch (push : Bool) (e : Epoch) (d : Dev) : Dev :=
  let d := e.chans.foldl (fun d x => if x.c < 512 then d.epochChan push x else d) d
  (d.epochState e).wr Reg.MDV_EPOCH_RX e.num

/-- An epoch matches (R366, R379). -/
def Dev.epochMatches (d : Dev) (e : Epoch) : Bool :=
  let off := (e.chans.filter (fun x =>
    ((d.stp1 x.c).zooms.map (fun z => z.map (fun w => w.zs))) ≠ (x.wins ++ [none, none]).take 2)).length
  let dd := if e.tick ≤ d.glb.tickDt then d.glb.tickDt - e.tick else e.tick - d.glb.tickDt
  e.num + 1 = d.glb.frameNum && decide (dd ≤ 16) && e.famset = d.f Reg.BRN_CODE_CTL 3 0
  && e.seed = d.rd Reg.BRN_CODE_SEED && e.phases && decide (off ≤ d.f Reg.MDV_ECMP_CTL 23 16)

/-- The unit is the standby of an enabled pair. -/
def Dev.isStandby (d : Dev) : Bool := d.straps.pairEn && !d.mdv.active

/-- EPOCH_RECEIVED: a complete epoch with a correct CRC; one that does not come in the frame after its own is
discarded (R379). -/
def Dev.epochReceived (e : Epoch) (d : Dev) : Dev :=
  if !d.isStandby || !d.mdv.xlink || e.num + 1 ≠ d.glb.frameNum then d
  else d.modMdv (fun m => { m with epoch := some (e, d.epochMatches e), digestOff := !e.digest })

/-- The standby qualifies with 16 matching epochs after an image (R381). -/
def Dev.qualify (d : Dev) : Dev :=
  if d.mdv.image && decide (16 ≤ d.mdv.matchRun) && !d.mdv.qualified then
    (d.modMdv (fun m => { m with qualified := true, dark := false, stopped := false })).raise Ev.PAIR_QUALIFIED
  else d

/-- The standby at a tick, before the ended frame is published: the epoch received is applied and counted (R379,
R381). -/
def Dev.epochTick (d : Dev) : Dev :=
  match d.mdv.epoch with
  | none => d
  | some (e, ok) =>
    ((d.applyEpoch false e).modMdv (fun m => { m with
      epoch := none
      since := if m.image then [] else m.since ++ [(e, ok)]
      matchRun := if m.image then (if ok then min 16 (m.matchRun + 1) else if m.qualified then m.matchRun else 0) else 0 })).qualify

/-- A bin from the seven quantities of an image. -/
def imageBin (xs : List Nat) : Bin :=
  { n := xs.getD 0 0, g0 := xs.getD 1 0, g1 := xs.getD 2 0, g2 := xs.getD 3 0, g3 := xs.getD 4 0, clip := xs.getD 5 0,
    amp := xs.getD 6 0 }

/-- The bins of an image's histogram. -/
def imageBins (l : List (Nat × List Nat)) : Tab Bin := l.foldl (fun m e => tabPut {} m e.1 (imageBin e.2)) []

/-- Apply one channel of a state image taken at the tick that ended frame `fr`: history, predictors and windows, and the frame's
histograms where the dump store still holds it (R381). -/
def Dev.imageChan (fr : Word) (x : ImageChan) (d : Dev) : Dev :=
  let s := d.stp1 x.c
  let fill := fun (p : Published) => if p.frame ≠ fr then p
    else { p with coarse := imageBins x.coarse, zooms := p.zooms.zipIdx.map (fun y =>
      y.1.map (fun z => { z with bins := imageBins (x.fine.getD y.2 []) })) }
  d.setStp1 x.c { s with hist := x.rows.take 16, pred := x.pred.take 2, zooms := epochWindows s x.wins, store := s.store.map fill }

/-- The consecutive matching epochs at the end of a list. -/
def matchEnd (l : List (Epoch × Bool)) : Nat := (l.reverse.takeWhile (fun e => e.2)).length

/-- STATE_IMAGE_RECEIVED: the standby applies the image of the active unit's state and then, in order, the epochs received
meanwhile, which count as the epochs after it do (R381). -/
def Dev.imageReceived (e : Epoch) (xs : List ImageChan) (d : Dev) : Dev :=
  if !d.isStandby || !d.mdv.xlink then d
  else
    let later := d.mdv.since.filter (fun y => decide ((y.1.num - e.num).toNat < 2 ^ 31 ∧ y.1.num ≠ e.num))
    let d := e.chans.foldl (fun d x => if x.c < 512 then
      d.setChan x.c { (d.chan x.c) with gain := x.gain % 4, clipRun := x.clipRun, quietRun := x.quietRun } else d) (d.epochState e)
    let d := xs.foldl (fun d x => if x.c < 512 then d.imageChan e.num x else d) d
    let d := later.foldl (fun d y => d.applyEpoch true y.1) d
    (d.modMdv (fun m => { m with image := true, matchRun := min 16 (matchEnd later), asked := false, since := [] })).qualify

/-- Size of a state image and of an epoch in bytes (R378, R381). -/
def imageBytes : Nat := 4210688
/-- The epoch. -/
def epochBytes : Nat := 19040

/-- The active unit begins to send a state image, of its state at the next tick (R381). -/
def Dev.sendImage (d : Dev) : Dev := d.modMdv (fun m => { m with imageLeft := imageBytes, imageOut := none })

/-- The epoch that the unit's own state makes at the tick that ends frame `n` (R378). -/
def Dev.ownEpoch (n : Word) (d : Dev) : Epoch :=
  { num := n, tick := d.glb.tickDt, famset := d.f Reg.BRN_CODE_CTL 3 0, seed := d.rd Reg.BRN_CODE_SEED, phases := true,
    key := (d.prf.active.map (fun r => r.key)).getD 0, digest := true,
    chans := (List.range 512).map fun c =>
      let s := d.stp1 c
      let ch := d.chan c
      { c := c, gain := ch.gain, clipRun := ch.clipRun, quietRun := ch.quietRun, wins := s.zooms.map (fun z => z.map (fun w => w.zs)),
        pred := s.pred, row := s.hist.headD [] } }

/-- The seven quantities of a bin of an image. -/
def binImage (e : Nat × Bin) : Nat × List Nat := (e.1, [e.2.n, e.2.g0, e.2.g1, e.2.g2, e.2.g3, e.2.clip, e.2.amp])

/-- The Stipple state of an image at the tick that ends frame `n` (R381). -/
def Dev.ownImage (n : Word) (d : Dev) : List ImageChan :=
  (List.range 512).map fun c =>
    let s := d.stp1 c
    let p := s.store.find? (fun p => p.frame = n)
    { c := c, rows := s.hist, wins := s.zooms.map (fun z => z.map (fun w => w.zs)), pred := s.pred,
      coarse := (p.map (fun p => p.coarse.map binImage)).getD [],
      fine := (p.map (fun p => p.zooms.map (fun z => (z.map (fun w => w.bins.map binImage)).getD []))).getD [] }

/-- PAIR_LINK_UP: the cross-link comes up with the partner's priority and qualification (R369, R381). -/
def Dev.pairLinkUp (prio : Nat) (qual : Bool) (digest : Bool) (d : Dev) : Dev :=
  if !d.straps.pairEn then d
  else
    let d := (d.modMdv (fun m => { m with xlink := true, hbLost := false, partnerPrio := max 1 prio, partnerQual := qual,
                                           partnerSuspect := false, prioSeen := false, digestOff := !digest })).prioCheck
    if d.mdv.active && !qual then d.sendImage else d

/-- REQUAL: the active unit sends a state image; the standby asks its partner for one (R381). -/
def Dev.requal (d : Dev) : Dev :=
  if !d.straps.pairEn || !d.mdv.xlink then d
  else if d.mdv.active then d.sendImage
  else d.modMdv (fun m => { m with asked := true })

/-- Largest payload of a packet of the cross-link: PRESUMED that of the host link, R415 (log 75). -/
def pairPayload : Nat := 512

/-- Send `n` bytes over the cross-link packet by packet: each payload is metered when it starts, and the first that does
not fit the PAIR budget pauses the activity (01 R33). The answer is the bytes that were sent. -/
def Dev.pairBytes (n : Nat) (d : Dev) : Nat × Dev :=
  if d.bite.paused.testBit actPAIR then (0, d)
  else
    let room := d.eff actPAIR - (d.rd (Reg.BIT_METER actPAIR)).toNat
    if n ≤ room then (n, d.charge actPAIR n)
    else
      let k := room / pairPayload * pairPayload
      (k, (d.charge actPAIR k).pause actPAIR)

/-- What the active unit sends over the cross-link in a frame, under the PAIR budget: the epoch of the ended frame
first, then its echo records, then part of an image (R374, R378, R381). An epoch that pauses is abandoned (01 R35). -/
def Dev.pairSend (ended : Word) (records : Nat) (d : Dev) : Dev :=
  if !d.straps.pairEn || !d.mdv.active || !d.mdv.xlink then d
  else
    let e := d.pairBytes epochBytes
    let own : Option Epoch := some (d.ownEpoch ended)
    let d := if e.1 = epochBytes then (e.2.wr Reg.MDV_EPOCH_TX ended).modMdv (fun m => { m with epochOut := own }) else e.2
    let img : Option (Epoch × List ImageChan) := some (d.ownEpoch ended, d.ownImage ended)
    let d := if 0 < d.mdv.imageLeft && d.mdv.imageOut.isNone then d.modMdv (fun m => { m with imageOut := img }) else d
    let d := (d.pairBytes (if d.b Reg.MDV_ECMP_CTL 28 then 32 * records else 0)).2
    let i := d.pairBytes d.mdv.imageLeft
    i.2.modMdv (fun m => { m with imageLeft := m.imageLeft - i.1 })

/-! ## Arbitration commands (R369-R376, R383) -/

/-- HANDOVER: at the servo-sample boundary after the round, shared stages turn on; a unit that takes over from
another applies the epoch that is complete, or marks its records STATE_AGED (R369, R377, R380; 03 R96). -/
def Dev.handover (t : Time) (d : Dev) : Dev :=
  if !d.straps.pairEn || !d.mdv.handoverDue then d
  else
    let d := d.at t
    let ovr := d.mdv.sawOther
    let d := d.modMdv (fun m => { m with stages := true, handoverDue := false, dark := false })
    let d := { d with glb := { d.glb with handover := true } }
    -- the last active word is the first drive word of every axis that is not disabled (03 R96)
    let axis := fun (x : Axis) => if x.st = .disabled then { x with standby := false }
      else { x with standby := false, drive := x.activeDrive, tracked := 2 }
    let d := if ovr then forN 8 (fun a d => d.modAx a axis) d else forN 8 (fun a d => d.modAx a (fun x => { x with standby := false })) d
    if !ovr then d
    else
      let d := ((d.inc Reg.MDV_FAILOVER_CNT).wr64 Reg.MDV_FAILOVER_DT_LO d.now).raise Ev.PAIR_FAILOVER
      let ready : Bool := match d.mdv.epoch with
        | some (e, _) => e.num + 1 = d.glb.frameNum
        | none => false
      if ready then d.epochTick
      else d.modMdv (fun m => { m with aged := d.f Reg.STP_PERS_CTL 10 6, epoch := none })

/-- CLAIM_WATCHDOG_EXPIRY: 5 us without a refresh; the CLAIM driver and every shared stage turn off until the next
round the unit wins (R370, R371, R382). -/
def Dev.claimWdog (d : Dev) : Dev :=
  if !d.straps.pairEn then d
  else
    let d := d.modMdv (fun m => { m.drop with wdog := true })
    d.unqualify

/-- The claim watchdog is refreshed at step 1 of a servo sample (R370). -/
def Dev.refreshClaim (d : Dev) : Dev := if d.on domSERVO then d.modMdv (fun m => { m with wdog := false }) else d

/-- SELF_CHECK_FAIL: check `n` fails; the unit turns off its shared stages and stops bidding (R371, R382). Check 7 is
the partner's digest. -/
def State.selfCheckFail (n : Nat) (s : State) : State :=
  let s := if n = 7 && s.dev.mdv.xlink then s.onDev (fun d => d.modMdv (fun m => { m with digestOff := true })) else s
  if !s.dev.straps.pairEn || s.selfChk.testBit n then s
  else s.onDev (fun d => (d.modMdv Mdv.drop).unqualify)

/-- PAIR_HEARTBEAT_LOSS: two missed heartbeats; the claim rounds show whether the partner or the cross-link failed
(R376). -/
def Dev.heartbeatLoss (d : Dev) : Dev :=
  if !d.straps.pairEn || !d.mdv.xlink then d else d.modMdv (fun m => { m with xlink := false, hbLost := true })

/-- The outcome of the checks after a detection: `ownOk` and `otherOk` tell whether this unit's and its partner's
checks pass (R375). -/
def Dev.resolve (ownOk otherOk : Bool) (d : Dev) : Dev :=
  let activeOk := if d.mdv.active then ownOk else otherOk
  let standbyOk := if d.mdv.active then otherOk else ownOk
  if !activeOk then (if d.mdv.active then (d.modMdv (fun m => { m.drop with stopped := true })).unqualify else d)
  else if !standbyOk then
    (if d.mdv.active then d
     else
      (d.modMdv (fun m => { m.drop with dark := true, qualified := false, image := false, matchRun := 0, since := [] })).raise
        Ev.PAIR_UNQUALIFIED)
  else (d.modMdv (fun m => if m.active then { m with partnerSuspect := true } else { m with suspect := true })).raise
    Ev.PAIR_DISAGREE

/-- MIS_N and N; 0 acts as 1 (R395, R396). -/
def Dev.misN (d : Dev) : Nat := max 1 (d.f Reg.MDV_PAIR_CMP 19 16)
/-- Consecutive frames of an echo detection. -/
def Dev.echoN (d : Dev) : Nat := max 1 (d.f Reg.MDV_ECMP_CTL 27 24)

/-- DRIVE_DETECTION: in the standby, an axis has reached MIS_N mismatches; both units run their checks (R373, R375). -/
def Dev.driveDetect (ownOk otherOk : Bool) (d : Dev) : Dev :=
  if !d.straps.pairEn || !d.mdv.xlink then d
  else if d.mdv.active then d.resolve ownOk otherOk
  else if (List.range 8).any (fun a => decide (d.misN ≤ tabGet 0 d.mdv.driveMis a)) then
    (((d.modMdv (fun m => { m with driveMis := [] })).inc Reg.MDV_DRV_MIS_CNT)).resolve ownOk otherOk
  else d

/-- Channel, echo index, class, SAT and BORROWED of a record, and its time (06 R176-R178). -/
def recChan (r : List Byte) : Nat := leAt r 0 4 % 512
/-- Echo index and class. -/
def recKey (r : List Byte) : Nat × Nat := (leAt r 0 4 / 512 % 4, leAt r 0 4 / 2048 % 8)
/-- The record is left out of the compare: SAT or BORROWED. -/
def recSkip (r : List Byte) : Bool := (leAt r 0 4).testBit 14 || (leAt r 0 4).testBit 23

/-- A channel differs between two sets of records (R374). -/
def chanDiffers (tol c : Nat) (own other : List (List Byte)) : Bool :=
  let a := own.filter (fun r => recChan r = c)
  let b := other.filter (fun r => recChan r = c)
  if b.isEmpty || (a ++ b).any recSkip then false
  else a.map recKey ≠ b.map recKey
    || (a.zip b).any (fun x => decide ((((leAt x.1 4 4 : Nat) : Int) - (leAt x.2 4 4 : Nat)).natAbs > tol))

/-- ECHO_COMPARE: the active unit's records of frame `fr` arrive (R374). -/
def Dev.echoCompare (fr : Word) (other : List (List Byte)) (d : Dev) : Dev :=
  if !d.isStandby || !d.mdv.xlink || !d.b Reg.MDV_ECMP_CTL 28 || fr ≠ d.mdv.recFrame then d
  else
    let cs := ((other.map recChan) ++ (d.mdv.recs.map recChan)).eraseDups
    let n := (cs.filter (fun c => chanDiffers (d.f Reg.MDV_ECMP_CTL 15 0) c d.mdv.recs other)).length
    let bad := decide (d.f Reg.MDV_ECMP_CTL 23 16 < n)
    d.modMdv (fun m => { m with echoMis := if bad then m.echoMis + 1 else 0 })

/-- ECHO_DETECTION: N consecutive mismatching frames (R374, R375). -/
def Dev.echoDetect (ownOk otherOk : Bool) (d : Dev) : Dev :=
  if !d.straps.pairEn || !d.mdv.xlink then d
  else if d.mdv.active then d.resolve ownOk otherOk
  else if d.echoN ≤ d.mdv.echoMis then
    ((d.modMdv (fun m => { m with echoMis := 0 })).inc Reg.MDV_ECMP_MIS_CNT).resolve ownOk otherOk
  else d

/-- SUSPECT_CLR (R375). -/
def Dev.suspectClr (d : Dev) : Dev := d.modMdv (fun m => { m with suspect := false })

/-- YIELD: the active unit stops bidding from the next round while the partner is qualified and not suspect (R383). -/
def Dev.yieldClaim (d : Dev) : Dev :=
  if d.straps.pairEn && d.mdv.active && d.mdv.partnerQual && !d.mdv.partnerSuspect then
    d.modMdv (fun m => { m with yielding := true })
  else d.raise Ev.PAIR_YIELD_REFUSED

/-- TICK_ANNOUNCEMENT: the standby takes its next internal-source tick at the DT announced (R366). -/
def Dev.tickAnnounced (dt : Time) (d : Dev) : Dev :=
  if d.isStandby && d.mdv.xlink then d.modMdv (fun m => { m with announced := some dt }) else d

/-- The DT of the next tick that the active unit announces to its partner, one frame ahead, with the internal source (R366). -/
def Dev.announces (d : Dev) : Option Time :=
  if d.straps.pairEn && d.mdv.active && d.mdv.xlink && d.glb.src = .internal
  then some (d.glb.start + d.f Reg.GLB_FRAME_LEN 19 0 * ns) else none

/-- The integrator that makes the KI contribution equal an integral contribution `i` (03 R95). -/
def alignSigma (ki i : Int) (x : Axis) : Axis :=
  if ki = 0 then { x with ih := i, integ := i }
  else
    let n := i * 16777216
    { x with sigma := sat40 (if ki < 0 then roundDiv (-n) ki.natAbs else roundDiv n ki.natAbs), integ := i }

/-- CROSSLINK_DRIVE_WORD: the standby compares its own word with the active unit's, then aligns its axis: the
integrator and the output history of the last biquad (03 R95; R373). `run` tells that the active unit's axis is in
RUN. -/
def Dev.driveWord (a : Nat) (drive contrib : Int) (run : Bool) (d : Dev) : Dev :=
  if !d.isStandby || !d.mdv.xlink then d
  else
    let x := d.ax a
    let counts := run && x.st = .run && x.tracked = 0
    let off := decide (d.f Reg.MDV_PAIR_CMP 15 0 < (x.drive - drive).natAbs)
    let d := d.modMdv (fun m => { m with
      driveMis := tabPut 0 m.driveMis a (if counts && off then tabGet 0 m.driveMis a + 1 else 0) })
    let ki := (d.coef a x.region).2.1
    let x := alignSigma ki contrib x
    let b2 := x.biq.getD 2 {}
    d.setAx a { x with biq := setAt x.biq 2 { b2 with y1 := drive }, activeDrive := drive, standby := true }

/-! ## Views (R395, R396) -/

/-- Fields of MDV.STATUS. -/
def Dev.mdvStatus (d : Dev) : Word :=
  let m := d.mdv
  let role := if !d.straps.pairEn then 0 else if m.active then 1 else if m.dark then 3 else 2
  word (role + b2n m.suspect * 4 + b2n m.qualified * 8 + b2n m.xlink * 16 + d.cascRole * 256)

/-- MDV.CLAIM. -/
def Dev.claimWord (d : Dev) : Word :=
  word (d.claimNum + d.mdv.winner * 256 + b2n d.mdv.bidding * 65536 + b2n d.mdv.stages * 131072)

/-- MDV.QUAL. -/
def Dev.qualWord (d : Dev) : Word := word (d.mdv.matchRun + b2n d.mdv.image * 256)

/-- A gap-alarm output: its level, or none for high impedance (R394; 17 R497). -/
def Dev.gaOut (d : Dev) (g : Nat) : Option Bool :=
  if !d.on domCORE || d.pwr.held.testBit domCORE || d.sec.bscan || !d.b Reg.MDV_GA_CTL (8 + g)
    || (d.b Reg.MDV_GA_CTL (16 + g) && !d.drives) then none
  else some (d.b Reg.MDV_GA_CTL g)

end Sys2Proof.Machine
end

