-- ==== Sys2Proof/Machine/Cascade.lean ====
section
/-! DEFINITION. The cascade: role, alignment, ticks, seeds and master loss (13 R385-R393). -/
namespace Sys2Proof.Machine

/-- The unit is the enabled master, and its wait for members has ended. -/
def Dev.cascMaster (d : Dev) : Bool := d.cascOn && d.cascRole = 2 && !d.mdv.peerWait

/-- TICK_LEAD in DT. -/
def Dev.tickLead (d : Dev) : Time := d.f Reg.MDV_TICK_LEAD 15 0 * ns

/-- TICK_LEAD covers the largest delay (R389). -/
def Dev.leadOk (d : Dev) : Bool := decide (d.mdv.maxDelay + 500 * ns ≤ d.tickLead)

/-- The longest that a frame of the source in effect lasts before its tick or a substitute for it, in ns (01 R12, R14). -/
def Dev.longest (d : Dev) : Nat :=
  if d.glb.src = .internal then d.f Reg.GLB_FRAME_LEN 19 0 else d.f Reg.GLB_FRAME_MAX 19 0

/-- The master sends SEED with new values for a tick at least 2 frames ahead; how far ahead is free (R391). It names the
instant by which frames of the greatest length would have brought the third tick from here, so that two whole frames lie
before it at whatever pace the source ticks. -/
def Dev.sendSeed (fam : Nat) (code : Word) (d : Dev) : Dev :=
  let k := d.drawN 4
  let d := k.2
  let dt := d.glb.start + (3 + k.1) * (max d.longest d.planLen * ns)
  let seed : Option Seed := some { dt := dt, famBase := fam, code := code }
  (d.modMdv (fun m => { m with seed := seed })).cascSend 5 0 fam dt code.toNat true

/-- A seed applies at the first tick at or after the one it names: position p uses family set FAM_BASE + p
(R391). -/
def Dev.seedTick (d : Dev) : Dev :=
  match d.mdv.seed with
  | none => d
  | some x =>
    if d.now < x.dt then d
    else
      let d := d.setF Reg.BRN_CODE_CTL 3 0 ((x.famBase + d.cascPos) % 16)
      let d := (d.wr Reg.BRN_CODE_SEED (x.code &&& 0x7FFFFFFF)).modMdv (fun m => { m with seed := none })
      d.raise Ev.CASC_SEED_APPLIED

/-- Writable bits of CASC_CTL (R396). -/
def cascMask : Nat := 0xF13FF

/-- A part that stops being an enabled member runs on the internal source at once where the cascade source was in effect
(01 R17). Its next tick falls FRAME_LEN after the last one, or now where that instant has passed: DESIGN CHOICE (log 18).
A tick that was deferred under the cascade source is given up. -/
def Dev.leaveCascade (d : Dev) : Dev :=
  if d.glb.src = .cascade && !d.cascMember then
    { d with glb := { d.glb with src := .internal, notBefore := d.now, deferred := false, deferFr := none } }
  else d

/-- CASC_CTL_WRITE: written only while EN = 0, but for a write that clears EN and, on the master, one that changes
only FAM_BASE (R385). A master that is enabled waits for its members (R392), unless its TICK_LEAD is refused (R389). -/
def Dev.cascCtl (val : Word) (d : Dev) : Dev :=
  let old := (d.rd Reg.MDV_CASC_CTL).toNat
  let new := val.toNat &&& cascMask
  if !old.testBit 12 then
    let d := d.wrN Reg.MDV_CASC_CTL new
    if !new.testBit 12 || d.cascRole = 0 then d
    else if d.cascRole = 2 then
      if d.leadOk then
        (d.wr Reg.MDV_CASC_PEERS 0).modMdv (fun m => { m with peerWait := true, leadFail := false, ticks := [], srcAt := 0 })
      else ((d.wrN Reg.MDV_CASC_CTL (clrBit new 12)).modMdv (fun m => { m with leadFail := true })).raise Ev.CASC_LATE
    else d.modMdv (fun m => { m with joined := false, aligned := false, seeded := false, ticks := [] })
  else if !new.testBit 12 then
    ((d.wrN Reg.MDV_CASC_CTL new).modMdv (fun m => { m with
      joined := false, aligned := false, seeded := false, peerWait := false, ticks := [], seed := none, laneUp := false,
      maxDelay := 0 })).leaveCascade
  else if d.cascRole = 2 && new % 65536 = old % 65536 then
    (d.wrN Reg.MDV_CASC_CTL new).sendSeed (bitsN new 19 16) ((d.mdv.seed.map (fun x => x.code)).getD (d.rd Reg.BRN_CODE_SEED))
  else d

/-- A write of TICK_LEAD: an enabled master refuses one that does not cover the largest delay (R389). -/
def Dev.tickLeadWrite (val : Word) (d : Dev) : Dev :=
  let n := fld val 15 0
  if d.cascOn && d.cascRole = 2 && decide (n * ns < d.mdv.maxDelay + 500 * ns) then
    (d.modMdv (fun m => { m with leadFail := true })).raise Ev.CASC_LATE
  else (d.wrN Reg.MDV_TICK_LEAD n).modMdv (fun m => { m with leadFail := false })

/-- The master sends the SEED of the values in force or already on their way (R391). -/
def Dev.sendSeedNow (d : Dev) : Dev :=
  d.sendSeed ((d.mdv.seed.map (fun x => x.famBase)).getD (d.f Reg.MDV_CASC_CTL 19 16))
    ((d.mdv.seed.map (fun x => x.code)).getD (d.rd Reg.BRN_CODE_SEED))

/-- A host write of the master's CODE_SEED while the cascade is enabled (02 R56; R391). -/
def Dev.seedWrite (val : Word) (d : Dev) : Dev :=
  d.sendSeed ((d.mdv.seed.map (fun x => x.famBase)).getD (d.f Reg.MDV_CASC_CTL 19 16)) (val &&& 0x7FFFFFFF)

/-- A member joins once it has aligned and received a SEED (R392). -/
def Dev.cascJoin (d : Dev) : Dev :=
  if d.cascMember && d.mdv.aligned && d.mdv.seeded && !d.mdv.joined then
    (d.modMdv (fun m => { m with joined := true })).raise Ev.CASC_JOIN
  else d

/-- CASC_ALIGN: an ALIGN exchange with position `pos` gives a delay from the master in DT. A member's first one
corrects its DT: forward at once when it is behind (R390). The master learns that the position is present, and sends a SEED
when the last of the positions it waits for has come, or for one that joins later (R391, R392). -/
def Dev.cascAlign (pos delay : Nat) (step : Int) (d : Dev) : Dev :=
  if !d.cascOn then d
  else
    let d := d.modMdv (fun m => { m with laneUp := true })
    if d.cascRole = 2 then
      let late := !d.mdv.peerWait && !d.b Reg.MDV_CASC_PEERS pos
      let d := (d.setB Reg.MDV_CASC_PEERS pos true).modMdv (fun m => { m with maxDelay := max m.maxDelay (delay % 2 ^ 24) })
      let all := (List.range (d.cascDevices)).all (fun p => p = 0 || d.b Reg.MDV_CASC_PEERS p)
      if late || (d.mdv.peerWait && all) then (d.modMdv (fun m => { m with peerWait := false })).sendSeedNow else d
    else
      let d := d.wrN Reg.MDV_CASC_DLY (delay % 2 ^ 24)
      if d.mdv.aligned then d
      else
        let d := d.wr64 Reg.MDV_DT_STEP_LO (ofSigned 64 step)
        let d := if 0 < step then d.at (d.now + step.toNat) else d
        (d.modMdv (fun m => { m with aligned := true })).cascJoin

/-- CASC_SEED_MESSAGE: a member takes the values for the tick that the SEED names (R391, R392). -/
def Dev.cascSeed (fam : Nat) (code : Word) (dt t : Time) (crc : Bool) (d : Dev) : Dev :=
  d.cascReceive false crc { typ := 5, pos := 0, plate := 0, arg := fam, dt := dt, payload := code.toNat } t fun d =>
    if !d.cascMember then d
    else
      let seed : Option Seed := some { dt := dt, famBase := fam, code := code }
      (((d.at t).modMdv (fun m => { m with seed := seed, seeded := true }))).cascJoin

/-- CASC_TICK_MESSAGE: a joined member schedules the tick; one received after its DT is taken on arrival (R389). -/
def Dev.cascTick (fr : Word) (dt t : Time) (crc : Bool) (d : Dev) : Dev :=
  d.cascReceive false crc { typ := 3, pos := 0, plate := 0, arg := 0, dt := dt, payload := fr.toNat } t fun d =>
    if !d.cascMember || !d.mdv.joined then d
    else
      let d := d.at t
      if dt < t then
        ((d.modMdv (fun m => { m with ticks := m.ticks ++ [{ dt := t, fr := fr, kind := .cascade }] })).inc Reg.MDV_CASC_LATE_CNT).raise Ev.CASC_LATE
      else d.modMdv (fun m => { m with ticks := m.ticks ++ [{ dt := dt, fr := fr, kind := .cascade }] })

/-- The master sends TICK at a source instant and schedules its own tick TICK_LEAD later (R389). -/
def Dev.masterTick (k : TickKind) (t : Time) (d : Dev) : Dev :=
  let d := d.at t
  let dt := t + d.tickLead
  let fr := d.glb.frameNum + 1 + BitVec.ofNat 32 d.mdv.ticks.length
  (d.modMdv (fun m => { m with ticks := m.ticks ++ [{ dt := dt, fr := fr, kind := k }], srcAt := t })).cascSend 3 0 0 dt fr.toNat false

/-- CASC_MASTER_LOST: a member receives no BEAT for 64 us and runs free (R393). -/
def Dev.masterLost (d : Dev) : Dev :=
  if !d.cascMember || d.mdv.freerun then d
  else
    (d.modMdv (fun m => { m with freerun := true, joined := false, aligned := false, seeded := false, ticks := [],
                                  laneUp := false })).raise Ev.CASC_MASTER_LOST

/-- CASC_PEER_WAIT_EXPIRY: the cascade runs without the positions that are absent (R392). -/
def Dev.peerWaitEnd (d : Dev) : Dev :=
  if !d.mdv.peerWait then d
  else
    let missing := (List.range (d.cascDevices)).any (fun p => p ≠ 0 && !d.b Reg.MDV_CASC_PEERS p)
    let d := (d.modMdv (fun m => { m with peerWait := false })).raiseIf missing Ev.CASC_PEER_MISSING
    d.sendSeedNow

/-- MDV.CASC_STATUS (R396). -/
def Dev.cascStatus (d : Dev) : Word :=
  word (b2n d.mdv.laneUp + b2n d.mdv.freerun * 2 + b2n d.mdv.joined * 4 + b2n d.mdv.leadFail * 8)

end Sys2Proof.Machine
end

