-- ==== Sys2Proof/Machine/Descriptors.lean ====
section
/-! DEFINITION. The descriptor types that move data or load tables (15 R445-R455; 06 R180; 16 R480). -/
namespace Sys2Proof.Machine

/-- Bytes of an activity's queued packets whose host addresses lie in [lo, hi). -/
def Dev.unsent (d : Dev) (act lo hi : Nat) : Nat :=
  ((d.lnk.txq.filter (fun p => p.act = some act && decide (lo ≤ p.addr) && decide (p.addr < hi))).map
    (fun p => p.payload.length)).sum

/-- Change the descriptor engine. -/
def Dev.modDsc (f : Dsc → Dsc) (d : Dev) : Dev := { d with dsc := f d.dsc }

/-! ## STREAM_ECHO (R447; 01 R35) -/

/-- Room that one frame block may need. -/
def blockRoom : Nat := 65568

/-- The header of a frame block. -/
def Block.header (b : Block) (discarded : Nat) : List Byte :=
  leBytes 4 b.frame.toNat ++ leBytes 4 b.recs.length ++ leBytes 8 b.dt ++ leBytes 4 discarded ++ leBytes 4 b.flags
  ++ leBytes 8 0

/-- The active STREAM_ECHO completes once it is full and its blocks have been sent; the next queued one takes over. The
first frame number of a buffer without a block is a free value: the spec states none. -/
def Dev.streamEnd (d : Dev) : Dev :=
  match d.dsc.stream with
  | some s =>
    if !s.full || d.lnk.txq.any (fun p => p.act = some actECHO) then d
    else
      let fr := if s.blocks = 0 then d.drawN 32 else (s.firstFrame, d)
      let d := fr.2.modDsc (fun q => { q with
        stream := q.streamQ.head?.map (fun x => ({ desc := x, offset := 0, blocks := 0, firstFrame := 0, lost := 0,
                                                   full := false } : Stream)),
        streamQ := q.streamQ.drop 1 })
      d.done s.desc stOK (s.offset - s.lost) (leBytes 4 s.blocks ++ leBytes 4 fr.1)
  | none => d

/-- FRAMES of a STREAM_ECHO. -/
def streamFrames (x : Desc) : Nat := descPar x 32 4

/-- Write a frame block into the active buffer, or let it wait for one. -/
def Dev.putBlock (b : Block) (d : Dev) : Dev :=
  match d.dsc.stream with
  | none => d.modDsc (fun q => { q with waiting := some b })
  | some s =>
    let bs := b.header d.dsc.discarded ++ b.recs.flatten
    let n := d.maxPay
    let pk := (chunks n bs.length bs).zipIdx.map fun (c, i) =>
      ({ typ := .memwr, act := some actECHO, addr := s.desc.addrA + s.offset + n * i, words := (c.length + 3) / 4, payload := c,
         recs := c.length / 32 - (if i = 0 then 1 else 0) } : Packet)
    let ofs := s.offset + bs.length
    let s : Stream := { s with
      last := bs.length, lastDisc := d.dsc.discarded, offset := ofs, blocks := s.blocks + 1, firstFrame := if s.blocks = 0 then b.frame.toNat else s.firstFrame,
      full := s.full || decide (s.desc.lenA < ofs + blockRoom)
        || (streamFrames s.desc ≠ 0 && decide (streamFrames s.desc ≤ s.blocks + 1)) }
    let d := d.modDsc (fun q => { q with stream := some s, discarded := 0, waiting := none })
    ({ d with lnk := { d.lnk with txq := d.lnk.txq ++ pk } }.pump).streamEnd

/-- STREAM_ECHO. -/
def Dev.streamEcho (x : Desc) (d : Dev) : Dev :=
  let good := descNoB x && descUnusedZero x [32, 33, 34, 35] && decide (blockRoom ≤ x.lenA)
  Dev.dispatch x good (fun _ => true) (fun d =>
    if !d.on domACQ then d.finish x stNOT_READY
    else if d.dsc.stream.isSome then d.modDsc (fun q => { q with streamQ := q.streamQ ++ [x] })
    else
      let s : Stream := { desc := x, offset := 0, blocks := 0, firstFrame := 0, lost := 0, full := false }
      let d := d.modDsc (fun q => { q with stream := some s })
      match d.dsc.waiting with
      | some b => d.putBlock b
      | none => d) d

/-- The latest block is taken back when no byte of it was sent: the buffer then holds no part of it, and its records and
those that its header reports stay to be reported (R447; 01 R35). -/
def Stream.takeBack (s : Stream) : Stream :=
  { s with offset := s.offset - s.last, blocks := s.blocks - 1, last := 0, lastDisc := 0, full := s.ending }

/-- At a tick, records of the frame before that were not delivered are discarded (01 R35). -/
def Dev.echoDrop (d : Dev) : Dev :=
  let isEcho := fun (p : Packet) => p.act = some actECHO
  let gone := d.lnk.txq.filter isEcho
  let n := (gone.map (fun p => p.recs)).sum + ((d.dsc.waiting.map (fun b => b.recs.length)).getD 0)
  let bytes := (gone.map (fun p => p.payload.length)).sum
  let d := { d with lnk := { d.lnk with txq := d.lnk.txq.filter (fun p => !isEcho p) } }
  let whole := match d.dsc.stream with
    | some s => bytes ≠ 0 && bytes = s.last
    | none => false
  let d := d.modDsc (fun q => { q with
    waiting := none,
    discarded := q.discarded + n + (if whole then ((q.stream.map (fun s => s.lastDisc)).getD 0) else 0),
    stream := q.stream.map (fun (s : Stream) => if whole then s.takeBack else { s with lost := s.lost + bytes }) })
  (if n = 0 then d else (d.add Reg.BIT_DROP_ECHO n).raiseOnce Ev.BIT_DROP).streamEnd

/-- No block follows: the active buffer is complete (R447, R480). -/
def Dev.streamStop (d : Dev) : Dev :=
  (d.modDsc (fun q => { q with stream := q.stream.map (fun (s : Stream) => { s with full := true, ending := true }) })).streamEnd

/-! ## HIST_DUMP (06 R180) -/

/-- A dump store that holds no frame yet. -/
def noPublished : Published :=
  { frame := 0, coarse := [], zooms := [none, none], coarseShots := 0, fineShots := 0, winOfs := 0, bg := 0, gain := 0, mode := 0 }

/-- The dump of a channel's latest published frame. -/
def Dev.dumpOf (d : Dev) (c : Nat) : List Byte := d.dumpBytes c ((d.dumpStore c).getD noPublished)

/-- Channels of a HIST_DUMP. -/
def dumpChans (x : Desc) : List Nat := (List.range (descPar x 34 2)).map (fun i => descPar x 32 2 + i)

/-- The dumps whose bytes have all been sent complete. -/
def Dev.dumpsGo (d : Dev) : Dev :=
  let sent := fun (w : Dump) => d.unsent actHIST w.desc.addrA (w.desc.addrA + w.len) = 0
  let fin := d.dsc.dumps.filter sent
  let d := d.modDsc (fun q => { q with dumps := q.dumps.filter (fun w => !sent w) })
  fin.foldl (fun d w => d.done w.desc stOK w.len []) d

/-- HIST_DUMP: bytes follow from DUMP_CTL and from the windows placed in the frame dumped. -/
def Dev.histDump (x : Desc) (d : Dev) : Dev :=
  let bs := (dumpChans x).flatMap d.dumpOf
  let good := descNoB x && descUnusedZero x [32, 33, 34, 35] && decide (1 ≤ descPar x 34 2) && decide (descPar x 34 2 ≤ 512)
    && decide (descPar x 32 2 + descPar x 34 2 ≤ 512) && decide (bs.length ≤ x.lenA)
  Dev.dispatch x good (fun _ => true) (fun d =>
    if !d.on domACQ then d.finish x stNOT_READY
    else
      let d := d.modDsc (fun q => { q with dumps := q.dumps ++ [{ desc := x, len := bs.length, age := 0 }] })
      (d.memWrite (some actHIST) x.addrA bs).dumpsGo) d

/-- Dumps that a condition selects end TRUNCATED; what was not sent is dropped (01 R35; 16 R480). -/
def Dev.dumpCut (p : Dump → Bool) (d : Dev) : Dev :=
  let fin := d.dsc.dumps.filter p
  let d := d.modDsc (fun q => { q with dumps := q.dumps.filter (fun w => !p w) })
  fin.foldl (fun d w =>
    let lo := w.desc.addrA
    let left := d.unsent actHIST lo (lo + w.len)
    let keep := fun (k : Packet) => !(k.act = some actHIST && decide (lo ≤ k.addr) && decide (k.addr < lo + w.len))
    ({ d with lnk := { d.lnk with txq := d.lnk.txq.filter keep } }).done w.desc stTRUNCATED (w.len - left) []) d

/-- A tick: a dump not finished at the second tick after publication is truncated. -/
def Dev.dumpTick (d : Dev) : Dev :=
  let d := d.modDsc (fun q => { q with dumps := q.dumps.map (fun (w : Dump) => { w with age := w.age + 1 }) })
  d.dumpCut (fun w => decide (2 ≤ w.age))

/-! ## PLATE_DRAIN (R448; 07 R215, R216, R222) -/

/-- Slot of a segment in the acquisition of a plate. -/
def Plt.slotOf (x : Plt) (seq : Nat) : Nat := if x.ring = 0 then seq else seq % x.ring

/-- Slot size of a plate's acquisition, or of its settings before one. -/
def Dev.drainSlot (d : Dev) (p : Nat) : Nat := let n := (d.plt p).slotSize; if n = 0 then d.slotSizeOf p else n

/-- A drain completes. `short` says that its acquisition ended first. The first overwritten segment of a drain without
one is a free value. -/
def Dev.drainEnd (w : Drain) (short : Bool) (d : Dev) : Dev :=
  let st := if w.memErr then stMEM_ERROR else if 0 < w.overwritten then stOVERWRITTEN else if short then stPARTIAL else stOK
  let fo := if w.overwritten = 0 then d.drawN 32 else (w.firstOver, d)
  fo.2.done w.desc st w.written (leBytes 4 w.overwritten ++ leBytes 4 fo.1)

/-- No further segment of the acquisition will be committed. -/
def Plt.ovr (x : Plt) : Bool := !x.acquiring && x.buf.isEmpty && x.closing.isEmpty && x.work.isNone

/-- The oldest segment of the capture buffer is being written over a slot (07 R216). -/
def Plt.overwriting (x : Plt) (slot : Nat) : Bool :=
  match x.buf with
  | o :: _ => decide (o.slot = slot) && decide (0 < o.done)
  | [] => false

/-- Advance a drain as far as it goes; none once it has completed. -/
def Dev.drainGo : Nat → Drain → Dev → Option Drain × Dev
  | 0, w, d => (some w, d)
  | n + 1, w, d =>
    let size := d.drainSlot w.plate
    let lo := w.desc.addrA + w.pos
    if w.moving then
      if d.unsent actXFER (lo - size) lo ≠ 0 then (some w, d)
      else Dev.drainGo n { w with moving := false, next := w.next + 1, left := w.left - 1 } d
    else if w.left = 0 then (none, d.drainEnd w false)
    else
      let x := d.plt w.plate
      let slot := x.slotOf w.next
      let v := tabGet 0 x.slots slot
      let gone := v = w.next + 1 && x.overwriting slot
      if v = w.next + 1 && !gone then
        if !d.wave.mem.ready then (some w, d)
        else
          let a := x.base + slot * size
          let r := (List.range (size / 64)).foldl (fun (r : Bool × List Byte × Dev) i =>
            let c := r.2.2.readBurst (a / 64 + i)
            (r.1 || c.1, r.2.1 ++ c.2.1, c.2.2)) (false, [], d)
          let d := r.2.2.memWrite (some actXFER) lo r.2.1
          Dev.drainGo n { w with moving := true, pos := w.pos + size, written := w.written + size, memErr := w.memErr || r.1 } d
      else if gone || w.next + 1 < v then
        Dev.drainGo n { w with
          pos := w.pos + size, next := w.next + 1, left := w.left - 1, overwritten := w.overwritten + 1,
          firstOver := if w.overwritten = 0 then w.next else w.firstOver } d
      else if x.ovr then (none, d.drainEnd w true)
      else (some w, d)

/-- Advance every drain. -/
def Dev.drainsGo (d : Dev) : Dev :=
  let ws := d.dsc.drains
  ws.foldl (fun d w =>
    let r := Dev.drainGo (2 * w.left + 2) w (d.modDsc (fun q => { q with drains := q.drains.filter (fun v => v.desc ≠ w.desc) }))
    match r.1 with
    | some v => r.2.modDsc (fun q => { q with drains := q.drains ++ [v] })
    | none => r.2) d

/-- PLATE_DRAIN. -/
def Dev.plateDrain (x : Desc) (d : Dev) : Dev :=
  let p := descPar x 32 1
  let n := descPar x 40 4
  let good := descNoB x && descUnusedZero x [32, 36, 37, 38, 39, 40, 41, 42, 43] && decide (p < 8)
    && decide (n * d.drainSlot p ≤ x.lenA)
  Dev.dispatch x good (fun _ => true) (fun d =>
    if !d.on domWAVE || !d.on domMEM || !d.wave.mem.ready then d.finish x stNOT_READY
    else
      let w : Drain := { desc := x, plate := p, next := descPar x 36 4, left := n, moving := false, pos := 0, written := 0,
                         overwritten := 0, firstOver := 0, memErr := false }
      (d.modDsc (fun q => { q with drains := q.drains ++ [w] })).drainsGo) d

/-! ## ACQ_START, ACQ_STOP and PLATE_ARM: dispatch (R445, R480; 07 R221) -/

/-- A descriptor waits for the first tick after its dispatch. -/
def Dev.waitTick (k : AtTick) (x : Desc) (d : Dev) : Dev := d.modDsc (fun q => { q with atTick := q.atTick ++ [(k, x)] })

/-- ACQ_START. -/
def Dev.acqStart (x : Desc) (d : Dev) : Dev :=
  Dev.dispatch x (descNoA x && descNoB x && descUnusedZero x []) (fun _ => true) (fun d =>
    if !d.on domACQ || d.leaving domACQ then d.finish x stNOT_READY else d.waitTick .acqStart x) d

/-- ACQ_STOP. -/
def Dev.acqStop (x : Desc) (d : Dev) : Dev :=
  let good := descNoA x && descNoB x && descUnusedZero x [32, 33] && decide (descPar x 32 1 ≤ 1)
  Dev.dispatch x good (fun _ => true) (fun d =>
    if (descPar x 32 1 = 1 && !d.on domACQ) || (descPar x 33 1 ≠ 0 && !d.on domWAVE) then d.finish x stNOT_READY
    else d.waitTick .acqStop x) d

/-- PLATE_ARM. -/
def Dev.plateArm (x : Desc) (d : Dev) : Dev :=
  let good := descNoA x && descNoB x && descUnusedZero x [32, 33] && decide (descPar x 32 1 < 8) && decide (descPar x 33 1 ≤ 1)
  Dev.dispatch x good (fun _ => true) (fun d =>
    if !d.on domWAVE || d.leaving domWAVE || !d.wave.mem.ready then d.finish x stNOT_READY else d.waitTick .plateArm x) d

/-- ACQ_STOP takes effect: ranging stops, a borrowing calibration run aborts, and the plates of its mask stop (R445; 09 R268). -/
def Dev.acqStopNow (x : Desc) (d : Dev) : Dev :=
  let d := if descPar x 32 1 = 1 then let d := d.stopAbort; { d with brn := { d.brn with ranging := false } } else d
  forN 8 (fun p d => if (descPar x 33 1).testBit p then d.pltStop p d.now else d) d

/-- Waiting descriptors of a kind, which leave the list. -/
def Dev.takeAtTick (k : AtTick) (d : Dev) : List Desc × Dev :=
  (((d.dsc.atTick.filter (fun e => e.1 = k)).map (fun e => e.2)),
   d.modDsc (fun q => { q with atTick := q.atTick.filter (fun e => e.1 ≠ k) }))

/-- ACQ goes off: what its descriptors still do ends (16 R480). -/
def Dev.acqEnd (d : Dev) : Dev :=
  let d := (List.range (d.dsc.streamQ.length + 1)).foldl (fun d _ => d.streamStop) d
  let d := d.dumpCut (fun _ => true)
  let r := d.takeAtTick .acqStop
  let d := r.1.foldl (fun d x => (d.acqStopNow x).finish x stOK) r.2
  let r := d.takeAtTick .acqStart
  r.1.foldl (fun d x => d.finish x stNOT_READY) r.2

/-! ## CONFIG_APPLY (R453-R455) -/

/-- A register that an image may write: mapped, with access RW, RWT or RWP, outside DSC, PWR and SEC (R454). -/
def imageMay (off : Nat) : Bool :=
  let blocked := (decide (0xE00000 ≤ off) && decide (off < 0xFC0000))
  match rowOf off with
  | some (r, _) => !blocked && off % 4 = 0 && (r.acc = .rw || r.acc = .rwt || r.acc = .rwp)
  | none => false

/-- The values of a run: n words to consecutive registers. -/
def runVals (bs : List Byte) (off : Nat) (n : Nat) : Option (List (Nat × Word)) :=
  let l := (List.range n).map (fun i => (off + 4 * i, word (leAt bs (4 * i) 4)))
  if l.all (fun v => imageMay v.1) then some l else none

/-- The runs of a section body; none for a format failure. -/
def imgRuns : Nat → List Byte → Option (List (Nat × Word))
  | 0, _ => none
  | fuel + 1, bs =>
    if bs.isEmpty then some []
    else
      let off := leAt bs 0 3
      let n := leAt bs 4 4
      if n < 1 || 4096 < n || bs.length < 8 + 4 * n then none
      else
        match runVals (bs.drop 8) off n, imgRuns fuel (bs.drop (8 + 4 * n)) with
        | some l, some r => some (l ++ r)
        | _, _ => none

/-- The sections of an image, `n` of them, which end with the body. -/
def imageGo : Nat → List Byte → Option (List (Nat × Word))
  | 0, bs => if bs.isEmpty then some [] else none
  | n + 1, bs =>
    let len := leAt bs 4 4
    let pad := (len + 3) / 4 * 4
    if bs.length < 8 + pad then none
    else
      let typ := leAt bs 0 2
      let own := if typ = 1 then imgRuns (len + 1) ((bs.drop 8).take len)
        else if typ ≠ 2 && leAt bs 2 1 % 2 = 1 then none else some []
      match own, imageGo n (bs.drop (8 + pad)) with
      | some l, some r => some (l ++ r)
      | _, _ => none

/-- The identifier and the values of an image; none for a format failure. -/
def parseConfig (bs : List Byte) : Option (Nat × List (Nat × Word)) :=
  if bs.length < 36 || 262144 < bs.length || leAt bs 0 4 ≠ 0x43464701 || leAt bs 4 2 ≠ 1 || leAt bs 8 4 ≠ bs.length || !crcOk bs
  then none
  else (imageGo (leAt bs 6 2) ((bs.take (bs.length - 4)).drop 32)).map (fun l => (leAt bs 12 4, l))

/-- A staged image is replaced or dropped: its descriptor completes ABORTED (R455). -/
def Dev.dropImage (d : Dev) : Dev :=
  match d.glb.image with
  | some i => ({ d with glb := { d.glb with image := none } }.setF Reg.DSC_CFG_STATUS 9 8 3).finish i.flight stABORTED
  | none => d

/-- The first LEN_A bytes of a host buffer as read. -/
def readA (x : Desc) (data : Option (List Byte)) : Option (List Byte) := data.map (fun bs => bs.take x.lenA)

/-- CONFIG_APPLY: an image that passes is staged for the tick; a format failure returns registers to defaults there. -/
def Dev.configApply (x : Desc) (data : Option (List Byte)) (d : Dev) : Dev :=
  Dev.dispatch x (descNoB x && descUnusedZero x []) (fun _ => true) (fun d =>
    match readA x data with
    | none => d.finish x stREAD_FAIL
    | some bs =>
      match if bs.length = x.lenA then parseConfig bs else none with
      | none =>
        let d := d.dropImage.setF Reg.DSC_CFG_STATUS 9 8 2
        ({ d with glb := { d.glb with toDefaults := true } }.raise Ev.CFG_FORMAT).finish x stFORMAT
      | some (id, vals) =>
        let d := d.dropImage
        { d with glb := { d.glb with image := some { ident := id, vals := vals, flight := x } } }) d

/-! ## TABLE_LOAD (R445, R450; 02 R54) -/

/-- A code table's own checks (R450). -/
def codeTableOk (bs : List Byte) : Bool := bs.length = 8200 && leAt bs 0 4 = 0x42524301 && crcOk bs

/-- Put values at consecutive keys of a table with default 0. -/
def putFrom : Tab Nat → Nat → List Nat → Tab Nat
  | m, _, [] => m
  | m, k, v :: vs => putFrom (tabPut 0 m k v) (k + 1) vs

/-- A code table arrives: it waits for the tick, or is rejected (02 R54). -/
def Dev.loadCode (bs : List Byte) (d : Dev) : Bool × Dev :=
  if codeTableOk bs then
    let vals := (List.range 4096).map (fun i => leAt bs (4 + 2 * i) 2)
    (true, { d with brn := { d.brn with shadow := some (putFrom [] 0 vals) } })
  else (false, d.raise Ev.BRN_TABLE_REJECT)

/-- The domain that a table class belongs to. -/
def tableDomain (cls : Nat) : Nat :=
  if cls = 1 then domSERVO else if cls = 4 then domWAVE else if cls = 5 then domCORE else domACQ

/-- TABLE_LOAD. -/
def Dev.tableLoad (x : Desc) (data : Option (List Byte)) (d : Dev) : Dev :=
  let cls := descPar x 32 1
  let good := descNoB x && descUnusedZero x [32] && decide (1 ≤ cls) && decide (cls ≤ 5)
  Dev.dispatch x good (fun _ => true) (fun d =>
    if !d.on (tableDomain cls) then d.finish x stNOT_READY
    else
      match readA x data with
      | none => d.finish x stREAD_FAIL
      | some bs =>
        if cls = 4 then
          let r := d.loadBank bs x
          if r.1 then r.2.2.finish x (if r.2.1 then stOK else stFORMAT) else r.2.2
        else
          let r := if cls = 1 then d.loadServo bs else if cls = 2 then d.loadCode bs
            else if cls = 3 then d.loadWalk bs else d.loadCal bs
          r.2.finish x (if r.1 then stOK else stFORMAT)) d

/-! ## NOP -/

/-- NOP completes at dispatch (R445). -/
def Dev.nopDesc (x : Desc) (d : Dev) : Dev :=
  Dev.dispatch x (descNoA x && descNoB x && descUnusedZero x []) (fun _ => true) (fun d => d.finish x stOK) d

end Sys2Proof.Machine
end

