-- ==== Sys2Proof/Machine/P256.lean ====
section
/-! DEFINITION. ECDSA verification on the curve P-256, which 17 R487, R489 and R490 name. -/
namespace Sys2Proof.Machine

/-- The field prime. -/
def p256P : Nat := 0xffffffff00000001000000000000000000000000ffffffffffffffffffffffff
/-- The group order. -/
def p256N : Nat := 0xffffffff00000000ffffffffffffffffbce6faada7179e84f3b9cac2fc632551
/-- The coefficient b; the coefficient a is -3. -/
def p256B : Nat := 0x5ac635d8aa3a93e7b3ebbd55769886bc651d06b0cc53b0f63bce3c3e27d2604b
/-- The base point. -/
def p256G : Nat × Nat :=
  (0x6b17d1f2e12c4247f8bce6e563a440f277037d812deb33a0f4a13945d898c296,
   0x4fe342e2fe1a7f9b8ee7eb4a7c0f9e162bce33576b315ececbb6406837bf51f5)

/-- Square and multiply over the `n` low bits of the exponent. -/
def powGo (m e b : Nat) : Nat → Nat
  | 0 => 1
  | n + 1 =>
    let r := powGo m (e / 2) (b * b % m) n
    if e % 2 = 1 then r * b % m else r

/-- The inverse modulo a 256-bit prime. -/
def invMod (m a : Nat) : Nat := powGo m (m - 2) (a % m) 256

/-- A point of the curve; none is the point at infinity. -/
abbrev Pt := Option (Nat × Nat)

/-- The chord or tangent of slope `l` through two points meets the curve again; the sum is its reflection. -/
def ptThird (l x1 y1 x2 : Nat) : Nat × Nat :=
  let p := p256P
  let x := (l * l + 2 * p - x1 - x2) % p
  (x, (l * (x1 + p - x) + p - y1) % p)

/-- Sum of two points. -/
def ptAdd : Pt → Pt → Pt
  | none, q => q
  | p, none => p
  | some (x1, y1), some (x2, y2) =>
    let p := p256P
    if x1 = x2 then
      if (y1 + y2) % p = 0 then none
      else some (ptThird ((3 * x1 * x1 + (p - 3)) * invMod p (2 * y1) % p) x1 y1 x2)
    else some (ptThird ((y2 + p - y1) * invMod p (x2 + p - x1) % p) x1 y1 x2)

/-- A multiple of a point, over the `n` low bits of the factor. -/
def ptMul (k : Nat) (q : Pt) : Nat → Pt
  | 0 => none
  | n + 1 =>
    let r := ptMul (k / 2) (ptAdd q q) n
    if k % 2 = 1 then ptAdd r q else r

/-- The coordinates are in range and on the curve. -/
def onCurve (x y : Nat) : Bool :=
  let p := p256P
  decide (x < p) && decide (y < p) && (y * y) % p = (x * x * x + (p - 3) * x + p256B) % p

/-- Verify a signature (r then s, 64 bytes) over a SHA-256 hash with a public key (X then Y, 64 bytes), all
big-endian. -/
def ecdsaVerify (key hash sig : List Byte) : Bool :=
  let x := beNat (key.take 32)
  let y := beNat ((key.drop 32).take 32)
  let r := beNat (sig.take 32)
  let s := beNat ((sig.drop 32).take 32)
  let n := p256N
  if !onCurve x y || r = 0 || n ≤ r || s = 0 || n ≤ s then false
  else
    let w := invMod n s
    let u := ptMul (beNat hash * w % n) (some p256G) 256
    let v := ptMul (r * w % n) (some (x, y)) 256
    match ptAdd u v with
    | some q => q.1 % n = r
    | none => false

end Sys2Proof.Machine
end

