-- ==== Sys2Proof/Machine/Security.lean ====
section
/-! DEFINITION. Security states, tokens, keys, safety firmware, debug sessions and JTAG (17). -/
namespace Sys2Proof.Machine

/-- Change the security block. -/
def Dev.modSec (f : Sec → Sec) (d : Dev) : Dev := { d with sec := f d.sec }

/-- The part is in FACTORY (R485). -/
def State.factory (s : State) : Bool := s.fuses.rma

/-- SERVICE or FACTORY. -/
def State.opened (s : State) : Bool := s.fuses.rma || s.dev.sec.service

/-- The device state is RUN, IDLE or DOZE: CORE is powered (16 R467). -/
def Dev.awake (d : Dev) : Bool := d.on domCORE

/-- The device state is RUN or IDLE. -/
def Dev.active (d : Dev) : Bool := d.on domCORE && (d.on domACQ || d.on domWAVE || d.on domSERVO)

/-- SAF.STATUS.PERMIT is not 0. -/
def State.permitAny (s : State) : Bool := (List.range 4).any s.permits

/-- A refused operation (R498). -/
def Dev.denied (d : Dev) : Dev := (d.inc Reg.SEC_DENY_CNT).raise Ev.SEC_DENIED

/-- The safety processor runs again; the watch of its heartbeat resumes 2 ms after a restart (R495). -/
def Sec.restart (now : Time) (x : Sec) : Sec :=
  { x with halted := false, hbFrom := if x.halted then now + 2 * ms else x.hbFrom }

/-- The debug session closes; a halted processor restarts with the end of an INVASIVE session (R493, R495). -/
def Dev.dbgClose (d : Dev) : Dev :=
  if d.sec.level = 0 then d
  else (d.modSec (fun x => { x.restart d.now with level := 0, port := false })).raise Ev.SEC_DBG_CLOSE

/-- Entry to LOCKED (R485, R486). `all` ends every debug session; LOCK ends one that LOCKED does not allow. -/
def Dev.secLock (all : Bool) (d : Dev) : Dev :=
  let was := d.sec.service
  let d := d.modSec (fun x => { x with service := false, chal := none })
  let d := if all || 2 ≤ d.sec.level then d.dbgClose else d
  d.raiseIf was Ev.SEC_LOCK

/-! ## Challenges and tokens (R486, R487) -/

/-- CHAL_NEW: 32 fresh bytes, unless challenges are refused. -/
def Dev.chalNew (d : Dev) : Dev :=
  if d.sec.refusing.isSome then d
  else
    let r := d.drawBytes 32
    r.2.modSec (fun x => { x with chal := some r.1, chalRegs := r.1 })

/-- The 176 bytes of TOKEN_n. -/
def Sec.tokenBytes (x : Sec) : List Byte := (List.range 44).flatMap (fun n => leBytes 4 (tabGet 0 x.token n).toNat)

/-- TOKEN_SUBMIT: verification starts, and the challenge is used up. -/
def Dev.tokenSubmit (d : Dev) : Dev :=
  if d.sec.busy.isSome then d
  else d.modSec (fun x => { x with busy := some (x.tokenBytes, x.chal), chal := none })

/-- A key hash of the fuses: the vendor's by VKEY_HASH, or the integrator slot's when it can verify (R488). -/
def State.slotHash (s : State) (slot : Nat) : Option (List Byte) :=
  if slot = 0 then some ((List.range 8).flatMap (fun n => leBytes 4 (s.dev.rd (Reg.SEC_VKEY_HASH n)).toNat))
  else if s.fuses.revoked then none else s.fuses.intKey

/-- The slot may sign this kind of token (R488): kind 1 SERVICE, 2 FACTORY. -/
def State.slotSigns (s : State) (slot kind : Nat) : Bool := slot = 0 || (kind = 1 && s.fuses.unlock)

/-- Bytes lo .. lo+n-1. -/
def bytesAt (bs : List Byte) (lo n : Nat) : List Byte := (bs.drop lo).take n

/-- The reason for which a token is refused; 0 accepts (R487, R498, R500). -/
def State.tokenReason (s : State) (t : List Byte) (chal : Option (List Byte)) : Nat :=
  let kind := leAt t 4 1
  let slot := leAt t 5 1
  let d := s.dev
  if d.sec.refusing.isSome then 7
  else if leAt t 0 4 ≠ 0x53455401 || kind = 0 || 2 < kind || 1 < slot || leAt t 6 2 ≠ 0 then 1
  else if leAt t 8 8 ≠ (d.rd Reg.PRF_DIE_ID_LO).toNat + (d.rd Reg.PRF_DIE_ID_HI).toNat * 2 ^ 32 then 2
  else if chal ≠ some (bytesAt t 16 32) then 3
  else if s.slotHash slot ≠ some (sha256 (bytesAt t 48 64)) || !s.slotSigns slot kind then 4
  else if !ecdsaVerify (bytesAt t 48 64) (sha256 (t.take 112)) (bytesAt t 112 64) then 5
  else if kind = 1 then (if !s.opened && d.awake then 0 else 6)
  else if d.sec.service && !s.factory && d.active && !s.permitAny then 0 else 6

/-- TOKEN_VERIFY_DONE: the token is accepted or refused (R485, R487). A refusal for the conditions of the combination
matrix is a refused operation as well (R498). -/
def State.tokenDone (s : State) : State :=
  match s.dev.sec.busy with
  | none => s
  | some (t, chal) =>
    let why := s.tokenReason t chal
    let s := s.onDev (fun d => d.modSec (fun x => { x with busy := none, reason := why, result := if why = 0 then 1 else 2 }))
    if why = 0 then
      let s := s.onDev (fun d => d.modSec (fun x => { x with refusals := 0 }))
      if leAt t 4 1 = 1 then
        s.onDev (fun d => (d.modSec (fun x => { x with service := true })).raise Ev.SEC_UNLOCK)
      else
        { (s.onDev (fun d => (d.modSec (fun x => { x with service := false })).raise Ev.SEC_FACTORY)) with
          fuses := { s.fuses with rma := true } }
    else
      s.onDev (fun d =>
        let n := if why = 7 then d.sec.refusals else d.sec.refusals + 1
        let now := d.now
        let d := d.modSec (fun x => { x with
          refusals := n, refusing := if why ≠ 7 && 3 ≤ n then some now else x.refusing })
        let d := d.raise Ev.SEC_UNLOCK_FAIL
        if why = 6 then d.denied else d)

/-- TOKEN_REFUSAL_END: 60 s after the third refusal (R487). -/
def Dev.refusalEnd (d : Dev) : Dev :=
  match d.sec.refusing with
  | some t => (d.at (t + 60000 * ms)).modSec (fun x => { x with refusing := none, refusals := 0 })
  | none => d

/-! ## Keys (R488) -/

/-- The key commands are allowed (R498). -/
def State.keyAllowed (s : State) : Bool := s.opened && s.dev.active && !s.permitAny

/-- KEY_PROG: the integrator slot is programmed once. -/
def State.keyProg (unlock : Bool) (s : State) : State :=
  if !s.keyAllowed then s.onDev Dev.denied
  else if s.fuses.intKey.isSome || s.dev.sec.burn.isSome then s
  else s.onDev (fun d => d.modSec (fun x =>
    { x with burn := some (.prog ((List.range 8).flatMap (fun n => leBytes 4 (tabGet 0 x.intKey n).toNat)) unlock) }))

/-- KEY_REVOKE. -/
def State.keyRevoke (s : State) : State :=
  if !s.keyAllowed then s.onDev Dev.denied
  else if s.fuses.revoked || s.dev.sec.burn.isSome then s
  else s.onDev (fun d => d.modSec (fun x => { x with burn := some .revoke }))

/-- A burn only ever adds to the fuses. -/
def Fuses.burn (f : Fuses) : Burn → Fuses
  | .prog h u => match f.intKey with
    | some _ => f
    | none => { f with intKey := some h, unlock := f.unlock || u }
  | .revoke => { f with revoked := true }

/-- KEY_BURN_DONE. -/
def State.burnDone (s : State) : State :=
  match s.dev.sec.burn with
  | none => s
  | some b =>
    { (s.onDev (fun d => (d.modSec (fun x => { x with burn := none })).raise Ev.SEC_KEY_PROG)) with
      fuses := s.fuses.burn b }

/-! ## Safety firmware (R489-R492) -/

/-- The reject reason of a firmware image; 0 accepts (R489, R490). -/
def State.fwReason (s : State) (bs : List Byte) : Nat :=
  let len := leAt bs 12 4
  let slot := leAt bs 6 1
  if bs.length < 192 || leAt bs 0 4 ≠ 0x53465701 || leAt bs 4 2 ≠ 1 || 1 < slot || leAt bs 7 1 ≠ 0 || len % 4 ≠ 0
      || 196608 < len || bs.length ≠ 192 + len || (bytesAt bs 176 16).any (fun b => b ≠ 0)
      || sha256 (bs.drop 192) ≠ bytesAt bs 16 32 then 1
  else if s.slotHash slot ≠ some (sha256 (bytesAt bs 48 64)) then 4
  else if !ecdsaVerify (bytesAt bs 48 64) (sha256 (bs.take 112)) (bytesAt bs 112 64) then 5
  else 0

/-- A run-time load is allowed: a password session is open and ranging is stopped (R491). -/
def State.fwAllowed (s : State) : Bool := !s.isl.fwRun || (s.isl.pw.openAt.isSome && !s.dev.brn.ranging)

/-- The island has reached WAIT, and no other image is under way (R490). -/
def State.fwReady (s : State) : Bool :=
  s.isl.st ≠ .start && s.isl.st ≠ .selftest && s.dev.sec.fw.isNone && s.dev.sec.fwSwitch.isNone

/-- FW_LOAD: the image read from the buffer, none when the read failed (R449, R490, R491). -/
def State.fwLoad (x : Desc) (data : Option (List Byte)) (s : State) : State :=
  let ready := s.fwReady
  let ok := s.fwAllowed
  let run := s.isl.fwRun
  let why := match data with | some bs => s.fwReason bs | none => 0
  s.onDev (Dev.dispatch x (descNoB x && descUnusedZero x []) (fun _ => ready) (fun d =>
    if !ok then d.denied.finish x stDENIED
    else match data with
    | none => d.finish x stREAD_FAIL
    | some bs =>
      let job : FwJob := { desc := x, slot := leAt bs 6 1, version := word (leAt bs 8 4), reason := why, runTime := run }
      d.modSec (fun c => { c with fw := some job })))

/-- The firmware of a job is in force. -/
def Dev.fwInForce (j : FwJob) (d : Dev) : Dev :=
  d.modSec (fun x => { x with fwReason := 0, fwSlot := j.slot, fwVersion := j.version })

/-- FW_VERIFY_DONE (R490, R492): a first image runs at once; a run-time image takes the island to WAIT and the part to
LOCKED until the switch is done. INTERNAL is not left (12 R345). -/
def State.fwVerified (s : State) : State :=
  match s.dev.sec.fw with
  | none => s
  | some j =>
    let s := s.onDev (fun d => d.modSec (fun x => { x with fw := none }))
    if j.reason ≠ 0 then
      s.onDev (fun d => ((d.modSec (fun x => { x with fwReason := j.reason })).raise Ev.SEC_FW_REJECT).finish j.desc stREJECTED)
    else
      let s := s.onDev (fun d => d.raise Ev.SEC_FW_ACCEPTED)
      if j.runTime then
        let s := s.onDev (fun d => (d.modSec (fun x => { x with fwSwitch := some j })).secLock true)
        let was := s.isl.st
        let s := s.onIsl (fun i => { i with back := some was })
        if was = .internal then s else s.setIsl .wait
      else
        let s := (s.onDev (fun d => (d.fwInForce j).finish j.desc stOK)).onIsl (fun i => { i with fwRun := true })
        if s.isl.st = .wait then s.setIsl .run else s

/-- FW_SWITCH_DONE: the processor takes over the hard-wired logic's states, and the island returns to the state it
left, unless a fault has meanwhile taken it to another (R492). -/
def State.fwSwitched (s : State) : State :=
  match s.dev.sec.fwSwitch with
  | none => s
  | some j =>
    let back := s.isl.back.getD .run
    let s := s.onIsl (fun i => { i with sp := i.hwl, back := none })
    let s := if s.isl.st = .wait then s.setIsl back else s
    s.onDev (fun d => ((d.modSec (fun x => { x with fwSwitch := none })).fwInForce j).finish j.desc stOK)

/-! ## Debug sessions (R493-R495, R498) -/

/-- A request for a debug level from a port (false link, true JTAG). -/
def State.dbgCtl (port : Bool) (level : Nat) (s : State) : State :=
  let x := s.dev.sec
  if 3 ≤ level then s
  else if x.level ≠ 0 && x.port ≠ port then s.onDev Dev.denied
  else if level = 0 then s.onDev Dev.dbgClose
  else if !s.dev.awake || (level = 2 && !s.opened) then s.onDev Dev.denied
  else
    s.onDev (fun d =>
      let first := d.sec.level = 0
      let d := d.modSec (fun x => { (if level = 2 then x else x.restart d.now) with level := level, port := port })
      d.raiseIf first Ev.SEC_DBG_OPEN)

/-- Processor control is allowed: an INVASIVE session, which needs SERVICE or FACTORY (R495, R498). -/
def State.spAllowed (s : State) : Bool := s.opened && s.dev.awake && s.dev.sec.level = 2

/-- Every LEN read-back is low. -/
def State.lensLow (s : State) : Bool := (List.range 4).all (fun h => !s.lenRead 0 h && !s.lenRead 1 h)

/-- HALT: safe in LOCKOUT or INTERNAL with every LEN low; otherwise the internal fault HEARTBEAT (R495). -/
def State.halt (s : State) : State :=
  if !s.spAllowed then s.onDev Dev.denied
  else
    let safe := (s.isl.st = .lockout || s.isl.st = .internal) && s.lensLow
    let s := s.onDev (fun d => (d.modSec (fun x => { x with halted := true })).raise Ev.SEC_SP_HALT)
    if safe then s else s.internalFault 0x82

/-- RESUME. -/
def State.resume (s : State) : State :=
  if !s.spAllowed then s.onDev Dev.denied
  else s.onDev (fun d => d.modSec (fun x => x.restart d.now))

/-- STEP: a halted processor stays halted; what an instruction of its firmware does is outside the spec. -/
def State.step1 (s : State) : State := if !s.spAllowed then s.onDev Dev.denied else s

/-! ## JTAG (R496, R497) -/

/-- A boundary instruction is loaded: EXTEST, CLAMP, HIGHZ (`drive`) or SAMPLE/PRELOAD. In DOZE and STOW it loads as
BYPASS (R497, R498). -/
def Dev.boundaryIr (code : Nat) (drive : Bool) (d : Dev) : Dev :=
  if !d.active then (d.modSec (fun x => { x with ir := 0xFF, bscanRefused := true })).denied
  else d.modSec (fun x => { x with ir := code, bscan := x.bscan || drive, captured := x.captured || !drive })

/-- BYPASS and IDCODE. -/
def Dev.jtagIr (code : Nat) (d : Dev) : Dev := d.modSec (fun x => { x with ir := code })

/-- DBGACC: its control word asks for a level from the JTAG port (R493). -/
def State.dbgacc (level : Nat) (s : State) : State := (s.onDev (Dev.jtagIr 0x20)).dbgCtl true level

/-! ## Views (R500, R501) -/

/-- SEC.STATUS. -/
def State.secStatus (s : State) : Word :=
  let x := s.dev.sec
  word ((if s.factory then 2 else b2n x.service) + x.level * 16 + b2n x.port * 64 + b2n x.bscan * 256
    + b2n x.bscanRefused * 512 + b2n x.halted * 1024 + b2n s.fuses.intKey.isSome * 4096 + b2n s.fuses.revoked * 8192
    + b2n s.fuses.unlock * 16384)

/-- TOKEN_STATUS. -/
def Sec.tokenStatus (x : Sec) : Word := word (x.result + b2n x.busy.isSome * 4 + x.reason * 16)

/-- FW_STATUS. -/
def State.fwStatus (s : State) : Word :=
  let x := s.dev.sec
  word (b2n s.isl.fwRun + b2n x.fw.isSome * 2 + x.fwReason * 16 + x.fwSlot * 256)

end Sys2Proof.Machine
end

