-- ==== Sys2Proof/Machine/Power.lean ====
section
/-! DEFINITION. Power votes, entry and wake sequences, wake sources and resets (16; 11 R320; 14 R430; 18 R513). -/
namespace Sys2Proof.Machine

/-- Change the power controller. -/
def Dev.modPwr (f : Pwr → Pwr) (d : Dev) : Dev := { d with pwr := f d.pwr }

/-! ## Resets of registers and of each domain (00 R6; R476, R479) -/

/-- The domain that holds the register at an offset (R462; 07 R229). The trims and bin tables lie with the analogue
paths they serve (R479). -/
def regDomain (off : Nat) : Nat :=
  if off < 0x1000 then domCORE
  else if off < 0x100000 then domMEM
  else if off < 0x200000 then domACQ
  else if off < 0x300000 then domSERVO
  else if off < 0x400000 then domACQ
  else if off < 0x400020 then domCORE
  else if off < 0x600000 then domACQ
  else if off < 0x800000 then domWAVE
  else if off < 0x810000 then domCORE
  else if off < 0x811200 then domACQ
  else if off < 0x811300 then domWAVE
  else if off < 0x811320 then domSERVO
  else if off < 0x811380 then domHK
  else if off < 0x900000 then domACQ
  else if off < 0xA00000 then domHK
  else if off < 0xB00000 then domAO
  else if off < 0xC00000 then domSAFE
  else if off < 0xD00000 then domCORE
  else if off < 0xE00000 then domLINK
  else if off < 0xF00000 then domCORE
  else if off < 0xFC0000 then domAO
  else domCORE

/-- The links's state after a reset, about to align; `reads` is the outstanding-read table kept (14 R426, R430). -/
def Dev.lnkReset (keepReads : Bool) (d : Dev) : Dev :=
  let l : Lnk := { upSince := d.lnk.upSince, nomWidth := d.lnk.nomWidth, nomRate := d.lnk.nomRate,
                   reads := if keepReads then d.lnk.reads else [] }
  { d with lnk := l }.startAlign

/-- CORE state after a reset; `keepFlights` at a hot reset, which completes them later (15 R451). A standby loses its
qualification (13 R382), and an enabled master waits for its members again (13 R392). -/
def Dev.coreReset (keepFlights : Bool) (d : Dev) : Dev :=
  let was := d.mdv.qualified
  let d := { d with
    glb := { encA := d.glb.encA, encB := d.glb.encB, shadow := d.glb.shadow },
    bite := {},
    evt := { seq := d.evt.seq, attnAt := d.evt.attnAt },
    dsc := if keepFlights then
        { flights := d.dsc.flights, held := d.dsc.held, cqStall := d.dsc.cqStall, phase := d.dsc.phase,
          fetching := d.dsc.fetching, served := d.dsc.served }
      else { phase := d.dsc.phase },
    mdv := {},
    prf := { tables := d.prf.tables, zr := d.prf.zr, zrSet := d.prf.zrSet } }
  let d := d.modMdv (fun m => { m with peerWait := d.cascOn && d.cascRole = 2 })
  d.raiseIf was Ev.PAIR_UNQUALIFIED

/-- ACQ state after a reset. -/
def Dev.acqReset (d : Dev) : Dev :=
  { d with brn := {}, afe := {}, stp := {}, tim := { d.tim with iu := [], lastEdge := [], level := [] },
           prf := { d.prf with tables := [], zr := [], zrSet := 0, borrowed := 0, settle := 0 } }

/-- WAVE state after a reset. A wake keeps where the committed segments of each acquisition lie (07 R223). -/
def Dev.waveReset (keepSlots : Bool) (d : Dev) : Dev :=
  let keep := fun (x : Plt) => ({ slots := x.slots, slotSize := x.slotSize, base := x.base, ring := x.ring } : Plt)
  let plt : Tab Plt := if keepSlots then forN 8 (fun p t => tabPut {} t p (keep (d.plt p))) [] else []
  { d with wave := { d.wave with plt := plt, flt := [], aux := [], sync := {} } }

/-- SERVO state after a reset. -/
def Dev.servoReset (d : Dev) : Dev := { d with hch := {} }

/-- MEM state after a reset: contents stay, training is lost (07 R221). -/
def Dev.memReset (d : Dev) : Dev :=
  d.modMem (fun m => { m with training := false, ready := false, fail := false, failMask := 0 })

/-- HK state after a reset; rounds begin anew (10 R293). -/
def Dev.hkReset (d : Dev) : Dev := { d with hkp := {} }.hkUp

/-- Reset class D of one domain: its registers and its state (R476, R479). An RWT write staged for a register of the
domain stays staged and acts at its tick, except in CORE, whose reset drops every staged write, AO's included: DESIGN
CHOICE (log 105), since the spec is silent on both. -/
def Dev.classD (dom : Nat) (d : Dev) : Dev :=
  let d := (d.dropRegs .d (fun o => regDomain o = dom)).modPwr (fun p => { p with dCount := p.dCount + 1 })
  if dom = domLINK then d.lnkReset false
  else if dom = domCORE then d.coreReset false
  else if dom = domACQ then d.acqReset
  else if dom = domWAVE then d.waveReset true
  else if dom = domSERVO then d.servoReset
  else if dom = domMEM then d.memReset
  else if dom = domHK then d.hkReset
  else d

/-! ## Device state (R467) -/

/-- The device state that follows from the domains powered. -/
def Dev.devSt (d : Dev) : DevSt :=
  if !d.on domCORE then .stow
  else if !d.on domACQ && !d.on domWAVE && !d.on domSERVO then .doze
  else if d.brn.ranging || d.wave.plt.any (fun e => e.2.acquiring) then .run
  else .idle

/-- The window after a commit point runs. -/
def Dev.inWindow (d : Dev) : Bool :=
  match d.pwr.seq with
  | some (.entry _) => d.pwr.phase = .window
  | _ => false

/-- A change of the device state raises PWR_STATE; in an entry's window the old state still holds. -/
def Dev.noteState (d : Dev) : Dev :=
  if d.inWindow || d.devSt = d.pwr.state then d
  else (d.modPwr (fun p => { p with state := d.devSt })).raise Ev.PWR_STATE

/-! ## Rails (R463) -/

/-- PWR_EN outputs for domains powered, or being woken. -/
def railsOf (doms : Nat) (refresh : Bool) : Nat :=
  let on := fun k => doms.testBit k
  b2n (on domACQ) + b2n (on domACQ || on domWAVE || on domSERVO || on domHK) * 2 + b2n (on domCORE) * 4
    + b2n (on domMEM) * 8 + b2n (on domMEM || refresh) * 16 + b2n (on domCORE) * 32

/-- The rails enabled now; a wake enables those of its domains, except while it waits for a retry (R470, R474). -/
def Dev.rails (d : Dev) : Nat :=
  match d.pwr.seq with
  | some (.wake m) => railsOf (if d.pwr.retryWait then d.pwr.domains else d.pwr.domains ||| m) d.pwr.selfRefresh
  | _ => railsOf d.pwr.domains d.pwr.selfRefresh

/-! ## Quiesce and commit (R469, R480) -/

/-- SERVO is quiesced: every axis is disabled with its drive at 0. -/
def Dev.servoQuiet (d : Dev) : Bool :=
  (List.range 8).all (fun a => (d.ax a).st = .disabled && !(d.ax a).ramp)

/-- WAVE is quiesced: nothing is left to drain, or memory cannot take it. -/
def Dev.waveQuiet (d : Dev) : Bool :=
  !d.wave.mem.ready || d.wave.plt.all (fun e => e.2.buf.isEmpty && e.2.closing.isEmpty && e.2.work.isNone)

/-- ACQ is quiesced: the frame in progress has been published, or no ranging frame or no tick is due. -/
def Dev.acqQuiet (d : Dev) : Bool := d.pwr.framed || !d.glb.run || !d.brn.ranging

/-- Every domain of a mask but LINK and CORE is quiesced. -/
def Dev.quiet (d : Dev) (m : Nat) : Bool :=
  (!m.testBit domACQ || d.acqQuiet) && (!m.testBit domSERVO || d.servoQuiet) && (!m.testBit domWAVE || d.waveQuiet)
  && (!m.testBit domMEM || d.dsc.drains.isEmpty)

/-- Descriptors that wait for a tick and act on WAVE alone complete as their plates stop (R480). -/
def Dev.armsDone (d : Dev) : Dev :=
  let arms := d.dsc.atTick.filter (fun e => e.1 = .plateArm)
  let d := { d with dsc := { d.dsc with atTick := d.dsc.atTick.filter (fun e => e.1 ≠ .plateArm) } }
  arms.foldl (fun d e => d.finish e.2 stOK) d

/-- Quiesce begins for the domains of a mask. -/
def Dev.quiesceBegin (m : Nat) (d : Dev) : Dev :=
  let d := d.modPwr (fun p => { p with framed := false, phase := .quiesce })
  let d := if m.testBit domWAVE then (forN 8 (fun p d => d.pltStop p d.now) d).armsDone else d
  let d := d.runAbort (fun r => m.testBit (kindDomain r.kind))
  if m.testBit domHK then d.hkOff else d

/-- What the domains of a mask hold is lost or ended as they stop: the last steps before isolation. -/
def Dev.domainsStop (m : Nat) (d : Dev) : Dev :=
  let d := if m.testBit domACQ then { d.acqEnd.afeOff.iuOff with brn := { d.brn with ranging := false } } else d
  let d := if m.testBit domSERVO then d.quiesceServo else d
  let d := if m.testBit domWAVE then d.waveOff else d
  if m.testBit domHK then d.hkOff else d

/-- Event records that CORE writes before it goes down: every pending one, due or not (R469). -/
def Dev.flushRecords (d : Dev) : Dev :=
  let e : Evt := { d.evt with pend := d.evt.pend.map (fun (p : Pend) => { p with due := true }) }
  { d with evt := e }.writeDue

/-- LINK is quiesced: everything written has been sent, every packet acknowledged and every read completed, or the link
is not up. -/
def Dev.linkQuiet (d : Dev) (m : Nat) : Bool :=
  !m.testBit domLINK || d.lnk.st ≠ .up || (d.lnk.retry.isEmpty && d.lnk.reads.isEmpty && !d.writesWait)

/-- Commit: the switches open, pads are latched, and the rails that no domain needs are disabled. Device time freezes
with CORE (R469, R477). -/
def Dev.commit (m : Nat) (d : Dev) : Dev :=
  let d := d.domainsStop m
  let core := m.testBit domCORE
  let refresh := if m.testBit domMEM then d.wave.mem.ready else d.pwr.selfRefresh
  let d := d.modPwr (fun p =>
    let doms := p.domains &&& (0x1FF ^^^ m)
    { p with
      domains := doms, held := p.held ||| (if core then m else m &&& (0x1FF ^^^ 2 ^ domLINK)), phase := .window, selfRefresh := refresh, pg := p.pg &&& railsOf doms refresh,
      linkLow := !core && (p.linkLow || m.testBit domLINK), dtFrozen := p.dtFrozen || core })
  let d := if m.testBit domMEM then d.memReset else d
  let d := if m.testBit domLINK || core then { d with lnk := { d.lnk with st := .eidle } } else d
  if core then
    { d with
      glb := { d.glb with run := false }, evt := { d.evt with pend := [] },
      tim := { d.tim with lock := false, holdover := false } }
  else d

/-! ## Sequences (R469-R475) -/

/-- POWER_VOTE completes with the domains powered (R481). -/
def Dev.voteDone (status : Nat) (x : Desc) (d : Dev) : Dev := d.done x status 0 (leBytes 2 (d.pwr.domains % 512))

/-- Complete the waiting POWER_VOTE descriptors. -/
def Dev.votesDone (status : Nat) (wake : Bool) (d : Dev) : Dev :=
  let l := if wake then d.pwr.waitWake else d.pwr.waitEntry
  let d := d.modPwr (fun p => if wake then { p with waitWake := [] } else { p with waitEntry := [] })
  l.foldl (fun d x => d.voteDone status x) d

/-- Queued target of a running sequence (R473). -/
def Dev.noteQueue (d : Dev) : Dev :=
  d.modPwr (fun p => { p with queued := if p.seq.isSome && d.target ≠ p.goal then some d.target else none })

/-- A running entry or DRST goes on as its domains come to rest: LINK's quiesce, then the commit point (R469, R476). -/
def Dev.seqGo (d : Dev) : Dev :=
  match d.pwr.seq with
  | some (.entry m) =>
    let d := if d.pwr.phase = .quiesce && d.quiet m then
        let d := if m.testBit domCORE && m.testBit domLINK then d.flushRecords else d
        d.modPwr (fun p => { p with phase := .link })
      else d
    if d.pwr.phase = .link && d.linkQuiet m then d.commit m else d
  | some (.reset m) =>
    if d.quiet m then
      let d := d.domainsStop m
      let d := forN 9 (fun k d => if m.testBit k then d.classD k else d) d
      let d := d.wr Reg.PWR_FRESH (d.rd Reg.PWR_FRESH ||| word m)
      d.modPwr (fun p => { p with seq := none, held := p.held ||| m })
    else d
  | _ => d

/-- Begin a sequence when none runs and the domains powered differ from the target, entry before wake; a DRST waits
its turn (R473, R476). `fuel` bounds the sequences that begin and end at once. -/
def Dev.pwrStep : Nat → Dev → Dev
  | 0, d => d.noteQueue
  | n + 1, d =>
    if d.pwr.off || d.thm.shut || d.pwr.seq.isSome then d.seqGo.noteState.noteQueue
    else
      let tgt := d.target
      let down := d.pwr.domains &&& (0x1FF ^^^ tgt)
      let up := tgt &&& (0x1FF ^^^ d.pwr.domains)
      if down ≠ 0 then
        let d := d.votesDone stOK false
        let d := (d.modPwr (fun p => { p with seq := some (.entry down), goal := tgt })).quiesceBegin down
        d.seqGo.noteQueue
      else if up ≠ 0 then
        let d := d.votesDone stOK false
        (d.modPwr (fun p => { p with seq := some (.wake up), goal := tgt, attempts := 1, failPg := 0, failOsc := false,
                                      retryWait := false })).noteQueue
      else if d.pwr.drst ≠ 0 then
        let m := d.pwr.drst &&& d.pwr.domains
        let d := (d.modPwr (fun p => { p with drst := 0, seq := if m = 0 then none else some (.reset m), goal := tgt })).quiesceBegin m
        Dev.pwrStep n d.seqGo
      else ((d.votesDone stOK false).votesDone stOK true).noteState.noteQueue

/-- Bring the power controller up to date after a change. -/
def Dev.pwr1 (d : Dev) : Dev := d.pwrStep 2

/-! ## Votes (R465, R466) -/

/-- The CRIT override removes bits of a vote. -/
def Dev.critRefuses (d : Dev) (mask : Nat) : Bool := d.critHold && decide (mask &&& 0x70 ≠ 0)

/-- Client k casts a vote; one that the CRIT override removes bits from keeps the remaining bits and is noted (R466; 11
R318). -/
def Dev.cast (k mask : Nat) (d : Dev) : Dev :=
  let d := d.modPwr (fun p => { p with votes := setAt p.votes k (mask &&& (if d.critHold then 0x18C else 0x1FC)) })
  d.raiseIf (d.critRefuses mask) Ev.PWR_VOTE_REFUSED

/-- VOTE_WRITE of client 0 HOST or 1 MGMT. -/
def Dev.voteWrite (k : Nat) (val : Word) (d : Dev) : Dev := if k < 2 then (d.cast k val.toNat).pwr1 else d

/-- POWER_VOTE (R466, R481). -/
def Dev.powerVote (x : Desc) (d : Dev) : Dev :=
  let v := descPar x 32 2
  let good := descNoA x && descNoB x && descUnusedZero x [32, 33] && v % 4 = 0 && decide (v < 512)
  Dev.dispatch x good (fun _ => true) (fun d =>
    let refused := d.critRefuses v
    let failed := d.pwr.failed
    let d := d.cast 0 v
    if refused || failed then (d.voteDone stREJECTED x).pwr1
    else
      let tgt := d.target
      if tgt = (if d.pwr.seq.isSome then d.pwr.goal else d.pwr.domains) then (d.voteDone stOK x).pwr1
      else
        let down := decide (d.pwr.domains &&& (0x1FF ^^^ tgt) ≠ 0)
        let d := if down then d.modPwr (fun p => { p with waitEntry := p.waitEntry ++ [x] })
          else d.modPwr (fun p => { p with waitWake := p.waitWake ++ [x] })
        d.pwr1) d

/-! ## Wake sources (R471-R473) -/

/-- The target set lacks a domain of a set. -/
def Dev.lacks (d : Dev) (set : Nat) : Bool := decide ((set &&& 0x1FC) &&& (0x1FF ^^^ d.target) ≠ 0)

/-- WAKE_SET. -/
def Dev.wakeSet (d : Dev) : Nat := (d.rd Reg.PWR_WAKE_SET).toNat &&& 0x1FC

/-- A wake event of source k that ORs `set` into the HOST vote (R471). -/
def Dev.wakeEvent (k set : Nat) (d : Dev) : Dev :=
  if !d.b Reg.PWR_WAKE_EN k then d
  else
    let d := d.setB Reg.PWR_WAKE_CAUSE k true
    if d.lacks set then
      ((d.modPwr (fun p => { p with byEvent := true })).cast 0 (d.pwr.votes.getD 0 0 ||| set)).pwr1
    else d

/-- An edge wake: one that arrives in the window is not acted upon and leaves no trace (R473). -/
def Dev.edgeWake (k set : Nat) (d : Dev) : Dev := if d.pwr.off || d.inWindow then d else d.wakeEvent k set

/-- The level wakes present are acted upon, outside the window (R473). -/
def Dev.levelWakes (d : Dev) : Dev :=
  if d.pwr.off || d.inWindow then d
  else
    let d := if d.pwr.mgmtMatch && d.lacks d.wakeSet then d.wakeEvent 0 d.wakeSet else d
    let d := if d.pwr.wakeN then (d.modPwr (fun p => { p with wakeN := false })).wakeEvent 1 d.wakeSet else d
    if d.pwr.timerLatch && (d.lacks d.wakeSet || !d.b Reg.PWR_WAKE_CAUSE 2) then d.wakeEvent 2 d.wakeSet else d

/-- WAKE_N_LOW. -/
def Dev.wakeNLow (d : Dev) : Dev := (d.modPwr (fun p => { p with wakeN := true })).levelWakes

/-- AO_TIMER_WRITE: a non-zero value starts the one-shot, 0 stops it (R482). -/
def Dev.timerWrite (val : Word) (d : Dev) : Dev :=
  (d.wr Reg.PWR_TIMER val).modPwr (fun p => { p with timerOn := val ≠ 0, timerAt := d.now })

/-- AO_TIMER_EXPIRY (R471). -/
def Dev.timerExpiry (d : Dev) : Dev :=
  if !d.pwr.timerOn then d
  else (d.modPwr (fun p => { p with timerOn := false, timerLatch := true })).levelWakes

/-- TIMER_LEFT in ms. -/
def Dev.timerLeft (d : Dev) : Nat :=
  if d.pwr.timerOn then (d.rd Reg.PWR_TIMER).toNat - (d.now - d.pwr.timerAt) / ms else 0

/-! ## Ends of sequences -/

/-- ENTRY_WINDOW_END: the new device state holds, level wakes present are acted upon, and what is queued begins
(R469, R473). -/
def Dev.windowEnd (d : Dev) : Dev :=
  if !d.inWindow then d
  else
    let d := (d.modPwr (fun p => { p with seq := none, phase := .quiesce })).noteState
    (d.levelWakes).pwr1

/-- One domain comes up: class D, FRESH and held pads; LINK leaving its low-power level keeps its state (R464, R470). -/
def Dev.domainUp (k : Nat) (d : Dev) : Dev :=
  if k = domLINK && d.pwr.linkLow then (d.modPwr (fun p => { p with linkLow := false })).startAlign
  else
    let d := d.classD k
    (d.setB Reg.PWR_FRESH k true).modPwr (fun p => { p with held := setBit p.held k })

/-- The PLL can lock: no lock loss has latched, and a reference came after the last cold reset. Until the next cold reset a
wake of CORE never gets past the lock otherwise (R470, R474; 05 R129, R132). -/
def Dev.canLock (d : Dev) : Bool := !d.tim.lockLost && !d.tim.noRef

/-- WAKE_SEQUENCE_COMPLETE: rails and clocks are good; class D is applied to each domain woken, isolation is released
and pads stay held. `us` is the time without device time (R470, R471, R477, R484). -/
def Dev.wakeDone (us : Nat) (d : Dev) : Dev :=
  match d.pwr.seq with
  | some (.wake m) =>
    let core := m.testBit domCORE
    if d.pwr.retryWait || (core && !d.canLock) then d
    else
      let low := d.pwr.linkLow
      let d := d.modPwr (fun p => { p with
        seq := none, domains := p.domains ||| m, pg := p.pg ||| railsOf (p.domains ||| m) p.selfRefresh,
        linkLow := low })
      let d := if core then
          { d.modPwr (fun p => { p with dtFrozen := false, stowUs := us }) with
            tim := { d.tim with lock := true, refOk := true, holdover := false, started := true } }
        else d
      let d := forN 9 (fun k d => if m.testBit k then d.domainUp k else d) d
      let late := d.pwr.lateEv
      let d := if core then (late.foldl (fun d n => d.raise n) (d.modPwr (fun p => { p with lateEv := [] })).frame0) else d
      let ev := d.pwr.byEvent
      let d := d.noteState
      let d := (d.modPwr (fun p => { p with byEvent := false, mgmtMatch := false, timerLatch := false })).raiseIf ev Ev.PWR_WAKE
      let d := if d.target &&& (0x1FF ^^^ d.pwr.domains) = 0 then d.votesDone stOK true else d
      d.pwr1
  | _ => d

/-- WAKE_ATTEMPT_TIMEOUT: the attempt is aborted; the fourth leaves the part in WAKE_FAILED (R474, R475). -/
def Dev.wakeTimeout (pg : Nat) (osc : Bool) (d : Dev) : Dev :=
  match d.pwr.seq with
  | some (.wake m) =>
    if d.pwr.retryWait || (pg = 0 && !(osc && m.testBit domCORE)) then d
    else
      let d := (d.modPwr (fun p => { p with
        failPg := pg % 64, failOsc := osc && m.testBit domCORE, pg := p.pg &&& railsOf p.domains p.selfRefresh })).raise
        Ev.PWR_WAKE_ABORT
      if d.pwr.attempts < 4 then d.modPwr (fun p => { p with retryWait := true })
      else
        let d := (d.modPwr (fun p => { p with seq := none, failed := true, byEvent := false, mgmtMatch := false,
                                              timerLatch := false })).raise Ev.PWR_WAKE_FAILED
        (d.votesDone stREJECTED true).pwr1
  | _ => d

/-- WAKE_RETRY_TIMER: 10 ms after the abort (R475). -/
def Dev.retryTimer (d : Dev) : Dev :=
  match d.pwr.seq with
  | some (.wake _) =>
    if d.pwr.retryWait then d.modPwr (fun p => { p with retryWait := false, attempts := p.attempts + 1 }) else d
  | _ => d

/-- WAKE_RETRY (R475). -/
def Dev.wakeRetry (d : Dev) : Dev :=
  if d.pwr.failed then (d.modPwr (fun p => { p with failed := false, attempts := 0 })).pwr1 else d

/-- PAD_RELEASE (R470). -/
def Dev.padRelease (val : Word) (d : Dev) : Dev :=
  d.modPwr (fun p => { p with held := p.held &&& (0x1FF ^^^ (val.toNat &&& 0x1FC &&& p.domains)) })

/-- DRST of ACQ, WAVE, SERVO, MEM and HK while they are powered (R476). -/
def Dev.drstWrite (val : Word) (d : Dev) : Dev :=
  let m := val.toNat &&& 0x1F0 &&& d.pwr.domains
  if m = 0 then d else (d.modPwr (fun p => { p with drst := p.drst ||| m })).pwr1

/-- PG_LOST (R475). -/
def Dev.pgLost (i : Nat) (d : Dev) : Dev :=
  if d.pwr.seq.isSome || !d.rails.testBit i then d
  else d.modPwr (fun p => { p with pg := clrBit p.pg i, pgLost := setBit p.pgLost i })

/-! ## What a change of power state brings with it -/

/-- Entry to DOZE or below closes the password session; entry to STOW ends SERVICE, challenges and debug sessions; class
D of any domain restores PW_STATUS (R479; 12 R358, R361; 17 R485). -/
def State.settle (before : Dev) (s : State) : State :=
  let low := fun (x : DevSt) => x = .doze || x = .stow
  let d := s.dev
  let entered := low d.devSt && !low before.devSt
  let s := if entered then s.onIsl Island.closeSession else s
  let s := if d.pwr.dCount ≠ before.pwr.dCount then s.onIsl Island.pwReset else s
  if before.on domCORE && !d.on domCORE then s.onDev (fun d => d.secLock true) else s

/-- A command of the power controller. -/
def State.power (f : Dev → Dev) (s : State) : State := (s.onDev f).settle s.dev

/-! ## SHUT (11 R320) -/

/-- SHUT_COMPARATOR_TRIP: every domain but AO and SAFE loses power at once; the island takes THERMAL_SHUT. -/
def State.shutTrip (k : Nat) (s : State) : State :=
  let before := s.dev
  let s := s.onDev fun d =>
    let d := { d with thm := { d.thm with
      shutNow := setBit d.thm.shutNow k, shutLatch := setBit (setBit d.thm.shutLatch k) 31, shut := true } }
    if d.pwr.domains &&& 0x1FC = 0 && d.pwr.seq.isNone then d
    else
      let d := d.runAbort (fun _ => true)
      let d := d.domainsStop 0x1FC
      let d := (d.modPwr (fun p => { p with
        domains := 3, held := 0, seq := none, phase := .quiesce, queued := none, linkLow := false, selfRefresh := false,
        pg := 0, dtFrozen := true, goal := 3, drst := 0, waitEntry := [], waitWake := [] }))
      let d := forN 9 (fun j d => if 2 ≤ j then d.classD j else d) d
      let d := { d.modMem (fun m => { m with cells := [], bad := [], soft := [] }) with
        lnk := { d.lnk with st := .down }, glb := { d.glb with run := false },
        tim := { d.tim with lock := false, holdover := false } }
      d.noteState
  (s.fault 0x0D k).settle before

/-- SHUT_COMPARATOR_CLEAR: every comparator has cleared; a part held in reset is released (R320). -/
def Dev.shutClear (d : Dev) : Dev :=
  let hold := d.pwr.shutHold
  let d := { d with thm := { d.thm with shutNow := 0 } }.modPwr (fun p => { p with shutHold := false })
  if hold then d.startAlign else d

/-! ## Resets of classes P, C, H and W (R476) -/

/-- The device after a power-on or cold reset: straps are sampled; a tripped comparator holds it in reset. -/
def Dev.fresh (x : Straps) (cause : Nat) (old : Dev) : Dev :=
  let d : Dev := { straps := x, free := old.free, thm := { shutNow := old.thm.shutNow },
                   tim := { refSel := decide (32 ≤ x.refEdges) } }
  let hold := decide (old.thm.shutNow ≠ 0)
  let d := (d.startAlign).modPwr (fun p => { p with resetCause := cause, shutHold := hold })
  if hold then { d with lnk := { d.lnk with st := .down } } else d

/-- POWER_ON_RESET: only the fuses stay. -/
def State.powerOn (x : Straps) (s : State) : State :=
  { dev := Dev.fresh x 0 s.dev, isl := {}, fuses := s.fuses, pending := s.pending }

/-- The island after a cold reset: its fault latches stay, and INTERNAL is not left (R478, R479; 12 R344, R345). -/
def Island.cold (i : Island) : Island :=
  { st := if i.st = .internal then .internal else .start, fault := i.fault, intCode := i.intCode, lockCnt := i.lockCnt }

/-- COLD_RESET: everything but the latches that R479 keeps. -/
def State.cold (x : Straps) (s : State) : State :=
  let d := Dev.fresh x 1 s.dev
  { dev := { d with thm := { d.thm with shutLatch := s.dev.thm.shutLatch } }, isl := s.isl.cold, fuses := s.fuses,
    pending := s.pending }

/-- POWER_OFF: VDD_AO is absent (18 R513, R524). -/
def State.powerOff (s : State) : State :=
  let p : Pwr := { off := true, domains := 0, pg := 0, goal := 0, state := .stow, votes := [0, 0, 0] }
  let d : Dev := { pwr := p, free := s.dev.free }
  { dev := { d with lnk := { d.lnk with st := .down } }, isl := {}, fuses := s.fuses, pending := s.pending }

/-- A reset of class H or W: every domain but SAFE and AO, while they keep their power (R476, R479; 14 R430; 15 R451;
01 R21). What is outstanding at the host link is kept for step 6. -/
def State.hot (wdog : Bool) (s : State) : State :=
  if !s.dev.on domCORE then s
  else
    let s := s.onDev fun d =>
      let d := d.dropRegs (if wdog then .w else .h) (fun _ => true)
      let d := d.coreReset true
      let d := ((d.acqReset).waveReset false).servoReset
      let d := (d.memReset).hkReset
      let d := { d with prf := {} }
      let d := d.lnkReset true
      let d := { d with lnk := { d.lnk with hotPending := true, hotWdog := wdog, upSince := false } }
      let d := d.modPwr (fun p => { p with resetCause := if wdog then 3 else 2, waitEntry := [], waitWake := [] })
      let d := d.secLock true
      let d := { d with sec := { d.sec with chalRegs := [], result := 0, reason := 0, busy := none, bscanRefused := false } }
      if d.tim.lock || d.tim.lockLost then d.frame0 else d
    s.onIsl Island.pwReset

/-- CORE_WATCHDOG: enabled, CORE powered and ticks running (R476). -/
def State.coreWatchdog (s : State) : State :=
  if s.dev.b Reg.PWR_WDOG_CTL 8 && s.dev.glb.run then s.hot true else s

/-- EIDLE_EXIT: the exit detector on H0 is a wake source (R471; 14 R431). -/
def Dev.eidleExit (d : Dev) : Dev := if d.lnk.st = .eidle then d.edgeWake 3 d.wakeSet else d

/-- Descriptors in flight complete ABORTED, at step 6 of a hot reset (14 R430; 15 R451). -/
def Dev.hotFinish (d : Dev) : Dev :=
  if !d.lnk.hotPending || d.dsc.fetching.any (fun e => e.2 ≠ 0) then d
  else
    let w := d.lnk.hotWdog
    let d := { d with lnk := { d.lnk with hotPending := false, hotWdog := false } }
    let d := (d.abortFlights).raise Ev.LNK_HOT_RESET
    ((d.raiseIf w Ev.PWR_CORE_WDOG).flushHeld).fetchAll true

/-- LNK_UP: the lanes in use are aligned and RX_UP has been received. FLOW goes first; unacknowledged packets are
replayed after a recovery; after a hot reset the outstanding reads are issued again (R476; 14 R409, R427, R430;
01 R28). -/
def Dev.lnkUp (d : Dev) : Dev :=
  let l := d.lnk
  if !(l.st = .aligning || l.st = .recovery) || l.aligned &&& d.lanesInUse ≠ d.lanesInUse then d
  else
    let first := !l.upSince
    let d := { d with lnk := { l with
      st := .up, upSince := true,
      nomWidth := if l.degraded then l.nomWidth else l.width, nomRate := if l.degraded then l.nomRate else l.rate } }
    let d := (d.raise Ev.LNK_UP).sendFlow
    let d := d.raiseIf first Ev.PWR_RESET
    if d.lnk.hotPending then
      let again := d.lnk.reads.map fun (r : Rd) =>
        ({ typ := .memrd, act := some actDESC, addr := r.addr, words := r.words, reader := r.reader } : Packet)
      ({ d with lnk := { d.lnk with reads := [], txq := again ++ d.lnk.txq } }.pump).hotFinish
    else d.pump

/-- HOT_RESET: the 16th consecutive HRST (14 R430). -/
def State.hotReset (s : State) : State := if s.dev.lnk.st = .eidle then s else s.hot false

/-! ## Views (R482, R483) -/

/-- PWR.STATUS. -/
def Dev.pwrStatus (d : Dev) : Word :=
  let st := match (if d.inWindow then d.pwr.state else d.devSt) with
    | .run => 0 | .idle => 1 | .doze => 2 | .stow => 3
  word (st + b2n d.pwr.seq.isSome * 16 + b2n d.pwr.queued.isSome * 32 + b2n d.pwr.failed * 64 + b2n d.critHold * 128
    + b2n d.inWindow * 256)

/-- PWR.DOMAINS: pads held of powered domains. -/
def Dev.pwrDomains (d : Dev) : Word :=
  word (d.pwr.domains + (d.pwr.held &&& d.pwr.domains) * 65536 + b2n d.pwr.linkLow * 2 ^ 28
    + b2n (d.pwr.selfRefresh && !d.on domMEM) * 2 ^ 29)

/-- PWR.TARGET; TARGET itself is the target set in force. -/
def Dev.pwrTarget (d : Dev) : Word :=
  match d.pwr.queued with
  | some q => word (d.target + q * 65536 + 2 ^ 31)
  | none => word d.target

/-- PWR.WAKE_FAIL. -/
def Dev.wakeFail (d : Dev) : Word := word (d.pwr.attempts + d.pwr.failPg * 256 + b2n d.pwr.failOsc * 65536)

/-- PWR.RAILS. -/
def Dev.railsWord (d : Dev) : Word := word (d.rails + d.pwr.pg * 256 + d.pwr.pgLost * 65536)

end Sys2Proof.Machine
end

