-- ==== Sys2Proof/Machine/Engines.lean ====
section
/-! DEFINITION. What the engines go on with by themselves after a command: descriptors of an unknown type, buffers whose
bytes have been sent, drains, and power sequences (15 R446-R448; 16 R469). -/
namespace Sys2Proof.Machine

/-- Descriptors in flight whose TYPE no row of R445 names complete BAD_DESC in their turn (15 R445, R446). -/
def Dev.badTypes (d : Dev) : Dev :=
  (d.dsc.flights.filter (fun f => decide (0x0C < f.desc.typ))).foldl
    (fun d f => Dev.dispatch f.desc false (fun _ => true) id d) d

/-- Everything that waited for packets to leave, for a segment or for a tick. -/
def Dev.engines (d : Dev) : Dev := ((d.badTypes.streamEnd).dumpsGo).drainsGo

/-- The same with the power controller's sequences (16 R469). -/
def Dev.tidy (d : Dev) : Dev := d.engines.pwr1

/-- A device command after which the engines and sequences go on. -/
def State.tidied (f : Dev → Dev) (s : State) : State := s.power (fun d => (f d).tidy)

end Sys2Proof.Machine
end

