-- ==== Sys2Proof/Machine/Island.lean ====
section
/-! DEFINITION. The island's own checks, its start-up, and loading of a safety parameter block (12 R327, R328, R343,
R354, R356). -/
namespace Sys2Proof.Machine

/-- The self-test is over: the checks of R327, R343 and R356 run. -/
def Island.up (i : Island) : Bool := i.st ≠ .start && i.st ≠ .selftest

/-- HEARTBEAT: missed for 2 ms. The watch is suspended while the processor is halted and for 2 ms after it was restarted, and
a gap inside a firmware switch is not a fault (R327; 17 R492, R495). -/
def State.heartbeatMissed (s : State) : State :=
  if !s.isl.up || s.dev.sec.halted || decide (s.dev.now < s.dev.sec.hbFrom) || s.dev.sec.fwSwitch.isSome then s else s.internalFault 0x82

/-- DISAGREE: the halves have differed over consecutive exchanges covering 5 ms (R327). -/
def State.disagreement (s : State) : State := if s.isl.up && 5 ≤ s.isl.differ then s.internalFault 0x81 else s

/-- OSC: an oscillator deviates by more than 10 % for 1 ms (R327). -/
def State.oscDeviates (s : State) : State := if s.isl.st ≠ .start then s.internalFault 0x83 else s

/-- RAM_UE (R343). -/
def State.ramError (s : State) : State := if s.isl.st ≠ .start then s.internalFault 0x84 else s

/-- FW_TRAP: an exception of running firmware (R343). -/
def State.fwTrapped (s : State) : State := if s.isl.fwRun then s.internalFault 0x87 else s

/-- SPB_CRC: a copy of the block in force fails its check, and the defaults are in force (R356). -/
def State.spbCrcBad (s : State) : State :=
  if s.isl.defaulted || !s.isl.up then s else (s.internalFault 0x85).onIsl Island.toDefaults

/-- SAF_OSC_READY (R328). A part held in reset by a SHUT comparator waits (11 R320). -/
def State.oscReady (s : State) : State :=
  if s.isl.st = .start && !s.dev.pwr.shutHold then s.setIsl .selftest else s

/-- SAF_SELFTEST_DONE: WAIT, or LOCKOUT with a fault latched meanwhile; INTERNAL after a failure (R328, R344).
Register accesses are answered from here at the latest (15 R457). -/
def State.selftestDone (pass : Bool) (s : State) : State :=
  let s := s.onDev (fun d => { d with answered := true })
  if s.isl.st ≠ .selftest then s
  else
    if !pass then s.internalFault 0x86
    else s.setIsl (if s.isl.fault.isSome then .lockout else .wait)

/-- SPB_LOAD: the block read from buffer A, none when the read failed (R354, R359; 15 R445). The RESULT is the sequence
number in force. -/
def State.spbLoad (x : Desc) (data : Option (List Byte)) (s : State) : State :=
  let good := decide (4096 ≤ x.lenA) && decide (4176 ≤ x.lenB) && descUnusedZero x []
  let up := s.isl.up
  let pre := Dev.dispatch x good (fun _ => up) id s.dev
  -- `dispatch` with no action tells whether the engine took the descriptor
  if !pre.isOut x || s.dev.isOut x then s.onDev (fun _ => pre)
  else
    let s := { s with dev := pre }
    let end_ := fun (status bytes : Nat) (s : State) =>
      s.onDev (fun d => d.done x status bytes (leBytes 4 (spbSeq s.isl.spb)))
    match readA x data with
    | none => end_ stREAD_FAIL 0 s
    | some bs =>
      if s.isl.accepted && s.isl.pw.openAt.isNone then
        end_ stDENIED 0 (s.onDev (fun d => d.raise Ev.SAF_SPB_REJECT))
      else
        let r := s.spbOffer (bs.take 4096)
        let s := r.2.2
        if !r.1 then end_ stREJECTED 0 s
        else if r.2.1 = [] then end_ stOK 0 s
        else end_ stOK 4176 (s.onDev (fun d => d.memWrite (some actDESC) x.addrB r.2.1))

end Sys2Proof.Machine
end

