-- ==== Sys2Proof/Machine/Views.lean ====
section
/-! DEFINITION. What a read of a register returns: registers that show the state of a block, and the shadows of 64-bit
pairs (00 R5; 01 R23, R39; the register tables of every chapter). -/
namespace Sys2Proof.Machine

/-- The 16-bit and 24-bit signed values that registers show. -/
def lowBits (n : Nat) (v : Int) : Word := word (ofSigned n v)

/-- GLB and memory registers (01 R41; 07 R229). -/
def Dev.viewGLB (d : Dev) (b off : Nat) : Word :=
  if b = Reg.GLB_STATUS then
    let src := match d.glb.src with | .internal => 0 | .encoder => 1 | .tickIn => 2 | .cascade => 3
    word (src + b2n d.tim.lock * 4 + b2n d.ticking * 8 + b2n d.glb.subst * 16 + b2n d.glb.deferredNow * 32
      + b2n d.mdv.freerun * 64)
  else if b = Reg.GLB_FRAME_NUM then d.glb.frameNum
  else if b = Reg.GLB_TICK_DT_LO then loW d.glb.tickDt
  else if b = Reg.GLB_TICK_DT_HI then hiW d.glb.tickDt
  else if b = Reg.GLB_DT_LO then loW d.now
  else if b = Reg.GLB_DT_HI then hiW d.now
  else if b = Reg.GLB_MEM_STATUS then d.memStatus
  else if b = Reg.GLB_MEM_USABLE then word d.memUsable
  else d.rd off

/-- HCH registers (03 R98). -/
def Dev.viewHCH (d : Dev) (b a off : Nat) : Word :=
  if b = Reg.HCH_STATUS then d.hchStatus
  else if b = Reg.HCH_AX_STATE 0 then d.axState a
  else if b = Reg.HCH_TABLE_STATUS then d.tableStatus
  else d.rd off

/-- AFE registers (04 R122, R123). -/
def Dev.viewAFE (d : Dev) (b i off : Nat) : Word :=
  if b = Reg.AFE_STATUS then d.afeStatus
  else if b = Reg.AFE_BIAS_OUT 0 then d.biasWord i
  else if b = Reg.AFE_CH_STATE 0 then d.chState i
  else d.rd off

/-- A mask of the indices below n that satisfy p. -/
def maskOf (n : Nat) (p : Nat → Bool) : Nat := (List.range n).foldl (fun m i => if p i then setBit m i else m) 0

/-- Banks with a channel in a code-density run (05 R151; 09 R272). -/
def Dev.cdActive (d : Dev) : Word :=
  match d.prf.active with
  | some r => if r.kind = 2 then word (maskOf 32 (fun b => d.prf.banks.testBit b || (bankChans b).any d.borrowed)) else 0
  | none => 0

/-- TIM registers (05 R151, R152). -/
def Dev.viewTIM (d : Dev) (b i j off : Nat) : Word :=
  if b = Reg.TIM_STATUS then d.timStatus
  else if b = Reg.TIM_AGE_APPLIED then d.ageApplied
  else if b = Reg.TIM_CD_ACTIVE then d.cdActive
  else if b = Reg.TIM_IU_STATUS 0 then d.iuStatus i
  else if b = Reg.TIM_IU_RES 0 0 then d.iuWord i j
  else if b = Reg.TIM_TBL_NOM 0 then word (maskOf 32 (fun n => d.chanNominal (32 * i + n)))
  else d.rd off

/-- PLT registers (07 R227). -/
def Dev.viewPLT (d : Dev) (b p k off : Nat) : Word :=
  if b = Reg.PLT_STATUS 0 then d.pltStatus p
  else if b = Reg.PLT_BUF_LEVEL 0 then word (d.bufLevel p)
  else if b = Reg.PLT_AUX_RANGE 0 0 then word (d.auxRange (2 * p + k))
  else d.rd off

/-- A coefficient of a bank, 18 bits (08 R260). -/
def coefWord (x : Option FirBank) (i : Nat) : Word :=
  match x with
  | some f => lowBits 18 (f.h.getD i 0)
  | none => 0

/-- GD_HOST of a bank. -/
def bankGd (x : Option FirBank) : Word :=
  match x with
  | some f => wordI f.gd
  | none => 0

/-- FLT registers (08 R260, R261). -/
def Dev.viewFLT (d : Dev) (b p i off : Nat) : Word :=
  let x := d.flt p
  if b = Reg.FLTP_STATUS 0 then d.fltStatus p
  else if b = Reg.FLTP_GD_APPLIED 0 then wordI (d.gdApplied p)
  else if b = Reg.FLTP_GD_OLD 0 then wordI x.gdOld
  else if b = Reg.FLTP_GD_NEW 0 then wordI x.gdNew
  else if b = Reg.FLTP_FADE_DT_LO 0 then loW (ofSigned 64 x.fadeDt)
  else if b = Reg.FLTP_FADE_DT_HI 0 then hiW (ofSigned 64 x.fadeDt)
  else if b = Reg.FLTP_MID_DT_LO 0 then loW (ofSigned 64 x.midDt)
  else if b = Reg.FLTP_MID_DT_HI 0 then hiW (ofSigned 64 x.midDt)
  else if b = Reg.FLTP_BANK_ACT 0 then bankWord x.act
  else if b = Reg.FLTP_BANK_ACT_GD 0 then bankGd x.act
  else if b = Reg.FLTP_BANK_SHD 0 then bankWord x.shd
  else if b = Reg.FLTP_BANK_SHD_GD 0 then bankGd x.shd
  else if b = Reg.FLTP_COEF_ACT 0 0 then coefWord x.act i
  else if b = Reg.FLTP_COEF_SHD 0 0 then coefWord x.shd i
  else d.rd off

/-- PRF registers (09 R279, R280). -/
def Dev.viewPRF (d : Dev) (b i off : Nat) : Word :=
  if b = Reg.PRF_STATUS then d.prfStatus
  else if b = Reg.PRF_RUN_STATUS then d.prfRunStatus
  else if b = Reg.PRF_ZR_TJ 0 then d.zrTj i
  else if b = Reg.PRF_CD_TJ 0 then d.cdTj i
  else d.rd off

/-- HKP registers (10 R302). -/
def State.viewHKP (s : State) (b i off : Nat) : Word :=
  if b = Reg.HKP_STATUS then s.dev.hkStatus
  else if b = Reg.HKP_LOOP_READ 0 then s.loopRead i
  else s.dev.rd off

/-- THM registers (11 R323, R324). -/
def Dev.viewTHM (d : Dev) (b i off : Nat) : Word :=
  if b = Reg.THM_STATUS then d.thmStatus
  else if b = Reg.THM_SENSOR_FAIL then d.sensorMask (fun x => x.failed)
  else if b = Reg.THM_PINNED then d.sensorMask (fun x => x.pinned)
  else if b = Reg.THM_SHUT_LATCH then word d.thm.shutLatch
  else if b = Reg.THM_HOTTEST then d.hottest
  else if b = Reg.THM_TS_STATE 0 then d.sensorWord i
  else if b = Reg.THM_EXT_STATE 0 then d.sensorWord (24 + i)
  else d.rd off

/-- Read-back level of test output k: its drive, or the other level while they differ. A test output that is not
enabled drives high (12 R334, R361). -/
def State.tpState (s : State) : Word :=
  word (maskOf 4 (fun k => !s.isl.tpDiffer.testBit k) + tpEnabled s.isl.spb * 16)

/-- SAF registers (12 R361, R362). -/
def State.viewSAF (s : State) (b i j off : Nat) : Word :=
  let x := s.isl
  if b = Reg.SAF_STATUS then s.safStatus
  else if b = Reg.SAF_FAULT_CAUSE then (match x.fault with | some c => word (c.code + c.index * 256) | none => 0)
  else if b = Reg.SAF_FAULT_DT_LO then (match x.fault with | some c => loW c.dt | none => 0)
  else if b = Reg.SAF_FAULT_DT_HI then (match x.fault with | some c => hiW c.dt | none => 0)
  else if b = Reg.SAF_INT_CAUSE then word x.intCode
  else if b = Reg.SAF_LOCKOUT_CNT then x.lockCnt
  else if b = Reg.SAF_DEMAND_CNT then x.demandCnt
  else if b = Reg.SAF_TP_STATE then s.tpState
  else if b = Reg.SAF_SPB_SEQ then word (spbSeq x.spb)
  else if b = Reg.SAF_SPB_CRC then tabGet 0 x.spb 1023
  else if b = Reg.SAF_LOG_COUNT then word x.log.length
  else if b = Reg.SAF_HEAD_STATE 0 then s.headState i
  else if b = Reg.SAF_PAIR_STATE 0 then s.pairState i
  else if b = Reg.SAF_SO_STATE 0 then s.soState i
  else if b = Reg.SAF_PW_STATUS then s.pwStatus
  else if b = Reg.SAF_SPB 0 then tabGet 0 x.spb i
  else if b = Reg.SAF_LOG 0 0 then word (leAt (x.log.getD i []) (4 * j) 4)
  else s.dev.rd off

/-- The registers in force that CFG_DIGEST covers: BRN, HCH, AFE, STP, PLT and FLT controls, tick registers, and the
servo and walk tables (13 R371). -/
def digestReg (off : Nat) : Bool :=
  match rowOf off with
  | some (r, _) =>
    ((r.acc = .rwt || r.acc = .rwp) && ((0x10 ≤ off && off < 0x30) || (0x100000 ≤ off && off < 0x400000)
      || (0x500000 ≤ off && off < 0x800000)))
    || (r.acc = .ro && ((0x201200 ≤ off && off < 0x209000 && 0x200 ≤ off % 0x1000) || 0x508000 ≤ off && off < 0x509000))
  | none => false

/-- MDV.CFG_DIGEST (13 R371). -/
def Dev.digest (d : Dev) : Word :=
  Config.cfgDigest (tabKeep digestReg d.regs) d.brn.table
    ((List.range 8).map (fun p => match (d.flt p).act with | some b => b.h | none => []))

/-- MDV registers (13 R395, R396). -/
def State.viewMDV (s : State) (b off : Nat) : Word :=
  if b = Reg.MDV_STATUS then s.dev.mdvStatus
  else if b = Reg.MDV_SELF_CHK then word s.selfChk
  else if b = Reg.MDV_CLAIM then s.dev.claimWord
  else if b = Reg.MDV_QUAL then s.dev.qualWord
  else if b = Reg.MDV_CFG_DIGEST then s.dev.digest
  else if b = Reg.MDV_CASC_STATUS then s.dev.cascStatus
  else s.dev.rd off

/-- LNK registers (14 R433). -/
def Dev.viewLNK (d : Dev) (b off : Nat) : Word :=
  let l := d.lnk
  if b = Reg.LNK_STATUS then d.lnkStatus
  else if b = Reg.LNK_LANES then word (l.aligned % 65536 + d.lanesInUse % 65536 * 65536)
  else if b = Reg.LNK_STRAPS then word (d.straps.eqSel % 4 + b2n d.straps.linkMode * 4)
  else if b = Reg.LNK_TX_SEQ then word (l.txNext + l.txAcked * 65536)
  else if b = Reg.LNK_RX_SEQ then word l.rxExp
  else if b = Reg.LNK_RETRY_LEVEL then word d.retryLevel
  else if b = Reg.LNK_READS_OUT then word l.reads.length
  else if b = Reg.LNK_CREDITS_HOST then
    word (creditLeft l.advPh l.usedPh 8 + creditLeft l.advNph l.usedNph 8 * 256 + creditLeft l.advPd l.usedPd 12 * 65536)
  else d.rd off

/-- DSC registers (15 R459). -/
def Dev.viewDSC (d : Dev) (b off : Nat) : Word :=
  if b = Reg.DSC_STATUS then d.dscStatus
  else if b = Reg.DSC_CFG_STATUS then word (putBit (d.rd off).toNat 1 d.glb.image.isSome)
  else if b = Reg.DSC_EVT_PENDING then word d.evt.pend.length
  else d.rd off

/-- PWR registers (16 R482, R483). -/
def Dev.viewPWR (d : Dev) (b i off : Nat) : Word :=
  if b = Reg.PWR_STATUS then d.pwrStatus
  else if b = Reg.PWR_DOMAINS then d.pwrDomains
  else if b = Reg.PWR_TARGET then d.pwrTarget
  else if b = Reg.PWR_VOTE 0 then word (d.vote i)
  else if b = Reg.PWR_TIMER_LEFT then word d.timerLeft
  else if b = Reg.PWR_WAKE_FAIL then d.wakeFail
  else if b = Reg.PWR_STOW_TIME_LO then loW d.pwr.stowUs
  else if b = Reg.PWR_STOW_TIME_HI then hiW d.pwr.stowUs
  else if b = Reg.PWR_RESET_CAUSE then word d.pwr.resetCause
  else if b = Reg.PWR_RAILS then d.railsWord
  else d.rd off

/-- SEC registers but the debug window (17 R500). -/
def State.viewSEC (s : State) (b i off : Nat) : Word :=
  let x := s.dev.sec
  if b = Reg.SEC_STATUS then s.secStatus
  else if b = Reg.SEC_CHAL 0 then word (leAt x.chalRegs (4 * i) 4)
  else if b = Reg.SEC_TOKEN_STATUS then x.tokenStatus
  else if b = Reg.SEC_IKEY_HASH 0 then word (leAt (s.fuses.intKey.getD []) (4 * i) 4)
  else if b = Reg.SEC_DBG_CTL then word x.level
  else if b = Reg.SEC_FW_STATUS then s.fwStatus
  else if b = Reg.SEC_FW_VERSION then x.fwVersion
  else s.dev.rd off

/-- BIT registers (01 R42). -/
def Dev.viewBIT (d : Dev) (b off : Nat) : Word :=
  if b = Reg.BIT_STATUS then word (b2n (d.bite.derated.any id) + b2n (d.bite.paused ≠ 0) * 2)
  else if b = Reg.BIT_CAP_LINK then word d.capLink
  else if b = Reg.BIT_CAP_MEM then word d.capMem
  else if b = Reg.BIT_CAP_PAIR then word d.capPair
  else if b = Reg.BIT_CAP_CASC then word d.capCasc
  else if b = Reg.BIT_CAP_CAL then word d.capCal
  else d.rd off

/-- The present value of the register at an offset; 0 for a write-only or unmapped one (00 R5; 01 R39). -/
def State.view (s : State) (off : Nat) : Word :=
  match rowOf off with
  | none => 0
  | some (r, ix) =>
    let b := r.base
    let i := ix.headD 0
    let j := ix.getD 1 0
    let d := s.dev
    if r.acc = .wo then 0
    else if off < 0x100000 then d.viewGLB b off
    else if off < 0x200000 then d.rd off
    else if off < 0x300000 then d.viewHCH b i off
    else if off < 0x400000 then d.viewAFE b i off
    else if off < 0x500000 then d.viewTIM b i j off
    else if off < 0x600000 then (if b = Reg.STP_ZOOM_POS 0 then d.zoomPos i else d.rd off)
    else if off < 0x700000 then d.viewPLT b i j off
    else if off < 0x800000 then d.viewFLT b i j off
    else if off < 0x900000 then d.viewPRF b i off
    else if off < 0xA00000 then s.viewHKP b i off
    else if off < 0xB00000 then d.viewTHM b i off
    else if off < 0xC00000 then s.viewSAF b i j off
    else if off < 0xD00000 then s.viewMDV b off
    else if off < 0xE00000 then d.viewLNK b off
    else if off < 0xF00000 then d.viewDSC b off
    else if off < 0xF80000 then d.viewPWR b i off
    else if off < 0xFC0000 then s.viewSEC b i off
    else d.viewBIT b off

/-! ## 64-bit pairs (01 R23) -/

/-- Bases of the LO registers of read-only pairs. -/
def pairLos : List Nat :=
  [Reg.GLB_TICK_DT_LO, Reg.GLB_DT_LO, Reg.PLT_LAST_TRIG_LO 0, Reg.FLT_SYNC_DT_LO, Reg.FLTP_FADE_DT_LO 0,
   Reg.FLTP_MID_DT_LO 0, Reg.PRF_DIE_ID_LO, Reg.SAF_FAULT_DT_LO, Reg.MDV_FAILOVER_DT_LO, Reg.MDV_DT_STEP_LO,
   Reg.PWR_STOW_TIME_LO]

/-- The offset is a LO half of a read-only pair. -/
def isPairLo (off : Nat) : Bool :=
  match rowOf off with
  | some (r, _) => pairLos.contains r.base
  | none => false

/-- The offset is a HI half of a read-only pair. -/
def isPairHi (off : Nat) : Bool := decide (4 ≤ off) && isPairLo (off - 4)

/-- Paths by number. -/
def Path.num : Path → Nat
  | .host => 0 | .mgmt => 1 | .debug => 2

/-- Key of the shadow of a HI half on a path. -/
def shadowKey (p : Path) (off : Nat) : Nat := Path.num p * 2 ^ 24 + off

/-- The value that a read on a path returns (R23). -/
def State.readVal (p : Path) (off : Nat) (s : State) : Word :=
  if isPairHi off then (tabGet none s.dev.glb.shadow (shadowKey p off)).getD (s.view off) else s.view off

/-- What a read does: a LO read captures the HI half on its path, and reading the last word of an interval record
removes the record (R23; 05 R149). -/
def State.readEffect (p : Path) (off : Nat) (s : State) : State :=
  let s := if isPairLo off then
      s.onDev fun d => { d with glb := { d.glb with
        shadow := tabPut none d.glb.shadow (shadowKey p (off + 4)) (some (s.view (off + 4))) } }
    else s
  match rowOf off with
  | some (r, ix) =>
    if r.base = Reg.TIM_IU_RES 0 0 && ix.getD 1 0 = 7 then s.onDev (Dev.iuPop (ix.headD 0)) else s
  | none => s

end Sys2Proof.Machine
end

