-- ==== Sys2Proof/Machine/RegisterWrite.lean ====
section
/-! DEFINITION. The effect of a register write on every access code and every register, and the subset of the
management port (00 R5; 01 R12, R25, R39; 02 R56, R65; 15 R437, R438, R460; 16 R465; 17 R493). -/
namespace Sys2Proof.Machine

/-- The last value staged for a register, or the value in force (R25). -/
def Dev.stagedVal (d : Dev) (off : Nat) : Word :=
  ((d.glb.staged.reverse.find? (fun e => e.1 = off)).map (fun e => e.2)).getD (d.rd off)

/-- Stage a write for the next tick (R5, R25). -/
def Dev.stageWr (off : Nat) (v : Word) (d : Dev) : Dev := { d with glb := { d.glb with staged := d.glb.staged ++ [(off, v)] } }

/-- The range of R12 for a frame register. -/
def frameInRange (v : Nat) : Bool := decide (10000 ≤ v) && decide (v ≤ 1000000)

/-- A write of FRAME_LEN, FRAME_MIN or FRAME_MAX: staged when it passes R12. -/
def Dev.frameRegWrite (off : Nat) (val : Word) (d : Dev) : Dev :=
  let v := fld val 19 0
  let mn := if off = Reg.GLB_FRAME_MIN then v else fld (d.stagedVal Reg.GLB_FRAME_MIN) 19 0
  let mx := if off = Reg.GLB_FRAME_MAX then v else fld (d.stagedVal Reg.GLB_FRAME_MAX) 19 0
  if !frameInRange v || mx < mn then d.raise Ev.TICK_CFG_REJECT else d.stageWr off (word v)

/-- The enabled cascade master, waiting for members or not. -/
def Dev.cascMasterOn (d : Dev) : Bool := d.cascOn && decide (d.cascRole = 2)

/-- A write of an RWT register: staged with its writable bits. The host does not write FAMSET of a cascade device or
CODE_SEED of a member, and CODE_SEED of the master goes to every device by SEED (02 R56). -/
def Dev.rwtWrite (off mask : Nat) (val : Word) (d : Dev) : Dev :=
  let v := word (val.toNat &&& mask)
  if off = Reg.GLB_FRAME_LEN || off = Reg.GLB_FRAME_MIN || off = Reg.GLB_FRAME_MAX then d.frameRegWrite off val
  else if off = Reg.BRN_CODE_SEED && d.cascMember then d
  else if off = Reg.BRN_CODE_SEED && d.cascMasterOn then d.seedWrite val
  else if off = Reg.BRN_CODE_CTL && d.cascOn then d.stageWr off (setFld v 3 0 (d.f off 3 0))
  else d.stageWr off v

/-- A write of an RWP register (R5; 12 R358). -/
def State.rwpWrite (off mask : Nat) (val : Word) (s : State) : State :=
  if isBrnLimit off then s.limitWrite off val
  else if s.isl.rwpOk then s.onDev (Dev.stageWr off (word (val.toNat &&& mask)))
  else s.rwpDenied

/-- A write of a W1C register. -/
def Dev.w1cWrite (off : Nat) (val : Word) (d : Dev) : Dev := d.wr off (d.rd off &&& ~~~val)

/-- Plain RW registers and those whose write has an effect of its own. -/
def State.rwWrite (off base i mask : Nat) (val : Word) (s : State) : State :=
  let v := word (val.toNat &&& mask)
  match ringOf off with
  | some (k, r) => s.onDev (Dev.ringCtl k r val)
  | none =>
    if off = Reg.MDV_CASC_CTL then s.onDev (Dev.cascCtl val)
    else if off = Reg.MDV_TICK_LEAD then s.onDev (Dev.tickLeadWrite val)
    else if off = Reg.GLB_MEM_CFG then
      s.onDev fun d => let d := d.wr off v
                       { d with glb := { d.glb with memCfgNew := true } }
    else if base = Reg.PWR_VOTE 0 then s.power (Dev.voteWrite i val)
    else if off = Reg.PWR_TIMER then s.onDev (Dev.timerWrite val)
    else if off = Reg.SEC_DBG_CTL then s.dbgCtl false (fld val 1 0)
    else if base = Reg.DSC_EVT_CFG 0 then (if evtAllocated i then s.onDev (fun d => d.wr off v) else s)
    else
      match baseGuard off with
      | some ctl => if s.dev.b ctl 12 then s else s.onDev (fun d => d.wr off v)
      | none => s.onDev (fun d => d.wr off v)

/-- The command that an AX_CMD code stands for; other codes are ignored (03 R97). -/
def axCode (code : Nat) : Option AxCmd :=
  match code with | 1 => some .engage | 2 => some .park | 3 => some .disable | 4 => some .clear | _ => none

/-- PAIR_CMD (13 R395). -/
def Dev.pairCmd (val : Word) (d : Dev) : Dev :=
  let d := if bit val 0 then d.suspectClr else d
  let d := if bit val 1 then d.yieldClaim else d
  if bit val 2 then d.requal else d

/-- SEC_CMD (17 R500). -/
def State.secCmd (val : Word) (s : State) : State :=
  let s := if bit val 0 then s.onDev (Dev.secLock false) else s
  let s := if bit val 1 then s.keyProg (bit val 3) else s
  if bit val 2 then s.keyRevoke else s

/-- SP_CTL (17 R495, R500). -/
def State.spCtl (val : Word) (s : State) : State :=
  let s := if bit val 0 then s.halt else s
  let s := if bit val 1 then s.resume else s
  if bit val 2 then s.step1 else s

/-- Write-only registers: what a write of each does. `mgmt` tells the management port, the only path of WAKE_RETRY. -/
def State.woWrite (mgmt : Bool) (off base i : Nat) (val : Word) (s : State) : State :=
  let go := fun (c : Bool) (f : Dev → Dev) => if c then s.onDev f else s
  if base = Reg.HCH_AX_CMD 0 then (match axCode (fld val 2 0) with | some c => s.onDev (Dev.axCmd i c) | none => s)
  else if off = Reg.AFE_GAIN_SET then s.onDev (Dev.gainSet (fld val 8 0) (fld val 17 16) (bit val 24))
  else if off = Reg.GLB_MEM_CTL then go (bit val 0) Dev.memTrain
  else if off = Reg.FLT_SYNC_CMD then go (bit val 0) Dev.syncCmd
  else if base = Reg.FLTP_SW_GO 0 then go (bit val 0) (Dev.swGo i)
  else if off = Reg.PRF_APPLY then
    let s := if bit val 0 then s.onDev Dev.applyGo else s
    if bit val 1 then s.onDev Dev.applyDiscard else s
  else if off = Reg.THM_CRIT_CLR then go (bit val 0) Dev.critClear
  else if off = Reg.THM_SENSOR_CLR then s.onDev (Dev.sensorClear val)
  else if off = Reg.SAF_STALL_CLR then s.stallClear val.toNat
  else if base = Reg.SAF_PW_DATA 0 then s.onIsl fun x => { x with pw := { x.pw with data := tabPut 0 x.pw.data i val } }
  else if off = Reg.SAF_PW_CTL then
    let s := if bit val 8 then s.pwPresent (fld val 6 0) else s
    if bit val 9 then s.pwClose else s
  else if off = Reg.MDV_PAIR_CMD then s.onDev (Dev.pairCmd val)
  else if off = Reg.LNK_CMD then
    let s := if bit val 0 then s.onDev Dev.retrain else s
    if bit val 1 then s.onDev Dev.retune else s
  else if off = Reg.PWR_PAD_RELEASE then s.onDev (Dev.padRelease val)
  else if off = Reg.PWR_DRST then s.power (Dev.drstWrite val)
  else if off = Reg.PWR_MGMT_CMD then (if mgmt && bit val 0 then s.power Dev.wakeRetry else s)
  else if off = Reg.SEC_CHAL_CTL then go (bit val 0) Dev.chalNew
  else if base = Reg.SEC_TOKEN 0 then s.onDev (Dev.modSec fun x => { x with token := tabPut 0 x.token i val })
  else if off = Reg.SEC_TOKEN_CTL then go (bit val 0) Dev.tokenSubmit
  else if off = Reg.SEC_SEC_CMD then s.secCmd val
  else if base = Reg.SEC_INT_KEY 0 then s.onDev (Dev.modSec fun x => { x with intKey := tabPut 0 x.intKey i val })
  else if off = Reg.SEC_SP_CTL then s.spCtl val
  else s

/-- What a write of `val` to the register at `off` does; a write to an unmapped, unaligned or read-only register is
discarded (R5, R39). -/
def State.regWrite (mgmt : Bool) (off : Nat) (val : Word) (s : State) : State :=
  match rowOf off with
  | none => s
  | some (r, ix) =>
    let i := ix.headD 0
    match r.acc with
    | .ro => s
    | .rwt => if (r.base = Reg.HKP_SLOT_CFG 0 || r.base = Reg.HKP_SLOT_AUX 0) && i < 24 then s else s.onDev (Dev.rwtWrite off r.mask val)
    | .rwp => s.rwpWrite off r.mask val
    | .w1c => s.onDev (Dev.w1cWrite off val)
    | .rw => s.rwWrite off r.base i r.mask val
    | .wo => s.woWrite mgmt off r.base i val

/-! ## The debug bus (17 R493, R494, R498) -/

/-- A read of the debug bus: a register of the window by its offset, 0 in a domain that is off, a free value at any
other address. -/
def State.dbgRead (a : Word) (s : State) : Word × State :=
  let off := a.toNat
  match rowOf off with
  | some _ =>
    if s.dev.on (regDomain off) then (s.readVal .debug off, s.readEffect .debug off) else (0, s)
  | none => (Config.debugBus a s.dev.free, s.onDev fun d => { d with free := d.free + 1 })

/-- An access through DBG_ADDR and DBG_DATA: refused without a session of the link that allows it. A write puts the
value into a register of the window; one elsewhere changes nothing that this model holds. -/
def State.dbgAccess (write : Bool) (a val : Word) (s : State) : State :=
  let x := s.dev.sec
  let need := if write then 2 else 1
  if x.port || x.level < need || !s.dev.awake then s.onDev Dev.denied
  else if write then s.regWrite false a.toNat val
  else (s.dbgRead a).2

/-! ## Entry from a path -/

/-- A register write on the host or the management path: the debug window is the bus. -/
def State.pathWrite (mgmt : Bool) (off : Nat) (val : Word) (s : State) : State :=
  if off = Reg.SEC_DBG_DATA then s.dbgAccess true (s.dev.rd Reg.SEC_DBG_ADDR) val
  else s.regWrite mgmt off val

/-- A host command: nothing while the link is not up, and no effect before register accesses are answered or before
step 6 of a hot reset (14 R410, R430; 15 R457). -/
def State.hosted (f : State → State) (s : State) : State :=
  if s.dev.lnk.st = .up then
    let s := s.onDev (fun d => (d.rxAccept (.posted 1)).answering)
    if s.dev.answered && !s.dev.lnk.hotPending then f s else s
  else s

/-- Offsets that the management port may write (15 R437). -/
def mgmtWritable (off : Nat) : Bool :=
  (0xD00000 ≤ off && off < 0xD00180) || (0xF00000 ≤ off && off < 0xF80000)

/-- Offsets that the management port may read (15 R437). -/
def mgmtReadable (off : Nat) : Bool :=
  off < 0x100 || (0xA00000 ≤ off && off < 0xA00030) || (0xB00000 ≤ off && off < 0xB00018) || (0xE00000 ≤ off && off < 0xE00020)
  || mgmtWritable off

/-- A matched management access while a domain of WAKE_SET is missing is a wake; the access is answered BUSY
(16 R471; 11 R320). The answer is whether the access is served. -/
def State.mgmtArrive (s : State) : Bool × State :=
  if s.dev.lacks s.dev.wakeSet && s.dev.b Reg.PWR_WAKE_EN 0 && !s.dev.pwr.mgmtMatch then
    (false, s.power (fun d => (d.modPwr (fun p => { p with mgmtMatch := true })).levelWakes))
  else (true, s)

/-- Status bytes of the management port (15 R438). -/
def mgmtOK : Nat := 0
/-- BUSY. -/
def mgmtBUSY : Nat := 1
/-- UNSUPPORTED. -/
def mgmtUNSUPPORTED : Nat := 2

/-- The management port answers with a status byte, and a read with its data word (15 R438). -/
def State.mgmtReply (st : Nat) (val : Word) (s : State) : State :=
  s.onDev (Dev.modPwr (fun p => { p with mgmtAns := some (st, val) }))

/-- MGMT_WRITE: `late` is an access not served within 1 ms, answered BUSY; an offset outside the subset is answered
UNSUPPORTED; both discard the write (15 R437, R438, R458). -/
def State.mgmtWrite (off : Nat) (val : Word) (late : Bool) (s : State) : State :=
  let a := s.mgmtArrive
  if late || !a.1 then a.2.mgmtReply mgmtBUSY 0
  else if !mgmtWritable off then a.2.mgmtReply mgmtUNSUPPORTED 0
  else (a.2.pathWrite true off val).mgmtReply mgmtOK 0

end Sys2Proof.Machine
end

