-- ==== Sys2Proof/Machine/Tick.lean ====
section
/-! DEFINITION. The tick: what ends a frame and begins the next one, and the sources of ticks (01 R9-R25). -/
namespace Sys2Proof.Machine

/-! ## Step 1: the frame that ends (R24) -/

/-- The frame that ends is measured and its records are formed; the frame number and the tick registers change
(R20, R21, R24). `fr` is the frame number that a cascade member loads (13 R389). -/
def Dev.frameEnd (k : TickKind) (t : Time) (fr : Option Word) (o : TickObs) (d : Dev) : List (List Byte) × Dev :=
  let d := d.at t
  let d := { d with evt := { d.evt with once := [] },
                    glb := { d.glb with ended := d.glb.frameNum, frameNum := fr.getD (d.glb.frameNum + 1) } }
  let d := d.when (d.on domMEM) (Dev.memErrors o.mem)
  let acq := d.on domACQ
  let d := d.when acq (fun d => (d.brnEnd.afePublish o).staleFrame)
  let d := d.epochTick
  let r := if acq then d.stpPublish else ([], d)
  let d := r.2.metersRestart
  let len := t - d.glb.start
  let was := d.glb.subst
  let d := { d with glb := { d.glb with
    tickDt := t, start := t, ticks := d.glb.ticks + 1, deferred := false, deferFr := none, notBefore := 0,
    subst := decide (k = TickKind.substitute), deferredNow := decide (k = TickKind.deferred), handover := false, memCfg := d.rd Reg.GLB_MEM_CFG } }
  let d := d.wr Reg.GLB_TICK_ENC_POS (d.rd Reg.GLB_ENC_POS)
  let d := if k = .substitute then (d.inc Reg.GLB_TICK_SUBST_CNT).raiseIf (!was) Ev.TICK_TIMEOUT else d
  let d := if fr.isSome && d.cascMember then d.modMdv (fun m => { m with lastLen := len, freerun := false }) else d
  (r.1, d.modMdv (fun m => { m with announced := none, aged := m.aged - 1 }))

/-! ## Step 2: settings (R24, R25) -/

/-- Registers whose staged value makes the Bite check run (R25). -/
def isBiteReg (o : Nat) : Bool :=
  o = Reg.GLB_TICK_CTL || o = Reg.GLB_FRAME_LEN || o = Reg.GLB_FRAME_MIN || o = Reg.GLB_FRAME_MAX
  || (Reg.BIT_BUDGET 0 ≤ o && o < Reg.BIT_BUDGET 9) || o = Reg.BIT_FLOOR_ECHO || o = Reg.BIT_FLOOR_PAIR

/-- A register of the frame-length set of R12. -/
def isFrameReg (o : Nat) : Bool := o = Reg.GLB_FRAME_LEN || o = Reg.GLB_FRAME_MIN || o = Reg.GLB_FRAME_MAX

/-- A register that a format failure returns to its default (15 R454). -/
def defaultable (off : Nat) : Bool :=
  imageMay off && resets .h off && off ≠ Reg.GLB_MEM_CFG
  && (match rowOf off with | some (r, _) => r.acc = .rw || r.acc = .rwt | none => false)

/-- The return to defaults of R454, with the offsets that it restores, whether their values change or not: each holds
a staged value for the checks of this tick (R25). -/
def Dev.applyDefaults (d : Dev) : List Nat × Dev :=
  let d := { d with regs := tabKeep (fun o => !defaultable o) d.regs }
  (imageOffs.filter defaultable, (d.setB Reg.DSC_CFG_STATUS 0 true).raise Ev.CFG_DEFAULTED)

/-- One value of an image, applied under its register's own rules (15 R455; 00 R5; 02 R56, R65; 10 R299). The answer
tells whether it took effect. -/
def State.imageVal (off : Nat) (val : Word) (s : State) : Bool × State :=
  match rowOf off with
  | none => (false, s)
  | some (r, ix) =>
    let i := ix.headD 0
    let v := word (val.toNat &&& r.mask)
    match r.acc with
    | .rwt =>
      if (off = Reg.BRN_CODE_SEED && s.dev.cascOn)
          || ((r.base = Reg.HKP_SLOT_CFG 0 || r.base = Reg.HKP_SLOT_AUX 0) && i < 24) then
        (false, if s.dev.cascMasterOn && off = Reg.BRN_CODE_SEED then s.onDev (Dev.seedWrite val) else s)
      else if off = Reg.BRN_CODE_CTL && s.dev.cascOn then (true, s.onDev (fun d => d.wr off (setFld v 3 0 (d.f off 3 0))))
      else (true, s.onDev (fun d => d.wr off v))
    | .rwp =>
      if !s.isl.rwpOk then (false, s.rwpDenied)
      else if isBrnLimit off then
        -- an accepted limit is staged by the host's rule; here it takes effect at once
        let n := s.dev.glb.staged.length
        let s' := s.limitWrite off val
        if s'.dev.glb.staged.length = n then (false, s')
        else (true, s'.onDev (fun d => { d with glb := { d.glb with staged := s.dev.glb.staged } }.wr off v))
      else if off = Reg.HKP_EL_CTL then (true, s.onDev (fun d => d.wr off (elCtlNew (d.rd off) v)))
      else (true, s.onDev (fun d => d.wr off v))
    | .rw => (false, s.rwWrite off r.base i r.mask val)
    | _ => (false, s)

/-- The image's values in run order; the offsets staged, latest first. -/
def State.imageVals : List (Nat × Word) → List Nat → State → List Nat × State
  | [], l, s => (l, s)
  | (o, v) :: vs, l, s =>
    let r := s.imageVal o v
    State.imageVals vs (if r.1 then o :: l else l) r.2

/-- The staged register writes in order of arrival (R25). -/
def Dev.applyStaged (d : Dev) : Dev :=
  let l := d.glb.staged
  let d := { d with glb := { d.glb with staged := [] } }
  l.foldl (fun d e => if e.1 = Reg.HKP_EL_CTL then d.wr e.1 (elCtlNew (d.rd e.1) e.2) else d.wr e.1 e.2) d

/-- The check of R12 on frame-register values that an image carries. -/
def Dev.frameRegsOk (d : Dev) : Bool :=
  [Reg.GLB_FRAME_LEN, Reg.GLB_FRAME_MIN, Reg.GLB_FRAME_MAX].all (fun o => frameInRange (d.f o 19 0))
  && decide (d.f Reg.GLB_FRAME_MIN 19 0 ≤ d.f Reg.GLB_FRAME_MAX 19 0)

/-- The tick source of the frame that begins (R17). A member takes the cascade source from its first cascade tick on;
any other part runs on the internal source instead. -/
def Dev.takeSource (old : Src) (casc : Bool) (d : Dev) : Dev :=
  let c := d.f Reg.GLB_TICK_CTL 1 0
  let src : Src := if c = 0 then .internal else if c = 1 then .encoder else if c = 2 then .tickIn
    else if d.cascMember && (casc || old = .cascade) then .cascade else .internal
  { d with glb := { d.glb with src := src } }

/-- Selecting the cascade source on a part that is no enabled member is noted once (R17); the encoder accumulator
starts from zero (R18). -/
def Dev.sourceDone (old : Src) (d : Dev) : Dev :=
  let mis := d.f Reg.GLB_TICK_CTL 1 0 = 3 && !d.cascMember
  let d := d.raiseIf (mis && !d.glb.misuse) Ev.TICK_CFG_REJECT
  let keep := d.glb.src = .encoder && old = .encoder && d.b Reg.GLB_ENC_CTL 5 && d.f Reg.GLB_ENC_TICK_DIST 23 0 ≠ 0
  { d with glb := { d.glb with misuse := mis, encAcc := if keep then d.glb.encAcc else 0 } }

/-- The profile check of one axis (03 R85): its staged values are discarded on a failure, whatever made it fail, and a
changed profile starts a joining move (R87). The answer is the condition that failed. -/
def Dev.axisCheck (old : Dev) (mine : List Nat) (a : Nat) (d : Dev) : Option Nat × Dev :=
  let f := d.profFail a
  let d := if f.isSome then (Dev.revertTo old mine d).raise Ev.HCH_PROF_REJECT else d
  let ok := (d.profFail a).isNone
  (f, Dev.axisRejoin old a (d.modAx a (fun x => { x with profOk := ok })))

/-- The profile check of the axes concerned (03 R85). The answer tells whether an axis failed with registers staged.
PROF_STATUS names the lowest axis that failed at the tick, and no axis when all passed: DESIGN CHOICE (log 108). -/
def Dev.hchCheck (old : Dev) (staged : List Nat) (d : Dev) : Bool × Dev :=
  let plan := d.planLen
  let again := decide (plan ≠ d.hch.planLen)
  let d := { d with hch := { d.hch with planLen := plan } }
  let mineOf := fun a => offsIn (0x201000 + 4096 * a) (0x202000 + 4096 * a) staged
  let due := (List.range 8).filter (fun a => !(mineOf a).isEmpty || again)
  let r := due.foldl (fun (r : List (Nat × Nat) × Dev) a =>
    let c := Dev.axisCheck old (mineOf a) a r.2
    (match c.1 with | some k => r.1 ++ [(a, k)] | none => r.1, c.2)) ([], d)
  let d := if due.isEmpty then r.2
    else r.2.wrN Reg.HCH_PROF_STATUS (match r.1.head? with | some (a, k) => 2 + a * 16 + k * 256 | none => 1)
  (r.1.any (fun x => !(mineOf x.1).isEmpty), d)

/-- Plates and chains: the checks of a tick, and the PLATE_ARM descriptors that wait for it, in order (07 R224; 15
R445). The answer lists the plates that failed, and how each descriptor completes. -/
def Dev.platesCheck (old : Dev) (staged : List Nat) (memCfg : Bool) (d : Dev) : List Nat × List (Desc × Nat) × Dev :=
  let w := d.takeAtTick .plateArm
  let d := w.2
  let armOf := fun (x : Desc) => descPar x 33 1 = 0
  let arms := (w.1.filter (fun x => armOf x && !(d.plt (descPar x 32 1)).acquiring)).map (fun x => descPar x 32 1)
  let ps := pltChecked staged memCfg arms
  let r := Dev.pltCheckGo old staged ps [] d
  let bad := ps.filter (fun p => !r.1.contains p)
  let done := w.1.foldl (fun (acc : List (Desc × Nat) × Dev) x =>
    let p := descPar x 32 1
    let d := acc.2
    if !armOf x then (acc.1 ++ [(x, stOK)], d.pltStop p d.now)
    else if (d.plt p).acquiring then (acc.1 ++ [(x, stREJECTED)], d)
    else if r.1.contains p then (acc.1 ++ [(x, stOK)], d.pltStart p d.now)
    else (acc.1 ++ [(x, stCHECK_FAIL)], d)) ([], r.2)
  (bad, done.1, done.2)

/-- Step 2: ranging starts and stops, defaults or an image, staged writes, the checks, trims. The answers are the blocks
whose check failed, the offsets staged and the completions due at the tick. -/
def State.settings (casc : Bool) (s : State) : Nat × List Nat × List (Desc × Nat) × State :=
  let old := s.dev
  -- ranging
  let w := old.takeAtTick .acqStop
  let d := w.1.foldl (fun d x => d.acqStopNow x) w.2
  let stops := w.1.map (fun x => (x, stOK))
  let w := d.takeAtTick .acqStart
  let d := w.2
  let starts := w.1.map (fun x => (x, if d.on domACQ then stOK else stNOT_READY))
  let go := starts.any (fun e => e.2 = stOK)
  let d := { d with
    brn := { d.brn with ranging := d.brn.ranging || go },
    stp := { d.stp with fresh := go && !d.brn.ranging } }
  -- defaults, image, writes
  let memCfg := d.glb.memCfgNew
  let toDef := d.glb.toDefaults
  let d := { d with glb := { d.glb with memCfgNew := false, toDefaults := false } }
  let a := if toDef then d.applyDefaults else ([], d)
  let s := { s with dev := a.2 }
  let img := s.dev.glb.image
  let i := match img with
    | some x => State.imageVals x.vals [] s
    | none => ([], s)
  let s := i.2
  let offs := a.1 ++ i.1.reverse ++ s.dev.glb.staged.map (fun e => e.1)
  let s := s.onDev Dev.applyStaged
  -- R12 on an image
  let badFrame := i.1.any isFrameReg && !s.dev.frameRegsOk
  let frameRegs := [Reg.GLB_FRAME_LEN, Reg.GLB_FRAME_MIN, Reg.GLB_FRAME_MAX]
  let s := if badFrame then s.onDev (fun d => (Dev.revertTo old frameRegs d).raise Ev.TICK_CFG_REJECT) else s
  let offs := if badFrame then offs.filter (fun o => !isFrameReg o) else offs
  let s := s.onDev Dev.seedTick
  -- the Bite check
  let s := s.onDev (Dev.takeSource old.glb.src casc)
  let bite := offs.filter isBiteReg
  let fail := if bite.isEmpty then none else s.dev.biteFail
  let s := if bite.isEmpty then s else s.onDev (fun d => d.biteRecord fail)
  let s := if fail.isSome then
      s.onDev (fun d => (Dev.takeSource old.glb.src casc (Dev.revertTo old bite d)).raise Ev.BIT_REJECT)
    else s
  let s := s.onDev (Dev.biteFrame (!bite.isEmpty && fail.isNone))
  -- the checks of the blocks
  let d := s.dev
  let acq := d.on domACQ
  let d := d.when acq (Dev.stpCheck old offs)
  let d := d.when acq (Dev.planCheck s.isl.spb old offs)
  let brn := acq && d.f Reg.BRN_PLAN_STATUS 1 0 = 2 && !((offsIn 0x100000 0x200000 offs).filter (fun o => !isBrnLimit o)).isEmpty
  let h := if d.on domSERVO then Dev.hchCheck old offs d else (false, d)
  let p := if h.2.on domWAVE then Dev.platesCheck old offs memCfg h.2 else ([], [], h.2)
  let d := p.2.2
  let d := d.when (d.on domHK) (Dev.hkCheck old offs)
  let d := Dev.thmCheck old offs d
  let d := d.applyStaging
  let mask := b2n fail.isSome + b2n brn * 2 + b2n h.1 * 4 + b2n (acq && d.f Reg.STP_STATUS 1 0 = 2) * 8 + b2n (!p.1.isEmpty) * 16
    + b2n (d.on domHK && d.hkp.check = 2 && offs.any isHkRound) * 32
    + b2n (d.thm.check = 2 && !(offsIn 0xA00000 0xA10000 offs).isEmpty) * 64 + b2n badFrame * 128
  -- what a plate check discarded was not staged for what follows (07 R224)
  let kept := offs.filter (fun o => !(p.1.any (fun k => decide (0x600000 + 65536 * k ≤ o) && decide (o < 0x600000 + 65536 * (k + 1)))))
  (mask, kept, stops ++ starts ++ p.2.1, { s with dev := d })

/-- The blocks take up the frame with their settings in force. -/
def Dev.frameBegin (old : Dev) (was : Nat) (offs : List Nat) (o : TickObs) (d : Dev) : Dev :=
  let d := d.sourceDone old.glb.src
  let d := Dev.elTick old d
  let d := d.when (d.on domHK) (Dev.hkTick old)
  let d := Dev.loopTick old offs o.loops d
  let d := { d with stp := { d.stp with throttled := decide (1 ≤ d.thm.step) } }
  let d := d.calTick
  let d := if d.on domACQ then
      let d := Dev.brnStart old d
      let d := Dev.afeTick old d
      let d := d.walkTick
      let d := Dev.stpTick old d
      Dev.iuTick old d
    else d
  let d := Dev.waveTick old was offs d
  d.when (d.on domSERVO) (forN 8 (Dev.axisTick d.glb.tickDt))

/-- A staged image has been applied (15 R455). -/
def Dev.imageApplied (d : Dev) : Dev :=
  match d.glb.image with
  | none => d
  | some i => (((d.wrN Reg.DSC_CFG_ID i.ident).setB Reg.DSC_CFG_STATUS 0 false).setF Reg.DSC_CFG_STATUS 9 8 1).raise Ev.CFG_APPLIED

/-- The completion of the image applied, with the blocks whose check failed (15 R455). -/
def Dev.imageDone (mask : Nat) (d : Dev) : Dev :=
  match d.glb.image with
  | none => d
  | some i =>
    ({ d with glb := { d.glb with image := none } }).done i.flight stOK 0 (leBytes 4 i.ident ++ leBytes 4 mask)

/-! ## Steps 3 and 4: results, records and the doorbell page (R24) -/

/-- A due event record that its ring reports while LINK is in low power is a wake (16 R471). -/
def Dev.recordWake (d : Dev) : Dev :=
  let high := d.evt.pend.any (fun p => p.due && decide (d.f (Reg.DSC_EQ_CTL (d.evRing p.num)) 9 8 ≤ d.evSev p.num))
  if d.pwr.linkLow && high then d.edgeWake 6 4 else d

/-- Steps 3 and 4. `b` is the block of the frame that ended, when ranging ran in it. Due records are written first: what is
raised from step 3 on belongs to the next tick (15 R452). -/
def Dev.results (old : Dev) (b : Option Block) (recs : List (List Byte)) (done : List (Desc × Nat)) (mask : Nat)
    (d : Dev) : Dev :=
  let d := (done.foldl (fun d e => d.finish e.1 e.2) d.imageApplied).imageDone mask
  let d := (((d.markDue).writeDue).recordWake).dumpTick
  let d := match b with
    | some x => (d.raiseIf d.dsc.stream.isNone Ev.ECHO_NO_BUF).putBlock x
    | none => d
  let d := if old.brn.ranging && !d.brn.ranging then d.streamStop else d
  let d := (d.modMdv (fun m => { m with recFrame := d.glb.ended, recs := recs })).pairSend d.glb.ended recs.length
  let leave : Bool := match d.pwr.seq with
    | some (.entry m) => m.testBit domACQ && d.pwr.phase = .quiesce
    | some (.reset m) => m.testBit domACQ
    | _ => false
  let d := if leave && !d.pwr.framed then d.acqEnd.modPwr (fun p => { p with framed := true }) else d
  (((d.doorbellRead false).fetchAll true).pump).tidy

/-! ## The tick -/

/-- Flags of a frame block (15 R447). -/
def Dev.blockFlags (d : Dev) : Nat :=
  b2n d.glb.subst + b2n d.glb.deferredNow * 2 + b2n d.mdv.freerun * 4 + b2n d.glb.handover * 8

/-- What follows the end of a frame at a tick: `s` is the block before the tick, `e` the records of the frame that ended
and the device after step 1, and `casc` tells a cascade member's tick from another (R24). -/
def State.tickTail (casc : Bool) (o : TickObs) (e : List (List Byte) × Dev) (s : State) : State :=
  let old := s.dev
  let b : Option Block := if old.brn.ranging && old.on domACQ then
      some { frame := old.glb.frameNum, dt := old.glb.tickDt, flags := old.blockFlags, recs := e.1 } else none
  let was := old.thm.step
  let t := ({ s with dev := e.2 } : State).islandTick o.gap
  let before := ((t.dev.thmTick).echoDrop).cascDrop
  let r := ({ t with dev := before } : State).settings casc
  let t := r.2.2.2.onDev (Dev.frameBegin before was r.2.1 o)
  let t := t.onDev (fun d => Dev.results old b e.1 r.2.2.1 r.1 d.noteState)
  t.loopNote.settle old

/-- A tick of kind `k` at `t`: the frame that runs ends, and the next one begins (R24). -/
def State.tick (k : TickKind) (t : Time) (fr : Option Word) (o : TickObs) (s : State) : State :=
  if s.dev.ticking then State.tickTail fr.isSome o (Dev.frameEnd k t fr o s.dev) s else s

/-! ## Sources (R11-R19) -/

/-- The instant from which the next source tick is counted: the previous tick, or on an enabled cascade master the
source instant of its last tick (13 R389). -/
def Dev.tickBase (d : Dev) : Time := if d.cascMaster && d.mdv.srcAt ≠ 0 then d.mdv.srcAt else d.glb.start

/-- A source tick at `t`: an enabled master sends it to the cascade and takes it later (13 R389). -/
def State.sourceTick (k : TickKind) (t : Time) (o : TickObs) (s : State) : State :=
  if !s.dev.ticking then s
  else if s.dev.cascMaster then
    s.onDev fun d =>
      let d := Dev.masterTick k t d
      { d with glb := { d.glb with deferred := false } }
  else s.tick k t none o

/-- FRAME_LEN in DT. -/
def Dev.frameLen (d : Dev) : Time := d.f Reg.GLB_FRAME_LEN 19 0 * ns
/-- FRAME_MIN in DT. -/
def Dev.frameMin (d : Dev) : Time := d.f Reg.GLB_FRAME_MIN 19 0 * ns
/-- FRAME_MAX in DT. -/
def Dev.frameMax (d : Dev) : Time := d.f Reg.GLB_FRAME_MAX 19 0 * ns

/-- INTERNAL_TICK: FRAME_LEN after the previous tick; a standby takes the DT announced; a member that has lost its
master runs at the last master frame's length (R11; 13 R366, R393). -/
def State.internalTick (o : TickObs) (s : State) : State :=
  let d := s.dev
  if d.mdv.freerun && d.glb.src = .cascade then
    s.sourceTick .internal (d.glb.start + max d.frameMin (min d.frameMax d.mdv.lastLen)) o
  else if d.glb.src ≠ .internal then s
  else
    match (if d.isStandby then d.mdv.announced else none) with
    | some t => s.sourceTick .internal t o
    | none => s.sourceTick .internal (max d.glb.notBefore (d.tickBase + d.frameLen)) o

/-- A source tick at `t` that comes too early: it is deferred, with the frame number that it carries, or discarded when
one is deferred already (R13). -/
def Dev.deferTick (t : Time) (fr : Option Word) (d : Dev) : Dev :=
  let d := d.at t
  if d.glb.deferred then (d.inc Reg.GLB_TICK_DROP_CNT).raise Ev.TICK_DROPPED
  else ({ d with glb := { d.glb with deferred := true, deferFr := fr } }.inc Reg.GLB_TICK_DEFER_CNT).raise Ev.TICK_DEFERRED

/-- An external source tick at `t`: less than FRAME_MIN after the previous tick it is deferred or discarded (R13). -/
def State.externalTick (k : TickKind) (t : Time) (o : TickObs) (s : State) : State :=
  if !s.dev.ticking then s
  else if t < s.dev.tickBase + s.dev.frameMin then s.onDev (Dev.deferTick t none)
  else s.sourceTick k t o

/-- ENCODER_TICK at `t`: the accumulator has reached the tick distance (R18). -/
def State.encoderTick (o : TickObs) (t : Time) (s : State) : State :=
  let d := s.dev
  let dist : Int := (256 * d.f Reg.GLB_ENC_TICK_DIST 23 0 : Nat)
  if d.glb.src ≠ .encoder || dist = 0 || d.glb.encAcc < dist || !d.b Reg.GLB_ENC_CTL 5 || !d.ticking then s
  else (s.onDev fun d => { d with glb := { d.glb with encAcc := d.glb.encAcc - dist } }).externalTick .encoder t o

/-- TICK_IN_EDGE at `t` on the pin: the selected edge makes a tick 40 ns after its rounded time (R16). -/
def State.tickInEdge (falling : Bool) (t : Time) (o : TickObs) (s : State) : State :=
  if s.dev.glb.src ≠ .tickIn || s.dev.b Reg.GLB_TICK_CTL 2 ≠ falling || s.dev.sec.bscan then s
  else s.externalTick .tickIn (t / 8 * 8 + 40 * ns) o

/-- DEFERRED_TICK: FRAME_MIN after the previous tick (R13). A deferred cascade tick keeps its frame number (13 R389). -/
def State.deferredTick (o : TickObs) (s : State) : State :=
  if !s.dev.glb.deferred then s
  else match s.dev.glb.deferFr with
    | some fr => s.tick .deferred (s.dev.glb.start + s.dev.frameMin) (some fr) o
    | none => s.sourceTick .deferred (s.dev.tickBase + s.dev.frameMin) o

/-- SUBSTITUTE_TICK: FRAME_MAX after the previous tick without a source tick (R14). -/
def State.substituteTick (o : TickObs) (s : State) : State :=
  if s.dev.glb.src = .internal || s.dev.glb.deferred || !s.dev.b Reg.GLB_TICK_CTL 3 then s
  else s.sourceTick .substitute (s.dev.tickBase + s.dev.frameMax) o

/-- CASCADE_TICK: the earliest scheduled cascade tick is taken, by a member whose source it is and by the master
(13 R389, R392). At a member it is an external source tick, deferred or discarded when it comes too early (R13). -/
def State.cascadeTick (o : TickObs) (s : State) : State :=
  match s.dev.mdv.ticks with
  | [] => s
  | x :: l =>
    if !s.dev.ticking then s
    else
      let s := s.onDev (Dev.modMdv fun m => { m with ticks := l })
      if s.dev.cascMember then
        (if s.dev.f Reg.GLB_TICK_CTL 1 0 ≠ 3 then s
         else if s.dev.glb.src = .cascade && decide (x.dt < s.dev.glb.start + s.dev.frameMin) then
           s.onDev (Dev.deferTick x.dt (some x.fr))
         else s.tick .cascade x.dt (some x.fr) o)
      else s.tick x.kind x.dt none o

/-! ## The encoder (R18, R19) -/

/-- The number of an input state in the forward order 00, 10, 11, 01 (R18). -/
def encPhase (a b : Bool) : Nat := match a, b with
  | false, false => 0 | true, false => 1 | true, true => 2 | false, true => 3

/-- ENC_EDGE_ACCEPTED: the accepted levels at a sample (R18, R19). -/
def Dev.encEdge (a b : Bool) (t : Time) (d : Dev) : Dev :=
  let pa := d.glb.encA
  let pb := d.glb.encB
  let d := { d.at t with glb := { (d.at t).glb with encA := a, encB := b } }
  if !d.b Reg.GLB_ENC_CTL 5 || (pa = a && pb = b) then d
  else if pa ≠ a && pb ≠ b then (d.inc Reg.GLB_ENC_ERR_CNT).raise Ev.ENC_ERROR
  else
    let fwd := (encPhase pa pb + 1) % 4 = encPhase a b
    let fwd := if d.b Reg.GLB_ENC_CTL 4 then !fwd else fwd
    let step : Int := if fwd then 1 else -1
    let d := d.wr Reg.GLB_ENC_POS (wordI ((d.rd Reg.GLB_ENC_POS).toInt + step))
    if d.glb.src = .encoder && d.f Reg.GLB_ENC_TICK_DIST 23 0 ≠ 0 then
      { d with glb := { d.glb with encAcc := d.glb.encAcc + step * (d.f Reg.GLB_ENC_SCALE 23 0 : Nat) } }
    else d

end Sys2Proof.Machine
end

