-- ==== Sys2Proof/Machine/Gate.lean ====
section
/-! DEFINITION. What stands around the meaning of a command: whether the part has supplies, which domain must be powered,
and what goes on by itself afterwards (11 R320; 16 R462, R473; 17 R497; 18 R513). -/
namespace Sys2Proof.Machine

/-- The part has supplies and is not held in reset by a SHUT comparator (11 R320; 18 R513). -/
def State.alive (s : State) : Bool := !s.dev.pwr.off && !s.dev.pwr.shutHold

/-- A command finds the part alive, or nothing happens. -/
def State.live (f : State → State) (s : State) : State := if s.alive then f s else s

/-- A command of a unit in a domain: nothing happens while the domain is off (16 R462). -/
def State.inDom (dom : Nat) (f : Dev → Dev) (s : State) : State :=
  s.live (fun s => if s.dev.on dom then s.onDev f else s)

/-- A command of a pin whose domain acts on its pins: none does once a boundary instruction is loaded (17 R497). -/
def State.atPin (dom : Nat) (f : Dev → Dev) (s : State) : State :=
  if s.dev.sec.bscan then s else s.inDom dom f

/-- A command after which the target set may differ: the power controller acts on a changed one (16 R465, R473). -/
def State.revoted (f : State → State) (s : State) : State :=
  let t := f s
  if t.dev.target = s.dev.target then t else (t.onDev Dev.pwr1).settle s.dev

/-- A device command of a domain that may change the target set. -/
def State.inDomVoted (dom : Nat) (f : Dev → Dev) (s : State) : State := State.revoted (State.inDom dom f) s

/-- A descriptor carried out by the engine of its row (15 R443, R445): its TYPE is the row's, and then the engines go
on. -/
def State.engine (typ : Nat) (f : Desc → State → State) (x : Desc) (s : State) : State :=
  s.live (fun s => State.revoted (fun s =>
    if s.dev.on domCORE then (f { x with typ := typ } s).tidied (fun d => d) else s) s)

/-- The same for an engine of the device alone. -/
def State.engineDev (typ : Nat) (f : Desc → Dev → Dev) (x : Desc) (s : State) : State :=
  State.engine typ (fun x s => s.onDev (f x)) x s

/-- The axes of a quiescing SERVO have moved on: its sequence goes on when they are quiet. -/
def Dev.servoGo (d : Dev) : Dev := if d.servoLeaving then d.pwr1 else d

end Sys2Proof.Machine
end

