-- ==== Sys2Proof/Machine/CmdAcq.lean ====
section
/-! DEFINITION. The commands of chapters 04 to 06: receive front end, timebase, interval units, Stipple. -/
namespace Sys2Proof.Machine

/-- GAIN_SET (04 R106). -/
def execGainSet (c : Fin 512) (range : Fin 4) (all : Bool) (s : State) : Res :=
  .next (s.inDom domACQ (Dev.gainSet c.val range.val all))

/-- LISTEN_WINDOW_OPEN (06 R156). -/
def execListenWindowOpen (b : Fin 32) (s : State) : Res := .next (s.inDom domACQ (Dev.windowOpen b.val))

/-- LISTEN_WINDOW_CLOSE (04 R105). -/
def execListenWindowClose (b : Fin 32) (clip seen : List Nat) (s : State) : Res :=
  .next (s.inDom domACQ (Dev.windowClose b.val clip seen))

/-- LOW_COMPARATOR_TURN_ON (04 R114). -/
def execLowComparatorTurnOn (c : Fin 512) (x : Edge) (s : State) : Res := .next (s.inDom domACQ (Dev.lowOn c.val x))

/-- HIGH_COMPARATOR_TURN_ON (04 R114). -/
def execHighComparatorTurnOn (c : Fin 512) (x : Edge) (s : State) : Res := .next (s.inDom domACQ (Dev.highOn c.val x))

/-- LOW_COMPARATOR_TURN_OFF (04 R114). -/
def execLowComparatorTurnOff (c : Fin 512) (x : Edge) (clip : Bool) (s : State) : Res :=
  .next (s.inDom domACQ (Dev.lowOff c.val x clip))

/-- EVENT_TIME_LIMIT (04 R115). -/
def execEventTimeLimit (c : Fin 512) (s : State) : Res := .next (s.inDom domACQ (Dev.eventLimit c.val))

/-- The PLL runs: CORE is powered, or a wake of CORE brings it up (16 R470, R477). -/
def Dev.pllRuns (d : Dev) : Bool :=
  d.on domCORE || (match d.pwr.seq with | some (.wake m) => m.testBit domCORE | _ => false)

/-- PLL_LOCK (05 R129). -/
def execPllLock (s : State) : Res := .next (s.live (State.onDev (fun d => if d.pllRuns then d.pllLock else d)))

/-- PLL_NO_REFERENCE (05 R129). -/
def execPllNoReference (s : State) : Res := .next (s.live (State.onDev Dev.pllNoRef))

/-- TIM_REF_LOSS (05 R130). -/
def execTimRefLoss (s : State) : Res := .next (s.live State.refLoss)

/-- TIM_REF_RESTORED (05 R131). -/
def execTimRefRestored (s : State) : Res := .next (s.live (State.onDev Dev.refRestored))

/-- TIM_PLL_UNLOCK (05 R132). -/
def execTimPllUnlock (s : State) : Res := .next (s.live State.pllUnlock)

/-- TI_EDGE (05 R142). -/
def execTiEdge (i : Fin 8) (rising : Bool) (x : Edge) (s : State) : Res := .next (s.atPin domACQ (Dev.tiEdge i.val rising x))

/-- IU_ARM (05 R144). -/
def execIuArm (u : Fin 4) (t : Time) (s : State) : Res := .next (s.inDom domACQ (Dev.iuArm u.val t))

/-- IU_WINDOW_EXPIRY (05 R145). -/
def execIuWindowExpiry (u : Fin 4) (s : State) : Res := .next (s.inDom domACQ (Dev.iuExpire u.val))

/-- IU_GATE_END (05 R147). -/
def execIuGateEnd (u : Fin 4) (s : State) : Res := .next (s.inDom domACQ (Dev.iuGateEnd u.val))

/-- ZOOM_SPLIT (06 R161). -/
def execZoomSplit (e : Fin 16) (s : State) : Res := .next (s.inDom domACQ (Dev.zoomSplit e.val))

end Sys2Proof.Machine
end

