-- ==== Sys2Proof/Machine/CmdDsc.lean ====
section
/-! DEFINITION. The commands of chapter 15 and the descriptors of the other chapters: rings, descriptors, events,
management writes. -/
namespace Sys2Proof.Machine

/-- DOORBELL (15 R440). -/
def execDoorbell (s : State) : Res := .next (s.live (State.onDev Dev.doorbell))

/-- DOORBELL_PAGE_READ_DONE (15 R440). -/
def execDoorbellPageReadDone (ok : Bool) (sq cq eq : List (Nat × Nat)) (s : State) : Res :=
  .next (s.live (State.tidied (fun d => (Dev.doorbellDone ok sq cq eq d).hotFinish)))

/-- DESCRIPTOR_FETCH_DONE (15 R443). -/
def execDescriptorFetchDone (r : Fin 64) (ok : Bool) (ds : List Desc) (s : State) : Res :=
  .next (s.live (State.tidied (fun d => (Dev.fetchDone r.val ok ds d).hotFinish)))

/-- NOP (15 R445). -/
def execNop (d : Desc) (s : State) : Res := .next (State.engineDev 0x00 Dev.nopDesc d s)

/-- ACQ_START (15 R445). -/
def execAcqStart (d : Desc) (s : State) : Res := .next (State.engineDev 0x01 Dev.acqStart d s)

/-- ACQ_STOP (15 R445). -/
def execAcqStop (d : Desc) (s : State) : Res := .next (State.engineDev 0x02 Dev.acqStop d s)

/-- CONFIG_APPLY (15 R453). -/
def execConfigApply (d : Desc) (data : Option (List Byte)) (s : State) : Res :=
  .next (State.engineDev 0x03 (fun x => Dev.configApply x data) d s)

/-- STREAM_ECHO (15 R447). -/
def execStreamEcho (d : Desc) (s : State) : Res := .next (State.engineDev 0x04 Dev.streamEcho d s)

/-- HIST_DUMP (06 R180). -/
def execHistDump (d : Desc) (s : State) : Res := .next (State.engineDev 0x05 Dev.histDump d s)

/-- PLATE_ARM (15 R445). -/
def execPlateArm (d : Desc) (s : State) : Res := .next (State.engineDev 0x06 Dev.plateArm d s)

/-- PLATE_DRAIN (15 R448). -/
def execPlateDrain (d : Desc) (s : State) : Res := .next (State.engineDev 0x07 Dev.plateDrain d s)

/-- CAL_RUN (09 R266). -/
def execCalRun (d : Desc) (s : State) : Res := .next (State.engineDev 0x08 Dev.calRun d s)

/-- TABLE_LOAD (15 R445). -/
def execTableLoad (d : Desc) (data : Option (List Byte)) (s : State) : Res :=
  .next (State.engineDev 0x09 (fun x => Dev.tableLoad x data) d s)

/-- FW_LOAD (17 R490). -/
def execFwLoad (d : Desc) (data : Option (List Byte)) (s : State) : Res :=
  .next (State.engine 0x0A (fun x s => s.fwLoad x data) d s)

/-- POWER_VOTE (16 R481). -/
def execPowerVote (d : Desc) (s : State) : Res := .next (State.engineDev 0x0C Dev.powerVote d s)

/-- ATTN_SEND (15 R444). -/
def execAttnSend (kind ring : Nat) (s : State) : Res := .next (s.live (State.onDev (Dev.attnSend kind ring)))

/-- EVENT_RECORD_WRITE (15 R452). -/
def execEventRecordWrite (s : State) : Res := .next (s.live (State.onDev Dev.eventRecordWrite))

/-- RING_CTL_WRITE (15 R460): the write of a ring's CTL register; another offset is none. -/
def execRingCtlWrite (off : Nat) (val : Word) (s : State) : Res :=
  .next (s.live (State.onDev (fun d => match ringOf off with | some (k, r) => Dev.ringCtl k r val d | none => d)))

/-- MGMT_WRITE (15 R438). -/
def execMgmtWrite (off : Nat) (val : Word) (late : Bool) (s : State) : Res := .next (s.live (State.mgmtWrite off val late))

end Sys2Proof.Machine
end

