-- ==== Sys2Proof/Machine/CmdHk.lean ====
section
/-! DEFINITION. The commands of chapters 09 to 11: calibration, housekeeping, current loops, thermal protection. -/
namespace Sys2Proof.Machine

/-- CAL_MEASUREMENT_DONE (09 R269). -/
def execCalMeasurementDone (tgt : Nat) (v : List Int) (s : State) : Res :=
  .next (State.revoted (State.inDom domCORE (Dev.calMeasured tgt v)) s)

/-- APPLY_GO (09 R271). -/
def execApplyGo (s : State) : Res := .next (s.live (State.onDev Dev.applyGo))

/-- APPLY_DISCARD (09 R271). -/
def execApplyDiscard (s : State) : Res := .next (s.live (State.onDev Dev.applyDiscard))

/-- HK_ROUND_START (10 R285). -/
def execHkRoundStart (t : Time) (s : State) : Res := .next (s.inDom domHK (Dev.hkRoundStart t))

/-- HK_SLOT_END (10 R284). -/
def execHkSlotEnd (x : Option Int) (s : State) : Res := .next (s.inDom domHK (Dev.hkSlotEnd x))

/-- The round that waits is published within 500 us of its end and evaluated (10 R285; 11 R311); entry into CRIT ends
the calibration run (11 R318). -/
def Dev.roundPublished (out : List Nat) (d : Dev) : Dev :=
  match d.hkp.pub with
  | none => d
  | some (r, stop) =>
    let was := d.thm.critPhase
    let d := (Dev.publishRound r out (d.at (stop + 500 * us))).thmRound
    if was = 0 && d.thm.critPhase = 1 then d.runAbort (fun _ => true) else d

/-- HK_ROUND_PUBLISH (10 R285). -/
def execHkRoundPublish (out : List Nat) (s : State) : Res := .next (s.inDomVoted domHK (Dev.roundPublished out))

/-- HK_OPEN (10 R289). -/
def execHkOpen (i : Fin 32) (t : Time) (s : State) : Res := .next (s.inDom domHK (Dev.hkOpen i.val t))

/-- HK_OPEN_CLEARED (10 R289). -/
def execHkOpenCleared (i : Fin 32) (t : Time) (s : State) : Res := .next (s.inDom domHK (Dev.hkOpenCleared i.val t))

/-- LOOP_FAULT (10 R297). -/
def execLoopFault (l : Fin 8) (dev : Bool) (t : Time) (xs : Vector (Nat × Bool) 4) (s : State) : Res :=
  .next (s.live (fun s => if s.dev.on domHK then s.loopFault l.val dev t xs else s))

/-- LOOP_FAULT_CLEARED (10 R297). -/
def execLoopFaultCleared (l : Fin 8) (dev : Bool) (t : Time) (xs : Vector (Nat × Bool) 4) (s : State) : Res :=
  .next (s.live (fun s => if s.dev.on domHK then s.loopFaultCleared l.val dev t xs else s))

/-- LOOP_WDOG (10 R296). -/
def execLoopWdog (l : Fin 8) (s : State) : Res := .next (s.inDom domHK (Dev.loopWdog l.val))

/-- EL_CTL_WRITE: the protected write of EL_CTL (10 R299; 12 R358). -/
def execElCtlWrite (val : Word) (s : State) : Res := .next (s.live (State.regWrite false Reg.HKP_EL_CTL val))

/-- THM_SENSOR_FAIL (11 R314). -/
def execThmSensorFail (x : Fin 32) (s : State) : Res := .next (s.inDom domHK (Dev.sensorFail x.val))

/-- CRIT_CLR (11 R319). -/
def execCritClr (s : State) : Res := .next (State.revoted (State.live (State.onDev Dev.critClear)) s)

/-- SENSOR_CLR (11 R317). -/
def execSensorClr (mask : Word) (s : State) : Res := .next (s.live (State.onDev (Dev.sensorClear mask)))

/-- SHUT_COMPARATOR_TRIP: the comparators work from AO, also in reset (11 R320). -/
def execShutComparatorTrip (x : Fin 24) (s : State) : Res := .next (if s.dev.pwr.off then s else s.shutTrip x.val)

/-- SHUT_COMPARATOR_CLEAR (11 R320). -/
def execShutComparatorClear (s : State) : Res := .next (if s.dev.pwr.off then s else s.onDev Dev.shutClear)

end Sys2Proof.Machine
end

