-- ==== Sys2Proof/Machine/CmdLink.lean ====
section
/-! DEFINITION. The commands of chapter 14 and the register reads of every path (01 R23; 14; 15 R436-R438; 17 R493). -/
namespace Sys2Proof.Machine

/-- LANE_ALIGNED (14 R408). -/
def execLaneAligned (l : Fin 16) (num cfg : Nat) (s : State) : Res := .next (s.live (State.onDev (Dev.laneAligned l.val num cfg)))

/-- LNK_UP (14 R409). -/
def execLnkUp (s : State) : Res := .next (s.live (State.tidied Dev.lnkUp))

/-- CPL_RECEIVED (14 R424). -/
def execCplReceived (tag status bytes : Nat) (s : State) : Res := .next (s.live (State.tidied (Dev.cplReceived tag status bytes)))

/-- FLOW_RECEIVED (14 R420). -/
def execFlowReceived (ph nph ch pd cd : Nat) (s : State) : Res := .next (s.live (State.tidied (Dev.flowReceived ph nph ch pd cd)))

/-- ACK_RECEIVED (14 R422). -/
def execAckReceived (n : Nat) (s : State) : Res := .next (s.live (State.tidied (Dev.ackReceived n)))

/-- NAK_RECEIVED (14 R423). -/
def execNakReceived (n : Nat) (s : State) : Res := .next (s.live (State.tidied (Dev.nakReceived n)))

/-- BAD_PACKET_RECEIVED (14 R421). -/
def execBadPacketReceived (k : BadPkt) (s : State) : Res := .next (s.live (State.onDev (Dev.badPacket k)))

/-- ACK_SEND (14 R422). -/
def execAckSend (s : State) : Res := .next (s.live (State.onDev Dev.ackSend))

/-- FLOW_SEND (14 R420). -/
def execFlowSend (s : State) : Res := .next (s.live (State.onDev Dev.flowSend))

/-- REPLAY_TIMER (14 R423). -/
def execReplayTimer (s : State) : Res := .next (s.live (State.onDev Dev.replayTimer))

/-- LNK_RECOVERY (14 R427). -/
def execLnkRecovery (k : RecTrig) (s : State) : Res := .next (s.live (State.onDev (Dev.lnkRecovery k)))

/-- RETRAIN (14 R427). -/
def execRetrain (s : State) : Res := .next (s.live (State.onDev Dev.retrain))

/-- LNK_LANE_DROP (14 R428). -/
def execLnkLaneDrop (s : State) : Res := .next (s.live (State.onDev Dev.laneDrop))

/-- LNK_DOWN (14 R428). -/
def execLnkDown (s : State) : Res := .next (s.live (State.onDev Dev.lnkDown))

/-- RETUNE (14 R429). -/
def execRetune (s : State) : Res := .next (s.live (State.onDev Dev.retune))

/-- LCH_RECEIVED (14 R429). -/
def execLchReceived (width block : Nat) (s : State) : Res := .next (s.live (State.onDev (Dev.lchReceived width block)))

/-- LNK_RETUNE_DONE (14 R429). -/
def execLnkRetuneDone (s : State) : Res := .next (s.live (State.onDev Dev.retuneDone))

/-- LNK_RETUNE_FAIL (14 R429). -/
def execLnkRetuneFail (s : State) : Res := .next (s.live (State.onDev Dev.retuneFail))

/-- LNK_CPL_TIMEOUT (14 R424). -/
def execLnkCplTimeout (tag : Nat) (s : State) : Res :=
  .next (s.live (State.tidied (fun d => (Dev.cplTimeout tag d).hotFinish)))

/-- HOT_RESET (14 R430). -/
def execHotReset (s : State) : Res := .next (s.live State.hotReset)

/-- ADAPT_FREEZE (14 R412). -/
def execAdaptFreeze (l : Fin 16) (s : State) : Res := .next (s.live (State.onDev (Dev.adaptFreeze l.val)))

/-- EIDLE_EXIT (14 R431). -/
def execEidleExit (s : State) : Res := .next (s.live (State.power Dev.eidleExit))

/-! ## Register reads -/

/-- A REGRD of one register: nothing while the link is not up; NOT_READY before register accesses are answered and until
step 6 of a hot reset; UNSUPPORTED at an unmapped or unaligned offset (01 R39; 14 R410, R424, R430; 15 R457). -/
def State.hostRead (off tag : Nat) (s : State) : State :=
  if s.dev.lnk.st ≠ .up then s
  else
    let s := s.onDev (fun d => (d.rxAccept .nonPosted).answering)
    if !s.dev.answered || s.dev.lnk.hotPending then s.onDev (fun d => d.complete tag 2 [])
    else if off = Reg.SEC_DBG_DATA then
      -- the debug window: a read of the bus, or 0 without a session that allows it (17 R493)
      let x := s.dev.sec
      if x.port || x.level < 1 || !s.dev.awake then s.onDev (fun d => d.denied.complete tag 0 (leBytes 4 0))
      else
        let r := s.dbgRead (s.dev.rd Reg.SEC_DBG_ADDR)
        r.2.onDev (fun d => d.complete tag 0 (leBytes 4 r.1.toNat))
    else if (rowOf off).isNone then s.onDev (fun d => d.complete tag 1 [])
    else
      let v := s.readVal .host off
      (s.readEffect .host off).onDev (fun d => d.complete tag 0 (leBytes 4 v.toNat))

/-- The answer to a management read that is not served: the data bytes after the status byte are free, since the spec states
none. -/
def State.mgmtRefuse (st : Nat) (s : State) : State :=
  let v := s.dev.drawN 32
  (s.onDev (fun _ => v.2)).mgmtReply st (word v.1)

/-- A management read: a register of the subset is served with its value, unless the access is a wake, which is answered
BUSY; any other offset is UNSUPPORTED (15 R437, R438; 16 R471, R472). -/
def State.mgmtRead (off : Nat) (s : State) : State :=
  let a := s.mgmtArrive
  if !a.1 then a.2.mgmtRefuse mgmtBUSY
  else if !mgmtReadable off || (rowOf off).isNone then a.2.mgmtRefuse mgmtUNSUPPORTED
  else (a.2.readEffect .mgmt off).mgmtReply mgmtOK (a.2.readVal .mgmt off)

/-- A read of the debug bus (17 R493): refused without a session. -/
def State.debugRead (off : Nat) (s : State) : State :=
  if s.dev.sec.level < 1 || !s.dev.awake then s.onDev Dev.denied else (s.dbgRead (word off)).2

/-- A register read by a path. -/
def State.pathRead (path : Path) (off tag : Nat) (s : State) : State :=
  match path with
  | .host => s.hostRead off tag
  | .mgmt => s.mgmtRead off
  | .debug => s.debugRead off

/-- LO_REGISTER_READ (01 R23). -/
def execLoRegisterRead (path : Path) (off tag : Nat) (s : State) : Res := .next (s.live (State.pathRead path off tag))

/-- IU_RES_READ: the read of the last word of a record (05 R149). -/
def execIuResRead (u : Fin 4) (path : Path) (tag : Nat) (s : State) : Res :=
  .next (s.live (State.pathRead path (Reg.TIM_IU_RES u.val 7) tag))

end Sys2Proof.Machine
end

