-- ==== Sys2Proof/Machine/CmdPair.lean ====
section
/-! DEFINITION. The commands of chapter 13: redundant pairs and cascades. -/
namespace Sys2Proof.Machine

/-- CLAIM_ROUND (13 R368). -/
def execClaimRound (t : Time) (other : Option Nat) (s : State) : Res :=
  .next (s.live (State.revoted (fun s => if s.dev.on domCORE then s.claimRound t other else s)))

/-- HANDOVER (13 R369). -/
def execHandover (t : Time) (s : State) : Res := .next (s.inDomVoted domCORE (Dev.handover t))

/-- CLAIM_WATCHDOG_EXPIRY (13 R370). -/
def execClaimWatchdogExpiry (s : State) : Res := .next (s.inDomVoted domCORE Dev.claimWdog)

/-- SELF_CHECK_FAIL (13 R371). -/
def execSelfCheckFail (bit : Nat) (s : State) : Res :=
  .next (s.live (State.revoted (fun s => if s.dev.on domCORE then s.selfCheckFail bit else s)))

/-- PAIR_HEARTBEAT_LOSS (13 R376). -/
def execPairHeartbeatLoss (s : State) : Res := .next (s.inDomVoted domCORE Dev.heartbeatLoss)

/-- DRIVE_DETECTION (13 R373). -/
def execDriveDetection (own other : Bool) (s : State) : Res := .next (s.inDomVoted domCORE (Dev.driveDetect own other))

/-- ECHO_COMPARE (13 R374). -/
def execEchoCompare (fr : Word) (recs : List (List Byte)) (s : State) : Res := .next (s.inDom domCORE (Dev.echoCompare fr recs))

/-- ECHO_DETECTION (13 R374). -/
def execEchoDetection (own other : Bool) (s : State) : Res := .next (s.inDomVoted domCORE (Dev.echoDetect own other))

/-- EPOCH_RECEIVED (13 R379). -/
def execEpochReceived (e : Epoch) (s : State) : Res := .next (s.inDom domCORE (Dev.epochReceived e))

/-- STATE_IMAGE_RECEIVED (13 R381). -/
def execStateImageReceived (e : Epoch) (xs : List ImageChan) (s : State) : Res :=
  .next (s.inDom domCORE (Dev.imageReceived e xs))

/-- PAIR_LINK_UP (13 R381). -/
def execPairLinkUp (prio : Nat) (qual digest : Bool) (s : State) : Res :=
  .next (s.inDomVoted domCORE (Dev.pairLinkUp prio qual digest))

/-- SUSPECT_CLR (13 R375). -/
def execSuspectClr (s : State) : Res := .next (s.inDom domCORE Dev.suspectClr)

/-- YIELD (13 R383). -/
def execYield (s : State) : Res := .next (s.inDomVoted domCORE Dev.yieldClaim)

/-- REQUAL (13 R381). -/
def execRequal (s : State) : Res := .next (s.inDom domCORE Dev.requal)

/-- TICK_ANNOUNCEMENT (13 R366). -/
def execTickAnnouncement (dt : Time) (s : State) : Res := .next (s.inDom domCORE (Dev.tickAnnounced dt))

/-- CASC_CTL_WRITE (13 R385). -/
def execCascCtlWrite (val : Word) (s : State) : Res := .next (s.inDomVoted domCORE (Dev.cascCtl val))

/-- CASC_TICK_MESSAGE (13 R389). -/
def execCascTickMessage (fr : Word) (dt t : Time) (crc : Bool) (s : State) : Res :=
  .next (s.inDom domCORE (Dev.cascTick fr dt t crc))

/-- CASC_SEED_MESSAGE (13 R391). -/
def execCascSeedMessage (fam : Fin 16) (code : Word) (dt t : Time) (crc : Bool) (s : State) : Res :=
  .next (s.inDom domCORE (Dev.cascSeed fam.val code dt t crc))

/-- CASC_ALIGN (13 R390). -/
def execCascAlign (pos : Fin 16) (delay : Nat) (step : Int) (s : State) : Res :=
  .next (s.inDom domCORE (Dev.cascAlign pos.val delay step))

/-- CASC_MASTER_LOST (13 R393). -/
def execCascMasterLost (s : State) : Res := .next (s.inDom domCORE Dev.masterLost)

/-- CASC_PEER_WAIT_EXPIRY (13 R392). -/
def execCascPeerWaitExpiry (s : State) : Res := .next (s.inDom domCORE Dev.peerWaitEnd)

end Sys2Proof.Machine
end

