-- ==== Sys2Proof/Machine/CmdPwr.lean ====
section
/-! DEFINITION. The commands of chapters 16 and 18: votes, sequences, wakes, resets, supplies. -/
namespace Sys2Proof.Machine

/-- VOTE_WRITE (16 R465). -/
def execVoteWrite (client : Nat) (val : Word) (s : State) : Res := .next (s.live (State.power (Dev.voteWrite client val)))

/-- ENTRY_WINDOW_END (16 R469). -/
def execEntryWindowEnd (s : State) : Res := .next (s.live (State.power Dev.windowEnd))

/-- WAKE_SEQUENCE_COMPLETE (16 R470). -/
def execWakeSequenceComplete (us : Nat) (s : State) : Res := .next (s.live (State.power (Dev.wakeDone us)))

/-- WAKE_ATTEMPT_TIMEOUT (16 R474). -/
def execWakeAttemptTimeout (pg : Nat) (osc : Bool) (s : State) : Res := .next (s.live (State.power (Dev.wakeTimeout pg osc)))

/-- WAKE_RETRY_TIMER (16 R475). -/
def execWakeRetryTimer (s : State) : Res := .next (s.live (State.power Dev.retryTimer))

/-- WAKE_RETRY (16 R475). -/
def execWakeRetry (s : State) : Res := .next (s.live (State.power Dev.wakeRetry))

/-- PAD_RELEASE (16 R470). -/
def execPadRelease (val : Word) (s : State) : Res := .next (s.live (State.onDev (Dev.padRelease val)))

/-- DRST (16 R476). -/
def execDrst (val : Word) (s : State) : Res := .next (s.live (State.power (Dev.drstWrite val)))

/-- AO_TIMER_WRITE (16 R482). -/
def execAoTimerWrite (val : Word) (s : State) : Res := .next (s.live (State.onDev (Dev.timerWrite val)))

/-- AO_TIMER_EXPIRY (16 R471). -/
def execAoTimerExpiry (s : State) : Res := .next (s.live (State.power Dev.timerExpiry))

/-- WAKE_N_LOW (16 R471). -/
def execWakeNLow (s : State) : Res := .next (s.live (State.power Dev.wakeNLow))

/-- CASCADE_ACTIVITY_WAKE (16 R471). -/
def execCascadeActivityWake (s : State) : Res := .next (s.live (State.power (fun d => d.edgeWake 4 d.wakeSet)))

/-- PG_LOST (16 R475). -/
def execPgLost (i : Fin 6) (s : State) : Res := .next (s.live (State.onDev (Dev.pgLost i.val)))

/-- POWER_ON_RESET (16 R476). -/
def execPowerOnReset (x : Straps) (s : State) : Res := .next (s.powerOn x)

/-- COLD_RESET: without supplies there is none (16 R476). -/
def execColdReset (x : Straps) (s : State) : Res := .next (if s.dev.pwr.off then s else s.cold x)

/-- SUPPLY_DROOP: a reset of class C (18 R513; 16 R476). -/
def execSupplyDroop (x : Straps) (s : State) : Res := .next (if s.dev.pwr.off then s else s.cold x)

/-- POWER_OFF (18 R513). -/
def execPowerOff (s : State) : Res := .next s.powerOff

/-- CORE_WATCHDOG (16 R476). -/
def execCoreWatchdog (s : State) : Res := .next (s.live State.coreWatchdog)

end Sys2Proof.Machine
end

