-- ==== Sys2Proof/Machine/CmdSafe.lean ====
section
/-! DEFINITION. The commands of chapter 12: guard inputs, outputs, the island's checks, password sessions, parameter
blocks. -/
namespace Sys2Proof.Machine

/-- The accepted reading of a channel in a half. -/
def State.guardRead (w i ch : Nat) (s : State) : Bool :=
  let g := (s.isl.half w).guard i
  if ch = 0 then g.a else g.b

/-- One sample of a guard channel. A changed reading of an enabled pair that the hard-wired logic accepts is a wake
(16 R471). -/
def State.guardStep (w i ch : Nat) (s : State) (x : Bool × Bool) : State :=
  let t := s.guardSample w i ch x
  if w = 1 && s.guardRead w i ch ≠ t.guardRead w i ch && pairEn s.isl.spb i then t.power (fun d => d.edgeWake 5 d.wakeSet) else t

/-- GUARD_INPUT_ACCEPTED (12 R330). -/
def execGuardInputAccepted (w : Fin 2) (i : Fin 8) (ch : Fin 2) (xs : List (Bool × Bool)) (s : State) : Res :=
  .next (s.live (fun s => xs.foldl (State.guardStep w.val i.val ch.val) s))

/-- DISCREPANCY (12 R332). -/
def execDiscrepancy (w : Fin 2) (i : Fin 8) (s : State) : Res := .next (s.live (State.discrepancy w.val i.val))

/-- TEST_PULSE (12 R334). -/
def execTestPulse (k : Fin 4) (xs : List (Nat × Nat)) (s : State) : Res := .next (s.live (State.testPulse k.val xs))

/-- TP_READBACK (12 R335). -/
def execTpReadback (k : Fin 4) (differ : Bool) (s : State) : Res := .next (s.live (State.tpReadback k.val differ))

/-- SO_READBACK (12 R339). -/
def execSoReadback (k : Fin 4) (w : Fin 2) (level : Bool) (s : State) : Res :=
  .next (s.live (State.soReadback k.val w.val level))

/-- LEN_READBACK (12 R339). -/
def execLenReadback (h : Fin 4) (w : Fin 2) (level : Bool) (s : State) : Res :=
  .next (s.live (State.lenReadback h.val w.val level))

/-- SO_OFFTEST_START (12 R337). -/
def execSoOfftestStart (k : Fin 4) (w : Fin 2) (low high : Bool) (s : State) : Res :=
  .next (s.live (State.offtestStart k.val w.val low high))

/-- SCAN_STALL (12 R341). -/
def execScanStall (h : Fin 4) (a : Fin 2) (t : Time) (xs : List (List Int × Bool)) (s : State) : Res :=
  .next (s.live (State.scanStall h.val a.val t xs))

/-- STALL_CLR (12 R341). -/
def execStallClr (mask : Word) (s : State) : Res := .next (s.live (State.stallClear mask.toNat))

/-- SAFETY_EXCHANGE (12 R327). -/
def execSafetyExchange (s : State) : Res := .next (s.live State.safetyExchange)

/-- HEARTBEAT (12 R327). -/
def execHeartbeat (s : State) : Res := .next (s.live State.heartbeatMissed)

/-- DISAGREE (12 R327). -/
def execDisagree (s : State) : Res := .next (s.live State.disagreement)

/-- OSC (12 R327). -/
def execOsc (s : State) : Res := .next (s.live State.oscDeviates)

/-- RAM_UE (12 R343). -/
def execRamUe (s : State) : Res := .next (s.live State.ramError)

/-- FW_TRAP (12 R343). -/
def execFwTrap (s : State) : Res := .next (s.live State.fwTrapped)

/-- SPB_CRC (12 R356). -/
def execSpbCrc (s : State) : Res := .next (s.live State.spbCrcBad)

/-- LOCKOUT_RESET (12 R346). -/
def execLockoutReset (width : Nat) (s : State) : Res := .next (s.live (State.srstPulse width))

/-- SAF_OSC_READY (12 R328). -/
def execSafOscReady (s : State) : Res := .next (s.live State.oscReady)

/-- SAF_SELFTEST_DONE (12 R328). -/
def execSafSelftestDone (pass : Bool) (s : State) : Res := .next (s.live (State.selftestDone pass))

/-- PW_PRESENT (12 R358). -/
def execPwPresent (len : Nat) (s : State) : Res := .next (s.live (State.pwPresent len))

/-- PW_CLOSE (12 R358). -/
def execPwClose (s : State) : Res := .next (s.live State.pwClose)

/-- PW_DERIVATION_DONE (12 R358). -/
def execPwDerivationDone (s : State) : Res := .next (s.live State.pwDone)

/-- PW_SESSION_TIMEOUT (12 R358). -/
def execPwSessionTimeout (s : State) : Res := .next (s.live State.pwTimeout)

/-- PW_REFUSAL_END (12 R358). -/
def execPwRefusalEnd (s : State) : Res := .next (s.live State.pwRefusalEnd)

/-- SPB_LOAD (12 R354). -/
def execSpbLoad (d : Desc) (data : Option (List Byte)) (s : State) : Res :=
  .next (State.engine 0x0B (fun x s => s.spbLoad x data) d s)

end Sys2Proof.Machine
end

