-- ==== Sys2Proof/Machine/CmdSec.lean ====
section
/-! DEFINITION. The commands of chapter 17: tokens, keys, firmware, debug sessions, the test access port. -/
namespace Sys2Proof.Machine

/-- CHAL_NEW (17 R486). -/
def execChalNew (s : State) : Res := .next (s.live (State.onDev Dev.chalNew))

/-- TOKEN_SUBMIT (17 R487). -/
def execTokenSubmit (s : State) : Res := .next (s.live (State.onDev Dev.tokenSubmit))

/-- TOKEN_VERIFY_DONE (17 R487). -/
def execTokenVerifyDone (s : State) : Res := .next (s.live State.tokenDone)

/-- TOKEN_REFUSAL_END (17 R487). -/
def execTokenRefusalEnd (s : State) : Res := .next (s.live (State.onDev Dev.refusalEnd))

/-- LOCK (17 R485). -/
def execLock (s : State) : Res := .next (s.live (State.onDev (Dev.secLock false)))

/-- KEY_PROG (17 R488). -/
def execKeyProg (unlock : Bool) (s : State) : Res := .next (s.live (State.keyProg unlock))

/-- KEY_REVOKE (17 R488). -/
def execKeyRevoke (s : State) : Res := .next (s.live State.keyRevoke)

/-- KEY_BURN_DONE (17 R488). -/
def execKeyBurnDone (s : State) : Res := .next (s.live State.burnDone)

/-- FW_VERIFY_DONE (17 R490). -/
def execFwVerifyDone (s : State) : Res := .next (s.live State.fwVerified)

/-- FW_SWITCH_DONE (17 R492). -/
def execFwSwitchDone (s : State) : Res := .next (s.live State.fwSwitched)

/-- DBG_CTL_WRITE: LEVEL in [1:0], from the link (17 R493, R500). -/
def execDbgCtlWrite (val : Word) (s : State) : Res := .next (s.live (State.dbgCtl false (fld val 1 0)))

/-- DEBUG_BUS_ACCESS: DBG_ADDR is written and DBG_DATA accessed (17 R493). -/
def execDebugBusAccess (write : Bool) (off : Nat) (val : Word) (s : State) : Res :=
  .next (s.live (fun s => (s.onDev (fun d => d.wr Reg.SEC_DBG_ADDR (word off))).dbgAccess write (word off) val))

/-- HALT (17 R495). -/
def execHalt (s : State) : Res := .next (s.live State.halt)

/-- RESUME (17 R495). -/
def execResume (s : State) : Res := .next (s.live State.resume)

/-- STEP (17 R495). -/
def execStep (s : State) : Res := .next (s.live State.step1)

/-- EXTEST (17 R497). -/
def execExtest (s : State) : Res := .next (s.live (State.onDev (Dev.boundaryIr 0x00 true)))

/-- CLAMP (17 R497). -/
def execClamp (s : State) : Res := .next (s.live (State.onDev (Dev.boundaryIr 0x04 true)))

/-- HIGHZ (17 R497). -/
def execHighz (s : State) : Res := .next (s.live (State.onDev (Dev.boundaryIr 0x05 true)))

/-- SAMPLE_PRELOAD (17 R498). -/
def execSamplePreload (s : State) : Res := .next (s.live (State.onDev (Dev.boundaryIr 0x01 false)))

/-- IDCODE (17 R496). -/
def execIdcode (s : State) : Res := .next (s.live (State.onDev (Dev.jtagIr 0x02)))

/-- BYPASS (17 R496). -/
def execBypass (s : State) : Res := .next (s.live (State.onDev (Dev.jtagIr 0xFF)))

/-- DBGACC (17 R493). -/
def execDbgacc (level : Fin 4) (s : State) : Res := .next (s.live (State.dbgacc level.val))

end Sys2Proof.Machine
end

