-- ==== Sys2Proof/Machine/CmdServo.lean ====
section
/-! DEFINITION. The commands of chapter 03. -/
namespace Sys2Proof.Machine

/-- SERVO_SAMPLE (03 R73): the claim watchdog is refreshed at its first step (13 R370). -/
def execServoSample (n : Nat) (x : List PfIn) (s : State) : Res :=
  .next (s.live (State.power (fun d => ((Dev.servoSample n x d).refreshClaim).servoGo)))

/-- ENGAGE (03 R90). -/
def execEngage (a : Fin 8) (s : State) : Res := .next (s.live (State.onDev (Dev.axCmd a.val .engage)))

/-- PARK (03 R90). -/
def execPark (a : Fin 8) (s : State) : Res := .next (s.live (State.onDev (Dev.axCmd a.val .park)))

/-- DISABLE (03 R90). -/
def execDisable (a : Fin 8) (s : State) : Res := .next (s.live (State.onDev (Dev.axCmd a.val .disable)))

/-- CLEAR (03 R90). -/
def execClear (a : Fin 8) (s : State) : Res := .next (s.live (State.onDev (Dev.axCmd a.val .clear)))

/-- ENGAGE_COMPLETE (03 R90). -/
def execEngageComplete (a : Fin 8) (s : State) : Res := .next (s.inDom domSERVO (Dev.engageComplete a.val))

/-- PARK_TIMEOUT (03 R90). -/
def execParkTimeout (a : Fin 8) (s : State) : Res :=
  .next (s.live (State.power (fun d => if d.on domSERVO then (Dev.parkTimeout a.val d).servoGo else d)))

/-- HCH_FB_LOSS (03 R91). -/
def execHchFbLoss (a : Fin 8) (s : State) : Res := .next (s.inDom domSERVO (Dev.fbLoss a.val))

/-- HCH_FREEZE (03 R92). -/
def execHchFreeze (a : Fin 8) (s : State) : Res := .next (s.inDom domSERVO (Dev.freezeAxis a.val))

/-- HCH_TRACK_ERR (03 R92). -/
def execHchTrackErr (a : Fin 8) (s : State) : Res := .next (s.inDom domSERVO (Dev.trackErr a.val))

/-- HCH_TABLE_SWAP (03 R80). -/
def execHchTableSwap (a : Fin 8) (s : State) : Res := .next (s.inDom domSERVO (Dev.tableSwap a.val))

/-- CROSSLINK_DRIVE_WORD (03 R95). -/
def execCrosslinkDriveWord (a : Fin 8) (drive contrib : Int) (run : Bool) (s : State) : Res :=
  .next (s.inDom domCORE (Dev.driveWord a.val drive contrib run))

end Sys2Proof.Machine
end

