-- ==== Sys2Proof/Machine/CmdTick.lean ====
section
/-! DEFINITION. The commands of chapters 01 and 02: register writes, ticks, encoder, firing. -/
namespace Sys2Proof.Machine

/-- REGISTER_WRITE: one register of a REGWR packet (00 R5; 01 R39; 14 R410, R415). -/
def execRegisterWrite (off : Nat) (val : Word) (s : State) : Res :=
  .next (s.live (State.hosted (State.revoted (State.pathWrite false off val))))

/-- INTERNAL_TICK (01 R11). -/
def execInternalTick (o : TickObs) (s : State) : Res := .next (s.live (State.internalTick o))

/-- ENCODER_TICK (01 R18). -/
def execEncoderTick (o : TickObs) (t : Time) (s : State) : Res := .next (s.live (State.encoderTick o t))

/-- TICK_IN_EDGE (01 R16). -/
def execTickInEdge (falling : Bool) (t : Time) (o : TickObs) (s : State) : Res :=
  .next (s.live (State.tickInEdge falling t o))

/-- DEFERRED_TICK (01 R13). -/
def execDeferredTick (o : TickObs) (s : State) : Res := .next (s.live (State.deferredTick o))

/-- SUBSTITUTE_TICK (01 R14). -/
def execSubstituteTick (o : TickObs) (s : State) : Res := .next (s.live (State.substituteTick o))

/-- CASCADE_TICK (13 R389). -/
def execCascadeTick (o : TickObs) (s : State) : Res := .next (s.live (State.cascadeTick o))

/-- ENC_EDGE_ACCEPTED (01 R19). -/
def execEncEdgeAccepted (a b : Bool) (t : Time) (s : State) : Res := .next (s.atPin domCORE (Dev.encEdge a b t))

/-- SHOT_FIRE (02 R60). -/
def execShotFire (e : Fin 16) (o : FireObs) (s : State) : Res := .next (s.live (State.shotFire e.val o))

/-- BRN_LIMIT_WRITE (02 R65): the write of a limit register, by whichever path it came; another offset is none. -/
def execBrnLimitWrite (off : Nat) (val : Word) (s : State) : Res :=
  .next (s.live (fun s => if isBrnLimit off then s.limitWrite off val else s))

end Sys2Proof.Machine
end

