-- ==== Sys2Proof/Machine/CmdWave.lean ====
section
/-! DEFINITION. The commands of chapters 07 and 08: plates, memory, filter chains, synchronisation. -/
namespace Sys2Proof.Machine

/-- TRIGGER_EVENT (07 R208). A trigger pin is acted on while WAVE acts on its pins (17 R497). -/
def execTriggerEvent (p : Fin 8) (x : TrigIn) (s : State) : Res :=
  .next (match x with
    | .edge pin t r => s.atPin domWAVE (Dev.trigger p.val (.edge pin t r))
    | x => s.inDom domWAVE (Dev.trigger p.val x))

/-- HOLDOFF_END (07 R201). -/
def execHoldoffEnd (p : Fin 8) (t : Time) (s : State) : Res := .next (s.inDom domWAVE (Dev.holdoffEnd p.val t))

/-- AUTO_TRIGGER (07 R202). -/
def execAutoTrigger (p : Fin 8) (t : Time) (s : State) : Res := .next (s.inDom domWAVE (Dev.autoTrigger p.val t))

/-- PLATE_SETUP_DONE (07 R207). -/
def execPlateSetupDone (p : Fin 8) (t : Time) (s : State) : Res := .next (s.inDom domWAVE (Dev.setupDone p.val t))

/-- PLATE_FILL_DONE (07 R207). -/
def execPlateFillDone (p : Fin 8) (t : Time) (s : State) : Res := .next (s.inDom domWAVE (Dev.fillDone p.val t))

/-- CAPTURE_COMPLETE (07 R207). -/
def execCaptureComplete (p : Fin 8) (t : Time) (x : Capture) (s : State) : Res :=
  .next (s.live (fun s => if s.dev.on domWAVE then s.tidied (Dev.captureDone p.val t x) else s))

/-- REARM_DONE (07 R207). -/
def execRearmDone (p : Fin 8) (t : Time) (s : State) : Res := .next (s.inDom domWAVE (Dev.rearmDone p.val t))

/-- SEGMENT_COMMIT (07 R216). -/
def execSegmentCommit (p : Fin 8) (s : State) : Res :=
  .next (s.live (fun s => if s.dev.on domWAVE then s.tidied (Dev.segCommit p.val) else s))

/-- STREAM_SEGMENT_SKIP (07 R211). -/
def execStreamSegmentSkip (p : Fin 8) (s : State) : Res := .next (s.inDom domWAVE (Dev.streamSkip p.val))

/-- AUX_AUTORANGE (07 R194). -/
def execAuxAutorange (k : Fin 16) (t : Time) (xs : List (Int × Nat)) (s : State) : Res :=
  .next (s.inDom domWAVE (Dev.auxAuto k.val t xs))

/-- CASC_TRIG_MESSAGE (07 R210). -/
def execCascTrigMessage (pos : Fin 16) (plate : Fin 8) (dt t : Time) (up crc : Bool) (s : State) : Res :=
  .next (s.inDom domCORE (Dev.cascTrig pos.val plate.val dt t up crc))

/-- MEM_TRAIN (07 R221). -/
def execMemTrain (s : State) : Res := .next (s.live (State.onDev Dev.memTrain))

/-- MEM_TRAIN_DONE (07 R221). -/
def execMemTrainDone (s : State) : Res := .next (s.live (State.tidied (fun d => d.memTrainDone)))

/-- MEM_TRAIN_FAIL (07 R221). -/
def execMemTrainFail (mask : Nat) (s : State) : Res := .next (s.live (State.onDev (Dev.memTrainFailed mask)))

/-- SW_GO (08 R240). -/
def execSwGo (p : Fin 8) (s : State) : Res := .next (s.inDom domWAVE (Dev.swGo p.val))

/-- FLT_FADE_DONE (08 R242). -/
def execFltFadeDone (p : Fin 8) (s : State) : Res := .next (s.inDom domWAVE (Dev.fadeDone p.val))

/-- SYNC_N_EDGE (08 R249). -/
def execSyncNEdge (t : Time) (s : State) : Res := .next (s.atPin domWAVE (Dev.syncNEdge t))

/-- SYNC_CMD (08 R249). -/
def execSyncCmd (s : State) : Res := .next (s.inDom domWAVE Dev.syncCmd)

/-- CASC_SYNC_MESSAGE (08 R249). -/
def execCascSyncMessage (ts t : Time) (crc : Bool) (s : State) : Res := .next (s.inDom domCORE (Dev.cascSync ts t crc))

/-- SYNC_INSTANT (08 R250). -/
def execSyncInstant (s : State) : Res := .next (s.inDom domWAVE Dev.syncInstant)

end Sys2Proof.Machine
end

