-- ==== Sys2Proof/Machine/Dispatch.lean ====
section
/-! DEFINITION. The dispatch: one arm per command. -/
namespace Sys2Proof.Machine

/-- What a command does to everything but the queue. -/
def exec (i : Instr) (s : State) : Host.Outcome State Fault Refusal :=
  match i with
  | .registerWrite off val => Sys2Proof.Machine.execRegisterWrite off val s
  | .internalTick o => Sys2Proof.Machine.execInternalTick o s
  | .encoderTick o t => Sys2Proof.Machine.execEncoderTick o t s
  | .tickInEdge falling t o => Sys2Proof.Machine.execTickInEdge falling t o s
  | .deferredTick o => Sys2Proof.Machine.execDeferredTick o s
  | .substituteTick o => Sys2Proof.Machine.execSubstituteTick o s
  | .cascadeTick o => Sys2Proof.Machine.execCascadeTick o s
  | .encEdgeAccepted a b t => Sys2Proof.Machine.execEncEdgeAccepted a b t s
  | .shotFire e o => Sys2Proof.Machine.execShotFire e o s
  | .brnLimitWrite off val => Sys2Proof.Machine.execBrnLimitWrite off val s
  | .servoSample n x => Sys2Proof.Machine.execServoSample n x s
  | .engage a => Sys2Proof.Machine.execEngage a s
  | .park a => Sys2Proof.Machine.execPark a s
  | .disable a => Sys2Proof.Machine.execDisable a s
  | .clear a => Sys2Proof.Machine.execClear a s
  | .engageComplete a => Sys2Proof.Machine.execEngageComplete a s
  | .parkTimeout a => Sys2Proof.Machine.execParkTimeout a s
  | .hchFbLoss a => Sys2Proof.Machine.execHchFbLoss a s
  | .hchFreeze a => Sys2Proof.Machine.execHchFreeze a s
  | .hchTrackErr a => Sys2Proof.Machine.execHchTrackErr a s
  | .hchTableSwap a => Sys2Proof.Machine.execHchTableSwap a s
  | .crosslinkDriveWord a drive contrib run => Sys2Proof.Machine.execCrosslinkDriveWord a drive contrib run s
  | .gainSet c range all => Sys2Proof.Machine.execGainSet c range all s
  | .listenWindowOpen b => Sys2Proof.Machine.execListenWindowOpen b s
  | .listenWindowClose b clip seen => Sys2Proof.Machine.execListenWindowClose b clip seen s
  | .lowComparatorTurnOn c x => Sys2Proof.Machine.execLowComparatorTurnOn c x s
  | .highComparatorTurnOn c x => Sys2Proof.Machine.execHighComparatorTurnOn c x s
  | .lowComparatorTurnOff c x clip => Sys2Proof.Machine.execLowComparatorTurnOff c x clip s
  | .eventTimeLimit c => Sys2Proof.Machine.execEventTimeLimit c s
  | .pllLock => Sys2Proof.Machine.execPllLock s
  | .pllNoReference => Sys2Proof.Machine.execPllNoReference s
  | .timRefLoss => Sys2Proof.Machine.execTimRefLoss s
  | .timRefRestored => Sys2Proof.Machine.execTimRefRestored s
  | .timPllUnlock => Sys2Proof.Machine.execTimPllUnlock s
  | .tiEdge n rising x => Sys2Proof.Machine.execTiEdge n rising x s
  | .iuArm u t => Sys2Proof.Machine.execIuArm u t s
  | .iuWindowExpiry u => Sys2Proof.Machine.execIuWindowExpiry u s
  | .iuGateEnd u => Sys2Proof.Machine.execIuGateEnd u s
  | .iuResRead u path tag => Sys2Proof.Machine.execIuResRead u path tag s
  | .zoomSplit e => Sys2Proof.Machine.execZoomSplit e s
  | .triggerEvent p x => Sys2Proof.Machine.execTriggerEvent p x s
  | .holdoffEnd p t => Sys2Proof.Machine.execHoldoffEnd p t s
  | .autoTrigger p t => Sys2Proof.Machine.execAutoTrigger p t s
  | .plateSetupDone p t => Sys2Proof.Machine.execPlateSetupDone p t s
  | .plateFillDone p t => Sys2Proof.Machine.execPlateFillDone p t s
  | .captureComplete p t x => Sys2Proof.Machine.execCaptureComplete p t x s
  | .rearmDone p t => Sys2Proof.Machine.execRearmDone p t s
  | .segmentCommit p => Sys2Proof.Machine.execSegmentCommit p s
  | .streamSegmentSkip p => Sys2Proof.Machine.execStreamSegmentSkip p s
  | .auxAutorange k t xs => Sys2Proof.Machine.execAuxAutorange k t xs s
  | .cascTrigMessage pos plate dt t up crc => Sys2Proof.Machine.execCascTrigMessage pos plate dt t up crc s
  | .memTrain => Sys2Proof.Machine.execMemTrain s
  | .memTrainDone => Sys2Proof.Machine.execMemTrainDone s
  | .memTrainFail mask => Sys2Proof.Machine.execMemTrainFail mask s
  | .swGo p => Sys2Proof.Machine.execSwGo p s
  | .fltFadeDone p => Sys2Proof.Machine.execFltFadeDone p s
  | .syncNEdge t => Sys2Proof.Machine.execSyncNEdge t s
  | .syncCmd => Sys2Proof.Machine.execSyncCmd s
  | .cascSyncMessage ts t crc => Sys2Proof.Machine.execCascSyncMessage ts t crc s
  | .syncInstant => Sys2Proof.Machine.execSyncInstant s
  | .calMeasurementDone tgt v => Sys2Proof.Machine.execCalMeasurementDone tgt v s
  | .applyGo => Sys2Proof.Machine.execApplyGo s
  | .applyDiscard => Sys2Proof.Machine.execApplyDiscard s
  | .hkRoundStart t => Sys2Proof.Machine.execHkRoundStart t s
  | .hkSlotEnd x => Sys2Proof.Machine.execHkSlotEnd x s
  | .hkRoundPublish out => Sys2Proof.Machine.execHkRoundPublish out s
  | .hkOpen n t => Sys2Proof.Machine.execHkOpen n t s
  | .hkOpenCleared n t => Sys2Proof.Machine.execHkOpenCleared n t s
  | .loopFault l dev t xs => Sys2Proof.Machine.execLoopFault l dev t xs s
  | .loopFaultCleared l dev t xs => Sys2Proof.Machine.execLoopFaultCleared l dev t xs s
  | .loopWdog l => Sys2Proof.Machine.execLoopWdog l s
  | .elCtlWrite val => Sys2Proof.Machine.execElCtlWrite val s
  | .thmSensorFail x => Sys2Proof.Machine.execThmSensorFail x s
  | .critClr => Sys2Proof.Machine.execCritClr s
  | .sensorClr mask => Sys2Proof.Machine.execSensorClr mask s
  | .shutComparatorTrip x => Sys2Proof.Machine.execShutComparatorTrip x s
  | .guardInputAccepted w n ch xs => Sys2Proof.Machine.execGuardInputAccepted w n ch xs s
  | .discrepancy w n => Sys2Proof.Machine.execDiscrepancy w n s
  | .testPulse k xs => Sys2Proof.Machine.execTestPulse k xs s
  | .tpReadback k differ => Sys2Proof.Machine.execTpReadback k differ s
  | .soReadback k w level => Sys2Proof.Machine.execSoReadback k w level s
  | .lenReadback h w level => Sys2Proof.Machine.execLenReadback h w level s
  | .soOfftestStart k w low high => Sys2Proof.Machine.execSoOfftestStart k w low high s
  | .scanStall h a t xs => Sys2Proof.Machine.execScanStall h a t xs s
  | .stallClr mask => Sys2Proof.Machine.execStallClr mask s
  | .safetyExchange => Sys2Proof.Machine.execSafetyExchange s
  | .heartbeat => Sys2Proof.Machine.execHeartbeat s
  | .disagree => Sys2Proof.Machine.execDisagree s
  | .osc => Sys2Proof.Machine.execOsc s
  | .ramUe => Sys2Proof.Machine.execRamUe s
  | .fwTrap => Sys2Proof.Machine.execFwTrap s
  | .spbCrc => Sys2Proof.Machine.execSpbCrc s
  | .lockoutReset width => Sys2Proof.Machine.execLockoutReset width s
  | .safOscReady => Sys2Proof.Machine.execSafOscReady s
  | .safSelftestDone pass => Sys2Proof.Machine.execSafSelftestDone pass s
  | .pwPresent len => Sys2Proof.Machine.execPwPresent len s
  | .pwClose => Sys2Proof.Machine.execPwClose s
  | .pwDerivationDone => Sys2Proof.Machine.execPwDerivationDone s
  | .pwSessionTimeout => Sys2Proof.Machine.execPwSessionTimeout s
  | .pwRefusalEnd => Sys2Proof.Machine.execPwRefusalEnd s
  | .claimRound t other => Sys2Proof.Machine.execClaimRound t other s
  | .handover t => Sys2Proof.Machine.execHandover t s
  | .claimWatchdogExpiry => Sys2Proof.Machine.execClaimWatchdogExpiry s
  | .selfCheckFail bit => Sys2Proof.Machine.execSelfCheckFail bit s
  | .pairHeartbeatLoss => Sys2Proof.Machine.execPairHeartbeatLoss s
  | .driveDetection own other => Sys2Proof.Machine.execDriveDetection own other s
  | .echoCompare fr recs => Sys2Proof.Machine.execEchoCompare fr recs s
  | .echoDetection own other => Sys2Proof.Machine.execEchoDetection own other s
  | .epochReceived e => Sys2Proof.Machine.execEpochReceived e s
  | .stateImageReceived e xs => Sys2Proof.Machine.execStateImageReceived e xs s
  | .pairLinkUp prio qual digest => Sys2Proof.Machine.execPairLinkUp prio qual digest s
  | .suspectClr => Sys2Proof.Machine.execSuspectClr s
  | .yield => Sys2Proof.Machine.execYield s
  | .requal => Sys2Proof.Machine.execRequal s
  | .cascCtlWrite val => Sys2Proof.Machine.execCascCtlWrite val s
  | .cascTickMessage fr dt t crc => Sys2Proof.Machine.execCascTickMessage fr dt t crc s
  | .cascSeedMessage fam code dt t crc => Sys2Proof.Machine.execCascSeedMessage fam code dt t crc s
  | .cascAlign pos delay step => Sys2Proof.Machine.execCascAlign pos delay step s
  | .cascMasterLost => Sys2Proof.Machine.execCascMasterLost s
  | .cascPeerWaitExpiry => Sys2Proof.Machine.execCascPeerWaitExpiry s
  | .laneAligned l num cfg => Sys2Proof.Machine.execLaneAligned l num cfg s
  | .lnkUp => Sys2Proof.Machine.execLnkUp s
  | .cplReceived tag status bytes => Sys2Proof.Machine.execCplReceived tag status bytes s
  | .doorbell => Sys2Proof.Machine.execDoorbell s
  | .flowReceived ph nph ch pd cd => Sys2Proof.Machine.execFlowReceived ph nph ch pd cd s
  | .ackReceived n => Sys2Proof.Machine.execAckReceived n s
  | .nakReceived n => Sys2Proof.Machine.execNakReceived n s
  | .badPacketReceived k => Sys2Proof.Machine.execBadPacketReceived k s
  | .ackSend => Sys2Proof.Machine.execAckSend s
  | .flowSend => Sys2Proof.Machine.execFlowSend s
  | .replayTimer => Sys2Proof.Machine.execReplayTimer s
  | .lnkRecovery k => Sys2Proof.Machine.execLnkRecovery k s
  | .retrain => Sys2Proof.Machine.execRetrain s
  | .lnkLaneDrop => Sys2Proof.Machine.execLnkLaneDrop s
  | .lnkDown => Sys2Proof.Machine.execLnkDown s
  | .retune => Sys2Proof.Machine.execRetune s
  | .lnkRetuneDone => Sys2Proof.Machine.execLnkRetuneDone s
  | .lnkRetuneFail => Sys2Proof.Machine.execLnkRetuneFail s
  | .lnkCplTimeout tag => Sys2Proof.Machine.execLnkCplTimeout tag s
  | .hotReset => Sys2Proof.Machine.execHotReset s
  | .adaptFreeze l => Sys2Proof.Machine.execAdaptFreeze l s
  | .eidleExit => Sys2Proof.Machine.execEidleExit s
  | .doorbellPageReadDone ok sq cq eq => Sys2Proof.Machine.execDoorbellPageReadDone ok sq cq eq s
  | .descriptorFetchDone r ok ds => Sys2Proof.Machine.execDescriptorFetchDone r ok ds s
  | .nop d => Sys2Proof.Machine.execNop d s
  | .acqStart d => Sys2Proof.Machine.execAcqStart d s
  | .acqStop d => Sys2Proof.Machine.execAcqStop d s
  | .configApply d data => Sys2Proof.Machine.execConfigApply d data s
  | .streamEcho d => Sys2Proof.Machine.execStreamEcho d s
  | .histDump d => Sys2Proof.Machine.execHistDump d s
  | .plateArm d => Sys2Proof.Machine.execPlateArm d s
  | .plateDrain d => Sys2Proof.Machine.execPlateDrain d s
  | .calRun d => Sys2Proof.Machine.execCalRun d s
  | .tableLoad d data => Sys2Proof.Machine.execTableLoad d data s
  | .fwLoad d data => Sys2Proof.Machine.execFwLoad d data s
  | .fwVerifyDone => Sys2Proof.Machine.execFwVerifyDone s
  | .fwSwitchDone => Sys2Proof.Machine.execFwSwitchDone s
  | .spbLoad d data => Sys2Proof.Machine.execSpbLoad d data s
  | .powerVote d => Sys2Proof.Machine.execPowerVote d s
  | .attnSend kind ring => Sys2Proof.Machine.execAttnSend kind ring s
  | .eventRecordWrite => Sys2Proof.Machine.execEventRecordWrite s
  | .ringCtlWrite off val => Sys2Proof.Machine.execRingCtlWrite off val s
  | .mgmtWrite off val late => Sys2Proof.Machine.execMgmtWrite off val late s
  | .voteWrite client val => Sys2Proof.Machine.execVoteWrite client val s
  | .entryWindowEnd => Sys2Proof.Machine.execEntryWindowEnd s
  | .wakeSequenceComplete us => Sys2Proof.Machine.execWakeSequenceComplete us s
  | .wakeAttemptTimeout pg osc => Sys2Proof.Machine.execWakeAttemptTimeout pg osc s
  | .wakeRetryTimer => Sys2Proof.Machine.execWakeRetryTimer s
  | .wakeRetry => Sys2Proof.Machine.execWakeRetry s
  | .padRelease val => Sys2Proof.Machine.execPadRelease val s
  | .drst val => Sys2Proof.Machine.execDrst val s
  | .aoTimerWrite val => Sys2Proof.Machine.execAoTimerWrite val s
  | .aoTimerExpiry => Sys2Proof.Machine.execAoTimerExpiry s
  | .wakeNLow => Sys2Proof.Machine.execWakeNLow s
  | .cascadeActivityWake => Sys2Proof.Machine.execCascadeActivityWake s
  | .pgLost n => Sys2Proof.Machine.execPgLost n s
  | .powerOnReset x => Sys2Proof.Machine.execPowerOnReset x s
  | .coldReset x => Sys2Proof.Machine.execColdReset x s
  | .supplyDroop x => Sys2Proof.Machine.execSupplyDroop x s
  | .powerOff => Sys2Proof.Machine.execPowerOff s
  | .coreWatchdog => Sys2Proof.Machine.execCoreWatchdog s
  | .chalNew => Sys2Proof.Machine.execChalNew s
  | .tokenSubmit => Sys2Proof.Machine.execTokenSubmit s
  | .tokenVerifyDone => Sys2Proof.Machine.execTokenVerifyDone s
  | .tokenRefusalEnd => Sys2Proof.Machine.execTokenRefusalEnd s
  | .lock => Sys2Proof.Machine.execLock s
  | .keyProg unlock => Sys2Proof.Machine.execKeyProg unlock s
  | .keyRevoke => Sys2Proof.Machine.execKeyRevoke s
  | .keyBurnDone => Sys2Proof.Machine.execKeyBurnDone s
  | .dbgCtlWrite val => Sys2Proof.Machine.execDbgCtlWrite val s
  | .debugBusAccess write off val => Sys2Proof.Machine.execDebugBusAccess write off val s
  | .halt => Sys2Proof.Machine.execHalt s
  | .resume => Sys2Proof.Machine.execResume s
  | .step => Sys2Proof.Machine.execStep s
  | .extest => Sys2Proof.Machine.execExtest s
  | .clamp => Sys2Proof.Machine.execClamp s
  | .highz => Sys2Proof.Machine.execHighz s
  | .samplePreload => Sys2Proof.Machine.execSamplePreload s
  | .idcode => Sys2Proof.Machine.execIdcode s
  | .bypass => Sys2Proof.Machine.execBypass s
  | .dbgacc level => Sys2Proof.Machine.execDbgacc level s
  | .loRegisterRead path off tag => Sys2Proof.Machine.execLoRegisterRead path off tag s
  | .tickAnnouncement dt => Sys2Proof.Machine.execTickAnnouncement dt s
  | .shutComparatorClear => Sys2Proof.Machine.execShutComparatorClear s
  | .lchReceived width block => Sys2Proof.Machine.execLchReceived width block s

end Sys2Proof.Machine
end

