-- ==== Sys2Proof/Machine/Pins.lean ====
section
/-! DEFINITION. The balls of the package and what the part does to its output nets (18 R503-R511, R522, R524, R525;
17 R496, R497). The electrical figures of chapter 18 are outside the model (log 95). -/
namespace Sys2Proof.Machine

/-! ## Ball names (R504) -/

/-- A ball by its row 1-66, counted from A to CJ, and its column 1-66. -/
structure Ball where
  row : Nat
  col : Nat
  deriving DecidableEq, Repr

/-- The letters that name rows, in order. -/
def rowLetters : List Char :=
  ['A', 'B', 'C', 'D', 'E', 'F', 'G', 'H', 'J', 'K', 'L', 'M', 'N', 'P', 'T', 'U', 'V', 'W', 'Y']

/-- The number of a row named by a prefix (0 none, 1 A, 2 B, 3 C) and a letter. -/
def rowNum (pre : Nat) (c : Char) : Nat := 19 * pre + rowLetters.idxOf c + 1

/-- The name of a row: single letters, then the letters after A, B and C. -/
def rowName (r : Nat) : List Char :=
  (match (r - 1) / 19 with | 0 => [] | 1 => ['A'] | 2 => ['B'] | _ => ['C']) ++ [rowLetters.getD ((r - 1) % 19) 'A']

/-- The ball exists: a full 66 by 66 grid. -/
def Ball.wf (b : Ball) : Bool := decide (1 ≤ b.row) && decide (b.row ≤ 66) && decide (1 ≤ b.col) && decide (b.col ≤ 66)

/-! ## Groups and supplies (R505, R511) -/

/-- The groups of balls. -/
inductive BallGroup where
  | receive | receiveEdge | afeSupply | afeShield | analogueSupply | analogueIo | safetyIo | core | pllSupply | pllReturn
  | controlIo | lpddr | lpddrCommon | serial
  deriving DecidableEq, Repr

/-- The group of a ball. -/
def Ball.group (b : Ball) : BallGroup :=
  if b.row ≤ 24 then (if b.col ≤ 64 then .receive else .receiveEdge)
  else if b.row = 25 then .afeSupply
  else if b.row = 26 then .afeShield
  else if b.row = 27 then .analogueSupply
  else if b.row ≤ 33 then .analogueIo
  else if b.row = 34 then .safetyIo
  else if b.row ≤ 43 then (if b.col ≤ 60 then .core else if b.col ≤ 63 then .pllSupply else .pllReturn)
  else if b.row = 44 then .controlIo
  else if b.row ≤ 57 then (if b.col ≤ 64 then .lpddr else .lpddrCommon)
  else .serial

/-- Supplies and returns. -/
inductive Supply where
  | core | afe | hi | ser09 | ser12 | lp | lpq | pll | ioA | ioB | ao | vss | agnd
  deriving DecidableEq, Repr

/-- The PWR_EN output that switches a supply; none for one that the part does not switch (R511). -/
def Supply.enable : Supply → Option Nat
  | .afe => some 0 | .hi => some 1 | .ser09 => some 2 | .ser12 => some 2 | .lp => some 3 | .lpq => some 4 | .pll => some 5
  | _ => none

/-- What a ball of the LPDDR4X rows carries where R509 names no signal. -/
def lpSupply (b : Ball) : Supply :=
  if b.col = 65 then .lp
  else if b.col = 66 then .vss
  else if b.row = 45 || b.row = 50 then .lpq
  else if b.row = 54 || b.row = 56 then .lp
  else .vss

/-- The supply or return that a ball carries where no signal lies on it (R505-R510). -/
def Ball.supply (b : Ball) : Supply :=
  match b.group with
  | .receive | .receiveEdge | .afeShield | .analogueIo => .agnd
  | .afeSupply => .afe
  | .analogueSupply => .hi
  | .safetyIo => if 38 ≤ b.col && b.col ≤ 41 then .ioA else .vss
  | .core => if (b.row + b.col) % 2 = 0 then .core else .vss
  | .pllSupply => .pll
  | .pllReturn => .vss
  | .controlIo => if 50 ≤ b.col && b.col ≤ 53 then .ioB else if 54 ≤ b.col && b.col ≤ 57 then .ao else .vss
  | .lpddr | .lpddrCommon => lpSupply b
  | .serial => if b.row = 62 then .ser09 else if b.row = 63 then .ser12 else .vss

/-! ## Signals (R506-R510) -/

/-- The control signals of row BF. -/
inductive Ctl where
  | xi | xo | refclk | tickIn | encA | encB | syncN | trigIn (i : Fin 2) | trigBus | claim | ga (g : Fin 8) | wakeN | resetN
  | pwrEn (i : Fin 6) | pg (i : Fin 6) | scl | sda | tck | tms | tdi | tdo | trstN | cascRole (i : Fin 2) | eqSel (i : Fin 2)
  | linkMode | mgmtAddr (i : Fin 3) | pairEn
  deriving DecidableEq, Repr

/-- Signals of an LPDDR4X channel; the strobes, the mask and the clock by byte or polarity. -/
inductive LpSig where
  | dq (i : Fin 16) | dqs (b : Fin 2) (neg : Bool) | dmi (b : Fin 2) | ca (i : Fin 6) | cke | cs | ck (neg : Bool)
  deriving DecidableEq, Repr

/-- A lane's four balls: transmit or receive, positive or negative. -/
structure LaneBall where
  rx : Bool
  neg : Bool
  deriving DecidableEq, Repr

/-- The signals of the part. `neg` selects the N ball of a pair; `b` channel B or half H. -/
inductive Pin where
  | rx (c : Fin 512) (neg : Bool)
  | fire (e : Fin 16) (neg : Bool)
  | md (a : Fin 8) (neg : Bool)
  | pf (a : Fin 8) (neg : Bool)
  | aux (k : Fin 16) (neg : Bool)
  | lq (e : Fin 16)
  | ex (a : Fin 8)
  | bias (h : Fin 4)
  | ti (i : Fin 8)
  | loop (l : Fin 8)
  | lsns (l : Fin 8)
  | hk (i : Fin 32)
  | hkGnd
  | si (i : Fin 8) (b : Bool)
  | tp (k : Fin 4)
  | so (k : Fin 4) (b : Bool)
  | len (h : Fin 4) (b : Bool)
  | srstN
  | ctl (c : Ctl)
  | lp (m : Fin 8) (x : LpSig)
  | lpResetN
  | lpZq
  | host (l : Fin 16) (x : LaneBall)
  | cross (l : Fin 4) (x : LaneBall)
  | casc (down : Bool) (x : LaneBall)
  deriving DecidableEq, Repr

/-- Column of a control signal in row BF. -/
def Ctl.col : Ctl → Nat
  | .xi => 1 | .xo => 2 | .refclk => 3 | .tickIn => 4 | .encA => 5 | .encB => 6 | .syncN => 7
  | .trigIn i => 8 + i.val | .trigBus => 10 | .claim => 11 | .ga g => 12 + g.val | .wakeN => 20 | .resetN => 21
  | .pwrEn i => 22 + i.val | .pg i => 28 + i.val | .scl => 34 | .sda => 35
  | .tck => 36 | .tms => 37 | .tdi => 38 | .tdo => 39 | .trstN => 40
  | .cascRole i => 41 + i.val | .eqSel i => 43 + i.val | .linkMode => 45 | .mgmtAddr i => 46 + i.val | .pairEn => 49

/-- Row, and offset o of the column within its channel, of an LPDDR4X signal (R509). -/
def LpSig.place : LpSig → Nat × Nat
  | .dq i => if i.val < 8 then (46, i.val + 1) else (49, i.val - 7)
  | .dqs b neg => if b.val = 0 then (48, if neg then 2 else 1) else (48, if neg then 7 else 8)
  | .dmi b => (48, if b.val = 0 then 3 else 6)
  | .ca i => (52, i.val + 1)
  | .cke => (52, 7)
  | .cs => (52, 8)
  | .ck neg => (53, if neg then 5 else 4)

/-- Row of a ball of a serial lane: CB and CC transmit, CG and CH receive (R510). -/
def LaneBall.row (x : LaneBall) : Nat := (if x.rx then 64 else 59) + (if x.neg then 1 else 0)

/-- The ball of a signal. -/
def Pin.ball : Pin → Ball
  | .rx c neg =>
    let k := c.val % 128
    { row := 3 * (k / 16) + (if neg then 2 else 1), col := 16 * (c.val / 128) + k % 16 + 1 }
  | .fire e neg => { row := if neg then 29 else 28, col := e.val + 1 }
  | .md a neg => { row := if neg then 29 else 28, col := a.val + 19 }
  | .pf a neg => { row := if neg then 29 else 28, col := a.val + 29 }
  | .aux k neg => { row := if neg then 29 else 28, col := k.val + 39 }
  | .lq e => { row := 31, col := e.val + 1 }
  | .ex a => { row := 31, col := a.val + 19 }
  | .bias h => { row := 31, col := h.val + 29 }
  | .ti i => { row := 31, col := i.val + 39 }
  | .loop l => { row := 31, col := l.val + 49 }
  | .lsns l => { row := 31, col := l.val + 57 }
  | .hk i => { row := 32, col := i.val + 1 }
  | .hkGnd => { row := 32, col := 33 }
  | .si i b => { row := 34, col := 2 * i.val + 1 + b2n b }
  | .tp k => { row := 34, col := 17 + k.val }
  | .so k b => { row := 34, col := 2 * k.val + 21 + b2n b }
  | .len h b => { row := 34, col := 2 * h.val + 29 + b2n b }
  | .srstN => { row := 34, col := 37 }
  | .ctl c => { row := 44, col := c.col }
  | .lp m x => { row := x.place.1, col := 8 * m.val + x.place.2 }
  | .lpResetN => { row := 45, col := 65 }
  | .lpZq => { row := 45, col := 66 }
  | .host l x => { row := x.row, col := 2 * l.val + 2 }
  | .cross l x => { row := x.row, col := 36 + 2 * l.val }
  | .casc down x => { row := x.row, col := if down then 48 else 46 }

/-- The domain of a control signal (R508). -/
def Ctl.domain : Ctl → Nat
  | .xi | .xo | .refclk | .tickIn | .encA | .encB | .syncN | .trigIn _ | .trigBus | .claim | .ga _ => domCORE
  | _ => domAO

/-- The domain of a signal (R507-R510): `so` and `len` have one half in SAFE and one in AO, and the receive inputs belong to ACQ
with the rest of the front end (16 R462). -/
def Pin.domain : Pin → Nat
  | .rx _ _ | .fire _ _ | .lq _ | .bias _ | .ti _ => domACQ
  | .md _ _ | .pf _ _ | .ex _ => domSERVO
  | .aux _ _ => domWAVE
  | .loop _ | .lsns _ | .hk _ | .hkGnd => domHK
  | .si _ _ | .tp _ | .srstN => domAO
  | .so _ b | .len _ b => if b then domAO else domSAFE
  | .ctl c => c.domain
  | .lp _ _ | .lpResetN | .lpZq => domMEM
  | .host _ _ => domLINK
  | .cross _ _ | .casc _ _ => domCORE

/-- The boundary register covers the digital signal balls: those of rows AT and BF but the crystal, which is analogue
(DEDUCED from 17 R496's exclusions), and the balls of the test access port itself (PRESUMED; log 116). -/
def Pin.inBoundary : Pin → Bool
  | .si _ _ | .tp _ | .so _ _ | .len _ _ | .srstN => true
  | .ctl c =>
    match c with
    | .xi | .xo | .tck | .tms | .tdi | .tdo | .trstN => false
    | _ => true
  | _ => false

/-! ## What the part does to its output nets (R524, R525) -/

/-- The state of an output net as the part leaves it. -/
inductive Net where
  | highZ
  | low
  | high
  /-- An analogue code, or a current in the unit of its register. -/
  | code (v : Int)
  deriving DecidableEq, Repr

/-- A digital level, or high impedance. -/
def Net.ofLevel : Option Bool → Net
  | none => .highZ
  | some true => .high
  | some false => .low

/-- An analogue level, or high impedance. -/
def Net.ofCode : Option Int → Net
  | none => .highZ
  | some v => .code v

/-- An output of the paired stages: high impedance without the claim where it is shared (13 R364). -/
def State.sharedNet (s : State) (shared drive : Bool) : Net :=
  if shared && !s.dev.drives then .highZ else if drive then .high else .low

/-- The net of an output at an instant, `t` for the test pulses and the trigger bus; none for a signal that is no output or that
only a protocol drives. Without VDD_AO every output is high impedance (R524). Between its pulses a fire output that is driven
stands at no fire. -/
def State.net (s : State) (t : Time) : Pin → Option Net
  | .fire _ _ => some (if s.dev.pwr.off || !s.dev.emDriven then .highZ else .low)
  | .lq e => some (if s.dev.pwr.off then .highZ else .ofCode ((s.dev.lqOut e).map (fun v => (v : Int))))
  | .md a _ => some (if s.dev.pwr.off then .highZ else .ofCode (s.dev.mdOut a))
  | .ex a => some (if s.dev.pwr.off then .highZ else .ofCode ((s.dev.exOut a).map (fun v => (v : Int))))
  | .bias h => some (if s.dev.pwr.off then .highZ else .ofCode ((s.dev.biasOut h).map (fun v => (v : Int))))
  | .loop l => some (if s.dev.pwr.off then .highZ else .ofCode ((s.dev.loopOut s.lockedOut l).cur.map (fun v => (v : Int))))
  | .tp k => some (if s.dev.pwr.off then .highZ else if s.dev.pwr.shutHold then .low else .ofLevel (s.tpOut k t))
  | .so k b => some (if s.dev.pwr.off then .highZ
      else s.sharedNet ((soByte s.isl.spb k 0).testBit 2) (s.soDrive (b2n b) k))
  | .len h b => some (if s.dev.pwr.off then .highZ else s.sharedNet true (s.lenDrive (b2n b) h))
  | .ctl (.ga g) => some (if s.dev.pwr.off then .highZ else .ofLevel (s.dev.gaOut g))
  | .ctl .trigBus => some (if !s.dev.pwr.off && s.dev.on domWAVE && s.dev.trigBusLow t then .low else .highZ)
  | .ctl (.pwrEn i) => some (if s.dev.pwr.off then .highZ else if s.dev.rails.testBit i then .high else .low)
  | _ => none

end Sys2Proof.Machine
end

