-- ==== Sys2Proof/Safety.lean ====
section
/-! DEFINITION. The words in which claims about the block are stated: that it goes on, what a command leaves alone, what
an event leaves behind, when emission is off, and what a fuse keeps. -/
namespace Sys2Proof.Machine

/-- The block goes on with the command at the front of its queue: it stops with no fault and no refusal. -/
def State.goesOn (s : State) : Prop := ∃ t, step s = .next t

/-- Of the device, nothing but its registers and the pending event records differs. -/
def Dev.OnlyNotes (d e : Dev) : Prop := e = { d with regs := e.regs, evt := { d.evt with pend := e.evt.pend } }

/-- Event `n` has been noted, and nothing else has happened: its raw bit is set, every other register and every other raw
bit keeps its value, and an enabled source has opened or merged its pending record (15 R452, R459). -/
def Dev.Noted (n : Nat) (d e : Dev) : Prop :=
  d.OnlyNotes e ∧ e.b (evtRawOff n) (n % 32) = true
  ∧ (∀ o, o ≠ evtRawOff n → e.rd o = d.rd o)
  ∧ (∀ j, j ≠ n % 32 → e.b (evtRawOff n) j = d.b (evtRawOff n) j)
  ∧ e.evt.pend = if d.b (Reg.DSC_EVT_CFG n) 0 then pendAdd n d.now d.glb.frameNum d.evt.pend else d.evt.pend

/-- Only the axes differ, and of them only axis `a` (03). -/
def Dev.OnlyAxis (a : Nat) (d e : Dev) : Prop :=
  e = { d with hch := { d.hch with axes := e.hch.axes } } ∧ ∀ b, b ≠ a → e.ax b = d.ax b

/-- Only the plates differ, and of them only plate `p` (07). -/
def Dev.OnlyPlate (p : Nat) (d e : Dev) : Prop :=
  e = { d with wave := { d.wave with plt := e.wave.plt } } ∧ ∀ q, q ≠ p → e.plt q = d.plt q

/-- Only the filter chains differ, and of them only the chain of plate `p` (08). -/
def Dev.OnlyChain (p : Nat) (d e : Dev) : Prop :=
  e = { d with wave := { d.wave with flt := e.wave.flt } } ∧ ∀ q, q ≠ p → e.flt q = d.flt q

/-- Only the register file differs, and of it only the offsets of a list. -/
def Dev.OnlyRegs (offs : List Nat) (d e : Dev) : Prop :=
  e = { d with regs := e.regs } ∧ ∀ o, o ∉ offs → e.rd o = d.rd o

/-- A fuse that is burnt stays burnt, and a programmed integrator key stays as it is (17 R485, R488). -/
def Fuses.Kept (f g : Fuses) : Prop :=
  (f.rma = true → g.rma = true) ∧ (f.unlock = true → g.unlock = true) ∧ (f.revoked = true → g.revoked = true)
  ∧ (∀ k, f.intKey = some k → g.intKey = some k)

/-- An operation has been refused: it is counted in DENY_CNT and noted, and nothing else has happened (17 R498). -/
def Dev.Denied (d e : Dev) : Prop := (d.inc Reg.SEC_DENY_CNT).Noted Ev.SEC_DENIED e

/-- The block has supplies, takes host commands and answers register accesses (14 R410, R430; 15 R457). -/
def State.answers (s : State) : Prop :=
  s.alive = true ∧ s.dev.lnk.st = .up ∧ s.dev.answered = true ∧ s.dev.lnk.hotPending = false

/-- Descriptor `x` can be dispatched now: the link is not down, the descriptor is not out already, and nothing of its ring
holds it back (15 R443). -/
def Dev.takes (d : Dev) (x : Desc) : Prop :=
  d.lnk.st ≠ .down ∧ (d.known x).isOut x = false ∧ (d.known x).mayDispatch x = true

/-- The device with descriptor `x` dispatched. -/
def Dev.taken (d : Dev) (x : Desc) : Dev := (d.known x).markOut x

/-- What a descriptor command leaves once its engine has left `t`: the engines and the power controller go on. -/
def State.engineLeaves (s t : State) : State := State.revoted (fun _ => t.tidied (fun d => d)) s

/-- Each half of the island watches its eight pairs, and an island that is locked out, or that a firmware switch will lock
out again, knows its cause (12 R326, R344; 17 R492). -/
def Island.Shaped (i : Island) : Prop :=
  i.sp.guards.length = 8 ∧ i.hwl.guards.length = 8 ∧ (i.st = .lockout → i.fault ≠ none) ∧ (i.back = some .lockout → i.fault ≠ none)

end Sys2Proof.Machine
end

