-- ==== Sys2Proof/WellFormed.lean ====
section
/-! DEFINITION. Which commands are well formed: every operand lies in the range that its packet field, register field or
count gives it. The meanings are total and do not rest on it. -/
namespace Sys2Proof

/-- An aligned offset of the 16 MB register window (01 R39). -/
def offWf (off : Nat) : Bool := decide (off < 2 ^ 24) && decide (off % 4 = 0)

/-- Channel numbers (00; 04 R101). -/
def chansWf (cs : List Nat) : Bool := cs.all (fun c => decide (c < 512))

/-- Ring indices as the doorbell page holds them: a ring below `n` and a 16-bit index (15 R439). -/
def indicesWf (n : Nat) (l : List (Nat × Nat)) : Bool := l.all (fun e => decide (e.1 < n) && decide (e.2 < 65536))

/-- Straps: two bits of EQ_SEL, two of CASC_ROLE, three of MGMT_ADDR (14 R400; 13 R385; 15 R438). -/
def Straps.wf (x : Straps) : Bool := decide (x.eqSel < 4) && decide (x.cascRole < 4) && decide (x.mgmtAddr < 8)

/-- A descriptor's fields fit their bytes, addresses are 4-byte aligned, lengths are multiples of 4, and PARAM has 32
bytes (15 R442). -/
def Desc.wf (x : Desc) : Bool :=
  decide (x.slot < 65536) && decide (x.typ < 256) && decide (x.tag < 2 ^ 32) && decide (x.param.length = 32)
  && decide (x.addrA < 2 ^ 64) && decide (x.addrB < 2 ^ 64) && decide (x.lenA < 2 ^ 32) && decide (x.lenB < 2 ^ 32)
  && decide (x.addrA % 4 = 0) && decide (x.addrB % 4 = 0) && decide (x.lenA % 4 = 0) && decide (x.lenB % 4 = 0)

/-- What a frame has measured names channels and loops that exist. -/
def TickObs.wf (o : TickObs) : Bool :=
  chansWf (o.amb.map Prod.fst) && chansWf o.ovr && o.loops.all (fun e => decide (e.1 < 8))

/-- An epoch names channels, and a 2-bit family set and range (13 R378). -/
def Epoch.wf (e : Epoch) : Bool :=
  e.chans.all (fun x => decide (x.c < 512) && decide (x.gain < 4))

/-- The tag of a malformed REGRD is one byte (14 R415). -/
def BadPkt.wf (k : BadPkt) : Bool :=
  match k with
  | .malformed (some t) => decide (t < 256)
  | .malformed none | .duplicate | .wrongSeq | .crc | .code _ _ | .ebp => true

/-- Every operand is in the range that the spec gives its field. -/
def Instr.wf (c : Instr) : Bool :=
  match c with
  | .registerWrite off _ => offWf off
  | .internalTick o => o.wf
  | .encoderTick o _ => o.wf
  | .tickInEdge _ _ o => o.wf
  | .deferredTick o => o.wf
  | .substituteTick o => o.wf
  | .cascadeTick o => o.wf
  | .encEdgeAccepted _ _ _ => true
  | .shotFire _ _ => true
  | .brnLimitWrite off _ => offWf off
  | .servoSample _ x => decide (x.length = 8)
  | .engage _ => true
  | .park _ => true
  | .disable _ => true
  | .clear _ => true
  | .engageComplete _ => true
  | .parkTimeout _ => true
  | .hchFbLoss _ => true
  | .hchFreeze _ => true
  | .hchTrackErr _ => true
  | .hchTableSwap _ => true
  | .crosslinkDriveWord _ _ _ _ => true
  | .gainSet _ _ _ => true
  | .listenWindowOpen _ => true
  | .listenWindowClose _ clip seen => chansWf clip && chansWf seen
  | .lowComparatorTurnOn _ _ => true
  | .highComparatorTurnOn _ _ => true
  | .lowComparatorTurnOff _ _ _ => true
  | .eventTimeLimit _ => true
  | .pllLock => true
  | .pllNoReference => true
  | .timRefLoss => true
  | .timRefRestored => true
  | .timPllUnlock => true
  | .tiEdge _ _ _ => true
  | .iuArm _ _ => true
  | .iuWindowExpiry _ => true
  | .iuGateEnd _ => true
  | .iuResRead _ _ tag => decide (tag < 256)
  | .zoomSplit _ => true
  | .triggerEvent _ _ => true
  | .holdoffEnd _ _ => true
  | .autoTrigger _ _ => true
  | .plateSetupDone _ _ => true
  | .plateFillDone _ _ => true
  | .captureComplete _ _ _ => true
  | .rearmDone _ _ => true
  | .segmentCommit _ => true
  | .streamSegmentSkip _ => true
  | .auxAutorange _ _ xs => xs.all (fun x => decide (-512 ≤ x.1) && decide (x.1 ≤ 511) && decide (1 ≤ x.2))
  | .cascTrigMessage _ _ _ _ _ _ => true
  | .memTrain => true
  | .memTrainDone => true
  | .memTrainFail _ => true
  | .swGo _ => true
  | .fltFadeDone _ => true
  | .syncNEdge _ => true
  | .syncCmd => true
  | .cascSyncMessage _ _ _ => true
  | .syncInstant => true
  | .calMeasurementDone _ _ => true
  | .applyGo => true
  | .applyDiscard => true
  | .hkRoundStart _ => true
  | .hkSlotEnd _ => true
  | .hkRoundPublish out => out.all (fun j => decide (j < 64))
  | .hkOpen _ _ => true
  | .hkOpenCleared _ _ => true
  | .loopFault _ _ _ _ => true
  | .loopFaultCleared _ _ _ _ => true
  | .loopWdog _ => true
  | .elCtlWrite _ => true
  | .thmSensorFail _ => true
  | .critClr => true
  | .sensorClr _ => true
  | .shutComparatorTrip _ => true
  | .guardInputAccepted _ _ _ _ => true
  | .discrepancy _ _ => true
  | .testPulse _ xs => xs.all (fun x => decide (x.1 < 65536) && decide (x.2 < 16))
  | .tpReadback _ _ => true
  | .soReadback _ _ _ => true
  | .lenReadback _ _ _ => true
  | .soOfftestStart _ _ _ _ => true
  | .scanStall _ _ _ _ => true
  | .stallClr _ => true
  | .safetyExchange => true
  | .heartbeat => true
  | .disagree => true
  | .osc => true
  | .ramUe => true
  | .fwTrap => true
  | .spbCrc => true
  | .lockoutReset _ => true
  | .safOscReady => true
  | .safSelftestDone _ => true
  | .pwPresent len => decide (len < 128)
  | .pwClose => true
  | .pwDerivationDone => true
  | .pwSessionTimeout => true
  | .pwRefusalEnd => true
  | .claimRound _ other => (match other with | none => true | some n => decide (n < 64))
  | .handover _ => true
  | .claimWatchdogExpiry => true
  | .selfCheckFail bit => decide (bit < 8)
  | .pairHeartbeatLoss => true
  | .driveDetection _ _ => true
  | .echoCompare _ recs => recs.all (fun r => decide (r.length = 32))
  | .echoDetection _ _ => true
  | .epochReceived e => e.wf
  | .stateImageReceived e xs => e.wf && xs.all (fun x => decide (x.c < 512))
  | .pairLinkUp prio _ _ => decide (prio < 32)
  | .suspectClr => true
  | .yield => true
  | .requal => true
  | .cascCtlWrite _ => true
  | .cascTickMessage _ _ _ _ => true
  | .cascSeedMessage _ _ _ _ _ => true
  | .cascAlign _ _ _ => true
  | .cascMasterLost => true
  | .cascPeerWaitExpiry => true
  | .laneAligned _ num cfg => decide (num < 16) && decide (cfg < 256)
  | .lnkUp => true
  | .cplReceived tag status bytes => decide (tag < 256) && decide (status < 256) && decide (bytes ≤ 512)
  | .doorbell => true
  | .flowReceived ph nph ch pd cd => decide (ph < 256) && decide (nph < 256) && decide (ch < 256) && decide (pd < 4096) && decide (cd < 4096)
  | .ackReceived n => decide (n < 4096)
  | .nakReceived n => decide (n < 4096)
  | .badPacketReceived k => k.wf
  | .ackSend => true
  | .flowSend => true
  | .replayTimer => true
  | .lnkRecovery _ => true
  | .retrain => true
  | .lnkLaneDrop => true
  | .lnkDown => true
  | .retune => true
  | .lnkRetuneDone => true
  | .lnkRetuneFail => true
  | .lnkCplTimeout tag => decide (tag < 256)
  | .hotReset => true
  | .adaptFreeze _ => true
  | .eidleExit => true
  | .doorbellPageReadDone _ sq cq eq => indicesWf 64 sq && indicesWf 64 cq && indicesWf 8 eq
  | .descriptorFetchDone _ _ ds => ds.all Desc.wf
  | .nop d => d.wf
  | .acqStart d => d.wf
  | .acqStop d => d.wf
  | .configApply d _ => d.wf
  | .streamEcho d => d.wf
  | .histDump d => d.wf
  | .plateArm d => d.wf
  | .plateDrain d => d.wf
  | .calRun d => d.wf
  | .tableLoad d _ => d.wf
  | .fwLoad d _ => d.wf
  | .fwVerifyDone => true
  | .fwSwitchDone => true
  | .spbLoad d _ => d.wf
  | .powerVote d => d.wf
  | .attnSend kind ring => (if kind = 0 then decide (ring < 64) else decide (kind = 1) && decide (ring < 8))
  | .eventRecordWrite => true
  | .ringCtlWrite off _ => offWf off
  | .mgmtWrite off _ _ => offWf off
  | .voteWrite client _ => decide (client < 2)
  | .entryWindowEnd => true
  | .wakeSequenceComplete _ => true
  | .wakeAttemptTimeout pg _ => decide (pg < 64)
  | .wakeRetryTimer => true
  | .wakeRetry => true
  | .padRelease _ => true
  | .drst _ => true
  | .aoTimerWrite _ => true
  | .aoTimerExpiry => true
  | .wakeNLow => true
  | .cascadeActivityWake => true
  | .pgLost _ => true
  | .powerOnReset x => x.wf
  | .coldReset x => x.wf
  | .supplyDroop x => x.wf
  | .powerOff => true
  | .coreWatchdog => true
  | .chalNew => true
  | .tokenSubmit => true
  | .tokenVerifyDone => true
  | .tokenRefusalEnd => true
  | .lock => true
  | .keyProg _ => true
  | .keyRevoke => true
  | .keyBurnDone => true
  | .dbgCtlWrite _ => true
  | .debugBusAccess _ off _ => decide (off < 2 ^ 32)
  | .halt => true
  | .resume => true
  | .step => true
  | .extest => true
  | .clamp => true
  | .highz => true
  | .samplePreload => true
  | .idcode => true
  | .bypass => true
  | .dbgacc _ => true
  | .loRegisterRead _ off tag => offWf off && decide (tag < 256)
  | .tickAnnouncement _ => true
  | .shutComparatorClear => true
  | .lchReceived width block => decide (width ≤ 16) && decide (block < 16)

end Sys2Proof
end

