-- ==== Sys2Proof/Certificates/Slice0/Obligations.lean ====
section
/-! DEFINITION. The statements for the provers. -/

open Sys2Proof Sys2Proof.Machine

/-- The model's queue (95_what_each_step_holds.md): a step takes the command at the front of the queue and carries it out with the queue's rest,
and on an empty queue the block idles (the model's choice: log entry 1). -/
def Obligations.StepCarriesOutTheFrontCommand : Prop :=
  ∀ (s : State) (c : Instr) (l : List Instr),
    Sys2Proof.Machine.step { s with pending := c :: l } = exec c { s with pending := l }
    ∧ Sys2Proof.Machine.step { s with pending := [] } = .next { s with pending := [] }

/-- 00 R5; 01 R39: a register write takes effect by the register's access code. An unmapped offset and a read-only register
discard it; RW takes the writable bits at once; W1C clears the bits written 1; RWT and RWP wait for the tick with their
writable bits, RWP only in a password session with no defaults in force, and otherwise the event SAF_RWP_DENIED is noted.
No other register changes. Registers with an effect of their own (frame registers, rings, votes and the like) are excepted
by name. -/
def Obligations.RegisterWritesFollowTheAccessCode : Prop :=
  ∀ (s : State) (off : Nat) (val : Word), s.answers → off ≠ Reg.SEC_DBG_DATA →
    let p := s.dev.rxAccept (.posted 1)
    (rowOf off = none → exec (.registerWrite off val) s = .next { s with dev := p })
    ∧ ∀ r ix, rowOf off = some (r, ix) →
      (r.acc = .ro → exec (.registerWrite off val) s = .next { s with dev := p })
      ∧ (r.acc = .rw → ringOf off = none → baseGuard off = none →
          off ∉ [Reg.MDV_CASC_CTL, Reg.MDV_TICK_LEAD, Reg.GLB_MEM_CFG, Reg.PWR_TIMER, Reg.SEC_DBG_CTL] →
          r.base ∉ [Reg.PWR_VOTE 0, Reg.DSC_EVT_CFG 0] →
          ∃ e : Dev, exec (.registerWrite off val) s = .next { s with dev := e } ∧ p.OnlyRegs [off] e
            ∧ e.rd off = word (val.toNat &&& r.mask))
      ∧ (r.acc = .w1c → off ≠ Reg.MDV_CASC_CTL →
          ∃ e : Dev, exec (.registerWrite off val) s = .next { s with dev := e } ∧ p.OnlyRegs [off] e
            ∧ e.rd off = s.dev.rd off &&& ~~~val)
      ∧ (r.acc = .rwt → off ∉ [Reg.GLB_FRAME_LEN, Reg.GLB_FRAME_MIN, Reg.GLB_FRAME_MAX, Reg.BRN_CODE_SEED, Reg.BRN_CODE_CTL] →
          r.base ∉ [Reg.HKP_SLOT_CFG 0, Reg.HKP_SLOT_AUX 0] →
          exec (.registerWrite off val) s
            = .next { s with dev := { p with glb := { p.glb with staged := s.dev.glb.staged ++ [(off, word (val.toNat &&& r.mask))] } } })
      ∧ (r.acc = .rwp → isBrnLimit off = false → s.isl.pw.openAt.isSome = true → s.isl.defaulted = false →
          exec (.registerWrite off val) s
            = .next { s with dev := { p with glb := { p.glb with staged := s.dev.glb.staged ++ [(off, word (val.toNat &&& r.mask))] } } })
      ∧ (r.acc = .rwp → isBrnLimit off = false → (s.isl.pw.openAt = none ∨ s.isl.defaulted = true) → s.dev.on domCORE = true →
          ∃ e : Dev, exec (.registerWrite off val) s = .next { s with dev := e } ∧ p.Noted Ev.SAF_RWP_DENIED e)

/-- 01 R11, R13, R14, R16, R18; 13 R389: which command makes a tick, and at which instant. The internal source ticks
FRAME_LEN after the previous tick; the encoder when its accumulator has reached the tick distance, which is taken from it;
TICK_IN at its selected edge, 40 ns after the rounded time; a deferred tick falls FRAME_MIN and a substitute tick
FRAME_MAX after the previous tick; a cascade member takes the first scheduled tick with its frame number, or defers it when
it comes less than FRAME_MIN after the previous one. (`notBefore` is 0 but in a frame in which the part left a cascade: log
18.) -/
def Obligations.TicksFallWhenTheSourceSays : Prop :=
  ∀ (s : State) (o : TickObs) (t : Time), s.alive = true → s.dev.ticking = true → s.dev.cascMaster = false →
    let d := s.dev
    let tick := fun (k : TickKind) (u : Time) (fr : Option Word) (s : State) =>
      State.tickTail fr.isSome o (Dev.frameEnd k u fr o s.dev) s
    (d.glb.src = .internal → d.isStandby = false →
        exec (.internalTick o) s = .next (tick .internal (max d.glb.notBefore (d.glb.start + d.f Reg.GLB_FRAME_LEN 19 0 * 1024)) none s))
    ∧ (d.glb.src = .encoder → d.b Reg.GLB_ENC_CTL 5 = true → 0 < d.f Reg.GLB_ENC_TICK_DIST 23 0 →
        ((256 * d.f Reg.GLB_ENC_TICK_DIST 23 0 : Nat) : Int) ≤ d.glb.encAcc →
        d.glb.start + d.f Reg.GLB_FRAME_MIN 19 0 * 1024 ≤ t →
        exec (.encoderTick o t) s = .next (tick .encoder t none
          { s with dev := { d with glb := { d.glb with encAcc := d.glb.encAcc - ((256 * d.f Reg.GLB_ENC_TICK_DIST 23 0 : Nat) : Int) } } }))
    ∧ (d.glb.src = .tickIn → d.sec.bscan = false →
        d.glb.start + d.f Reg.GLB_FRAME_MIN 19 0 * 1024 ≤ t / 8 * 8 + 40 * 1024 →
        exec (.tickInEdge (d.b Reg.GLB_TICK_CTL 2) t o) s = .next (tick .tickIn (t / 8 * 8 + 40 * 1024) none s))
    ∧ (d.glb.deferred = true →
        exec (.deferredTick o) s
          = .next (tick .deferred (d.glb.start + d.f Reg.GLB_FRAME_MIN 19 0 * 1024) d.glb.deferFr s))
    ∧ (d.glb.src ≠ .internal → d.glb.deferred = false → d.b Reg.GLB_TICK_CTL 3 = true →
        exec (.substituteTick o) s = .next (tick .substitute (d.glb.start + d.f Reg.GLB_FRAME_MAX 19 0 * 1024) none s))
    ∧ (∀ x l, d.mdv.ticks = x :: l → d.cascMember = true → d.f Reg.GLB_TICK_CTL 1 0 = 3 →
        let d1 := d.modMdv (fun m => { m with ticks := l })
        let early := d.glb.src = .cascade ∧ x.dt < d.glb.start + d.f Reg.GLB_FRAME_MIN 19 0 * 1024
        (¬ early → exec (.cascadeTick o) s = .next (tick .cascade x.dt (some x.fr) { s with dev := d1 }))
        ∧ (early → d.glb.deferred = false →
            ∃ m e : Dev, exec (.cascadeTick o) s = .next { s with dev := e } ∧ m.Noted Ev.TICK_DEFERRED e
              ∧ { d1.at x.dt with glb := { d.glb with deferred := true, deferFr := some x.fr } }.OnlyRegs [Reg.GLB_TICK_DEFER_CNT] m))
    ∧ (d.glb.src ≠ .tickIn → exec (.tickInEdge true t o) s = .next s ∧ exec (.tickInEdge false t o) s = .next s)
    ∧ (d.glb.src ≠ .encoder → exec (.encoderTick o t) s = .next s)
    ∧ (d.glb.deferred = false → exec (.deferredTick o) s = .next s)
    ∧ (d.mdv.ticks = [] → exec (.cascadeTick o) s = .next s)

/-- 01 R9, R16, R20, R21, R24: the end of a frame. The frame number goes up by one modulo 2^32, or a cascade member takes the
number of the message; the tick's instant is latched; the encoder position is latched; a substitute tick is counted and
marks the frame that it begins; nothing is deferred any more. -/
def Obligations.TickEndsTheFrame : Prop :=
  ∀ (k : TickKind) (t : Time) (fr : Option Word) (o : TickObs) (d : Dev),
    let e := (Dev.frameEnd k t fr o d).2
    e.glb.frameNum = fr.getD (d.glb.frameNum + 1) ∧ e.glb.ended = d.glb.frameNum ∧ e.glb.tickDt = t ∧ e.glb.start = t
    ∧ e.glb.ticks = d.glb.ticks + 1 ∧ e.glb.deferred = false ∧ e.glb.subst = decide (k = .substitute)
    ∧ e.glb.deferredNow = decide (k = .deferred) ∧ e.rd Reg.GLB_TICK_ENC_POS = e.rd Reg.GLB_ENC_POS
    ∧ e.glb.staged = d.glb.staged ∧ e.glb.src = d.glb.src ∧ e.glb.run = d.glb.run ∧ e.glb.encAcc = d.glb.encAcc

/-- 01 R13: a tick of an external source less than FRAME_MIN after the previous tick is deferred, counted and noted; a
further one while one is deferred is dropped, counted and noted. No frame ends. -/
def Obligations.EarlyTicksAreDeferredOnce : Prop :=
  ∀ (s : State) (o : TickObs) (t : Time), s.alive = true → s.dev.ticking = true → s.dev.cascMaster = false →
    s.dev.glb.src = .tickIn → s.dev.sec.bscan = false →
    let d := s.dev
    let u := t / 8 * 8 + 40 * 1024
    u < d.glb.start + d.f Reg.GLB_FRAME_MIN 19 0 * 1024 →
    (d.glb.deferred = false → ∃ m e : Dev, exec (.tickInEdge (d.b Reg.GLB_TICK_CTL 2) t o) s = .next { s with dev := e }
      ∧ m.Noted Ev.TICK_DEFERRED e ∧ { d.at u with glb := { d.glb with deferred := true, deferFr := none } }.OnlyRegs [Reg.GLB_TICK_DEFER_CNT] m
      ∧ m.rd Reg.GLB_TICK_DEFER_CNT = satInc (d.rd Reg.GLB_TICK_DEFER_CNT))
    ∧ (d.glb.deferred = true → ∃ m e : Dev, exec (.tickInEdge (d.b Reg.GLB_TICK_CTL 2) t o) s = .next { s with dev := e }
      ∧ m.Noted Ev.TICK_DROPPED e ∧ (d.at u).OnlyRegs [Reg.GLB_TICK_DROP_CNT] m
      ∧ m.rd Reg.GLB_TICK_DROP_CNT = satInc (d.rd Reg.GLB_TICK_DROP_CNT))

/-- 01 R20 (with the counting of R18 and R19): ENC_POS holds the signed count of quadrature counts since reset, and every tick
latches it into TICK_ENC_POS. Where the registers have been reset it reads 0; an accepted change of one level moves it by one,
up in the forward order 00, 10, 11, 01 and down in the other, with the sense turned by ENC_CTL bit 4; when both levels change
the position stays and the error is counted and noted; without the enable, and without a change, only the levels are kept; and
the work with which every tick ends its frame leaves it in TICK_ENC_POS. -/
def Obligations.EncoderPositionIsCountedAndLatched : Prop :=
  (∀ d : Dev, d.regs = [] → d.rd Reg.GLB_ENC_POS = 0)
  ∧ (∀ (s : State) (a b : Bool) (t : Time), s.alive = true → s.dev.sec.bscan = false → s.dev.on domCORE = true →
      let d := s.dev
      let d1 : Dev := { d.at t with glb := { d.glb with encA := a, encB := b } }
      let up := (decide ((encPhase d.glb.encA d.glb.encB + 1) % 4 = encPhase a b)) != d.b Reg.GLB_ENC_CTL 4
      (d.b Reg.GLB_ENC_CTL 5 = false → exec (.encEdgeAccepted a b t) s = .next { s with dev := d1 })
      ∧ (d.glb.encA = a → d.glb.encB = b → exec (.encEdgeAccepted a b t) s = .next { s with dev := d1 })
      ∧ (d.b Reg.GLB_ENC_CTL 5 = true → d.glb.encA ≠ a → d.glb.encB ≠ b →
          ∃ m e : Dev, exec (.encEdgeAccepted a b t) s = .next { s with dev := e } ∧ m.Noted Ev.ENC_ERROR e
            ∧ d1.OnlyRegs [Reg.GLB_ENC_ERR_CNT] m ∧ m.rd Reg.GLB_ENC_ERR_CNT = satInc (d.rd Reg.GLB_ENC_ERR_CNT))
      ∧ (d.b Reg.GLB_ENC_CTL 5 = true → ((d.glb.encA ≠ a ∧ d.glb.encB = b) ∨ (d.glb.encA = a ∧ d.glb.encB ≠ b)) →
          ∃ e : Dev, exec (.encEdgeAccepted a b t) s = .next { s with dev := e }
            ∧ e = { d1 with regs := e.regs, glb := { d1.glb with encAcc := e.glb.encAcc } }
            ∧ e.rd Reg.GLB_ENC_POS = (if up then d.rd Reg.GLB_ENC_POS + 1 else d.rd Reg.GLB_ENC_POS - 1)
            ∧ (∀ r, r ≠ Reg.GLB_ENC_POS → e.rd r = d.rd r)
            ∧ e.glb.encAcc = (if d.glb.src = .encoder ∧ d.f Reg.GLB_ENC_TICK_DIST 23 0 ≠ 0 then
                d.glb.encAcc + (if up then 1 else -1) * ((d.f Reg.GLB_ENC_SCALE 23 0 : Nat) : Int) else d.glb.encAcc)))
  ∧ (∀ (k : TickKind) (t : Time) (fr : Option Word) (o : TickObs) (d : Dev),
      (Dev.frameEnd k t fr o d).2.rd Reg.GLB_TICK_ENC_POS = (Dev.frameEnd k t fr o d).2.rd Reg.GLB_ENC_POS)

/-- 02 R60, R66; 01 R45; 12 R342: the next pulse of the next planned shot of an emitter. When the plan lets the shot fire,
every source permits emission and the counter has room, the emitter's pulse count grows by one and its gate time by the
gate code, and a first pulse is the shot's reference; when emission is not permitted, and always while the island is not in
RUN, no pulse is fired. The train moves on in both cases: to the second pulse of a pair, else to the next shot. A unit
without the claim fires nothing and takes the reference of a first pulse that it observes. The hard-wired logic counts what
it sees at the pins, within its limits without a fault. -/
def Obligations.ShotsFireOnlyWhenPermitted : Prop :=
  ∀ (s : State) (e : Fin 16) (o : FireObs), s.alive = true → s.dev.on domACQ = true →
    let d := s.dev
    let k := tabGet 0 d.brn.next e.val
    let pair := d.emPair e.val
    let second := d.brn.second.testBit e.val
    let moved := fun (b : Brn) =>
      if pair = true ∧ second = false then tabGet 0 b.next e.val = k ∧ b.second.testBit e.val = true
      else tabGet 0 b.next e.val = k + 1 ∧ b.second.testBit e.val = false
    k < d.planned e.val → d.brn.recharged.testBit e.val = false →
    (s.isl.st ≠ .run → s.mayEmit e.val = false)
    ∧ (o.pulses = 0 → d.planFires e.val k = true → s.mayEmit e.val = true → d.counterRoom s.isl.spb e.val 1 = 1 →
        ∃ t : State, exec (.shotFire e o) s = .next t ∧ t.isl = s.isl ∧ t.fuses = s.fuses ∧ moved t.dev.brn
          ∧ tabGet 0 t.dev.brn.fired e.val = tabGet 0 d.brn.fired e.val + 1
          ∧ tabGet 0 t.dev.brn.gate e.val = tabGet 0 d.brn.gate e.val + d.emGate e.val
          ∧ tabGet 0 t.dev.brn.last e.val = (if second then tabGet 0 d.brn.last e.val else d.fireDt e.val k + 1)
          ∧ (∀ f, f ≠ e.val → tabGet 0 t.dev.brn.fired f = tabGet 0 d.brn.fired f) ∧ t.dev.regs = d.regs)
    ∧ (o.pulses = 0 → s.mayEmit e.val = false →
        ∃ t : State, exec (.shotFire e o) s = .next t ∧ t.isl = s.isl ∧ t.dev.brn.fired = d.brn.fired
          ∧ t.dev.brn.gate = d.brn.gate ∧ t.dev.brn.last = d.brn.last ∧ moved t.dev.brn ∧ t.dev.regs = d.regs)
    ∧ (s.mayEmit e.val = false → 0 < o.pulses →
        tabGet 0 s.isl.count e.val + o.pulses ≤ spbPulse s.isl.spb e.val →
        tabGet 0 s.isl.gate e.val + o.gate ≤ spbGate s.isl.spb e.val + 2 * (tabGet 0 s.isl.count e.val + o.pulses) →
        o.lq ≤ spbCharge s.isl.spb e.val + 64 →
        ∃ t : State, exec (.shotFire e o) s = .next t ∧ t.dev.brn.fired = d.brn.fired ∧ moved t.dev.brn
          ∧ tabGet 0 t.dev.brn.last e.val
              = (if d.drives = false ∧ second = false then d.fireDt e.val k + 1 else tabGet 0 d.brn.last e.val)
          ∧ t.isl = { s.isl with count := tabPut 0 s.isl.count e.val (tabGet 0 s.isl.count e.val + o.pulses),
                                 gate := tabPut 0 s.isl.gate e.val (tabGet 0 s.isl.gate e.val + o.gate) })

/-- 02 R65; 12 R358; 10 R299: a write of a limit register. In a password session a value within the safety parameter and,
while the energy-limited profile is enabled, within its cap waits for the tick; a higher one is ignored with
BRN_LIMIT_REJECT; without a session it is ignored with SAF_RWP_DENIED; another offset is no limit. -/
def Obligations.LimitWritesNeedASession : Prop :=
  ∀ (s : State) (e : Fin 16) (val : Word) (off : Nat), s.alive = true → s.dev.on domCORE = true →
    (s.isl.rwpOk = true → fld val 11 0 ≤ spbCharge s.isl.spb e.val →
        (s.dev.elOn = true → fld val 11 0 ≤ s.dev.f (Reg.HKP_EL_CHARGE e.val) 11 0) →
        exec (.brnLimitWrite (Reg.BRN_LIM_CHARGE e.val) val) s = .next { s with dev := { s.dev with glb := { s.dev.glb with
          staged := s.dev.glb.staged ++ [(Reg.BRN_LIM_CHARGE e.val, word (fld val 11 0))] } } })
    ∧ (s.isl.rwpOk = true → fld val 12 0 ≤ spbPulse s.isl.spb e.val →
        (s.dev.elOn = true → fld val 12 0 ≤ s.dev.f (Reg.HKP_EL_PULSE e.val) 12 0) →
        exec (.brnLimitWrite (Reg.BRN_LIM_PULSE e.val) val) s = .next { s with dev := { s.dev with glb := { s.dev.glb with
          staged := s.dev.glb.staged ++ [(Reg.BRN_LIM_PULSE e.val, word (fld val 12 0))] } } })
    ∧ (s.isl.rwpOk = true → fld val 23 0 ≤ spbGate s.isl.spb e.val →
        (s.dev.elOn = true → fld val 23 0 ≤ s.dev.f (Reg.HKP_EL_GATE e.val) 23 0) →
        exec (.brnLimitWrite (Reg.BRN_LIM_GATE e.val) val) s = .next { s with dev := { s.dev with glb := { s.dev.glb with
          staged := s.dev.glb.staged ++ [(Reg.BRN_LIM_GATE e.val, word (fld val 23 0))] } } })
    ∧ (s.isl.rwpOk = true → spbPulse s.isl.spb e.val < fld val 12 0 →
        ∃ d : Dev, exec (.brnLimitWrite (Reg.BRN_LIM_PULSE e.val) val) s = .next { s with dev := d }
          ∧ s.dev.Noted Ev.BRN_LIMIT_REJECT d)
    ∧ (s.isl.rwpOk = false → ∃ d : Dev, exec (.brnLimitWrite (Reg.BRN_LIM_PULSE e.val) val) s = .next { s with dev := d }
          ∧ s.dev.Noted Ev.SAF_RWP_DENIED d)
    ∧ (isBrnLimit off = false → exec (.brnLimitWrite off val) s = .next s)

/-- 03 R90, R97: commands of an axis wait for its next servo sample and change nothing before. At that sample ENGAGE sets
CMD_IGN without a table, without a passed profile check or with a latched fault; else it turns the excitation of a disabled
axis on and enters ENGAGING, and takes a parked axis to RUN. PARK takes an axis from RUN toward PARK_POS. DISABLE from any
state and CLEAR from OPEN_PARK ramp the drive to 0; with the drive at 0 the excitation is off, the axis is disabled and its
latched faults are clear. That the axis stands in OPEN_PARK during the ramp, and that a command which does not leave a
state changes nothing, are the model's choices (log 108, 109). -/
def Obligations.AxisCommandsMoveOneAxis : Prop :=
  ∀ (s : State) (a : Fin 8), s.alive = true → s.dev.on domSERVO = true →
    let x := s.dev.ax a
    let waits := fun (i : Instr) (c : AxCmd) => ∃ e : Dev, exec i s = .next { s with dev := e } ∧ s.dev.OnlyAxis a e
      ∧ e.ax a = { x with cmds := x.cmds ++ [c] }
    (waits (.engage a) .engage ∧ waits (.park a) .park ∧ waits (.disable a) .disable ∧ waits (.clear a) .clear)
    ∧ (∀ (n : Nat) (xs : List PfIn) (c : AxCmd), s.dev.on domCORE = true → s.dev.tim.started = true →
        s.dev.pwr.dtFrozen = false → s.dev.servoLeaving = false → a.val < xs.length →
        x.cmds = [c] → x.trip = none → x.ramp = false → x.tracked = 0 →
        ∃ e : Dev, exec (.servoSample n xs) s = .next { s with dev := e } ∧
          let y := e.ax a
          let stays := y.exOn = x.exOn ∧ (x.st ≠ .parking → y.st = x.st)
          let ready := x.tblOk = true ∧ x.profOk = true ∧ x.latched = false
          let off := (x.drive = 0 → y.st = .disabled ∧ y.exOn = false ∧ y.latched = false ∧ y.parkTimeout = false ∧ y.drive = 0)
            ∧ (x.drive ≠ 0 → y.st = .openPark ∧ y.exOn = x.exOn ∧ y.cmdIgn = false
                ∧ y.drive = slewTo x.drive 0 (s.dev.f (Reg.HCH_PARK_SLEW a) 14 0))
          y.cmds = []
          ∧ (c = .engage → ¬ ready → y.cmdIgn = true ∧ stays)
          ∧ (c = .engage → ready → x.st = .disabled → y.st = .engaging ∧ y.exOn = true ∧ y.drive = 0 ∧ y.cmdIgn = false)
          ∧ (c = .engage → ready → x.st = .parked → y.st = .run ∧ y.exOn = x.exOn ∧ y.cmdIgn = false)
          ∧ (c = .engage → ready → x.st ≠ .disabled → x.st ≠ .parked → y.cmdIgn = x.cmdIgn ∧ stays)
          ∧ (c = .park → x.st = .run → (y.st = .parking ∨ y.st = .parked) ∧ y.exOn = x.exOn ∧ y.cmdIgn = false)
          ∧ (c = .park → x.st ≠ .run → y.cmdIgn = x.cmdIgn ∧ stays)
          ∧ (c = .disable → off) ∧ (c = .clear → x.st = .openPark → off)
          ∧ (c = .clear → x.st ≠ .openPark → y.cmdIgn = x.cmdIgn ∧ stays))

/-- 03 R90: after 80 samples in ENGAGING an axis enters RUN with the setpoint at the measured position, at rest and with
an empty integrator, if its feedback checks pass, and OPEN_PARK otherwise; an axis that has not arrived after 800 samples
of PARKING enters OPEN_PARK. Before that neither changes anything. What counts as passing checks is the model's choice
(log 109).
03 R91, R92: a feedback loss latches FB_LOSS and makes the next sample enter OPEN_PARK, a freeze latches FREEZE and a
tracking error TRACK_ERR and both make it enter PARKING; each notes its event for the axis, and nothing else changes. At
the next sample the axis is there. -/
def Obligations.AxesMoveOnByTimeAndByFault : Prop :=
  (∀ (s : State) (a : Fin 8), s.alive = true → s.dev.on domSERVO = true → s.dev.servoLeaving = false →
      let x := s.dev.ax a
      (x.st = .engaging → 80 ≤ x.samples → x.fbRun = 0 → x.fbLoss = false →
        ∃ e : Dev, exec (.engageComplete a) s = .next { s with dev := e } ∧ s.dev.OnlyAxis a e ∧ (e.ax a).st = .run
          ∧ (e.ax a).r = x.y * 65536 ∧ (e.ax a).v = 0 ∧ (e.ax a).a = 0 ∧ (e.ax a).sigma = 0 ∧ (e.ax a).exOn = x.exOn)
      ∧ (x.st = .engaging → 80 ≤ x.samples → (x.fbRun ≠ 0 ∨ x.fbLoss = true) →
        ∃ e : Dev, exec (.engageComplete a) s = .next { s with dev := e } ∧ s.dev.OnlyAxis a e ∧ (e.ax a).st = .openPark
          ∧ (e.ax a).exOn = x.exOn ∧ (e.ax a).drive = x.drive)
      ∧ (x.st ≠ .engaging ∨ x.samples < 80 → exec (.engageComplete a) s = .next s)
      ∧ (x.st = .parking → 800 ≤ x.samples →
        ∃ e : Dev, exec (.parkTimeout a) s = .next { s with dev := e } ∧ s.dev.OnlyAxis a e ∧ (e.ax a).st = .openPark
          ∧ (e.ax a).parkTimeout = true ∧ (e.ax a).drive = x.drive)
      ∧ (x.st ≠ .parking ∨ x.samples < 800 → exec (.parkTimeout a) s = .next s))
  ∧ (∀ (s : State) (a : Fin 8), s.alive = true → s.dev.on domSERVO = true → s.dev.on domCORE = true →
      let x := s.dev.ax a
      let d := s.dev
      let park := if x.trip = some .toOpen then x.trip else some .toPark
      (x.exOn = true → 0 < x.fbRun → d.f (Reg.HCH_FB_CHK a) 7 0 ≤ x.fbRun →
        ∃ m e : Dev, exec (.hchFbLoss a) s = .next { s with dev := e } ∧ d.OnlyAxis a m ∧ m.Noted (480 + a) e
          ∧ m.ax a = { x with fbLoss := true, fbRun := 0, trip := some .toOpen })
      ∧ (x.st = .run → 0 < d.f (Reg.HCH_FRZ_CTL a) 23 16 → d.f (Reg.HCH_FRZ_CTL a) 23 16 ≤ x.frzRun →
        ∃ m e : Dev, exec (.hchFreeze a) s = .next { s with dev := e } ∧ d.OnlyAxis a m ∧ m.Noted (488 + a) e
          ∧ m.ax a = { x with freeze := true, frzRun := 0, trip := park })
      ∧ (x.st = .run → 0 < x.errRun → d.f (Reg.HCH_ERR_CTL a) 23 16 ≤ x.errRun →
        ∃ m e : Dev, exec (.hchTrackErr a) s = .next { s with dev := e } ∧ d.OnlyAxis a m ∧ m.Noted (496 + a) e
          ∧ m.ax a = { x with trackErr := true, errRun := 0, trip := park })
      ∧ (x.exOn = false → exec (.hchFbLoss a) s = .next s)
      ∧ (x.st ≠ .run → exec (.hchFreeze a) s = .next s ∧ exec (.hchTrackErr a) s = .next s)
      ∧ (∀ (n : Nat) (xs : List PfIn), d.tim.started = true → d.pwr.dtFrozen = false → d.servoLeaving = false →
          a.val < xs.length → x.cmds = [] → x.ramp = false →
          ∃ e : Dev, exec (.servoSample n xs) s = .next { s with dev := e } ∧ (e.ax a).trip = none
            ∧ (x.trip = some .toOpen → x.exOn = true → (e.ax a).st = .openPark ∧ (e.ax a).exOn = true)
            ∧ (x.trip = some .toPark → x.st = .run → (e.ax a).st = .parking ∨ (e.ax a).st = .parked)))

/-- 03 R80, R95: when its swap is due the shadow table of an axis comes into force, the shadow bank empties and
HCH_TABLE_SWAP is noted; without a table due nothing changes. A standby takes the drive word of the active unit into the
last biquad's output history and tracks it. -/
def Obligations.ServoTableSwapAndTrackedDrive : Prop :=
  ∀ (s : State) (a : Fin 8), s.alive = true → s.dev.on domCORE = true →
    let x := s.dev.ax a
    (s.dev.on domSERVO = true → x.swapDue = true → ∀ bs, x.shadow = some bs →
      ∃ m e : Dev, exec (.hchTableSwap a) s = .next { s with dev := e } ∧ m.Noted Ev.HCH_TABLE_SWAP e
        ∧ (m.ax a).shadow = none ∧ (m.ax a).swapDue = false ∧ (m.ax a).tblOk = true ∧ (m.ax a).st = x.st
        ∧ (∀ b, b ≠ a.val → m.ax b = s.dev.ax b)
        ∧ m.rd (Reg.HCH_I_LIM a) = word (leAt bs 324 4)
        ∧ m = { s.dev with regs := m.regs, hch := { s.dev.hch with axes := m.hch.axes } }
        ∧ ∀ o, (o < 0x201000 + 4096 * a.val ∨ 0x202000 + 4096 * a.val ≤ o) → m.rd o = s.dev.rd o)
    ∧ (s.dev.on domSERVO = true → (x.swapDue = false ∨ x.shadow = none) → exec (.hchTableSwap a) s = .next s)
    ∧ (∀ (w c : Int) (run : Bool), s.dev.isStandby = true → s.dev.mdv.xlink = true →
      ∃ e : Dev, exec (.crosslinkDriveWord a w c run) s = .next { s with dev := e } ∧ (e.ax a).activeDrive = w
        ∧ (e.ax a).standby = true ∧ (e.ax a).st = x.st ∧ (e.ax a).drive = x.drive
        ∧ (3 ≤ x.biq.length → ((e.ax a).biq.getD 2 {}).y1 = w)
        ∧ (∀ b, b ≠ a.val → e.ax b = s.dev.ax b) ∧ e.regs = s.dev.regs ∧ e.evt = s.dev.evt)
    ∧ (∀ (w c : Int) (run : Bool), s.dev.isStandby = false → exec (.crosslinkDriveWord a w c run) s = .next s)

/-- 03 R73, R75, R90, R96: a servo sample. It numbers the sample, brings device time to its instant, refreshes the claim watchdog
and processes the axes of its readings: the drive of the sample before takes effect; without a command or a detection that
waits, a disabled axis keeps its drive at 0, an axis in OPEN_PARK goes toward its park drive, or to 0 on its way to DISABLED,
by at most PARK_SLEW, the drive of an axis under control stays within DRV_LIM, and an axis that has just taken over applies
the tracked word. Nothing outside the servo, its registers, device time, the watchdog and the event records changes. -/
def Obligations.ServoSamplesDriveEveryAxis : Prop :=
  ∀ (s : State) (n : Nat) (xs : List PfIn), s.alive = true → s.dev.on domSERVO = true → s.dev.on domCORE = true →
    s.dev.tim.started = true → s.dev.pwr.dtFrozen = false → s.dev.servoLeaving = false →
    let d := s.dev
    ∃ e : Dev, exec (.servoSample n xs) s = .next { s with dev := e } ∧ e.hch.sample = n
      ∧ e.mdv = { d.mdv with wdog := false } ∧ e.tim = (d.at (n * 2560000)).tim
      ∧ e = { d with regs := e.regs, tim := e.tim, hch := e.hch, mdv := e.mdv, evt := e.evt }
      ∧ ∀ (a : Fin 8) (p : PfIn), xs[a.val]? = some p →
        let x := d.ax a
        let slew := d.f (Reg.HCH_PARK_SLEW a) 14 0
        e.rd (Reg.HCH_DRIVE a) = wordI x.drive ∧ e.rd (Reg.HCH_EX_READ a) = word p.exRead
        ∧ (x.cmds = [] → x.trip = none →
            (0 < x.tracked → x.st ≠ .disabled → (x.ramp = true → x.drive ≠ 0) →
                (e.ax a).drive = x.activeDrive ∧ (e.ax a).tracked = x.tracked - 1 ∧ (e.ax a).fbRun = x.fbRun)
            ∧ (x.tracked = 0 → x.st = .disabled → x.ramp = false → (e.ax a).st = .disabled ∧ (e.ax a).drive = 0)
            ∧ (x.tracked = 0 → x.st = .openPark → x.ramp = false → (e.ax a).st = .openPark
                ∧ (e.ax a).drive = slewTo x.drive (sfld (d.rd (Reg.HCH_PARK a)) 31 16) slew)
            ∧ (x.tracked = 0 → x.st = .openPark → x.ramp = true → x.drive ≠ 0 → (e.ax a).st = .openPark
                ∧ (e.ax a).drive = slewTo x.drive 0 slew)
            ∧ (x.tracked = 0 → x.ramp = true → x.drive = 0 → (e.ax a).st = .disabled ∧ (e.ax a).exOn = false ∧ (e.ax a).drive = 0)
            ∧ (x.tracked = 0 → x.ramp = false → (x.st = .run ∨ x.st = .parking ∨ x.st = .parked) →
                (e.ax a).drive.natAbs ≤ d.f (Reg.HCH_DRV_LIM a) 14 0))

/-- 04 R105, R106: GAIN_SET. The range waits for the channel's next shot boundary, for one channel or for the 16 channels of
its bank; in a frame without listen windows every instant is a boundary and the range applies at once. No other channel and
no register changes. -/
def Obligations.GainWaitsForTheShotBoundary : Prop :=
  ∀ (s : State) (c : Fin 512) (r : Fin 4), s.alive = true → s.dev.on domACQ = true →
    let d := s.dev
    (d.noWin (bankOf c.val) = false →
      (∃ e : Dev, exec (.gainSet c r false) s = .next { s with dev := e }
        ∧ e = { d with afe := { d.afe with chans := e.afe.chans } }
        ∧ e.chan c.val = { d.chan c.val with cmd := some r.val } ∧ ∀ k, k ≠ c.val → e.chan k = d.chan k)
      ∧ (∃ e : Dev, exec (.gainSet c r true) s = .next { s with dev := e }
        ∧ e = { d with afe := { d.afe with chans := e.afe.chans } }
        ∧ (∀ k, bankOf k = bankOf c.val → e.chan k = { d.chan k with cmd := some r.val })
        ∧ ∀ k, bankOf k ≠ bankOf c.val → e.chan k = d.chan k))
    ∧ (d.noWin (bankOf c.val) = true →
      ∃ e : Dev, exec (.gainSet c r false) s = .next { s with dev := e } ∧ (e.chan c.val).gain = r.val
        ∧ (e.chan c.val).cmd = none ∧ (∀ k, k ≠ c.val → e.chan k = d.chan k) ∧ e.regs = d.regs ∧ e.evt = d.evt)

/-- 04 R101, R104, R105; 06 R156, R158: the listen window of a bank's oldest shot reference opens. Device time comes to the
opening, the window holds its emitter, shot and ends, the shot counts for its code sub-group; the shot of a window that opens
before a mode change has settled is not counted. No other bank and no register changes. Without a reference nothing happens.
04 R105, R115: when a bank's listen window closes no event of its channels runs on and the window is gone. With no window
open, the command is the shot boundary of the oldest shot that did not fire, at the instant at which its window would have
closed; without such a shot nothing happens. No other bank's window changes. -/
def Obligations.ListenWindowsOpenAndClose : Prop :=
  (∀ (s : State) (b : Fin 32), s.alive = true → s.dev.on domACQ = true →
      let d := s.dev
      let x := d.bank b.val
      (∀ k fire rest em, x.refs = (k, fire) :: rest → x.win = none → d.bankEmitter b.val = some em →
        let opened := fire + 8 * d.winOfs (b.val / 8)
        ∃ e : Dev, exec (.listenWindowOpen b) s = .next { s with dev := e } ∧ e.tim = (d.at opened).tim
          ∧ (e.bank b.val).refs = rest
          ∧ (e.bank b.val).win = some { e := em, k := k, fire := fire, opened := opened,
                                        close := fire + 8 * (d.pairExtent em + d.listenEnd (b.val / 8)),
                                        counted := decide (x.settle ≤ opened) }
          ∧ (e.stpBank b.val).g0 = (d.stpBank b.val).g0 + b2n (decide (x.settle ≤ opened) && decide (k % 4 = 0))
          ∧ (e.stpBank b.val).g1 = (d.stpBank b.val).g1 + b2n (decide (x.settle ≤ opened) && decide (k % 4 = 1))
          ∧ (e.stpBank b.val).g2 = (d.stpBank b.val).g2 + b2n (decide (x.settle ≤ opened) && decide (k % 4 = 2))
          ∧ (e.stpBank b.val).g3 = (d.stpBank b.val).g3 + b2n (decide (x.settle ≤ opened) && decide (k % 4 = 3))
          ∧ (∀ j, j ≠ b.val → e.bank j = d.bank j ∧ e.stpBank j = d.stpBank j) ∧ e.regs = d.regs ∧ e.evt = d.evt)
      ∧ (x.refs = [] → exec (.listenWindowOpen b) s = .next s))
  ∧ (∀ (s : State) (b : Fin 32) (clip seen : List Nat), s.alive = true → s.dev.on domACQ = true →
      (∀ w, (s.dev.bank b.val).win = some w →
        ∃ e : Dev, exec (.listenWindowClose b clip seen) s = .next { s with dev := e } ∧ (e.bank b.val).win = none
          ∧ (∀ c, bankOf c = b.val → (e.chan c).ev = none) ∧ (∀ j, j ≠ b.val → (e.bank j).win = (s.dev.bank j).win)
          ∧ e.brn = s.dev.brn ∧ e.pwr.domains = s.dev.pwr.domains ∧ e.glb = s.dev.glb)
      ∧ (∀ fire rest em, (s.dev.bank b.val).win = none → (s.dev.bank b.val).missed = fire :: rest →
          s.dev.bankEmitter b.val = some em →
        ∃ e : Dev, exec (.listenWindowClose b clip seen) s = .next { s with dev := e }
          ∧ e.tim = (s.dev.at (fire + 8 * (s.dev.pairExtent em + s.dev.listenEnd (b.val / 8)))).tim
          ∧ (e.bank b.val).missed = rest ∧ (e.bank b.val).win = none ∧ (∀ j, j ≠ b.val → e.bank j = s.dev.bank j)
          ∧ e.brn = s.dev.brn ∧ e.pwr = s.dev.pwr ∧ e.glb = s.dev.glb)
      ∧ ((s.dev.bank b.val).win = none → (s.dev.bank b.val).missed = [] → exec (.listenWindowClose b clip seen) s = .next s))

/-- 04 R114, R115: comparator edges. A low turn-on inside the open window of an enabled channel begins an event, unless the
dead time since the last one has not passed (nothing begins) or four have begun in the window (the bank's overflow counts);
the first high turn-on gives the event its high time; the low turn-off and the 16 ns limit end the event; after a lock loss
(05 R132) the turn-off ends it without a hit. A turn-on of a
comparator that is already on, and an end of no event, change nothing. -/
def Obligations.ComparatorEdgesMakeEvents : Prop :=
  ∀ (s : State) (c : Fin 512) (x : Edge) (clip : Bool), s.alive = true → s.dev.on domACQ = true → s.dev.on domCORE = true →
    let d := s.dev
    let ch := d.chan c.val
    let bk := d.bank (bankOf c.val)
    (∀ w, ch.low = false → bk.win = some w →
      let t := d.edgeTime (Reg.TIM_TBL c.val 0) x
      d.chEn c.val = true → d.borrowed c.val = false → d.tim.lock = true → w.counted = true → w.opened ≤ t → t ≤ w.close →
      d.prf.settle.testBit c.val = false →
      (ch.evCount < 4 → (ch.lastEnd = 0 ∨ ch.lastEnd - 1 + d.deadTime (bankOf c.val) ≤ t) →
        ∃ e : Dev, exec (.lowComparatorTurnOn c x) s = .next { s with dev := e } ∧ e = (d.at t).setChan c.val
          { ch with low := true, ev := some { on := t, hi := none, clip := false }, evCount := ch.evCount + 1 })
      ∧ (4 ≤ ch.evCount → (ch.lastEnd = 0 ∨ ch.lastEnd - 1 + d.deadTime (bankOf c.val) ≤ t) →
        ∃ e : Dev, exec (.lowComparatorTurnOn c x) s = .next { s with dev := e } ∧ e.chan c.val = { ch with low := true }
          ∧ (e.bank (bankOf c.val)).ovf = bk.ovf + 1)
      ∧ (ch.lastEnd ≠ 0 → t < ch.lastEnd - 1 + d.deadTime (bankOf c.val) →
        exec (.lowComparatorTurnOn c x) s = .next { s with dev := (d.at t).setChan c.val { ch with low := true } }))
    ∧ (ch.low = true → exec (.lowComparatorTurnOn c x) s = .next s)
    ∧ (∀ ev, ch.ev = some ev → ev.hi = none → d.tim.lock = true →
        let t := d.edgeTime (Reg.TIM_TBL c.val 2) x
        exec (.highComparatorTurnOn c x) s = .next { s with dev := (d.at t).setChan c.val { ch with ev := some { ev with hi := some t } } })
    ∧ (ch.ev = none → exec (.highComparatorTurnOn c x) s = .next s)
    ∧ (ch.low = true → d.tim.lock = false → ∃ e : Dev, exec (.lowComparatorTurnOff c x clip) s = .next { s with dev := e }
          ∧ e = d.setChan c.val { ch with low := false, ev := none })
    ∧ (∀ ev w, ch.low = true → ch.ev = some ev → bk.win = some w → d.tim.lock = true →
        let t := d.edgeTime (Reg.TIM_TBL c.val 1) x
        ∃ e : Dev, exec (.lowComparatorTurnOff c x clip) s = .next { s with dev := e }
          ∧ e.chan c.val = { ch with low := false, ev := none, lastEnd := min t (ev.on + 16 * 1024) + 1 }
          ∧ (∀ k, k ≠ c.val → e.chan k = d.chan k) ∧ e.regs = d.regs)
    ∧ (ch.low = false → exec (.lowComparatorTurnOff c x clip) s = .next s)
    ∧ (∀ ev w, ch.ev = some ev → bk.win = some w →
        ∃ e : Dev, exec (.eventTimeLimit c) s = .next { s with dev := e }
          ∧ e.chan c.val = { ch with ev := none, lastEnd := ev.on + 16 * 1024 + 1 }
          ∧ (∀ k, k ≠ c.val → e.chan k = d.chan k) ∧ e.regs = d.regs)
    ∧ (ch.ev = none → exec (.eventTimeLimit c) s = .next s)

/-- 05 R129; 01 R21, R22: the first PLL lock after a reset starts device time at 0 and begins frame 0 on the internal source;
no reference is noted while there is neither a lock nor device time.
05 R130, R131, R132: the reference. A loss is counted; with HOLD_EN it is holdover and noted, and its end notes the
restoration; without HOLD_EN, and when the PLL loses lock, the lock is lost, noted, no event in a channel runs on, and the
safety island takes the fault CLOCK. Without a lock neither does anything. -/
def Obligations.LocksAndReferences : Prop :=
  (∀ (s : State), s.alive = true → s.dev.tim.lock = false →
      (s.dev.tim.noRef = false → s.dev.tim.lockLost = false → s.dev.pwr.shutHold = false → s.dev.tim.started = false →
        s.dev.on domCORE = true →
        ∃ e : Dev, exec .pllLock s = .next { s with dev := e } ∧ e.tim.lock = true ∧ e.tim.started = true ∧ e.tim.refOk = true
          ∧ e.tim.dt = 0 ∧ e.glb.run = true ∧ e.glb.frameNum = 0 ∧ e.glb.tickDt = 0 ∧ e.glb.start = 0 ∧ e.glb.src = .internal
          ∧ e.pwr = s.dev.pwr ∧ e.hch = s.dev.hch ∧ e.wave = s.dev.wave)
      ∧ (s.dev.tim.started = false → exec .pllNoReference s = .next { s with dev := { s.dev with tim := { s.dev.tim with noRef := true } } })
      ∧ (s.dev.tim.started = true → exec .pllNoReference s = .next s))
  ∧ (∀ (s : State), s.alive = true → s.dev.on domCORE = true →
      (s.dev.tim.lock = true → s.dev.tim.refOk = true → s.dev.b Reg.TIM_REF_CTL 0 = true →
        ∃ m e : Dev, exec .timRefLoss s = .next { s with dev := e } ∧ m.Noted Ev.TIM_REF_LOSS e
          ∧ m.tim = { s.dev.tim with refOk := false, holdover := true }
          ∧ m = { s.dev with tim := m.tim, regs := m.regs }
          ∧ m.rd Reg.TIM_REF_LOSS_CNT = satInc (s.dev.rd Reg.TIM_REF_LOSS_CNT)
          ∧ ∀ o, o ≠ Reg.TIM_REF_LOSS_CNT → m.rd o = s.dev.rd o)
      ∧ (s.dev.tim.lock = true → s.dev.tim.refOk = true → s.dev.b Reg.TIM_REF_CTL 0 = false →
        ∃ m e : Dev, exec .timRefLoss s = .next (State.fault 0x0C 0 { s with dev := e }) ∧ m.Noted Ev.TIM_PLL_UNLOCK e
          ∧ m.tim = { s.dev.tim with refOk := false, lock := false, lockLost := true, holdover := false }
          ∧ (∀ c, (m.chan c).ev = none)
          ∧ m.rd Reg.TIM_REF_LOSS_CNT = satInc (s.dev.rd Reg.TIM_REF_LOSS_CNT))
      ∧ (s.dev.tim.lock = true →
        ∃ m e : Dev, exec .timPllUnlock s = .next (State.fault 0x0C 0 { s with dev := e }) ∧ m.Noted Ev.TIM_PLL_UNLOCK e
          ∧ m = { s.dev with afe := m.afe, tim := { s.dev.tim with lock := false, lockLost := true, holdover := false } }
          ∧ (∀ c, m.chan c = { s.dev.chan c with ev := none }))
      ∧ (s.dev.tim.refOk = false → s.dev.tim.holdover = true →
        ∃ m e : Dev, exec .timRefRestored s = .next { s with dev := e } ∧ m.Noted Ev.TIM_REF_RESTORED e
          ∧ m = { s.dev with tim := { s.dev.tim with holdover := false, refOk := true } })
      ∧ (s.dev.tim.lock = false → exec .timRefLoss s = .next s ∧ exec .timPllUnlock s = .next s)
      ∧ (s.dev.tim.refOk = false → s.dev.tim.holdover = false →
        exec .timRefRestored s = .next { s with dev := { s.dev with tim := { s.dev.tim with refOk := true } } })
      ∧ (s.dev.tim.refOk = true → exec .timRefRestored s = .next s))

/-- 05 R142, R144, R145, R146: an edge at a TI input. Within the hold-off of the last accepted edge it is only counted; an
accepted edge is kept as the input's last, and at an armed interval unit whose start it is opens the unit's window from the
edge's corrected time. A measurement in progress and a unit that is off take nothing from an edge within the hold-off. -/
def Obligations.TimingInputEdgesDriveIntervalUnits : Prop :=
  ∀ (s : State) (i : Fin 8) (rising : Bool) (x : Edge), s.alive = true → s.dev.sec.bscan = false → s.dev.on domACQ = true →
    let d := s.dev
    let t := d.edgeTime (tiTable i.val rising) x
    let last := tabGet 0 d.tim.lastEdge i.val
    let hold := max 1 (d.f (Reg.TIM_TI_IN i.val) 19 12) * 4 * 1024
    let t' := ((t : Int) - sfld (d.rd (Reg.TIM_TI_OFS i.val)) 15 0).toNat
    d.b (Reg.TIM_TI_IN i.val) 20 = true → d.tim.lock = true →
    (last ≠ 0 → t < last - 1 + hold →
      ∃ e : Dev, exec (.tiEdge i rising x) s = .next { s with dev := e }
        ∧ e.rd (Reg.TIM_TI_HOLD_CNT i.val) = satInc (d.rd (Reg.TIM_TI_HOLD_CNT i.val))
        ∧ (∀ o, o ≠ Reg.TIM_TI_HOLD_CNT i.val → e.rd o = d.rd o) ∧ (∀ u, (d.iu u).st ≠ .idle → e.iu u = d.iu u)
        ∧ e.tim.lastEdge = d.tim.lastEdge)
    ∧ ((last = 0 ∨ last - 1 + hold ≤ t) →
      ∃ e : Dev, exec (.tiEdge i rising x) s = .next { s with dev := e } ∧ tabGet 0 e.tim.lastEdge i.val = t + 1
        ∧ (∀ u : Fin 4, ∀ t0, d.iuOn u.val = true → (d.iu u.val).st = .armed t0 → t0 ≤ t' →
            d.f (Reg.TIM_IU_CTL u.val) 6 4 = i.val → d.b (Reg.TIM_IU_CTL u.val) 7 ≠ rising →
            d.f (Reg.TIM_IU_CTL u.val) 14 12 ≠ i.val →
            (e.iu u.val).st = .one true t' (t' + iuLen (d.f (Reg.TIM_IU_WIN u.val) 29 0))
            ∧ (e.iu u.val).fifo = (d.iu u.val).fifo)
        ∧ (∀ u : Fin 4, d.iuOn u.val = false → e.iu u.val = d.iu u.val))

/-- 05 R144, R145, R147, R149: an idle interval unit arms in FREE mode at its instant, 16 ns after the end of its last
measurement, a frequency unit by opening its gate; a window that expires, and a gate of IU_GLEN that ends, form a result at the end of the unit's store while it holds fewer than 64, with
the next sequence number; a unit that does not wait for them is left alone. A read of the last word of a record by the host
removes it. -/
def Obligations.IntervalUnitsFormResults : Prop :=
  ∀ (s : State) (u : Fin 4) (t : Time), s.alive = true → s.dev.on domACQ = true → s.dev.on domCORE = true →
    let d := s.dev
    let x := d.iu u.val
    (d.iuOn u.val = true → x.st = .idle → d.iuGmode u.val = 0 → x.ready ≤ t →
      ∃ e : Dev, exec (.iuArm u t) s = .next { s with dev := e }
        ∧ e = (d.at x.ready).setIu u.val
            { x with st := if d.iuMode u.val = 2 then .count x.ready 0 0 0 else .armed x.ready })
    ∧ (t < x.ready → exec (.iuArm u t) s = .next s)
    ∧ (x.st ≠ .idle → exec (.iuArm u t) s = .next s)
    ∧ (∀ first t1 stop, x.st = .one first t1 stop → x.fifo.length < 64 →
      ∃ e : Dev, exec (.iuWindowExpiry u) s = .next { s with dev := e } ∧ (e.iu u.val).st = .idle
        ∧ (∃ r, (e.iu u.val).fifo = x.fifo ++ [r] ∧ r.length = 32 ∧ leAt r 0 8 = t1 % 2 ^ 64 ∧ leAt r 8 8 = 0)
        ∧ (e.iu u.val).ready = stop + 16 * ns
        ∧ (e.iu u.val).seq = (x.seq + 1) % 2 ^ 32 ∧ (∀ v, v ≠ u.val → e.iu v = d.iu v) ∧ e.regs = d.regs)
    ∧ (∀ since n f l, x.st = .count since n f l → x.fifo.length < 64 → d.iuGmode u.val ≠ 2 →
      ∃ e : Dev, exec (.iuGateEnd u) s = .next { s with dev := e }
        ∧ (d.iuGmode u.val ≠ 0 → (e.iu u.val).st = .idle)
        ∧ (∃ r, (e.iu u.val).fifo = x.fifo ++ [r] ∧ leAt r 0 8 = f % 2 ^ 64 ∧ leAt r 16 4 = min n 0xFFFFFFFF)
        ∧ (e.iu u.val).seq = (x.seq + 1) % 2 ^ 32 ∧ (∀ v, v ≠ u.val → e.iu v = d.iu v) ∧ e.regs = d.regs)
    ∧ (x.st = .idle → exec (.iuWindowExpiry u) s = .next s ∧ exec (.iuGateEnd u) s = .next s)
    ∧ (∀ tag r l, s.answers → x.fifo = r :: l →
      ∃ e : Dev, exec (.iuResRead u .host tag) s = .next { s with dev := e } ∧ (e.iu u.val).fifo = l
        ∧ (e.iu u.val).st = x.st ∧ (e.iu u.val).seq = x.seq ∧ ∀ v, v ≠ u.val → e.iu v = d.iu v)

/-- 06 R156, R158: a hit inside the span and beyond the near-field gate adds one to its coarse bin, up to 65,535, with its code
sub-group, clip mark and amplitude; one outside counts nowhere. No other coarse bin of the channel and no other channel
changes.
06 R161: ZOOM_SPLIT of an emitter that plans at least 8 shots, once its split shot is past, sets the split instant of every
bank it lights that has none in the frame; banks of other emitters and banks already split keep theirs. Before that, and
with fewer shots, nothing happens. -/
def Obligations.HitsCountAndZoomSplits : Prop :=
  (∀ (d : Dev) (c g : Nat) (fine : Bool) (x : Hit),
      let u := x.tau - 8 * (d.winOfs (headOf c) : Int)
      let e := d.countHit c g fine x
      ((u < 8 * (d.nearGate (headOf c) : Int) ∨ 32768 ≤ u) → e = d)
      ∧ (8 * (d.nearGate (headOf c) : Int) ≤ u → u < 32768 →
        (tabGet {} (e.stp1 c).coarse (u.toNat / 64)).n = min 65535 ((tabGet {} (d.stp1 c).coarse (u.toNat / 64)).n + 1)
        ∧ (tabGet {} (e.stp1 c).coarse (u.toNat / 64)).clip = (tabGet {} (d.stp1 c).coarse (u.toNat / 64)).clip + b2n x.clip
        ∧ (tabGet {} (e.stp1 c).coarse (u.toNat / 64)).amp = (tabGet {} (d.stp1 c).coarse (u.toNat / 64)).amp + x.amp
        ∧ (∀ k, k ≠ u.toNat / 64 → tabGet {} (e.stp1 c).coarse k = tabGet {} (d.stp1 c).coarse k)
        ∧ (∀ k, k ≠ c → e.stp1 k = d.stp1 k) ∧ e.regs = d.regs))
  ∧ (∀ (s : State) (em : Fin 16), s.alive = true → s.dev.on domACQ = true →
      let d := s.dev
      (8 ≤ d.planned em.val → d.splitIndex em.val ≤ tabGet 0 d.brn.next em.val →
        ∃ e : Dev, exec (.zoomSplit em) s = .next { s with dev := e }
          ∧ (∀ b : Fin 32, d.bankEmitter b.val = some em.val → (d.stpBank b.val).split = 0 →
              e.stpBank b.val = { d.stpBank b.val with split := d.splitInstant b.val em.val + 1 })
          ∧ (∀ b : Fin 32, (d.bankEmitter b.val ≠ some em.val ∨ (d.stpBank b.val).split ≠ 0) → e.stpBank b.val = d.stpBank b.val)
          ∧ e.regs = d.regs ∧ e.evt = d.evt)
      ∧ ((d.planned em.val < 8 ∨ tabGet 0 d.brn.next em.val < d.splitIndex em.val) → exec (.zoomSplit em) s = .next s))

/-- 07 R201, R202, R208, R225; 01 R16: a trigger event at an edge of the trigger pin and of the slope that the segment's settings
select, timed to one fine bin. Before the end of the holdoff, or while holdoff triggers are left, it is only counted in
HOLD_IGN; a plate armed at the event accepts it and captures; a plate that is capturing, rearming or in setup counts it in
MISSED. At the very sample of a forced trigger it takes that trigger's place, and FORCED_CNT counts the forced one no more. An
edge of the other slope, of another pin, or at a plate that does not acquire does nothing. -/
def Obligations.TriggersAreTakenHeldOrMissed : Prop :=
  ∀ (s : State) (p : Fin 8) (pin : TrigPin) (t : Time), s.alive = true → s.dev.sec.bscan = false → s.dev.on domWAVE = true →
    let d := s.dev
    let x := d.plt p
    let c := x.cfg.trg
    let ts := d.ts p
    let u := (((t / 8 * 8 : Nat) : Int) - x.cfg.extOfs).toNat
    ((pin = .in0 ∧ fld c 3 0 = 3) ∨ (pin = .in1 ∧ fld c 3 0 = 4)) → fld c 11 10 = 0 →
    exec (.triggerEvent p (.edge pin t false)) s = .next s
    ∧ exec (.triggerEvent p (.edge (if pin = .in0 then .in1 else .in0) t true)) s = .next s
    ∧ (x.acquiring = false → exec (.triggerEvent p (.edge pin t true)) s = .next s)
    ∧ (∀ g, x.acquiring = true → d.isStream p = false → x.seg = some g → g.forced = true → g.ref = u / ts * ts →
      ((u < g.heldEnd ∨ 0 < g.heldN) →
        exec (.triggerEvent p (.edge pin t true)) s = .next { s with dev := (d.at t).inc (Reg.PLT_HOLD_IGN p) })
      ∧ (g.heldEnd ≤ u → g.heldN = 0 → bit c 15 = false → d.rd (Reg.PLT_FORCED_CNT p) ≠ 0xFFFFFFFF →
        ∃ e : Dev, exec (.triggerEvent p (.edge pin t true)) s = .next { s with dev := e }
          ∧ (∃ g' : Seg, (e.plt p).seg = some g' ∧ g'.trig = u ∧ g'.ref = g.ref ∧ g'.forced = false)
          ∧ e.rd (Reg.PLT_FORCED_CNT p) = word ((d.rd (Reg.PLT_FORCED_CNT p)).toNat - 1)
          ∧ (∀ q, q ≠ p.val → e.plt q = d.plt q) ∧ e.evt = d.evt))
    ∧ (x.acquiring = true → d.isStream p = false → (∀ g, x.seg = some g → g.forced = true → g.ref ≠ u / ts * ts) →
      (u < x.holdEnd →
        exec (.triggerEvent p (.edge pin t true)) s = .next { s with dev := (d.at t).inc (Reg.PLT_HOLD_IGN p) })
      ∧ (x.holdEnd ≤ u → 0 < x.holdN →
        ∃ e : Dev, exec (.triggerEvent p (.edge pin t true)) s = .next { s with dev := e } ∧ e.plt p = { x with holdN := x.holdN - 1 }
          ∧ e.rd (Reg.PLT_HOLD_IGN p) = satInc (d.rd (Reg.PLT_HOLD_IGN p)) ∧ (∀ q, q ≠ p.val → e.plt q = d.plt q)
          ∧ (∀ o, o ≠ Reg.PLT_HOLD_IGN p → e.rd o = d.rd o) ∧ e.evt = d.evt)
      ∧ (x.holdEnd ≤ u → x.holdN = 0 → x.st = .armed → x.stAt u = .armed → bit c 15 = false →
        ∃ e : Dev, exec (.triggerEvent p (.edge pin t true)) s = .next { s with dev := e }
          ∧ (∃ g : Seg, (e.plt p).seg = some g ∧ g.trig = u ∧ g.ref = u / ts * ts ∧ g.frac = u % ts * 64 / ts ∧ g.forced = false
              ∧ g.short = false ∧ g.cut = none ∧ g.cfg = x.cfg)
          ∧ (e.plt p).st = .capturing ∧ (e.plt p).since = u ∧ (e.plt p).buf = x.buf
          ∧ (e.plt p).holdEnd = (if bit c 13 then 0 else u + x.cfg.holdoff * ns)
          ∧ (e.plt p).holdN = (if bit c 13 then x.cfg.holdoff else 0)
          ∧ e.rd (Reg.PLT_LAST_TRIG_LO p) = loW u ∧ e.rd (Reg.PLT_LAST_TRIG_HI p) = hiW u
          ∧ (∀ o, o ≠ Reg.PLT_LAST_TRIG_LO p → o ≠ Reg.PLT_LAST_TRIG_HI p → e.rd o = d.rd o)
          ∧ (∀ q, q ≠ p.val → e.plt q = d.plt q) ∧ e.evt = d.evt)
      ∧ (x.holdEnd ≤ u → x.holdN = 0 → (x.stAt u = .capturing ∨ x.stAt u = .rearm ∨ x.stAt u = .setup) →
        ∃ m : Dev, exec (.triggerEvent p (.edge pin t true)) s = .next { s with dev := m.raiseOnce (Ev.PLT_MISSED p) }
          ∧ m.plt p = { x with blind := true } ∧ m.rd (Reg.PLT_MISSED p) = satInc (d.rd (Reg.PLT_MISSED p))
          ∧ (∀ o, o ≠ Reg.PLT_MISSED p → m.rd o = d.rd o) ∧ (∀ q, q ≠ p.val → m.plt q = d.plt q) ∧ m.evt = d.evt))

/-- 07 R201, R202, R207, R211: the times of a plate. The end of holdoff by time passes; REARM and SETUP last 16 ns, and SETUP
also until the chain is filled and room is reserved; from SETUP a triggered segment fills, or is armed at once where its
pre-trigger span is not longer than POST_DLY, and the first segment of a stream begins at the next sample; FILLING ends when
the pre-trigger span less POST_DLY has gone by; an armed plate with AUTO set triggers itself at the sample of the timeout,
counted in FORCED_CNT; a stream segment for which there is no room is skipped with its number. Before its time each does
nothing. -/
def Obligations.PlateTimesMoveTheArming : Prop :=
  ∀ (s : State) (p : Fin 8) (t : Time), s.alive = true → s.dev.on domWAVE = true →
    let d := s.dev
    let x := d.plt p
    let out := x.since + x.cfg.autoTo * us
    (x.holdEnd ≤ t → exec (.holdoffEnd p t) s = .next { s with dev := d.at t })
    ∧ (t < x.holdEnd → exec (.holdoffEnd p t) s = .next s)
    ∧ (x.st = .rearm → x.since + 16 * ns ≤ t →
      ∃ e : Dev, exec (.rearmDone p t) s = .next { s with dev := e } ∧ (d.at t).OnlyPlate p e ∧ (e.plt p).st = .setup
        ∧ (e.plt p).since = t ∧ (e.plt p).cfg = d.pcfg p ∧ (e.plt p).seg = none ∧ (e.plt p).buf = x.buf)
    ∧ (x.st = .rearm → t < x.since + 16 * ns → exec (.rearmDone p t) s = .next s)
    ∧ (x.st = .setup → x.since + 16 * ns ≤ t → d.pltRoom p = true → d.fltFilled p t = true →
      (d.isStream p = false → x.cfg.postDly * d.ts p < d.preSpan p x.cfg →
        ∃ e : Dev, exec (.plateSetupDone p t) s = .next { s with dev := e } ∧ (d.at t).OnlyPlate p e ∧ (e.plt p).st = .filling
          ∧ (e.plt p).since = t ∧ (e.plt p).fill = t ∧ (e.plt p).cfg = x.cfg)
      ∧ (d.isStream p = false → d.preSpan p x.cfg ≤ x.cfg.postDly * d.ts p → fld x.cfg.trg 3 0 ≠ 8 →
        ∃ e : Dev, exec (.plateSetupDone p t) s = .next { s with dev := e } ∧ (d.at t).OnlyPlate p e ∧ (e.plt p).st = .armed
          ∧ (e.plt p).since = t ∧ (e.plt p).fill = t ∧ (e.plt p).cfg = x.cfg)
      ∧ (d.isStream p = true → x.streamNext = 0 → x.gap = false → d.pltFull p = false →
        ∃ e : Dev, exec (.plateSetupDone p t) s = .next { s with dev := e } ∧ (d.at t).OnlyPlate p e ∧ (e.plt p).st = .capturing
          ∧ (e.plt p).since = t ∧ ∃ g : Seg, (e.plt p).seg = some g ∧ g.trig = (t + d.ts p - 1) / d.ts p * d.ts p ∧ g.gap = false))
    ∧ (x.st = .setup → (t < x.since + 16 * ns ∨ d.pltRoom p = false ∨ d.fltFilled p t = false) →
        exec (.plateSetupDone p t) s = .next s)
    ∧ (x.st = .filling → x.since + d.preSpan p x.cfg ≤ t + x.cfg.postDly * d.ts p → fld x.cfg.trg 3 0 ≠ 8 →
      ∃ e : Dev, exec (.plateFillDone p t) s = .next { s with dev := e } ∧ (d.at t).OnlyPlate p e ∧ (e.plt p).st = .armed
        ∧ (e.plt p).since = t ∧ (e.plt p).fill = x.fill)
    ∧ (x.st = .filling → t + x.cfg.postDly * d.ts p < x.since + d.preSpan p x.cfg → exec (.plateFillDone p t) s = .next s)
    ∧ (x.st = .armed → bit x.cfg.trg 12 = true → out ≤ t →
      ∃ m : Dev, exec (.autoTrigger p t) s = .next { s with dev := m.raiseOnce (Ev.PLT_FORCED p) } ∧ (m.plt p).st = .capturing
        ∧ (∃ g : Seg, (m.plt p).seg = some g ∧ g.trig = out / d.ts p * d.ts p ∧ g.forced = true ∧ g.short = false ∧ g.frac = 0)
        ∧ m.rd (Reg.PLT_FORCED_CNT p) = satInc (d.rd (Reg.PLT_FORCED_CNT p)) ∧ (∀ q, q ≠ p.val → m.plt q = d.plt q)
        ∧ m.evt = d.evt)
    ∧ ((x.st ≠ .armed ∨ bit x.cfg.trg 12 = false ∨ t < out) → exec (.autoTrigger p t) s = .next s)
    ∧ (x.acquiring = true → d.isStream p = true → x.st = .setup → x.streamNext ≠ 0 → d.pltRoom p = false →
        (d.isRing p = true ∨ d.seqUsed p + 1 < d.f (Reg.PLT_SEG_COUNT p) 22 0) →
      ∃ e : Dev, exec (.streamSegmentSkip p) s = .next { s with dev := e }
        ∧ e.plt p = { x with streamNext := x.streamNext + d.segSpan p, gap := true } ∧ (∀ q, q ≠ p.val → e.plt q = d.plt q)
        ∧ e.rd (Reg.PLT_SEG_SKIP p) = satAdd (d.rd (Reg.PLT_SEG_SKIP p)) 1 ∧ e.rd (Reg.PLT_SEQ p) = d.rd (Reg.PLT_SEQ p) + 1
        ∧ (∀ o, o ≠ Reg.PLT_SEG_SKIP p → o ≠ Reg.PLT_SEQ p → e.rd o = d.rd o) ∧ e.evt = d.evt)
    ∧ (d.pltRoom p = true → exec (.streamSegmentSkip p) s = .next s)

/-- 07 R207, R209, R214, R215: the last value of a triggered segment. With the record that the plate forms from its capture, the
segment enters the capture buffer under the next sequence number with its slot's address, and the plate rearms, or stops
when it was the last one of a single acquisition. A segment that was cut short enters the buffer first, under the settings
of its cut, and moves the plate no further. Without a segment being captured nothing is formed. -/
def Obligations.CompletedSegmentsEnterTheBuffer : Prop :=
  ∀ (s : State) (p : Fin 8) (t : Time) (cap : Capture), s.alive = true → s.dev.on domWAVE = true →
    let d := s.dev
    let x := d.plt p
    let seq := (d.rd (Reg.PLT_SEQ p)).toNat
    let entered := fun (r : Rec) (m : Dev) =>
      m.rd (Reg.PLT_SEQ p) = d.rd (Reg.PLT_SEQ p) + 1 ∧ (∀ o, o ≠ Reg.PLT_SEQ p → m.rd o = d.rd o)
      ∧ (∃ o : Out, (m.plt p).buf = x.buf ++ [o] ∧ o.seq = seq ∧ o.done = 0
          ∧ o.slot = (if x.ring = 0 then seq else seq % x.ring) ∧ o.addr = x.base + o.slot * x.slotSize
          ∧ recBytes r.packed r.vals <+: o.data ∧ o.data.length % 64 = 0)
      ∧ (∀ q, q ≠ p.val → m.plt q = d.plt q) ∧ m.evt = d.evt
    (∀ g, x.closing = [] → x.seg = some g → d.isStream p = false →
      let f := g.form.getD (d.form p)
      let r := f.record g cap
      f.stream = false → f.mode < 3 → r.ranges.length ≤ 4 →
      ∃ m : Dev, exec (.captureComplete p t cap) s = .next (s.tidied (fun _ => m)) ∧ entered r m ∧ (m.plt p).seg = none
        ∧ (m.plt p).st = (if m.pltFull p then .stopped else .rearm) ∧ (m.plt p).since = t)
    ∧ (∀ g rest, x.closing = g :: rest → g.cut.isSome = true →
      let f := g.form.getD (d.form p)
      let r := f.record g cap
      f.mode < 3 → r.ranges.length ≤ 4 →
      ∃ m : Dev, exec (.captureComplete p t cap) s = .next (s.tidied (fun _ => m)) ∧ entered r m ∧ (m.plt p).closing = rest
        ∧ (m.plt p).seg = x.seg ∧ (m.plt p).st = x.st ∧ (m.plt p).since = x.since)
    ∧ (x.closing = [] → x.seg = none → exec (.captureComplete p t cap) s = .next (s.tidied id))

/-- 07 R208, R214, R216: SEGMENT_COMMIT. When all data of the oldest segment is written and the DRAIN budget allows its head
block, the segment is committed: the head block stands at its address, with TRIGGER_BLIND where MISSED counted since the last
commit, SEG_COMMIT counts, and the slot holds its number; a segment whose head does not fit waits, and so does one whose slot a
PLATE_DRAIN is transferring; and no commit writes outside the segment's own slot. -/
def Obligations.CommitsWriteDataBeforeTheHead : Prop :=
  ∀ (s : State) (p : Fin 8), s.alive = true → s.dev.on domWAVE = true →
    let d := s.dev
    let x := d.plt p
    (∀ o rest, x.buf = o :: rest → d.wave.mem.ready = true → d.on domMEM = true →
      (∃ m : Dev, exec (.segmentCommit p) s = .next (s.tidied (fun _ => m)) ∧
        ∀ a, (a < o.addr ∨ (o.addr + o.head.length ≤ a ∧ o.addr + 64 + o.data.length ≤ a)) →
          Memory.read m.wave.mem.cells a = Memory.read d.wave.mem.cells a)
      ∧ (d.slotBusy p o.slot = true → exec (.segmentCommit p) s = .next (s.tidied id))
      ∧ (d.slotBusy p o.slot = false → o.data.length ≤ o.done → d.fits actDRAIN 64 = true → o.last = false →
        ∃ m : Dev, exec (.segmentCommit p) s = .next (s.tidied (fun _ => m)) ∧ (m.plt p).buf = rest ∧ (m.plt p).blind = false
          ∧ (∀ i, i < o.head.length → Memory.read m.wave.mem.cells (o.addr + i) = (blindHead x.blind o.head).getD i 0)
          ∧ m.rd (Reg.PLT_SEG_COMMIT p) = satInc (d.rd (Reg.PLT_SEG_COMMIT p))
          ∧ m.rd (Reg.BIT_METER actDRAIN) = satAdd (d.rd (Reg.BIT_METER actDRAIN)) 64
          ∧ tabGet 0 (m.plt p).slots o.slot = o.seq + 1 ∧ (m.plt p).st = x.st
          ∧ (∀ q, q ≠ p.val → m.plt q = d.plt q) ∧ m.evt = d.evt)
      ∧ (o.data.length ≤ o.done → d.fits actDRAIN 64 = false →
        ∃ m : Dev, exec (.segmentCommit p) s = .next (s.tidied (fun _ => m)) ∧ (m.plt p).buf = x.buf
          ∧ m.wave.mem = d.wave.mem ∧ m.rd (Reg.PLT_SEG_COMMIT p) = d.rd (Reg.PLT_SEG_COMMIT p)))
    ∧ (x.buf = [] → exec (.segmentCommit p) s = .next (s.tidied id))

/-- 07 R193, R194, R210, R221; 13 R386, R387: the codes of an AUX input that ranges itself. Clipped codes in a row that complete AR_CLIP_N step
the range up by one, and quiet ones that complete 2^AR_UP step it down by one, where AR_MIN to AR_MAX allow the step; the
counts restart. A shorter run is only counted, and codes that no range may be left for change no range. A cascade trigger that
is early waits, in order of its time, at every plate that selects it, and at no other, at a member where it comes down from the
master, and at the master where it comes up to it; the master sends it down to all, under its CASC budget, and a member that drives
its transmitters repeats it 128 ns later; one with a bad CRC is only counted; LPDDR4X training runs while MEM is
powered and fails at once for a capacity code that names none, and its end notes its event. -/
def Obligations.AuxCascadeTriggersAndTraining : Prop :=
  ∀ (s : State), s.alive = true →
    let d := s.dev
    (∀ (k : Fin 16) (t : Time) (code : Int) (n : Nat), d.on domWAVE = true → bit (d.rd (auxCtlOff k)) 2 = true → 0 < n →
      let c := d.rd (auxCtlOff k)
      let r := d.auxRange k
      let was := tabGet (0, 0) d.wave.auxRun k
      let clip := 480 ≤ code.natAbs
      let quiet := code.natAbs < 96
      let may := fun (m : Nat) => fld c 4 3 ≤ m ∧ m ≤ min 2 (fld c 6 5)
      let up := max 1 (max 1 (fld c 11 8) - was.1)
      let down := max 1 (2 ^ (max 4 (min 24 (fld c 16 12))) - was.2)
      (clip → may (r + 1) → n = up →
        ∃ e : Dev, exec (.auxAutorange k t [(code, n)]) s = .next { s with dev := e } ∧ e.auxRange k = r + 1
          ∧ tabGet (0, 0) e.wave.auxRun k = (0, 0) ∧ (∀ j, j ≠ k.val → e.auxRange j = d.auxRange j) ∧ e.regs = d.regs ∧ e.evt = d.evt)
      ∧ (quiet → 0 < r → may (r - 1) → n = down →
        ∃ e : Dev, exec (.auxAutorange k t [(code, n)]) s = .next { s with dev := e } ∧ e.auxRange k = r - 1
          ∧ tabGet (0, 0) e.wave.auxRun k = (0, 0) ∧ (∀ j, j ≠ k.val → e.auxRange j = d.auxRange j) ∧ e.regs = d.regs ∧ e.evt = d.evt)
      ∧ ((clip → ¬ may (r + 1) ∨ n < up) → (quiet → r = 0 ∨ ¬ may (r - 1) ∨ n < down) →
        ∃ e : Dev, exec (.auxAutorange k t [(code, n)]) s = .next { s with dev := e }
          ∧ tabGet (0, 0) e.wave.auxRun k = (if 480 ≤ code.natAbs then was.1 + n else 0, if code.natAbs < 96 then was.2 + n else 0)
          ∧ (∀ j, e.auxRange j = d.auxRange j) ∧ e.regs = d.regs ∧ e.evt = d.evt))
    ∧ (∀ (k : Fin 16) (t : Time) (xs : List (Int × Nat)), bit (d.rd (auxCtlOff k)) 2 = false →
        exec (.auxAutorange k t xs) s = .next s)
    ∧ (∀ (pos : Fin 16) (plate : Fin 8) (dt t : Time) (up : Bool), d.on domCORE = true → d.on domWAVE = true → t < dt →
      let msg : CascMsg := { typ := 6, pos := pos, plate := plate, arg := 0, dt := dt, payload := 0 }
      let heard := fun (e : Dev) => ∀ p : Fin 8, e.plt p =
            if d.cascPicks p (plate.val + 8 * pos.val) = true
            then { d.plt p with casc := insBy (fun a b => decide (a.1 < b.1)) (dt, plate.val + 8 * pos.val) (d.plt p).casc }
            else d.plt p
      (d.cascMember = true → ∃ e : Dev, exec (.cascTrigMessage pos plate dt t up true) s = .next { s with dev := e }
        ∧ e.regs = d.regs ∧ e.evt = d.evt ∧ e.mdv.tx = d.mdv.tx
        ∧ e.mdv.rep = (if d.drives then d.mdv.rep ++ [{ dt := t + 131072, up := up, msg := msg }] else d.mdv.rep)
        ∧ (up = false → heard e) ∧ (up = true → e.wave = d.wave))
      ∧ (d.cascOn = true → d.cascRole = 2 → up = true →
        ∃ e : Dev, exec (.cascTrigMessage pos plate dt t up true) s = .next { s with dev := e } ∧ heard e ∧ e.mdv.rep = d.mdv.rep
          ∧ (d.fits actCASC 16 = true → d.drives = true → e.mdv.tx = d.mdv.tx ++ [msg])
          ∧ (d.fits actCASC 16 = false → e.mdv.tx = d.mdv.tx ∧ e.mdv.txWait = d.mdv.txWait ++ [msg])))
    ∧ (∀ (pos : Fin 16) (plate : Fin 8) (dt t : Time) (up : Bool), d.on domCORE = true →
      (d.cascOn = false → ∀ crc, exec (.cascTrigMessage pos plate dt t up crc) s = .next s)
      ∧ (d.cascOn = true → exec (.cascTrigMessage pos plate dt t up false) s
          = .next { s with dev := (d.at t).inc Reg.MDV_CASC_CRC_CNT }))
    ∧ (d.on domMEM = true → (∃ b, memCapacity (d.f Reg.GLB_MEM_CFG 2 0) = some b) →
      ∃ e : Dev, exec .memTrain s = .next { s with dev := e } ∧ e.pwr = { d.pwr with selfRefresh := false }
        ∧ e.wave = { d.wave with mem := { d.wave.mem with training := true, ready := false, fail := false, failMask := 0 } }
        ∧ e.regs = d.regs ∧ e.evt = d.evt)
    ∧ (d.on domMEM = true → d.on domCORE = true → memCapacity (d.f Reg.GLB_MEM_CFG 2 0) = none →
      ∃ m e : Dev, exec .memTrain s = .next { s with dev := e } ∧ m.Noted Ev.MEM_TRAIN_FAIL e
        ∧ m = d.modMem (fun y => { y with training := false, ready := false, fail := true, failMask := 255 }))
    ∧ (d.on domMEM = false → exec .memTrain s = .next s)
    ∧ (d.wave.mem.training = true → d.on domCORE = true →
      (∃ m e : Dev, exec .memTrainDone s = .next (s.tidied (fun _ => e)) ∧ m.Noted Ev.MEM_TRAIN_DONE e
        ∧ m = d.modMem (fun y => { y with training := false, ready := true }))
      ∧ ∀ mask, ∃ m e : Dev, exec (.memTrainFail mask) s = .next { s with dev := e } ∧ m.Noted Ev.MEM_TRAIN_FAIL e
        ∧ m = d.modMem (fun y => { y with training := false, ready := false, fail := true, failMask := mask % 256 }))
    ∧ (d.wave.mem.training = false → ∀ mask, exec (.memTrainFail mask) s = .next s)

/-- 08 R239, R240, R241, R242, R243: SW_GO asks for a switch of a loaded shadow bank and is refused, with its event, while there
is none; the last output of a fade ends it, counts it and notes FLT_FADE_DONE; a load held by the fade is then written and its
descriptor completes. When a switch falls due the active and shadow banks exchange roles, but a bank of another D0 is refused,
with its event, while the plate acquires.
08 R249, R250, R252; 01 R16: SYNC. An enabled edge more than 1 us after the last, timed to one fine bin, sets the instant 40 ns
and LEAD later, rounded up to 1 ns steps, and one sooner is only counted; SYNC_CMD waits for the next tick; a SYNC message of
the cascade is due at its time, or, late, at the next multiple of 1,024 with its counter and event, and is repeated by a member; the instant restarts the
phase of all plates and stamps SYNC_DT. -/
def Obligations.ChainSwitchesFadesAndSync : Prop :=
  (∀ (s : State) (p : Fin 8), s.alive = true → s.dev.on domWAVE = true → s.dev.on domCORE = true →
      let d := s.dev
      let x := d.flt p
      (x.shd = none → ∃ e : Dev, exec (.swGo p) s = .next { s with dev := e } ∧ d.Noted Ev.FLT_SWITCH_REJECT e)
      ∧ (x.shd ≠ none → ∃ e : Dev, exec (.swGo p) s = .next { s with dev := e } ∧ d.OnlyChain p e ∧ e.flt p = { x with sw := .asked })
      ∧ (∀ f, x.fade = some f → x.due = [] →
        ∃ m e : Dev, m.Noted (Ev.FLT_FADE_DONE p) e
          ∧ m.flt p = ({ x with fade := none, past := f :: x.past, held := [] }).keep (d.histFrom p)
          ∧ (∀ q, q ≠ p.val → m.flt q = d.flt q)
          ∧ m.rd (Reg.FLTP_FADE_CNT p) = satInc (d.rd (Reg.FLTP_FADE_CNT p))
          ∧ (∀ o, o ≠ Reg.FLTP_FADE_CNT p → m.rd o = d.rd o)
          ∧ m = { d with regs := m.regs, wave := { d.wave with flt := m.wave.flt } }
          ∧ (x.held = [] → exec (.fltFadeDone p) s = .next { s with dev := e })
          ∧ (∀ b desc, x.held = [(b, desc)] → ∃ e2 : Dev, e.OnlyChain p e2 ∧ e2.flt p = { m.flt p with shd := some b }
              ∧ exec (.fltFadeDone p) s = .next { s with dev := e2.finish desc stOK }))
      ∧ (x.fade = none → exec (.fltFadeDone p) s = .next s)
      ∧ (∀ t new, x.shd = some new → x.fade = none →
        ((d.plt p).acquiring = false ∨ x.act = none ∨ (∃ old, x.act = some old ∧ old.d0 = new.d0) →
          ((d.switchDue p t).flt p).act = some new ∧ ((d.switchDue p t).flt p).shd = x.act)
        ∧ (∀ old, (d.plt p).acquiring = true → x.act = some old → old.d0 ≠ new.d0 →
          d.Noted Ev.FLT_SWITCH_REJECT (d.switchDue p t))))
  ∧ (∀ (s : State), s.alive = true → s.dev.on domWAVE = true → s.dev.on domCORE = true →
      let d := s.dev
      let y := d.wave.sync
      (∀ t, s.dev.sec.bscan = false → d.b Reg.FLT_SYNC_CTL 0 = true → d.cascRole ≠ 2 →
        let u := t / 8 * 8
        (y.edge ≠ 0 → u ≤ y.edge - 1 + us → exec (.syncNEdge t) s = .next { s with dev := (d.at u).inc Reg.FLT_SYNC_IGN_CNT })
        ∧ ((y.edge = 0 ∨ y.edge - 1 + us < u) →
          let ts := up1024 (u + 40960 + d.f Reg.FLT_SYNC_CTL 31 16 * 1024)
          ∃ e : Dev, exec (.syncNEdge t) s = .next { s with dev := e }
            ∧ e = { d.at u with wave := { d.wave with sync := { y with edge := u + 1, due := insSorted ts y.due } } }))
      ∧ (∀ t, d.b Reg.FLT_SYNC_CTL 0 = false → exec (.syncNEdge t) s = .next s)
      ∧ (∃ e : Dev, exec .syncCmd s = .next { s with dev := e } ∧ e = { d with wave := { d.wave with sync := { y with cmd := true } } })
      ∧ (∀ ts t, d.b Reg.FLT_SYNC_CTL 1 = true → d.cascMember = false →
        (t ≤ ts → ∃ e : Dev, exec (.cascSyncMessage ts t true) s = .next { s with dev := e }
          ∧ e = { d.at t with wave := { d.wave with sync := { y with due := insSorted (up1024 ts) y.due } } })
        ∧ (ts < t → ∃ m e : Dev, exec (.cascSyncMessage ts t true) s = .next { s with dev := e }
          ∧ ((d.at t).inc Reg.FLT_SYNC_LATE_CNT).Noted Ev.FLT_SYNC_LATE m
          ∧ e = { m with wave := { d.wave with sync := { y with due := insSorted (t / 1024 * 1024 + 1024) y.due } } }))
      ∧ (∀ ts t, d.cascMember = true → d.drives = true → ∃ e : Dev, exec (.cascSyncMessage ts t true) s = .next { s with dev := e }
          ∧ e.mdv.rep = d.mdv.rep ++ [{ dt := t + 131072, up := false, msg := { typ := 4, pos := 0, plate := 0, arg := 0, dt := ts, payload := 0 } }]
          ∧ (d.b Reg.FLT_SYNC_CTL 1 = true → t ≤ ts → e.wave = { d.wave with sync := { y with due := insSorted (up1024 ts) y.due } }))
      ∧ (∀ ts t, d.b Reg.FLT_SYNC_CTL 1 = false → d.cascMember = false → exec (.cascSyncMessage ts t true) s = .next s)
      ∧ (y.due = [] → exec .syncInstant s = .next s)
      ∧ (∀ ts l, y.due = ts :: l → (∀ p : Fin 8, (d.flt p).sw ≠ .atSync) →
        ∃ m e : Dev, exec .syncInstant s = .next { s with dev := e } ∧ (e = m ∨ m.Noted Ev.FLT_SYNC e)
          ∧ m.rd Reg.FLT_SYNC_DT_LO = loW ts ∧ m.rd Reg.FLT_SYNC_DT_HI = hiW ts
          ∧ m.rd Reg.FLT_SYNC_CNT = satInc (d.rd Reg.FLT_SYNC_CNT)
          ∧ (∀ o, o ≠ Reg.FLT_SYNC_DT_LO → o ≠ Reg.FLT_SYNC_DT_HI → o ≠ Reg.FLT_SYNC_CNT → m.rd o = d.rd o)
          ∧ m.wave.sync = { y with due := l } ∧ m.wave.plt = d.wave.plt
          ∧ ∀ p : Fin 8, (m.flt p).bases = keepSince ((d.at ts).histFrom p) (fun b => b.1) ((ts, true) :: (d.flt p).bases)
            ∧ (m.flt p).act = (d.flt p).act ∧ (m.flt p).shd = (d.flt p).shd ∧ (m.flt p).fade = (d.flt p).fade))

/-- 09 R266, R269, R270, R271: a measurement of a target of the run that executes. The first one of an attempt is kept with its
temperature; a second one that agrees accepts the target: its values are staged and it leaves the run; one that disagrees
on the fourth attempt rejects it, counted in REJ_CNT. Values that no target of the run waits for do nothing. GO and DISCARD
of APPLY mark the next tick and empty the staging. -/
def Obligations.CalibrationTargetsAreMeasuredTwice : Prop :=
  ∀ (s : State) (id : Nat) (v : List Int), s.alive = true → s.dev.on domCORE = true →
    let d := s.dev
    (∀ r t, d.prf.active = some r → kindBorrows r.kind = true → r.todo.find? (fun t => t.id = id) = some t →
      v.length = kindValues r.kind → measurable r.kind t = true → (r.kind ≠ 2 ∨ (countsFull v = true ∧ codePass v = true)) →
      let got := (if r.kind = 2 then codeTable v else v, t.temp, true)
      let rest := r.todo.filter (fun x => x.id ≠ id)
      (t.first = none →
        ∃ m : Dev, exec (.calMeasurementDone id v) s = .next (State.revoted (fun _ => { s with dev := m }) s)
          ∧ m = { d with prf := m.prf } ∧ m.prf.staging = d.prf.staging
          ∧ ∃ r' t', m.prf.active = some r' ∧ r' = { r with todo := r.todo.map (fun x => if x.id = id then t' else x) }
            ∧ t'.first = some got ∧ t'.attempt = t.attempt ∧ t'.id = id)
      ∧ (∀ a, t.first = some a → agrees r.kind a got = true → rest ≠ [] →
        let items := acceptedItems r.kind id (acceptedValues r.kind a.1 got.1) (d.areaTemp (d.targetSensor r.kind id))
        ∃ m : Dev, exec (.calMeasurementDone id v) s = .next (State.revoted (fun _ => { s with dev := m }) s)
          ∧ m = (d.stage items).modPrf (fun p => { p with
              active := some { r with todo := rest, accepted := r.accepted + 1, out := r.out ++ items } }))
      ∧ (∀ a, t.first = some a → agrees r.kind a got = false → 3 ≤ t.attempt → rest ≠ [] →
        ∃ m : Dev, exec (.calMeasurementDone id v) s
            = .next (State.revoted (fun _ => { s with dev := m }) s)
          ∧ m.prf.staging = d.prf.staging ∧ m.rd Reg.PRF_REJ_CNT = satInc (d.rd Reg.PRF_REJ_CNT)
          ∧ m.prf.active = some { r with todo := rest, rejected := r.rejected + 1, rejSeen := true }))
    ∧ (d.prf.active = none → exec (.calMeasurementDone id v) s = .next s)
    ∧ exec .applyGo s = .next { s with dev := { d with prf := { d.prf with go := true } } }
    ∧ exec .applyDiscard s = .next { s with dev := { d with prf := { d.prf with staging := [] } } }

/-- 10 R284, R285, R289: housekeeping rounds. A round starts on the comparator grid once its time has come, over the slots that
are on, and the next is due a ROUND_PERIOD later; the end of a slot's conversion adds its result and starts the next slot;
an input that opens is latched and noted in the round that runs, and one that closes again is noted.
10 R285, R290: a round that waits is published as a whole: the round count goes up by one, an open slot shows NONE with
status 3, and a slot on the die that is neither open nor suspect shows its value with status 1; both carry the round count.
The evaluation of 11 R308 follows.
10 R287, R288, R293, R300: the burn-out current of an input has the level and direction of its register, 2 uA at most under the
energy-limited profile, and the excitation flows at its pin from step 3 to step 5 of its slot; with HK off none flows. -/
def Obligations.HousekeepingRoundsAreRunAndPublished : Prop :=
  (∀ (s : State), s.alive = true → s.dev.on domHK = true →
      let d := s.dev
      (∀ t, d.hkp.round = none → d.hkp.next ≤ t → t % (250 * us) = 0 →
        ∃ e : Dev, exec (.hkRoundStart t) s = .next { s with dev := e }
          ∧ e = { d.at t with hkp := e.hkp } ∧ e.hkp.next = t + d.f Reg.HKP_ROUND_PERIOD 19 0 * us ∧ e.hkp.pub = d.hkp.pub
          ∧ ∃ r, e.hkp.round = some r ∧ r.slotAt = t ∧ r.done = [] ∧ r.capped = false
            ∧ r.slot :: r.todo = (List.range 64).filter (fun j => slotOn j (d.rd (Reg.HKP_SLOT_CFG j))))
      ∧ (∀ t, (d.hkp.round ≠ none ∨ t < d.hkp.next ∨ t % (250 * us) ≠ 0) → exec (.hkRoundStart t) s = .next s)
      ∧ (∀ x r, d.hkp.round = some r →
        let cfg := d.roundReg r.cfg (Reg.HKP_SLOT_CFG r.slot)
        let aux := d.roundReg r.cfg (Reg.HKP_SLOT_AUX r.slot)
        let stop := r.slotAt + slotTime aux (slotRate r.slot cfg)
        let conv := d.convert r.slot cfg (d.roundReg r.cfg (Reg.HKP_SLOT_THM r.slot))
          ((r.done.find? (fun s => s.slot = fld aux 21 16)).bind (fun s => s.value)) x
        ∃ e : Dev, exec (.hkSlotEnd x) s = .next { s with dev := e } ∧ e.regs = d.regs ∧ e.evt = d.evt ∧ e.tim = (d.at stop).tim
          ∧ ∃ g : SlotRun, g.slot = r.slot ∧ g.capped = r.capped
            ∧ (g.opened = (slotInputs r.slot cfg).any (fun i => r.openWhen i (r.slotAt + slotConnect aux)))
            ∧ (∀ n, conv = .value n → g.value = some n) ∧ (conv = .ovr → g.value = none)
            ∧ (∀ n l, r.todo = n :: l → ∃ r', e.hkp.round = some r' ∧ r'.slot = n ∧ r'.todo = l ∧ r'.slotAt = stop
                ∧ r'.done = r.done ++ [g] ∧ r'.cfg = r.cfg ∧ r'.changes = [])
            ∧ (r.todo = [] → e.hkp.round = none ∧ ∃ r', e.hkp.pub = some (r', stop) ∧ r'.done = r.done ++ [g]))
      ∧ (∀ x, d.hkp.round = none → exec (.hkSlotEnd x) s = .next s)
      ∧ (∀ (i : Fin 32) (t : Time), d.b (Reg.HKP_HK_IN i) 3 = true → d.b Reg.HKP_OPEN_NOW i = false →
        ∃ m : Dev, exec (.hkOpen i t) s = .next { s with dev := m.raiseOnce Ev.HK_OPEN } ∧ m.b Reg.HKP_OPEN_NOW i = true
          ∧ m.b Reg.HKP_OPEN_LATCH i = true ∧ (∀ o, o ≠ Reg.HKP_OPEN_NOW → o ≠ Reg.HKP_OPEN_LATCH → m.rd o = d.rd o)
          ∧ (∀ r, d.hkp.round = some r → m.hkp.round = some { r with changes := r.changes ++ [(t, i.val, true)] }) ∧ m.evt = d.evt)
      ∧ (∀ (i : Fin 32) (t : Time), (d.b (Reg.HKP_HK_IN i) 3 = false ∨ d.b Reg.HKP_OPEN_NOW i = true) →
          exec (.hkOpen i t) s = .next s)
      ∧ (∀ (i : Fin 32) (t : Time), d.b Reg.HKP_OPEN_NOW i = true →
        ∃ m : Dev, exec (.hkOpenCleared i t) s = .next { s with dev := m.raiseOnce Ev.HK_OPEN_CLEARED }
          ∧ m.b Reg.HKP_OPEN_NOW i = false ∧ (∀ o, o ≠ Reg.HKP_OPEN_NOW → m.rd o = d.rd o) ∧ m.evt = d.evt
          ∧ (∀ r, d.hkp.round = some r → m.hkp.round = some { r with changes := r.changes ++ [(t, i.val, false)] }))
      ∧ (∀ (i : Fin 32) (t : Time), d.b Reg.HKP_OPEN_NOW i = false → exec (.hkOpenCleared i t) s = .next s))
  ∧ (∀ (s : State) (out : List Nat), s.alive = true → s.dev.on domHK = true →
      let d := s.dev
      (∀ r stop, d.hkp.pub = some (r, stop) → (r.done.map (fun g => g.slot)).Nodup → (∀ g ∈ r.done, g.slot < 64) →
        let cnt := (d.rd Reg.HKP_ROUND_CNT + 1).toNat % 65536 * 65536
        ∃ m : Dev, exec (.hkRoundPublish out) s = .next (State.revoted (fun _ => { s with dev :=
              if d.thm.critPhase = 0 ∧ m.thmRound.thm.critPhase = 1 then m.thmRound.runAbort (fun _ => true) else m.thmRound }) s)
          ∧ m.rd Reg.HKP_ROUND_CNT = d.rd Reg.HKP_ROUND_CNT + 1 ∧ m.hkp.pub = none ∧ m.afe.roundDone = true
          ∧ m.tim = (d.at (stop + 500 * us)).tim ∧ m.thm = d.thm
          ∧ (∀ g ∈ r.done, g.opened = true → m.rd (Reg.HKP_SLOT_VAL g.slot) = wordI noValue
              ∧ m.rd (Reg.HKP_SLOT_STAT g.slot) = word (3 + cnt))
          ∧ (∀ g ∈ r.done, ∀ v, g.slot < 24 → g.opened = false → out.contains g.slot = false → g.capped = false → g.value = some v →
              m.rd (Reg.HKP_SLOT_VAL g.slot) = wordI v ∧ m.rd (Reg.HKP_SLOT_STAT g.slot) = word (1 + cnt)))
      ∧ (d.hkp.pub = none → exec (.hkRoundPublish out) s = .next s))
  ∧ (∀ (d : Dev) (i : Fin 32),
      (d.on domHK = true →
        (d.burnOut i).natAbs = [0, 5, 20, if d.elOn then 20 else 100].getD (fld (d.rd (Reg.HKP_HK_IN i)) 1 0) 0
        ∧ (if bit (d.rd (Reg.HKP_HK_IN i)) 2 then d.burnOut i ≤ 0 else 0 ≤ d.burnOut i)
        ∧ (∀ r, d.hkp.round = some r → 24 ≤ r.slot →
          let cfg := d.roundReg r.cfg (Reg.HKP_SLOT_CFG r.slot)
          let aux := d.roundReg r.cfg (Reg.HKP_SLOT_AUX r.slot)
          ∀ t, d.excPin t = if bit cfg 19 = true ∧ r.slotAt + slotConnect aux ≤ t ∧ t < r.slotAt + slotTime aux (slotRate r.slot cfg)
            then some (fld cfg 18 14, d.excitation cfg) else none))
      ∧ (d.on domHK = false → d.burnOut i = 0 ∧ d.vmidBias i = false ∧ ∀ t, d.excPin t = none))

/-- 10 R296, R297, R299; 12 R358: current loops. Four samples on the grid that lie more than 1 mA off the commanded current set the
bit of their side (below it with the regulator at full drive, or above), once, with its event, when the loop is driven and
its commanded current has not changed for 1 ms; four samples that do not clear it; LOOP_READ takes the last sample. The
watchdog of a loop that has not been set for n ms, as of the last tick, latches its fault and notes it; EL_CTL is staged
in an open session once a parameter block is in force, and refused with SAF_RWP_DENIED otherwise. -/
def Obligations.LoopFaultsWatchdogsAndTheEnergyLimit : Prop :=
  ∀ (s : State) (l : Fin 8) (dev : Bool) (t : Time) (xs : Vector (Nat × Bool) 4),
      s.alive = true → s.dev.on domHK = true → s.dev.on domCORE = true →
    let d := s.dev
    let h := d.hkp
    let seen := { h with read := tabPut 0 h.read l (xs[3].1 % 65536) }
    (∀ c, (d.loopOut s.lockedOut l).cur = some c → tabGet none h.loopCur l = some c → t % (250 * us) = 0 →
        tabGet 0 h.loopAt l + 1750 * us ≤ t →
      ((∀ x ∈ xs.toList, if dev then c + 2000 < x.1 else x.1 + 2000 < c ∧ x.2 = true) →
        (if dev then h.devs else h.opens).testBit l = false →
        ∃ m e : Dev, exec (.loopFault l dev t xs) s = .next { s with dev := e } ∧ m.Noted (Ev.LOOP_FAULT l) e
          ∧ m = { d.at t with hkp := if dev then { seen with devs := setBit h.devs l } else { seen with opens := setBit h.opens l } })
      ∧ ((∀ x ∈ xs.toList, ¬ (if dev then c + 2000 < x.1 else x.1 + 2000 < c ∧ x.2 = true)) →
        exec (.loopFaultCleared l dev t xs) s = .next { s with dev := { d.at t with hkp :=
          if dev then { seen with devs := clrBit h.devs l } else { seen with opens := clrBit h.opens l } } })
      ∧ ((∃ x ∈ xs.toList, ¬ (if dev then c + 2000 < x.1 else x.1 + 2000 < c ∧ x.2 = true)) → exec (.loopFault l dev t xs) s = .next s)
      ∧ ((∃ x ∈ xs.toList, if dev then c + 2000 < x.1 else x.1 + 2000 < c ∧ x.2 = true) →
        exec (.loopFaultCleared l dev t xs) s = .next s))
    ∧ (((d.loopOut s.lockedOut l).cur = none ∨ tabGet none h.loopCur l ≠ (d.loopOut s.lockedOut l).cur ∨ t % (250 * us) ≠ 0
          ∨ t < tabGet 0 h.loopAt l + 1750 * us) →
        exec (.loopFault l dev t xs) s = .next s ∧ exec (.loopFaultCleared l dev t xs) s = .next s)
    ∧ (0 < d.f (Reg.HKP_LOOP_WDOG l) 15 0 → h.wdFault.testBit l = false →
        tabGet 0 h.wdStart l.val + d.f (Reg.HKP_LOOP_WDOG l) 15 0 * ms ≤ d.glb.tickDt →
      ∃ m e : Dev, exec (.loopWdog l) s = .next { s with dev := e } ∧ m.Noted Ev.LOOP_WDOG e
        ∧ m = { d with hkp := { h with wdFault := setBit h.wdFault l } })
    ∧ ((d.f (Reg.HKP_LOOP_WDOG l) 15 0 = 0 ∨ d.glb.tickDt < tabGet 0 h.wdStart l.val + d.f (Reg.HKP_LOOP_WDOG l) 15 0 * ms) →
        exec (.loopWdog l) s = .next s)
    ∧ (∀ val : Word, (s.isl.pw.openAt.isSome = true → s.isl.defaulted = false →
        exec (.elCtlWrite val) s = .next { s with dev := { d with glb := { d.glb with
          staged := d.glb.staged ++ [(Reg.HKP_EL_CTL, word (val.toNat % 4))] } } })
      ∧ ((s.isl.pw.openAt = none ∨ s.isl.defaulted = true) →
        ∃ e : Dev, exec (.elCtlWrite val) s = .next { s with dev := e } ∧ d.Noted Ev.SAF_RWP_DENIED e))

/-- 11 R314, R317, R319: a sensor whose run of deviating rounds has reached FAIL_N fails, with its event, before its
neighbours are judged; SENSOR_CLR starts the failed and pinned sensors of its mask afresh and no other; CRIT_CLR asks for the
release of the latch, and once every sensor has cooled they return to THROTTLE and the latch clears. -/
def Obligations.SensorsFailAndAreCleared : Prop :=
  ∀ (s : State), s.alive = true → s.dev.on domHK = true → s.dev.on domCORE = true →
    let d := s.dev
    (∀ x : Fin 32, d.sensorOn x = true → (d.sensor x).failed = false → 0 < (d.sensor x).dev → d.failN ≤ (d.sensor x).dev →
      ∃ m e : Dev, exec (.thmSensorFail x) s = .next { s with dev := e.pinPairs } ∧ m.Noted Ev.THM_SENSOR_FAIL e
        ∧ (m.sensor x).failed = true ∧ (m.sensor x).dev = 0 ∧ (m.sensor x).pinned = (d.sensor x).pinned
        ∧ (m.sensor x).level = (if 24 ≤ x.val && bit (d.extCfg x) 7 then max (d.sensor x).level 2 else (d.sensor x).level)
        ∧ (∀ y, y ≠ x.val → m.sensor y = d.sensor y) ∧ m = { d with thm := { d.thm with sensors := m.thm.sensors } })
    ∧ (∀ x : Fin 32, (d.sensorOn x = false ∨ (d.sensor x).failed = true ∨ (d.sensor x).dev = 0 ∨ (d.sensor x).dev < d.failN) →
        exec (.thmSensorFail x) s = .next s)
    ∧ (∀ mask : Word, ∃ e : Dev, exec (.sensorClr mask) s = .next { s with dev := e }
        ∧ e = { d with thm := { d.thm with sensors := e.thm.sensors } }
        ∧ ∀ x : Fin 32, e.sensor x = if bit mask x && ((d.sensor x).failed || (d.sensor x).pinned)
            then { used := (d.sensor x).used, level := if (d.sensor x).level = 3 then 3 else 0 } else d.sensor x)
    ∧ (d.thm.critLatch = false → exec .critClr s = .next s)
    ∧ (d.thm.critLatch = true → d.critCool = false → exec .critClr s = .next { s with dev := { d with thm := { d.thm with clrReq := true } } })
    ∧ (d.thm.critLatch = true → d.critCool = true →
      ∃ m : Dev, exec .critClr s = .next (State.revoted (fun _ => { s with dev := m }) s) ∧ m.thm.critLatch = false
        ∧ m.thm.critPhase = 0 ∧ m.thm.clrReq = false ∧ m = { d with thm := m.thm }
        ∧ ∀ x : Fin 32, (m.sensor x).level = if (d.sensor x).level = 3 then 2 else (d.sensor x).level)

/-- 11 R320: SHUT. A comparator that trips takes every domain but AO and SAFE down at once, with the link, the ticks and the
lock, and clears the memory; on a running island it latches the cause and locks out. With those domains off already it
latches only. When all comparators have cleared a part held in reset is released, and otherwise nothing more happens. -/
def Obligations.ShutTakesThePartDown : Prop :=
  ∀ (s : State) (x : Fin 24), s.dev.pwr.off = false →
    let d := s.dev
    (d.pwr.domains &&& 0x1FC ≠ 0 →
      ∃ t : State, exec (.shutComparatorTrip x) s = .next t ∧ t.dev.pwr.domains = 3 ∧ t.dev.pwr.dtFrozen = true
        ∧ t.dev.pwr.seq = none ∧ t.dev.lnk.st = .down ∧ t.dev.glb.run = false ∧ t.dev.tim.lock = false
        ∧ t.dev.wave.mem.cells = [] ∧ t.fuses = s.fuses ∧ t.pending = s.pending
        ∧ ((s.isl.st = .run ∨ s.isl.st = .wait) → s.isl.fault = none →
            t.isl.st = .lockout ∧ ∃ c, t.isl.fault = some c ∧ c.code = 0x0D ∧ c.index = x.val))
    ∧ (d.pwr.domains &&& 0x1FC = 0 → d.pwr.seq = none → s.isl.st = .lockout →
      exec (.shutComparatorTrip x) s = .next { s with dev := { d with thm := { d.thm with
        shutNow := setBit d.thm.shutNow x, shutLatch := setBit (setBit d.thm.shutLatch x) 31, shut := true } } })
    ∧ (d.pwr.shutHold = false → exec .shutComparatorClear s = .next { s with dev := { d with thm := { d.thm with shutNow := 0 } } })
    ∧ (d.pwr.shutHold = true → ∃ e : Dev, exec .shutComparatorClear s = .next { s with dev := e } ∧ e.pwr.shutHold = false
        ∧ e.thm.shutNow = 0 ∧ e.lnk.st = .aligning ∧ e.regs = d.regs)

/-- 12 R330, R331: GUARD_INPUT_ACCEPTED gives a half the samples of a channel, one after the other. A masked sample, one of the
level that is accepted already, and one that comes before the new level has lasted max(F, 10 us) change no reading; the other
samples accept the new level. The reading is kept in that half alone; an open channel of an enabled
pair puts the pair in demand there; with both channels closed again, after both have shown demand, a pair without RESTART
leaves demand and a pair with it stays in demand and waits for the restart pulse. -/
def Obligations.GuardReadingsMakeAndEndDemand : Prop :=
  ∀ (s : State) (w : Fin 2) (i : Fin 8) (ch : Fin 2), s.alive = true → s.isl.Shaped →
    pairEn s.isl.spb i = true → pairAnti s.isl.spb i = false →
    let g := (s.isl.half w).guard i
    let acc := if ch.val = 0 then g.a else g.b
    let x := if ch.val = 0 then g.fa else g.fb
    (∀ xs, exec (.guardInputAccepted w i ch xs) s = .next (xs.foldl (State.guardStep w i ch) s))
    ∧ (∀ closed tp : Bool, (closed = acc ∨ 10 * x.run < max (1000 * pairByte s.isl.spb i 1) 10
          ∨ (2 ≤ pairClass s.isl.spb i ∧ (tp = false ∨ 0 < x.mask))) →
        ∃ y : InFilter, s.guardStep w i ch (closed, tp) = { s with isl := s.isl.setHalf w ((s.isl.half w).put i
          (if ch.val = 0 then { g with fa := y } else { g with fb := y })) }
          ∧ (closed = acc → (pairClass s.isl.spb i < 2 ∨ (tp = true ∧ x.mask = 0)) → y.run = 0)
          ∧ (closed ≠ acc → (pairClass s.isl.spb i < 2 ∨ (tp = true ∧ x.mask = 0)) → y.run = x.run + 1)
          ∧ (2 ≤ pairClass s.isl.spb i → tp = false → y.mask = 10))
    ∧ (∀ closed tp : Bool, closed ≠ acc → max (1000 * pairByte s.isl.spb i 1) 10 ≤ 10 * x.run →
        (pairClass s.isl.spb i < 2 ∨ (tp = true ∧ x.mask = 0)) →
      let t := s.guardStep w i ch (closed, tp)
      t.fuses = s.fuses ∧ t.isl.spb = s.isl.spb ∧ t.isl.st = s.isl.st ∧ t.isl.fault = s.isl.fault
      ∧ ((t.isl.half w).guard i).a = (if ch.val = 0 then closed else g.a)
      ∧ ((t.isl.half w).guard i).b = (if ch.val = 0 then g.b else closed)
      ∧ (∀ v j : Nat, v < 2 → (v ≠ w.val ∨ j ≠ i.val) → (t.isl.half v).guard j = (s.isl.half v).guard j)
      ∧ (closed = false → ((t.isl.half w).guard i).demand = true ∧ ((t.isl.half w).guard i).wait = false)
      ∧ (closed = true → (if ch.val = 0 then g.b else g.a) = true → g.demand = true → g.both = true →
          ((t.isl.half w).guard i).demand = pairRestart s.isl.spb i ∧ ((t.isl.half w).guard i).wait = pairRestart s.isl.spb i)
      ∧ (closed = true → (if ch.val = 0 then g.b else g.a) = true → g.demand = true → g.both = false →
          ((t.isl.half w).guard i).demand = true ∧ ((t.isl.half w).guard i).wait = false))

/-- 12 R343, R344: the first fault of a running or waiting island latches its cause, counts in LOCKOUT_CNT and enters LOCKOUT
with its events; while the island is locked out no later fault changes anything; in START and SELFTEST a fault is latched
and the state stays. -/
def Obligations.TheFirstFaultLocksOut : Prop :=
  ∀ (s : State) (code idx : Nat), s.dev.on domCORE = true →
    ((s.isl.st = .run ∨ s.isl.st = .wait) → s.isl.fault = none →
      ∃ m e : Dev, (s.fault code idx).dev = e ∧ s.dev.Noted Ev.SAF_LOCKOUT m ∧ m.Noted Ev.SAF_STATE e
        ∧ (s.fault code idx).isl.st = .lockout
        ∧ (s.fault code idx).isl.fault = some { code := code, index := idx, dt := s.dev.now }
        ∧ (s.fault code idx).isl.lockCnt = satInc s.isl.lockCnt ∧ (s.fault code idx).isl.spb = s.isl.spb
        ∧ (s.fault code idx).isl.pw = s.isl.pw ∧ ∀ h w, (s.fault code idx).isl.grant w h = false)
    ∧ (s.isl.st = .lockout → s.fault code idx = s)
    ∧ ((s.isl.st = .start ∨ s.isl.st = .selftest) → s.isl.fault = none →
      ∃ e : Dev, (s.fault code idx).dev = e ∧ s.dev.Noted Ev.SAF_LOCKOUT e ∧ (s.fault code idx).isl.st = s.isl.st
        ∧ (s.fault code idx).isl.fault = some { code := code, index := idx, dt := s.dev.now })
    ∧ ((s.isl.st = .start ∨ s.isl.st = .selftest) → s.isl.fault ≠ none → s.fault code idx = s)
    ∧ (s.isl.st ≠ .internal → ∃ m e : Dev, (s.internalFault code).dev = e ∧ s.dev.Noted Ev.SAF_STATE m ∧ m.Noted Ev.SAF_INTERNAL e
        ∧ (s.internalFault code).isl = { s.isl with st := .internal, intCode := if s.isl.intCode = 0 then code else s.isl.intCode })
    ∧ (s.isl.st = .internal → s.internalFault code = s)

/-- 12 R332, R335, R337, R339, R340, R341: the checks of the inputs and outputs. Each takes its fault with the index of its channel,
output or head when its condition holds: a discrepancy that has lasted its limit, a channel that reads closed throughout a low
period of its own test output of 200 us or more, or shows the pattern of another, a read-back that differs, an off-test that shows no pulse, a stalled head whose block asks for it;
otherwise only what it saw is kept. A sample of the scan monitor outside the reference ± SCAN_DELTA is a motion event, which
moves the reference to m and restarts the stall timer; in any other the timer counts its 10 us, or is held at zero while the head has
not fired within SCAN_WIN. STALL_CLR clears exactly the heads of its mask every monitored axis of which has had a motion event
within SCAN_WIN. -/
def Obligations.InputAndOutputChecksTakeTheirFaults : Prop :=
  ∀ (s : State), s.alive = true →
    let i := s.isl
    (∀ (w : Fin 2) (p : Fin 8),
      exec (.discrepancy w p) s = .next (if i.discRuns w p = true ∧ pairDisc i.spb p ≤ ((i.half w).guard p).discMs + 1
        then s.fault 0x01 p else s))
    ∧ (∀ (k : Fin 4) (xs : List (Nat × Nat)), i.fault = none → i.checking = true → (tpEnabled i.spb).testBit k = true →
      let stuck := fun c => i.tested c k && tpStuckAt k c xs
      let foreign := fun c => (List.range 4).any (fun j => j ≠ k.val && i.tested c j && tpForeignAt k j c xs)
      (∀ c, (List.range 16).find? stuck = some c → (∀ n < 16, foreign n = false) →
          exec (.testPulse k xs) s = .next (s.fault 0x02 c))
      ∧ (∀ c, (∀ n < 16, stuck n = false) → (List.range 16).find? foreign = some c →
          exec (.testPulse k xs) s = .next (s.fault 0x03 c))
      ∧ ((∀ n < 16, stuck n = false ∧ foreign n = false) → exec (.testPulse k xs) s = .next s))
    ∧ (∀ (k : Fin 4) (xs : List (Nat × Nat)), ((tpEnabled i.spb).testBit k = false ∨ i.checking = false) →
        exec (.testPulse k xs) s = .next s)
    ∧ (∀ (k : Fin 4) (differ : Bool), i.checking = true → s.dev.drives = true →
      let m := { s with isl := { i with tpDiffer := putBit i.tpDiffer k differ, okPulses := if differ then 0 else i.okPulses } }
      exec (.tpReadback k differ) s = .next (if differ then m.fault 0x04 k else m))
    ∧ (∀ (k : Fin 4) (w : Fin 2) (level : Bool), i.checking = true → s.offTest (2 * k + w) = false →
      let same := s.soDrive w k = level
      let m := { s with isl := { i with soStuck := tabPut 0 i.soStuck (2 * k + w) (if same then 0 else 1 + b2n level) } }
      exec (.soReadback k w level) s = .next
        (if ¬ same ∧ (s.dev.drives = true ∨ (soByte i.spb k 0).testBit 2 = false) then m.fault 0x05 (2 * k + w) else m))
    ∧ (∀ (h : Fin 4) (w : Fin 2) (level : Bool), i.checking = true →
      let same := s.lenDrive w h = level
      let m := { s with isl := { i with lenStuck := tabPut 0 i.lenStuck (2 * h + w) (if same then 0 else 1 + b2n level) } }
      exec (.lenReadback h w level) s = .next (if ¬ same ∧ s.dev.drives = true then m.fault 0x07 (2 * h + w) else m))
    ∧ (∀ (k : Fin 4) (w : Fin 2) (low high : Bool), i.soOn w k = true → (soByte i.spb k 0).testBit 1 = true → s.dev.drives = true →
      let m := { s with isl := { i with testing := tabPut 0 i.testing (2 * k + w) (s.dev.now + offtestLen i.spb * us + 1) } }
      exec (.soOfftestStart k w low high) s = .next (if low = true ∧ high = true then m else m.fault 0x06 (2 * k + w)))
    ∧ (∀ (h : Fin 4) (a : Fin 2) (t : Time) (xs : List (List Int × Bool)), axisMonitored i.spb h a = true →
      let r := Mon.run (monCarrier i.spb h) (scanDelta i.spb h) (scanWin i.spb h) (t - 10 * us * (xs.length - 1)) xs
        (tabGet {} i.mon (2 * h + a))
      let m := { s with dev := s.dev.at t, isl := { i with mon := tabPut {} i.mon (2 * h + a) r.2 } }
      ((r.1 = false ∨ i.stall.testBit h = true) → exec (.scanStall h a t xs) s = .next m)
      ∧ (r.1 = true → i.stall.testBit h = false → s.dev.on domCORE = true →
        ∃ e : Dev, m.dev.Noted (Ev.SAF_STALL h) e ∧
          let n := { m with dev := e, isl := { m.isl with stall := setBit i.stall h } }
          exec (.scanStall h a t xs) s = .next (if stallAction i.spb then n.fault 0x08 h else n)))
    ∧ (∀ (h : Fin 4) (a : Fin 2) (t : Time) (xs : List (List Int × Bool)), axisMonitored i.spb h a = false →
        exec (.scanStall h a t xs) s = .next s)
    ∧ (∀ mask : Word, ∃ n : Nat, exec (.stallClr mask) s = .next { s with isl := { i with stall := n } }
        ∧ ∀ h : Fin 4, n.testBit h = (i.stall.testBit h && !(bit mask h && (List.range 2).all (fun a =>
            !axisMonitored i.spb h a || (decide (0 < (tabGet {} i.mon (2 * h + a)).moved)
              && decide (s.dev.now < (tabGet {} i.mon (2 * h + a)).moved + scanWin i.spb h * us))))))
    ∧ (∀ (carrier : Bool) (delta : Nat) (t : Time) (vs : List Int) (fired : Bool) (x : Mon),
      let y := x.sample carrier delta t vs fired
      (65536 * delta < (y.m - x.ref).natAbs → y.ref = y.m ∧ y.timer = 0 ∧ y.moved = t + 1)
      ∧ ((y.m - x.ref).natAbs ≤ 65536 * delta →
          y.ref = x.ref ∧ y.moved = x.moved ∧ y.timer = (if fired then x.timer + 10 else 0))
      ∧ (∀ v, vs.getLast? = some v → carrier = false → y.m = 65536 * v))

/-- 12 R327, R328, R343, R356: the island's checks of itself. A missed heartbeat, a disagreement over five exchanges, a deviating
oscillator, an uncorrectable memory error, a trap of running firmware and a block whose CRC fails are internal faults with
their codes, the last with the factory defaults; OSC_READY starts the self-test, which ends in WAIT, in LOCKOUT with a
fault latched meanwhile, or in INTERNAL. The 1 ms exchange counts differences between the halves. -/
def Obligations.IslandChecksOfItself : Prop :=
  ∀ (s : State), s.alive = true →
    let i := s.isl
    (i.up = true → s.dev.sec.halted = false → s.dev.sec.hbFrom ≤ s.dev.now → s.dev.sec.fwSwitch = none →
      exec .heartbeat s = .next (s.internalFault 0x82))
    ∧ ((i.up = false ∨ s.dev.sec.halted = true ∨ s.dev.now < s.dev.sec.hbFrom ∨ s.dev.sec.fwSwitch ≠ none) →
      exec .heartbeat s = .next s)
    ∧ exec .disagree s = .next (if i.up = true ∧ 5 ≤ i.differ then s.internalFault 0x81 else s)
    ∧ exec .osc s = .next (if i.st = .start then s else s.internalFault 0x83)
    ∧ exec .ramUe s = .next (if i.st = .start then s else s.internalFault 0x84)
    ∧ exec .fwTrap s = .next (if i.fwRun = true then s.internalFault 0x87 else s)
    ∧ (i.defaulted = false → i.up = true → exec .spbCrc s = .next { s.internalFault 0x85 with isl := (s.internalFault 0x85).isl.toDefaults })
    ∧ ((i.defaulted = true ∨ i.up = false) → exec .spbCrc s = .next s)
    ∧ (i.st = .start → s.dev.on domCORE = true →
      ∃ e : Dev, exec .safOscReady s = .next { s with dev := e, isl := { i with st := .selftest } } ∧ s.dev.Noted Ev.SAF_STATE e)
    ∧ (i.st ≠ .start → exec .safOscReady s = .next s)
    ∧ (i.st = .selftest → s.dev.on domCORE = true →
      ∃ e : Dev, exec (.safSelftestDone true) s = .next { s with dev := e, isl := { i with st := if i.fault.isSome then .lockout else .wait } }
        ∧ { s.dev with answered := true }.Noted Ev.SAF_STATE e)
    ∧ (i.st = .selftest → exec (.safSelftestDone false) s = .next (State.internalFault 0x86 { s with dev := { s.dev with answered := true } }))
    ∧ (∀ pass, i.st ≠ .selftest → exec (.safSelftestDone pass) s = .next { s with dev := { s.dev with answered := true } })
    ∧ (i.Shaped → (∀ (w : Fin 2) (p : Fin 8), i.discRuns w p = false) →
      ∃ j : Island, exec .safetyExchange s = .next { s with isl := j } ∧ j.differ = (if s.halvesDiffer then i.differ + 1 else 0)
        ∧ j.st = i.st ∧ j.fault = i.fault ∧ j.spb = i.spb
        ∧ ∀ (w : Fin 2) (p : Fin 8), (j.half w).guard p = { (i.half w).guard p with discMs := 0 })

/-- 12 R331, R345, R346: a restart pulse. Between 200 ms and 2 s both halves accept it: in LOCKOUT it clears a fault whose cause
has cleared and makes every class S pair start-up pending, and is refused with its event while the cause lasts; in RUN it
releases the pairs that wait for it, and in INTERNAL it does nothing. A halted safety processor, or a pulse far outside the
limits, changes nothing. -/
def Obligations.RestartPulsesClearAFault : Prop :=
  ∀ (s : State) (width : Nat), s.alive = true → s.dev.on domCORE = true → s.isl.Shaped →
    let i := s.isl
    (200000 ≤ width → width ≤ 2000000 → s.dev.sec.halted = false →
      (∀ c, i.st = .lockout → i.fault = some c → s.causeCleared c = true →
        ∃ t : State, exec (.lockoutReset width) s = .next t ∧ t.isl.fault = none ∧ t.isl.st = (if i.fwRun then .run else .wait)
          ∧ t.isl.pw.openAt = none ∧ t.isl.spb = i.spb ∧ t.dev.b (evtRawOff Ev.SAF_LOCKOUT_CLEARED) (Ev.SAF_LOCKOUT_CLEARED % 32) = true
          ∧ ∀ (w : Fin 2) (p : Fin 8), pairEn i.spb p = true → pairClass i.spb p % 2 = 1 →
              ((t.isl.half w).guard p).pending = true ∧ ((t.isl.half w).guard p).demand = ((i.half w).guard p).demand)
      ∧ (∀ c, i.st = .lockout → i.fault = some c → s.causeCleared c = false →
        ∃ e : Dev, exec (.lockoutReset width) s = .next { s with dev := e } ∧ s.dev.Noted Ev.SAF_RESET_REFUSED e)
      ∧ (i.st = .run → ∃ t : State, exec (.lockoutReset width) s = .next t ∧ t.isl.st = .run
          ∧ ∀ (w : Fin 2) (p : Fin 8), pairEn i.spb p = true → pairAnti i.spb p = false → ((i.half w).guard p).wait = true →
              ((i.half w).guard p).a = true → ((i.half w).guard p).b = true →
              ((t.isl.half w).guard p).demand = false ∧ ((t.isl.half w).guard p).wait = false)
      ∧ (i.st = .internal ∨ i.st = .wait ∨ i.st = .start ∨ i.st = .selftest → exec (.lockoutReset width) s = .next s))
    ∧ ((width < 190000 ∨ 2010000 < width ∨ s.dev.sec.halted = true) → exec (.lockoutReset width) s = .next s)

/-- 12 R358: password sessions. A presentation takes the bytes of PW_DATA unless one is under way or presentations are refused;
when the derivation ends, the verifier of the block in force opens the session and anything else counts a failure and notes
SAF_PW_FAIL, the fifth refusing presentations; closing, the 600 s timeout and the end of the refusal do what they say. -/
def Obligations.PasswordSessionsOpenAndClose : Prop :=
  ∀ (s : State), s.alive = true → s.dev.on domCORE = true →
    let p := s.isl.pw
    (∀ len, p.busy = none → s.pwRefusing = false →
      exec (.pwPresent len) s = .next { s with isl := { s.isl with pw := { p with
        busy := some (((List.range 16).flatMap (fun n => leBytes 4 (tabGet 0 p.data n).toNat)).take len) } } })
    ∧ (∀ len, (p.busy ≠ none ∨ s.pwRefusing = true) → exec (.pwPresent len) s = .next s)
    ∧ exec .pwClose s = .next { s with isl := { s.isl with pw := { p with openAt := none } } }
    ∧ (∀ pw, p.busy = some pw →
      let ok := s.isl.defaulted = false ∧ pw.length ≠ 0
        ∧ pbkdf2 pw (((spbBytes s.isl.spb).drop 16).take 16) (leAt (spbBytes s.isl.spb) 12 4) = ((spbBytes s.isl.spb).drop 32).take 32
      (ok → exec .pwDerivationDone s = .next { s with isl := { s.isl with pw := { p with
          busy := none, data := [], openAt := some s.dev.now, fails := 0 } } })
      ∧ (¬ ok → ∃ e : Dev, s.dev.Noted Ev.SAF_PW_FAIL e ∧ exec .pwDerivationDone s = .next { s with dev := e, isl := { s.isl with pw := { p with
          busy := none, data := [], fails := min 15 (p.fails + 1),
          refusing := if 5 ≤ p.fails + 1 then some s.dev.now else p.refusing } } }))
    ∧ (p.busy = none → exec .pwDerivationDone s = .next s)
    ∧ (∀ t, p.openAt = some t → exec .pwSessionTimeout s = .next { s with
        dev := s.dev.at (t + 600000 * ms), isl := { s.isl with pw := { p with openAt := none } } })
    ∧ (∀ t, p.refusing = some t → exec .pwRefusalEnd s = .next { s with
        dev := s.dev.at (t + 60000 * ms), isl := { s.isl with pw := { p with refusing := none, fails := 0 } } })

/-- 12 R353, R354, R359; 15 R445: SPB_LOAD. The first valid block after power-on is taken without a session and waits for the
tick; an invalid one is refused with SAF_SPB_DEFAULTED; later a block is denied without a session. The descriptor completes
OK, REJECTED or DENIED. -/
def Obligations.ParameterBlocksAreTakenOrRefused : Prop :=
  ∀ (s : State) (x : Desc) (bs : List Byte), s.alive = true → s.dev.on domCORE = true → x.typ = 0x0B → s.dev.takes x →
    descAligned x = true → descUnusedZero x [] = true → 4096 ≤ x.lenA → 4176 ≤ x.lenB → s.isl.up = true →
    readA x (some bs) = some bs →
    let d := s.dev.taken x
    let res := leBytes 4 (spbSeq s.isl.spb)
    (s.isl.accepted = false → spbValid (bs.take 4096) = true →
      ∃ e : Dev, d.Noted Ev.SAF_SPB_ACCEPTED e ∧ exec (.spbLoad x (some bs)) s = .next (s.engineLeaves { s with
        dev := e.done x stOK 0 res, isl := { s.isl with next := some (wordsOf (bs.take 4096)), accepted := true } }))
    ∧ (s.isl.accepted = false → spbValid (bs.take 4096) = false →
      ∃ e : Dev, d.Noted Ev.SAF_SPB_DEFAULTED e ∧ exec (.spbLoad x (some bs)) s = .next (s.engineLeaves { s with
        dev := e.done x stREJECTED 0 res }))
    ∧ (s.isl.accepted = true → s.isl.pw.openAt = none →
      ∃ e : Dev, d.Noted Ev.SAF_SPB_REJECT e ∧ exec (.spbLoad x (some bs)) s = .next (s.engineLeaves { s with
        dev := e.done x stDENIED 0 res }))

/-- 13 R368, R369, R376: a claim round. A unit whose checks pass and whose number no other unit's number exceeds wins it, becomes
active, and is due to take over when it did not win the round before; a unit that loses to another turns its shared stages
off, and one that had missed its partner's heartbeats is no longer qualified and notes PAIR_LINK_LOST. Equal priorities of the two
partners are noted once with PAIR_CFG_MISMATCH. A unit without PAIR_EN takes no part. -/
def Obligations.ClaimRoundsDecideWhoIsActive : Prop :=
  ∀ (s : State) (t : Time) (other : Option Nat), s.alive = true → s.dev.on domCORE = true →
    let d := s.dev
    let m := d.mdv
    let after := fun (e : Dev) => State.revoted (fun _ => { s with dev := e }) s
    let with' := fun (x : Mdv) => ({ d.at (t + 2000 * ns) with mdv := x } : Dev)
    let same := m.xlink = true ∧ m.partnerPrio = d.prio
    let won : Mdv := { m with
        bidding := true, won := true, winner := d.claimNum, active := true,
        wdog := false, handoverDue := m.handoverDue || !m.won, hbLost := false }
    let lost := fun (o : Nat) => ({ m with
        stages := false, active := false, bidding := s.mayBid, won := false,
        handoverDue := false, winner := o, sawOther := true, hbLost := false, yielding := false } : Mdv)
    (d.straps.pairEn = true → s.mayBid = true → (∀ o, other = some o → o ≤ d.claimNum) →
      (¬ same → exec (.claimRound t other) s = .next (after (with' { won with prioSeen := false })))
      ∧ (same → m.prioSeen = true → exec (.claimRound t other) s = .next (after (with' won)))
      ∧ (same → m.prioSeen = false → ∃ e : Dev, exec (.claimRound t other) s = .next (after e)
          ∧ (with' { won with prioSeen := true }).Noted Ev.PAIR_CFG_MISMATCH e))
    ∧ (∀ o, d.straps.pairEn = true → other = some o → (s.mayBid = false ∨ d.claimNum < o) → ¬ same →
      (m.hbLost = false → exec (.claimRound t other) s = .next (after (with' { lost o with prioSeen := false })))
      ∧ (m.hbLost = true → m.qualified = false → ∃ e : Dev, exec (.claimRound t other) s = .next (after e)
          ∧ (with' { lost o with prioSeen := false, image := false, matchRun := 0, since := [] }).Noted Ev.PAIR_LINK_LOST e)
      ∧ (m.hbLost = true → m.qualified = true → ∃ x e : Dev, exec (.claimRound t other) s = .next (after e)
          ∧ (with' { lost o with
              prioSeen := false, qualified := false, image := false, matchRun := 0, since := [] }).Noted Ev.PAIR_UNQUALIFIED x
          ∧ x.Noted Ev.PAIR_LINK_LOST e))
    ∧ (d.straps.pairEn = false → exec (.claimRound t other) s = .next s)

/-- 13 R369, R370, R371, R380, R382: HANDOVER turns the shared stages of the unit that is due on, and one that takes over from
another counts and stamps the fail-over with its event and marks its records when it holds no epoch; the claim watchdog and
a failing self-check turn every shared stage off and take the qualification away. -/
def Obligations.StagesTurnOnAtHandoverAndOffOnFailure : Prop :=
  ∀ (s : State), s.alive = true → s.dev.on domCORE = true → s.dev.straps.pairEn = true →
    let d := s.dev
    let m := d.mdv
    let after := fun (e : Dev) => State.revoted (fun _ => { s with dev := e }) s
    (∀ t, m.handoverDue = true → ∃ e : Dev, exec (.handover t) s = .next (after e)
      ∧ e.mdv.stages = true ∧ e.mdv.handoverDue = false ∧ e.mdv.active = m.active ∧ e.glb.handover = true
      ∧ (m.sawOther = false → e.regs = d.regs ∧ e.evt = d.evt ∧ e.mdv = { m with stages := true, handoverDue := false, dark := false })
      ∧ (m.sawOther = true → m.epoch = none → e.mdv.aged = d.f Reg.STP_PERS_CTL 10 6
          ∧ e.rd Reg.MDV_FAILOVER_CNT = satInc (d.rd Reg.MDV_FAILOVER_CNT)
          ∧ e.rd Reg.MDV_FAILOVER_DT_LO = loW (d.at t).now ∧ e.rd Reg.MDV_FAILOVER_DT_HI = hiW (d.at t).now
          ∧ e.b (evtRawOff Ev.PAIR_FAILOVER) (Ev.PAIR_FAILOVER % 32) = true
          ∧ ∀ a : Fin 8, (d.ax a).st ≠ .disabled → (e.ax a).drive = (d.ax a).activeDrive ∧ (e.ax a).standby = false))
    ∧ (∀ t, m.handoverDue = false → exec (.handover t) s = .next s)
    ∧ (m.qualified = false → exec .claimWatchdogExpiry s = .next (after { d with mdv := { m with
        stages := false, active := false, bidding := false, won := false, handoverDue := false, wdog := true,
        qualified := false, image := false, matchRun := 0, since := [] } }))
    ∧ (m.qualified = true → ∃ x e : Dev, exec .claimWatchdogExpiry s = .next (after e) ∧ x.Noted Ev.PAIR_UNQUALIFIED e
        ∧ x = { d with mdv := { m with
            stages := false, active := false, bidding := false, won := false, handoverDue := false,
            wdog := true, qualified := false, image := false, matchRun := 0, since := [] } })
    ∧ (∀ n, n < 7 → s.selfChk.testBit n = false → ∃ e : Dev, exec (.selfCheckFail n) s = .next (after e)
        ∧ e.mdv.stages = false ∧ e.mdv.active = false ∧ e.mdv.bidding = false ∧ e.mdv.qualified = false ∧ e.hch = d.hch
        ∧ (m.qualified = false → e.regs = d.regs))
    ∧ (∀ n, n < 7 → s.selfChk.testBit n = true → exec (.selfCheckFail n) s = .next s)

/-- 13 R375, R373, R374: a detection. With the checks of both units passing, the active unit calls its partner suspect and the
standby itself, with PAIR_DISAGREE; the standby counts the detection and starts it afresh; a unit whose own checks fail
while it is active drops its claim and stops bidding. Without the count that makes a detection, or without a cross-link, nothing happens. -/
def Obligations.DetectionsMakeTheStandbySuspect : Prop :=
  ∀ (s : State), s.alive = true → s.dev.on domCORE = true → s.dev.straps.pairEn = true →
    let d := s.dev
    let m := d.mdv
    let after := fun (e : Dev) => State.revoted (fun _ => { s with dev := e }) s
    (m.xlink = true → m.active = true → ∀ c, (c = .driveDetection true true ∨ c = .echoDetection true true) →
      ∃ x e : Dev, exec c s = .next (after e) ∧ x.Noted Ev.PAIR_DISAGREE e ∧ x = { d with mdv := { m with partnerSuspect := true } })
    ∧ (m.xlink = true → m.active = true → m.qualified = false → ∀ other c, (c = .driveDetection false other ∨ c = .echoDetection false other) →
      exec c s = .next (after { d with mdv := { m with
        stages := false, active := false, bidding := false, won := false,
        handoverDue := false, stopped := true, qualified := false, image := false, matchRun := 0, since := [] } }))
    ∧ (m.xlink = true → m.active = false → (∃ a : Fin 8, d.misN ≤ tabGet 0 m.driveMis a.val) →
      ∃ x e : Dev, exec (.driveDetection true true) s = .next (after e) ∧ x.Noted Ev.PAIR_DISAGREE e
        ∧ x.mdv = { m with driveMis := [], suspect := true } ∧ x.rd Reg.MDV_DRV_MIS_CNT = satInc (d.rd Reg.MDV_DRV_MIS_CNT)
        ∧ ∀ o, o ≠ Reg.MDV_DRV_MIS_CNT → x.rd o = d.rd o)
    ∧ (m.xlink = true → m.active = false → d.echoN ≤ m.echoMis →
      ∃ x e : Dev, exec (.echoDetection true true) s = .next (after e) ∧ x.Noted Ev.PAIR_DISAGREE e
        ∧ x.mdv = { m with echoMis := 0, suspect := true } ∧ x.rd Reg.MDV_ECMP_MIS_CNT = satInc (d.rd Reg.MDV_ECMP_MIS_CNT)
        ∧ ∀ o, o ≠ Reg.MDV_ECMP_MIS_CNT → x.rd o = d.rd o)
    ∧ (∀ own other, (m.xlink = false ∨ (m.active = false ∧ ∀ a : Fin 8, tabGet 0 m.driveMis a.val < d.misN)) →
        exec (.driveDetection own other) s = .next s)
    ∧ (∀ own other, (m.xlink = false ∨ (m.active = false ∧ m.echoMis < d.echoN)) → exec (.echoDetection own other) s = .next s)

/-- 13 R366, R374, R376, R379, R381: the cross-link. The standby keeps a tick announced to it and an epoch of the frame before its
own, takes over what a state image holds and then the epochs received meanwhile, and counts frames whose echoes differ; heartbeat loss takes the link down and leaves the next round
to judge; a link that comes up tells the partner's priority and qualification, and starts an image for an unqualified
standby.
13 R375, R381, R383: commands to a pair. SUSPECT_CLR clears the suspicion; YIELD stops an active unit from bidding while its
partner is qualified and not suspect, and is refused with its event otherwise; REQUAL makes the active unit send an image and
the standby ask for one. -/
def Obligations.CrossLinkMessagesAndCommandsOfAPair : Prop :=
  (∀ (s : State), s.alive = true → s.dev.on domCORE = true → s.dev.straps.pairEn = true →
      let d := s.dev
      let m := d.mdv
      let after := fun (e : Dev) => State.revoted (fun _ => { s with dev := e }) s
      (∀ dt, m.active = false → m.xlink = true → exec (.tickAnnouncement dt) s = .next { s with dev := { d with mdv := { m with announced := some dt } } })
      ∧ (∀ e : Epoch, m.active = false → m.xlink = true → e.num + 1 = d.glb.frameNum →
        exec (.epochReceived e) s = .next { s with dev := { d with mdv := { m with epoch := some (e, d.epochMatches e), digestOff := !e.digest } } })
      ∧ (∀ e : Epoch, e.num + 1 ≠ d.glb.frameNum → exec (.epochReceived e) s = .next s)
      ∧ (∀ (x : Epoch) (xs : List ImageChan), m.active = false → m.xlink = true → m.since = [] →
        ∃ e : Dev, exec (.stateImageReceived x xs) s = .next { s with dev := e }
          ∧ e.mdv = { m with image := true, matchRun := 0, asked := false } ∧ e.evt = d.evt
          ∧ e.f Reg.BRN_CODE_CTL 3 0 = x.famset % 16 ∧ e.rd Reg.BRN_CODE_SEED = x.seed &&& 0x7FFFFFFF
          ∧ (∀ o, o ≠ Reg.BRN_CODE_CTL → o ≠ Reg.BRN_CODE_SEED → e.rd o = d.rd o)
          ∧ (∀ c y, x.chans.find? (fun z => z.c = c) = some y → (x.chans.map (fun z => z.c)).Nodup → c < 512 →
              (e.chan c).gain = y.gain % 4 ∧ (e.chan c).clipRun = y.clipRun ∧ (e.chan c).quietRun = y.quietRun)
          ∧ ∀ c y, xs.find? (fun z => z.c = c) = some y → (xs.map (fun z => z.c)).Nodup → c < 512 →
              (e.stp1 c).hist = y.rows.take 16 ∧ (e.stp1 c).pred = y.pred.take 2 ∧ (e.stp1 c).zooms = epochWindows (d.stp1 c) y.wins)
      ∧ (∀ (x y : Epoch) (ok : Bool), m.active = false → m.xlink = true → m.since = [(y, ok)] → y.num = x.num + 1 → m.qualified = false →
        ∃ e : Dev, exec (.stateImageReceived x []) s = .next { s with dev := e } ∧ e.mdv.matchRun = (if ok then 1 else 0)
          ∧ e.mdv.since = [] ∧ e.mdv.image = true ∧ e.rd Reg.MDV_EPOCH_RX = y.num
          ∧ e.rd Reg.BRN_CODE_SEED = y.seed &&& 0x7FFFFFFF)
      ∧ (∀ fr recs, m.active = false → m.xlink = true → d.b Reg.MDV_ECMP_CTL 28 = true → fr = m.recFrame →
        let n := ((((recs.map recChan) ++ (m.recs.map recChan)).eraseDups).filter
          (fun c => chanDiffers (d.f Reg.MDV_ECMP_CTL 15 0) c m.recs recs)).length
        exec (.echoCompare fr recs) s = .next { s with dev := { d with mdv := { m with
          echoMis := if d.f Reg.MDV_ECMP_CTL 23 16 < n then m.echoMis + 1 else 0 } } })
      ∧ (m.active = true → ∀ fr recs dt x xs, exec (.echoCompare fr recs) s = .next s ∧ exec (.tickAnnouncement dt) s = .next s
          ∧ exec (.stateImageReceived x xs) s = .next s)
      ∧ (m.xlink = true → exec .pairHeartbeatLoss s = .next (after { d with mdv := { m with xlink := false, hbLost := true } }))
      ∧ (m.xlink = false → exec .pairHeartbeatLoss s = .next s)
      ∧ (∀ prio qual digest, max 1 prio ≠ d.prio → (m.active = false ∨ qual = true) →
        exec (.pairLinkUp prio qual digest) s = .next (after { d with mdv := { m with
          xlink := true, hbLost := false, prioSeen := false,
          partnerPrio := max 1 prio, partnerQual := qual, partnerSuspect := false, digestOff := !digest } }))
      ∧ (∀ prio qual digest, max 1 prio = d.prio → (m.active = false ∨ qual = true) →
        ∃ x e : Dev, exec (.pairLinkUp prio qual digest) s = .next (after e) ∧ x.Noted Ev.PAIR_CFG_MISMATCH e
          ∧ x = { d with mdv := { m with
              xlink := true, hbLost := false, prioSeen := true, partnerPrio := max 1 prio, partnerQual := qual,
              partnerSuspect := false, digestOff := !digest } }))
  ∧ (∀ (s : State), s.alive = true → s.dev.on domCORE = true →
      let d := s.dev
      let m := d.mdv
      let after := fun (e : Dev) => State.revoted (fun _ => { s with dev := e }) s
      let may := d.straps.pairEn = true ∧ m.active = true ∧ m.partnerQual = true ∧ m.partnerSuspect = false
      exec .suspectClr s = .next { s with dev := { d with mdv := { m with suspect := false } } }
      ∧ (may → exec .yield s = .next (after { d with mdv := { m with yielding := true } }))
      ∧ (¬ may → ∃ e : Dev, exec .yield s = .next (after e) ∧ d.Noted Ev.PAIR_YIELD_REFUSED e)
      ∧ (d.straps.pairEn = true → m.xlink = true → exec .requal s = .next { s with dev := { d with mdv :=
          if m.active then { m with imageLeft := 4210688, imageOut := none } else { m with asked := true } } })
      ∧ ((d.straps.pairEn = false ∨ m.xlink = false) → exec .requal s = .next s))

/-- 13 R385, R389, R392: CASC_CTL_WRITE. The disabled register takes the writable bits; enabling a master starts its wait for
the members, or fails with CASC_LATE when TICK_LEAD does not cover the delays; disabling forgets the cascade; an enabled
member keeps its register.
13 R386, R387, R389, R390, R391, R392, R393: messages of the cascade at a member. It repeats each 128 ns after it came, where it
drives its transmitters; one with a bad CRC is discarded and counted. A TICK message schedules its tick, or, late, one on
arrival with its counter and event; a SEED is kept for its tick; the first alignment corrects device time forward and stamps
the step, later ones only the delay; the loss of the master makes the member run free. A device that is no member does
none of them. At the master an alignment notes the member, with a SEED for one that joins later, and the end of its wait begins the cascade. -/
def Obligations.CascadeControlAndMessages : Prop :=
  (∀ (s : State) (val : Word), s.alive = true → s.dev.on domCORE = true →
      let d := s.dev
      let m := d.mdv
      let old := d.rd Reg.MDV_CASC_CTL
      let new := val.toNat &&& cascMask
      let after := fun (e : Dev) => State.revoted (fun _ => { s with dev := e }) s
      (bit old 12 = false → bit val 12 = false → exec (.cascCtlWrite val) s = .next (after (d.wrN Reg.MDV_CASC_CTL new)))
      ∧ (bit old 12 = false → bit val 12 = true → d.straps.cascRole = 2 →
        (d.leadOk = true → exec (.cascCtlWrite val) s = .next (after { (d.wrN Reg.MDV_CASC_CTL new).wr Reg.MDV_CASC_PEERS 0 with mdv :=
            { m with peerWait := true, leadFail := false, ticks := [], srcAt := 0 } }))
        ∧ (d.leadOk = false → ∃ x e : Dev, exec (.cascCtlWrite val) s = .next (after e) ∧ x.Noted Ev.CASC_LATE e
            ∧ x.mdv = { m with leadFail := true } ∧ x.b Reg.MDV_CASC_CTL 12 = false))
      ∧ (bit old 12 = false → bit val 12 = true → d.straps.cascRole = 1 →
        exec (.cascCtlWrite val) s = .next (after { d.wrN Reg.MDV_CASC_CTL new with mdv :=
          { m with joined := false, aligned := false, seeded := false, ticks := [] } }))
      ∧ (bit old 12 = true → bit val 12 = false →
        let g := if d.glb.src = .cascade
          then { d.glb with src := .internal, notBefore := d.now, deferred := false, deferFr := none } else d.glb
        exec (.cascCtlWrite val) s = .next (after { d.wrN Reg.MDV_CASC_CTL new with glb := g, mdv := { m with
          joined := false,
          aligned := false, seeded := false, peerWait := false, ticks := [], seed := none, laneUp := false, maxDelay := 0 } }))
      ∧ (bit old 12 = true → bit val 12 = true → d.straps.cascRole = 1 → exec (.cascCtlWrite val) s = .next s))
  ∧ (∀ (s : State), s.alive = true → s.dev.on domCORE = true →
      let d := s.dev
      let m := d.mdv
      let rep := fun (t : Time) (msg : CascMsg) => if d.drives then m.rep ++ [{ dt := t + 131072, up := false, msg := msg }] else m.rep
      let tickMsg := fun (fr : Word) (dt : Time) => ({ typ := 3, pos := 0, plate := 0, arg := 0, dt := dt, payload := fr.toNat } : CascMsg)
      let seedMsg := fun (fam : Fin 16) (code : Word) (dt : Time) =>
        ({ typ := 5, pos := 0, plate := 0, arg := fam, dt := dt, payload := code.toNat } : CascMsg)
      (∀ fr dt t, d.cascMember = true → m.joined = true →
        (t ≤ dt → exec (.cascTickMessage fr dt t true) s = .next { s with dev := { d.at t with mdv := { m with
            rep := rep t (tickMsg fr dt), ticks := m.ticks ++ [{ dt := dt, fr := fr, kind := .cascade }] } } })
        ∧ (dt < t → ∃ x e : Dev, exec (.cascTickMessage fr dt t true) s = .next { s with dev := e } ∧ x.Noted Ev.CASC_LATE e
            ∧ x.mdv = { m with rep := rep t (tickMsg fr dt), ticks := m.ticks ++ [{ dt := t, fr := fr, kind := .cascade }] }
            ∧ x.rd Reg.MDV_CASC_LATE_CNT = satInc (d.rd Reg.MDV_CASC_LATE_CNT) ∧ ∀ o, o ≠ Reg.MDV_CASC_LATE_CNT → x.rd o = d.rd o))
      ∧ (∀ fr dt t, d.cascMember = true → m.joined = false →
        exec (.cascTickMessage fr dt t true) s = .next { s with dev := { d with mdv := { m with rep := rep t (tickMsg fr dt) } } })
      ∧ (∀ fr dt t, d.cascMember = false → exec (.cascTickMessage fr dt t true) s = .next s)
      ∧ (∀ (fam : Fin 16) code dt t, d.cascMember = true →
        let y : Mdv := { m with rep := rep t (seedMsg fam code dt), seed := some { dt := dt, famBase := fam, code := code }, seeded := true }
        (m.aligned = false ∨ m.joined = true → exec (.cascSeedMessage fam code dt t true) s = .next { s with dev := { d.at t with mdv := y } })
        ∧ (m.aligned = true → m.joined = false → ∃ x e : Dev, exec (.cascSeedMessage fam code dt t true) s = .next { s with dev := e }
            ∧ x.Noted Ev.CASC_JOIN e ∧ x = { d.at t with mdv := { y with joined := true } }))
      ∧ (∀ (fam : Fin 16) code dt t, d.cascMember = false → exec (.cascSeedMessage fam code dt t true) s = .next s)
      ∧ (∀ (fam : Fin 16) fr code dt t,
        let bad : Res := .next (if d.cascOn then { s with dev := (d.at t).inc Reg.MDV_CASC_CRC_CNT } else s)
        exec (.cascTickMessage fr dt t false) s = bad ∧ exec (.cascSeedMessage fam code dt t false) s = bad
          ∧ exec (.cascSyncMessage dt t false) s = bad)
      ∧ (∀ (pos : Fin 16) delay step, d.cascMember = true → m.seeded = false →
        ∃ e : Dev, exec (.cascAlign pos delay step) s = .next { s with dev := e } ∧ e.rd Reg.MDV_CASC_DLY = word (delay % 2 ^ 24)
          ∧ e.mdv = { m with laneUp := true, aligned := true } ∧ e.evt = d.evt
          ∧ (m.aligned = true → e.tim = d.tim ∧ ∀ o, o ≠ Reg.MDV_CASC_DLY → e.rd o = d.rd o)
          ∧ (m.aligned = false → e.tim = (if 0 < step then (d.at (d.now + step.toNat)).tim else d.tim)
              ∧ e.rd Reg.MDV_DT_STEP_LO = loW (ofSigned 64 step) ∧ e.rd Reg.MDV_DT_STEP_HI = hiW (ofSigned 64 step)))
      ∧ (∀ (pos : Fin 16) delay step, d.cascOn = true → d.cascRole = 2 → m.peerWait = false → d.b Reg.MDV_CASC_PEERS pos = false →
        ∃ e : Dev, exec (.cascAlign pos delay step) s = .next { s with dev := e } ∧ e.b Reg.MDV_CASC_PEERS pos = true
          ∧ e.mdv.maxDelay = max m.maxDelay (delay % 2 ^ 24) ∧ e.mdv.seed.isSome = true ∧ e.free = d.free + 1)
      ∧ (∀ (pos : Fin 16) delay step, d.cascOn = true → d.cascRole = 2 → m.peerWait = false → d.b Reg.MDV_CASC_PEERS pos = true →
        ∃ e : Dev, exec (.cascAlign pos delay step) s = .next { s with dev := e } ∧ e.b Reg.MDV_CASC_PEERS pos = true
          ∧ e.mdv = { m with laneUp := true, maxDelay := max m.maxDelay (delay % 2 ^ 24) } ∧ ∀ o, o ≠ Reg.MDV_CASC_PEERS → e.rd o = d.rd o)
      ∧ (∀ (pos : Fin 16) delay step, d.cascOn = false → exec (.cascAlign pos delay step) s = .next s)
      ∧ (d.cascMember = true → m.freerun = false → ∃ x e : Dev, exec .cascMasterLost s = .next { s with dev := e }
          ∧ x.Noted Ev.CASC_MASTER_LOST e ∧ x = { d with mdv := { m with
              freerun := true, joined := false, aligned := false,
              seeded := false, ticks := [], laneUp := false } })
      ∧ (d.cascMember = false → exec .cascMasterLost s = .next s)
      ∧ (m.peerWait = true → ∃ e : Dev, exec .cascPeerWaitExpiry s = .next { s with dev := e } ∧ e.mdv.peerWait = false
          ∧ e.mdv.seed.isSome = true ∧ e.mdv.ticks = m.ticks ∧ e.free = d.free + 1)
      ∧ (m.peerWait = false → exec .cascPeerWaitExpiry s = .next s))

/-- 14 R402, R405, R407, R409, R427, R428: the link trains, comes up, recovers and goes down. A lane whose ALIGN sets carry the
expected number and config is aligned; with all lanes in use aligned the link is up, with its events, sends FLOW and what
waits; 16 code errors among 1,024 characters, two lane markers missing in a row, ALIGN or lost
deskew on a lane in use, or RETRAIN takes it to RECOVERY, counted, the latter at full width; in RECOVERY it drops to the largest
aligned block, or goes down and forgets what it held.
14 R403, R407, R411: the line. Every character is read back from the ten bits that code it at the same disparity; a receiver in
compatibility mode recovers the symbols that were precoded; the idle generator of a lane never stands at zero. -/
def Obligations.LinkTrainsRecoversAndGoesDown : Prop :=
  ∀ (s : State), s.alive = true → s.dev.on domCORE = true →
    let d := s.dev
    let l := d.lnk
    (∀ (plus : Bool) (x : Sym), x ∈ allSyms → decodeSym plus (x.encode plus).1 = some x)
    ∧ (∀ (p : Nat) (gs : List Nat), (∀ g, g ∈ gs → g < 4) → unprecode p (precode p gs) = gs)
    ∧ (∀ k, k < 16 → idleSeed k ≠ 0) ∧ (∀ x : BitVec 16, x ≠ 0 → (idleStep x).2 ≠ 0)
    ∧ (∀ (k : Fin 16) (num cfg : Nat), d.laneTrains k = true → cfg % 64 = d.laneCfg → num = d.laneNumber k →
      exec (.laneAligned k num cfg) s = .next { s with dev := { d with lnk := { l with
        aligned := setBit l.aligned k, disp := clrBit l.disp k, partnerV2 := cfg.testBit 6, eq := tabPut 0 l.eq k.val (d.rd (Reg.LNK_EQ k)) } } })
    ∧ (∀ (k : Fin 16) (num cfg : Nat), d.laneTrains k = true → cfg % 64 ≠ d.laneCfg → l.cfgMismatch = false →
      ∃ x e : Dev, exec (.laneAligned k num cfg) s = .next { s with dev := e } ∧ x.Noted Ev.LNK_CFG_MISMATCH e
        ∧ x = { d with lnk := { l with cfgMismatch := true } })
    ∧ (∀ (k : Fin 16) (num cfg : Nat), d.laneTrains k = false → exec (.laneAligned k num cfg) s = .next s)
    ∧ ((l.st = .aligning ∨ l.st = .recovery) → l.aligned &&& d.lanesInUse = d.lanesInUse → l.hotPending = false →
      let up := { d with lnk := { l with
        st := .up, upSince := true, nomWidth := if l.degraded then l.nomWidth else l.width,
        nomRate := if l.degraded then l.nomRate else l.rate } }
      ∃ e : Dev, up.Noted Ev.LNK_UP e
        ∧ (l.upSince = true → exec .lnkUp s = .next (s.tidied (fun _ => e.sendFlow.pump)))
        ∧ (l.upSince = false → ∃ e2 : Dev, e.sendFlow.Noted Ev.PWR_RESET e2 ∧ exec .lnkUp s = .next (s.tidied (fun _ => e2.pump))))
    ∧ (l.st = .up → ∀ c : Instr, (c = .lnkRecovery .deskew ∨ (∃ k : Fin 16, d.lanesInUse.testBit k.val = true ∧ c = .lnkRecovery (.align k))
          ∨ (∃ (k : Fin 16) (a b : List (BitVec 10)), d.lanesInUse.testBit k.val = true ∧ markerSeen (d.laneSent k) a = false ∧ markerSeen (d.laneSent k) b = false
              ∧ c = .lnkRecovery (.markers k a b)) ∨ c = .retrain) →
      ∃ m : Dev, exec c s = .next { s with dev := m.raiseOnce Ev.LNK_RECOVERY } ∧ m.lnk.st = .recovery ∧ m.lnk.retry = l.retry
        ∧ m.lnk.txq = l.txq ∧ m.lnk.aligned = 0 ∧ m.lnk.retune = none ∧ m.rd Reg.LNK_RECOVERY_CNT = satInc (d.rd Reg.LNK_RECOVERY_CNT)
        ∧ (∀ o, o ≠ Reg.LNK_RECOVERY_CNT → m.rd o = d.rd o)
        ∧ (c = .retrain → m.lnk.degraded = false ∧ m.lnk.laneBase = 0)
        ∧ (c ≠ .retrain → m.lnk.degraded = l.degraded ∧ (l.degraded = true → d.straps.linkMode = false → m.lnk.width = l.width)))
    ∧ (l.st = .up → ∀ (k : Fin 16) (cs : List (BitVec 10)), cs.length ≤ 1024 →
      let r := receiveChars cs (l.disp.testBit k)
      let m := { d.add (Reg.LNK_CODE_ERR_CNT k) r.1 with lnk := { l with disp := putBit l.disp k r.2 } }
      (d.lanesInUse.testBit k = true → 16 ≤ r.1 →
        exec (.lnkRecovery (.codes k cs)) s = .next { s with dev := m.recover false } ∧ (m.recover false).lnk.st = .recovery)
      ∧ ((d.lanesInUse.testBit k = false ∨ r.1 < 16) → exec (.lnkRecovery (.codes k cs)) s = .next { s with dev := m }))
    ∧ (l.st = .up → ∀ (k : Fin 16) (a b : List (BitVec 10)),
      (d.lanesInUse.testBit k = false ∨ markerSeen (d.laneSent k) a = true ∨ markerSeen (d.laneSent k) b = true →
        exec (.lnkRecovery (.markers k a b)) s = .next s)
      ∧ (d.lanesInUse.testBit k = false → exec (.lnkRecovery (.align k)) s = .next s))
    ∧ (l.st ≠ .up → (∀ k, exec (.lnkRecovery k) s = .next s) ∧ exec .retrain s = .next s)
    ∧ (∀ c b, l.st = .recovery → d.straps.linkMode = false → l.width ≠ 0 → l.aligned &&& d.lanesInUse ≠ d.lanesInUse →
        bestBlock (l.aligned >>> l.laneBase) (2 ^ l.width) (l.width - 1) = some (c, b) →
      ∃ x e : Dev, exec .lnkLaneDrop s = .next { s with dev := e } ∧ x.Noted Ev.LNK_LANE_DROP e
        ∧ x = { d with lnk := { l with width := c, laneBase := l.laneBase + b, degraded := true } })
    ∧ (l.st = .recovery → ∃ x e : Dev, exec .lnkDown s = .next { s with dev := e } ∧ x.Noted Ev.LNK_DOWN e
        ∧ x = { d with lnk := x.lnk } ∧ x.lnk.st = .down ∧ x.lnk.retry = [] ∧ x.lnk.txq = [] ∧ x.lnk.txNext = 0 ∧ x.lnk.rxExp = 0
        ∧ x.lnk.reads = l.reads)
    ∧ (l.st ≠ .recovery → exec .lnkLaneDrop s = .next s ∧ exec .lnkDown s = .next s)

/-- 14 R403, R404, R412, R420, R421, R422, R423, R424: packets. A completion ends its read, or is counted and noted when no read expects it; FLOW
sets the credits; an ACK releases every packet it covers, and a NAK also counts and replays; bad packets are counted and
answered with one NAK, and a duplicate with an ACK; ACKs name the last packet accepted; the replay timer replays from the
oldest; a read without a completion times out. The start of a packet ends the freeze of the lanes' adaptation; characters that
are no code, have the wrong disparity or are K-codes without a use are counted on their lane, and make their packet bad. -/
def Obligations.PacketsAreAcknowledgedAndReplayed : Prop :=
  ∀ (s : State), s.alive = true → s.dev.on domCORE = true → s.dev.lnk.st = .up →
    let d := s.dev
    let l := d.lnk
    let sop : Dev := { d with lnk := { l with frozen := 0 } }
    let then_ := fun (e : Dev) => s.tidied (fun _ => e)
    (∀ tag status bytes, l.reads.find? (fun r => r.tag = tag) = none →
      ∃ x e : Dev, exec (.cplReceived tag status bytes) s = .next (then_ e) ∧ x.Noted Ev.LNK_UNEXPECTED_CPL e
        ∧ x = (d.rxAccept .completion).inc Reg.LNK_UNEXP_CPL_CNT)
    ∧ (∀ tag status bytes r, l.reads.find? (fun r => r.tag = tag) = some r →
      ∃ x : Dev, exec (.cplReceived tag status bytes) s = .next (then_ x.pump) ∧ x = { d with lnk := x.lnk } ∧ x.lnk.txq = l.txq
        ∧ x.lnk.rxExp = (l.rxExp + 1) % 4096
        ∧ x.lnk.reads = if status ≠ 0 ∨ 4 * r.words ≤ r.got + bytes then l.reads.filter (fun y => y.tag ≠ tag)
            else l.reads.map (fun y => if y.tag = tag then { y with got := r.got + bytes } else y))
    ∧ (∀ ph nph ch pd cd, exec (.flowReceived ph nph ch pd cd) s = .next (then_ (Dev.pump { d with lnk := { l with
        frozen := 0, advPh := ph % 256, advNph := nph % 256, advCh := ch % 256, advPd := pd % 4096, advCd := cd % 4096,
        flowSeen := true } })))
    ∧ (∀ n, ∃ x : Dev, x = { d with lnk := x.lnk } ∧ x.lnk.retry = l.retry.filter (fun p => !seqCovered p.seq n) ∧ x.lnk.txq = l.txq
        ∧ exec (.ackReceived n) s = .next (then_ x.pump)
        ∧ exec (.nakReceived n) s = .next (then_ (((x.inc Reg.LNK_NAK_RX_CNT).raiseOnce Ev.LNK_REPLAY).replay).pump))
    ∧ exec (.badPacketReceived .duplicate) s = .next { s with dev := { d with lnk := { l with frozen := 0, ackDue := true } } }
    ∧ exec (.badPacketReceived .ebp) s = .next { s with dev := sop }
    ∧ (l.nakOut = false → ∃ e : Dev, exec (.badPacketReceived .wrongSeq) s = .next { s with dev := e }
        ∧ e.lnk = { l with frozen := 0, nakOut := true, sentNak := some ((l.rxExp + 4095) % 4096) }
        ∧ e.rd Reg.LNK_NAK_TX_CNT = satInc (d.rd Reg.LNK_NAK_TX_CNT) ∧ ∀ o, o ≠ Reg.LNK_NAK_TX_CNT → e.rd o = d.rd o)
    ∧ (l.nakOut = true → exec (.badPacketReceived .wrongSeq) s = .next { s with dev := sop }
        ∧ exec (.badPacketReceived .crc) s = .next { s with dev := (sop.inc Reg.LNK_CRC_ERR_CNT).raiseOnce Ev.LNK_CRC_ERR })
    ∧ (∀ (k : Fin 16) (cs : List (BitVec 10)),
      let r := receiveChars cs (l.disp.testBit k)
      let m := { d.add (Reg.LNK_CODE_ERR_CNT k) r.1 with lnk := { l with frozen := 0, disp := putBit l.disp k r.2 } }
      (0 < r.1 → l.nakOut = true → exec (.badPacketReceived (.code k cs)) s = .next { s with
        dev := (m.inc Reg.LNK_CRC_ERR_CNT).raiseOnce Ev.LNK_CRC_ERR })
      ∧ (r.1 = 0 → exec (.badPacketReceived (.code k cs)) s = .next { s with dev := m }))
    ∧ exec (.badPacketReceived (.malformed none)) s = .next { s with
        dev := ((sop.rxAccept (.posted 0)).inc Reg.LNK_MALFORMED_CNT).raiseOnce Ev.LNK_MALFORMED }
    ∧ (∀ t, exec (.badPacketReceived (.malformed (some t))) s = .next { s with
        dev := (((sop.rxAccept .nonPosted).inc Reg.LNK_MALFORMED_CNT).raiseOnce Ev.LNK_MALFORMED).complete t 1 [] })
    ∧ (l.ackDue = true → exec .ackSend s = .next { s with dev := { d with lnk := { l with
        sentAck := some ((l.rxExp + 4095) % 4096), rxUnacked := 0, ackDue := false } } })
    ∧ (l.ackDue = false → exec .ackSend s = .next s)
    ∧ exec .flowSend s = .next { s with dev := { d with lnk := { l with sentFlow := l.sentFlow + 1 } } }
    ∧ (l.retry = [] → exec .replayTimer s = .next s)
    ∧ (∀ p q, l.retry = p :: q → ¬ (l.replaySeq = p.seq ∧ 3 ≤ l.replays) →
      exec .replayTimer s = .next { s with dev := { d with lnk := { l with
        replaySeq := p.seq,
        replays := if l.replays ≠ 0 ∧ l.replaySeq = p.seq then l.replays + 1 else 1 } } })
    ∧ (∀ tag r, l.reads.find? (fun r => r.tag = tag) = some r → r.reader = .buffer → l.hotPending = false →
      ∃ m : Dev, exec (.lnkCplTimeout tag) s = .next (then_ (m.raiseOnce Ev.LNK_CPL_TIMEOUT))
        ∧ m.lnk.reads = l.reads.filter (fun y => y.tag ≠ tag) ∧ (tag, d.now + ms) ∈ m.lnk.deadTags
        ∧ m.rd Reg.LNK_CPL_TIMEOUT_CNT = satInc (d.rd Reg.LNK_CPL_TIMEOUT_CNT)
        ∧ ∀ o, o ≠ Reg.LNK_CPL_TIMEOUT_CNT → m.rd o = d.rd o)

/-- 14 R412, R429, R430; 16 R476; 01 R39: RETUNE runs on half the width away from its lane and ends back at full width, once the host has
switched and every lane has aligned, or fails; it
is refused at x1, in compatibility mode and while one runs. A hot reset aligns again with the reads and descriptors kept for
its last step and closes the password session; the fuses and the domains powered stay. ADAPT_FREEZE freezes its lane. -/
def Obligations.RetunesAndHotResets : Prop :=
  ∀ (s : State), s.alive = true → s.dev.on domCORE = true →
    let d := s.dev
    let l := d.lnk
    (l.st = .up → d.straps.linkMode = false → l.width ≠ 0 → l.retune = none →
      let half := 2 ^ (l.nomWidth - 1)
      let lane := d.f Reg.LNK_RETUNE_CTL 3 0
      let blk := if lane < half then 1 else 0
      exec .retune s = .next { s with dev := { d with lnk := { l with
        width := l.nomWidth - 1, laneBase := blk * half, aligned := l.aligned &&& ((2 ^ half - 1) <<< (blk * half)),
        retune := some { lane := lane, block := blk, rxSwitched := false } } } })
    ∧ ((l.st ≠ .up ∨ d.straps.linkMode = true ∨ l.width = 0 ∨ l.retune ≠ none) →
      ∃ e : Dev, exec .retune s = .next { s with dev := e } ∧ d.Noted Ev.LNK_RETUNE_FAIL e)
    ∧ (∀ r, l.retune = some r → l.st = .up → ∀ w b, exec (.lchReceived w b) s = .next (if w = l.width ∧ b = r.block
        then { s with dev := { d with lnk := { l with retune := some { r with rxSwitched := true } } } } else s))
    ∧ (∀ r, l.retune = some r →
      (r.rxSwitched = true → (∀ k, k < 2 ^ l.nomWidth → l.aligned.testBit k = true) →
        ∃ x e : Dev, exec .lnkRetuneDone s = .next { s with dev := e } ∧ x.Noted Ev.LNK_RETUNE_DONE e
          ∧ x = { d with lnk := { l with width := l.nomWidth, laneBase := 0, retune := none, degraded := false } })
      ∧ ((r.rxSwitched = false ∨ ∃ k, k < 2 ^ l.nomWidth ∧ l.aligned.testBit k = false) → exec .lnkRetuneDone s = .next s)
      ∧ ∃ y f : Dev, exec .lnkRetuneFail s = .next { s with dev := f } ∧ y.Noted Ev.LNK_RETUNE_FAIL f
          ∧ y = { d with lnk := { l with retune := none, degraded := true } })
    ∧ (l.retune = none → exec .lnkRetuneDone s = .next s ∧ exec .lnkRetuneFail s = .next s ∧ ∀ w b, exec (.lchReceived w b) s = .next s)
    ∧ (∀ k : Fin 16, exec (.adaptFreeze k) s = .next { s with dev := { d with lnk := { l with frozen := setBit l.frozen k } } })
    ∧ (l.st ≠ .eidle → ∃ t : State, exec .hotReset s = .next t ∧ t.dev.lnk.st = .aligning ∧ t.dev.lnk.hotPending = true
        ∧ t.dev.lnk.reads = l.reads ∧ t.dev.dsc.flights = d.dsc.flights ∧ t.dev.pwr.resetCause = 2
        ∧ t.dev.pwr.domains = d.pwr.domains ∧ t.dev.wave.mem.cells = d.wave.mem.cells ∧ t.isl.st = s.isl.st
        ∧ t.isl.spb = s.isl.spb ∧ t.isl.pw.openAt = none ∧ t.fuses = s.fuses)
    ∧ (l.st = .eidle → exec .hotReset s = .next s)
    ∧ (l.st ≠ .eidle → exec .eidleExit s = .next s)

/-- 01 R23, R39; 14 R424: a register read of the host is answered with one completion: UNSUPPORTED at an unmapped offset, and
the value otherwise. A read of the low half of device time captures its high half for the host, so that a later read of the
high half gives the half that belongs to it. -/
def Obligations.RegisterReadsAreAnsweredAndPairsCaptured : Prop :=
  ∀ (s : State) (off tag : Nat), s.answers → off ≠ Reg.SEC_DBG_DATA →
    let a := { s with dev := s.dev.rxAccept .nonPosted }
    (rowOf off = none → exec (.loRegisterRead .host off tag) s = .next { s with dev := (s.dev.rxAccept .nonPosted).complete tag 1 [] })
    ∧ (rowOf off ≠ none → exec (.loRegisterRead .host off tag) s
        = .next (State.onDev (fun e => e.complete tag 0 (leBytes 4 (a.readVal .host off).toNat)) (a.readEffect .host off)))
    ∧ (off = Reg.GLB_DT_LO → a.readVal .host off = loW s.dev.now
        ∧ ∀ t, exec (.loRegisterRead .host off tag) s = .next t → t.readVal .host Reg.GLB_DT_HI = hiW s.dev.now)

/-- 15 R442, R443, R445, R446: descriptors that complete or wait at dispatch. Each type, dispatched, does what its engine does at
once: NOP completes OK, and a NOP with a byte it does not use set completes BAD_DESC; ACQ_START, ACQ_STOP and PLATE_ARM wait
for the tick; a stream, a drain and a calibration run are queued; a vote is cast and completes with the domains powered; an
image waits for the tick. A descriptor whose domain is off completes NOT_READY. -/
def Obligations.DescriptorsDoWhatTheirTypeSays : Prop :=
  ∀ (s : State) (x : Desc), s.alive = true → s.dev.on domCORE = true → s.dev.takes x → descAligned x = true →
    let d := s.dev.taken x
    let end_ := fun (e : Dev) => s.engineLeaves { s with dev := e }
    (x.typ = 0x00 → descNoA x = true → descNoB x = true →
      (descUnusedZero x [] = true → exec (.nop x) s = .next (end_ (d.finish x stOK)))
      ∧ (descUnusedZero x [] = false → ∃ e : Dev, d.Noted Ev.DSC_BAD_DESC e ∧ exec (.nop x) s = .next (end_ (e.finish x stBAD_DESC))))
    ∧ (x.typ = 0x01 → descNoA x = true → descNoB x = true → descUnusedZero x [] = true →
      exec (.acqStart x) s = .next (end_ (if d.on domACQ = true ∧ d.leaving domACQ = false
        then { d with dsc := { d.dsc with atTick := d.dsc.atTick ++ [(.acqStart, x)] } } else d.finish x stNOT_READY)))
    ∧ (x.typ = 0x02 → descNoA x = true → descNoB x = true → descUnusedZero x [32, 33] = true → descPar x 32 1 ≤ 1 →
      exec (.acqStop x) s = .next (end_ (if (descPar x 32 1 = 1 ∧ d.on domACQ = false) ∨ (descPar x 33 1 ≠ 0 ∧ d.on domWAVE = false)
        then d.finish x stNOT_READY else { d with dsc := { d.dsc with atTick := d.dsc.atTick ++ [(.acqStop, x)] } })))
    ∧ (x.typ = 0x06 → descNoA x = true → descNoB x = true → descUnusedZero x [32, 33] = true → descPar x 32 1 < 8 → descPar x 33 1 ≤ 1 →
      exec (.plateArm x) s = .next (end_ (if d.on domWAVE = true ∧ d.leaving domWAVE = false ∧ d.wave.mem.ready = true
        then { d with dsc := { d.dsc with atTick := d.dsc.atTick ++ [(.plateArm, x)] } } else d.finish x stNOT_READY)))
    ∧ (x.typ = 0x04 → descNoB x = true → descUnusedZero x [32, 33, 34, 35] = true → 65568 ≤ x.lenA →
      (d.on domACQ = true → d.dsc.stream = none → d.dsc.waiting = none →
        exec (.streamEcho x) s = .next (end_ { d with dsc := { d.dsc with
          stream := some { desc := x, offset := 0, blocks := 0, firstFrame := 0, lost := 0, full := false } } }))
      ∧ (d.on domACQ = true → d.dsc.stream ≠ none →
        exec (.streamEcho x) s = .next (end_ { d with dsc := { d.dsc with streamQ := d.dsc.streamQ ++ [x] } }))
      ∧ (d.on domACQ = false → exec (.streamEcho x) s = .next (end_ (d.finish x stNOT_READY))))
    ∧ (x.typ = 0x05 → descNoB x = true → descUnusedZero x [32, 33, 34, 35] = true → 1 ≤ descPar x 34 2 → descPar x 34 2 ≤ 512 →
      descPar x 32 2 + descPar x 34 2 ≤ 512 → ((dumpChans x).flatMap s.dev.dumpOf).length ≤ x.lenA →
      let bs := (dumpChans x).flatMap s.dev.dumpOf
      exec (.histDump x) s = .next (end_ (if d.on domACQ = true
        then (Dev.memWrite { d with dsc := { d.dsc with dumps := d.dsc.dumps ++ [{ desc := x, len := bs.length, age := 0 }] } }
          (some actHIST) x.addrA bs).dumpsGo
        else d.finish x stNOT_READY)))
    ∧ (x.typ = 0x07 → descNoB x = true → descUnusedZero x [32, 36, 37, 38, 39, 40, 41, 42, 43] = true → descPar x 32 1 < 8 →
      descPar x 40 4 * s.dev.drainSlot (descPar x 32 1) ≤ x.lenA →
      exec (.plateDrain x) s = .next (end_ (if d.on domWAVE = true ∧ d.on domMEM = true ∧ d.wave.mem.ready = true
        then Dev.drainsGo { d with dsc := { d.dsc with drains := d.dsc.drains ++ [{
          desc := x, plate := descPar x 32 1,
          next := descPar x 36 4, left := descPar x 40 4, moving := false, pos := 0, written := 0, overwritten := 0,
          firstOver := 0, memErr := false }] } }
        else d.finish x stNOT_READY)))
    ∧ (x.typ = 0x08 → calRunGood x = true → d.on (kindDomain (descPar x 32 1)) = true →
      (d.prf.active ≠ none → d.prf.queue.length < 8 →
        exec (.calRun x) s = .next (end_ { d with prf := { d.prf with queue := d.prf.queue ++ [calRunOf x] } }))
      ∧ (d.prf.active ≠ none → 8 ≤ d.prf.queue.length → exec (.calRun x) s = .next (end_ (d.finish x stBUSY)))
      ∧ (d.prf.active = none → d.prf.queue = [] → exec (.calRun x) s = .next (end_ (d.runBegin (calRunOf x)))))
    ∧ (x.typ = 0x0C → descNoA x = true → descNoB x = true → descUnusedZero x [32, 33] = true → descPar x 32 2 % 4 = 0 →
      descPar x 32 2 < 512 → d.critHold = false → d.pwr.failed = false →
      let m := { d with pwr := { d.pwr with votes := setAt d.pwr.votes 0 (descPar x 32 2 &&& 0x1FC) } }
      m.target = (if d.pwr.seq.isSome then d.pwr.goal else d.pwr.domains) →
      exec (.powerVote x) s = .next (end_ (m.done x stOK 0 (leBytes 2 (d.pwr.domains % 512))).pwr1))

/-- 15 R445, R449, R450, R453; 02 R54; 17 R490, R491: descriptors that load. A read that failed completes READ_FAIL; an image that
passes waits for the tick and one with a format failure takes the registers to their defaults; a code table that passes its
own checks waits for the tick and one that does not is rejected with its event; a firmware image is verified once the
island can take it and no session is needed, and denied otherwise. -/
def Obligations.LoadsAreCheckedBeforeTheyAct : Prop :=
  ∀ (s : State) (x : Desc) (data : Option (List Byte)), s.alive = true → s.dev.on domCORE = true → s.dev.takes x →
    descAligned x = true → descNoB x = true →
    let d := s.dev.taken x
    let end_ := fun (e : Dev) => s.engineLeaves { s with dev := e }
    (x.typ = 0x03 → descUnusedZero x [] = true → d.glb.image = none →
      (data = none → exec (.configApply x data) s = .next (end_ (d.finish x stREAD_FAIL)))
      ∧ (∀ bs id vals, data = some bs → bs.length = x.lenA → parseConfig bs = some (id, vals) →
          exec (.configApply x data) s = .next (end_ { d with glb := { d.glb with image := some { ident := id, vals := vals, flight := x } } }))
      ∧ (∀ bs, data = some bs → bs.length = x.lenA → parseConfig bs = none →
          ∃ m e : Dev, m.Noted Ev.CFG_FORMAT e ∧ m.glb = { d.glb with toDefaults := true } ∧ m.f Reg.DSC_CFG_STATUS 9 8 = 2
            ∧ exec (.configApply x data) s = .next (end_ (e.finish x stFORMAT))))
    ∧ (x.typ = 0x09 → descUnusedZero x [32] = true → descPar x 32 1 = 2 →
      (d.on domACQ = false → exec (.tableLoad x data) s = .next (end_ (d.finish x stNOT_READY)))
      ∧ (d.on domACQ = true → data = none → exec (.tableLoad x data) s = .next (end_ (d.finish x stREAD_FAIL)))
      ∧ (∀ bs, d.on domACQ = true → data = some bs → bs.length = x.lenA → codeTableOk bs = true →
          ∃ e : Dev, exec (.tableLoad x data) s = .next (end_ (e.finish x stOK)) ∧ e = { d with brn := { d.brn with shadow := e.brn.shadow } }
            ∧ ∃ t, e.brn.shadow = some t ∧ ∀ k, k < 4096 → tabGet 0 t k = leAt bs (4 + 2 * k) 2)
      ∧ (∀ bs, d.on domACQ = true → data = some bs → bs.length = x.lenA → codeTableOk bs = false →
          ∃ e : Dev, d.Noted Ev.BRN_TABLE_REJECT e ∧ exec (.tableLoad x data) s = .next (end_ (e.finish x stFORMAT))))
    ∧ (x.typ = 0x0A → descUnusedZero x [] = true → s.fwReady = true →
      (s.fwAllowed = true → data = none → exec (.fwLoad x data) s = .next (end_ (d.finish x stREAD_FAIL)))
      ∧ (∀ bs, s.fwAllowed = true → data = some bs → exec (.fwLoad x data) s = .next (end_ { d with sec := { d.sec with
          fw := some {
            desc := x, slot := leAt bs 6 1, version := word (leAt bs 8 4), reason := s.fwReason bs,
            runTime := s.isl.fwRun } } }))
      ∧ (s.fwAllowed = false → exec (.fwLoad x data) s = .next (end_ (d.denied.finish x stDENIED))))
    ∧ (x.typ = 0x0A → descUnusedZero x [] = true → s.fwReady = false → exec (.fwLoad x data) s = .next (end_ (s.dev.known x)))

/-- 15 R438, R439, R440, R441, R443, R444, R452, R460: rings. A doorbell reads the page, once at a time; its indices are taken; a
fetch that arrived queues its descriptors and moves the head, one that failed is tried again three times and then stops the
ring; enabling a ring empties it; an attention leaves with its tail; the management port writes its registers alone. -/
def Obligations.RingsDoorbellsAndFetches : Prop :=
  ∀ (s : State), s.alive = true → s.dev.on domCORE = true →
    let d := s.dev
    (d.lnk.st = .up → d.dsc.dbBusy = true → d.b Reg.DSC_CTL 0 = true →
      ∃ e : Dev, exec .doorbell s = .next { s with dev := e } ∧ e.dsc = { d.dsc with dbAgain := true } ∧ e.regs = d.regs
        ∧ e.lnk.rxExp = (d.lnk.rxExp + 1) % 4096)
    ∧ (d.lnk.st = .up → d.b Reg.DSC_CTL 0 = false → exec .doorbell s = .next { s with dev := d.rxAccept (.posted 0) })
    ∧ (d.lnk.st ≠ .up → exec .doorbell s = .next s)
    ∧ (d.dsc.dbBusy = true → d.dsc.dbAgain = false → d.lnk.hotPending = false → d.b Reg.DSC_CTL 0 = false →
      d.dsc.held = [] → ∀ (r : Fin 64) (t : Nat), t < ringSize (d.rd (Reg.DSC_SQ_CTL r)) → t < 65536 → ringLive (d.rd (Reg.DSC_SQ_CTL r)) = true →
      ∃ e : Dev, exec (.doorbellPageReadDone true [(r, t)] [] []) s = .next (s.tidied (fun _ => e)) ∧ e.dsc.dbBusy = false
        ∧ e.rd (Reg.DSC_SQ_TAIL r) = word t ∧ ∀ o, o ≠ Reg.DSC_SQ_TAIL r → e.rd o = d.rd o)
    ∧ (∀ ok sq cq eq, d.dsc.dbBusy = false → d.lnk.hotPending = false →
        exec (.doorbellPageReadDone ok sq cq eq) s = .next (s.tidied id))
    ∧ (∀ (r : Fin 64) (ds : List Desc), d.lnk.hotPending = false → d.b Reg.DSC_CTL 0 = false →
      let n := tabGet 0 d.dsc.fetching r.val
      n ≠ 0 →
      (∃ e : Dev, exec (.descriptorFetchDone r true ds) s = .next (s.tidied (fun _ => e))
        ∧ e.dsc.flights = d.dsc.flights ++ (ds.take n).map (fun x => { desc := x, out := false })
        ∧ tabGet 0 e.dsc.fetching r.val = 0
        ∧ e.rd (Reg.DSC_SQ_HEAD r) = word ((d.f (Reg.DSC_SQ_HEAD r) 15 0 + n) % ringSize (d.rd (Reg.DSC_SQ_CTL r)))
        ∧ ∀ o, o ≠ Reg.DSC_SQ_HEAD r → e.rd o = d.rd o)
      ∧ (tabGet 0 d.dsc.retries r.val < 3 → ∃ e : Dev, exec (.descriptorFetchDone r false ds) s = .next (s.tidied (fun _ => e))
        ∧ tabGet 0 e.dsc.retries r.val = tabGet 0 d.dsc.retries r.val + 1 ∧ e.dsc.flights = d.dsc.flights ∧ e.regs = d.regs)
      ∧ (3 ≤ tabGet 0 d.dsc.retries r.val → ∃ m e : Dev, exec (.descriptorFetchDone r false ds) s = .next (s.tidied (fun _ => e))
        ∧ m.Noted Ev.DSC_FETCH_FAIL e ∧ m.b (Reg.DSC_SQ_CTL r) 14 = true ∧ m.dsc.flights = d.dsc.flights))
    ∧ (∀ (r : Fin 64) (val : Word), bit (d.rd (Reg.DSC_SQ_CTL r)) 12 = false → bit val 12 = true →
      ∃ e : Dev, exec (.ringCtlWrite (Reg.DSC_SQ_CTL r) val) s = .next { s with dev := e }
        ∧ (bit (d.rd (Reg.DSC_SQ_CTL r)) 14 = false → e.rd (Reg.DSC_SQ_CTL r) = word (val.toNat &&& 0x3FDF)) ∧ e.rd (Reg.DSC_SQ_HEAD r) = 0 ∧ e.rd (Reg.DSC_SQ_TAIL r) = 0
        ∧ ∀ o, o ≠ Reg.DSC_SQ_CTL r → o ≠ Reg.DSC_SQ_HEAD r → o ≠ Reg.DSC_SQ_TAIL r → e.rd o = d.rd o)
    ∧ (∀ off val, ringOf off = none → exec (.ringCtlWrite off val) s = .next s)
    ∧ (∀ (r : Fin 64) a, d.evt.attn.find? (fun a => a.kind = 0 && a.ring = r.val) = some a → d.lnk.st = .up →
      ∃ m : Dev, exec (.attnSend 0 r) s = .next { s with
          dev := m.send {
          typ := .msg, act := if a.safety then none else some actDESC, code := 2,
          words := 4, payload := leBytes 1 0 ++ leBytes 1 r ++ leBytes 1 a.sev ++ leBytes 1 0
            ++ leBytes 4 (d.rd (Reg.DSC_CQ_TAIL r)).toNat ++ leBytes 8 m.now } }
        ∧ m.evt.attn = d.evt.attn.filter (fun x => !(x.kind = 0 && x.ring = r.val)) ∧ m.regs = d.regs)
    ∧ (∀ kind ring, d.evt.attn = [] → exec (.attnSend kind ring) s = .next s)
    ∧ ((∀ p ∈ d.evt.pend, p.due = false) → ∃ e : Dev, exec .eventRecordWrite s = .next { s with dev := e }
        ∧ e = { d with evt := { d.evt with fullStall := [] } })
    ∧ (∀ p, d.evt.pend = [p] → p.due = true → d.evLive (d.evRing p.num) = true → d.evRoom (d.evRing p.num) = true →
        exec .eventRecordWrite s = .next { s with dev := { Dev.putRecord { d with evt := { d.evt with pend := [] } } p with
          evt := { (Dev.putRecord { d with evt := { d.evt with pend := [] } } p).evt with fullStall := [] } } })
    ∧ (∀ val, (d.lacks d.wakeSet = false ∨ d.b Reg.PWR_WAKE_EN 0 = false) →
        exec (.mgmtWrite Reg.LNK_LINK_CFG val false) s = .next ((s.regWrite true Reg.LNK_LINK_CFG val).mgmtReply 0 0)
        ∧ (∀ off, exec (.mgmtWrite off val true) s = .next (s.mgmtReply 1 0))
        ∧ ∀ off, mgmtWritable off = false → exec (.mgmtWrite off val false) s = .next (s.mgmtReply 2 0))

/-- 16 R464, R465, R466, R469, R470, R473, R474, R475, R482: votes, sequences and supplies. A vote takes the domains it may name
and the power controller goes on; the end of the entry window ends the sequence; a wake that completes powers its domains
with their pads held; an attempt that times out is aborted, and the fourth leaves WAKE_FAILED, which WAKE_RETRY ends; a rail
that loses power-good is noted; PAD_RELEASE releases the pads of powered domains, and DRST asks for the reset of powered
ones; the timer starts and stops. -/
def Obligations.VotesSequencesAndWakesMoveTheDomains : Prop :=
  ∀ (s : State), s.alive = true → s.dev.on domCORE = true →
    let d := s.dev
    let p := d.pwr
    let go := fun (e : Dev) => s.power (fun _ => e)
    (∀ (k : Nat) (val : Word), k < 2 → d.critHold = false →
      exec (.voteWrite k val) s = .next (go (Dev.pwr1 { d with pwr := { p with votes := setAt p.votes k (val.toNat &&& 0x1FC) } })))
    ∧ (∀ (k : Nat) (val : Word), 2 ≤ k → exec (.voteWrite k val) s = .next s)
    ∧ (d.inWindow = true → exec .entryWindowEnd s
        = .next (go (Dev.noteState { d with pwr := { p with seq := none, phase := .quiesce } }).levelWakes.pwr1))
    ∧ (d.inWindow = false → exec .entryWindowEnd s = .next s)
    ∧ (∀ m (t : Nat), p.seq = some (.wake m) → p.retryWait = false → p.byEvent = false → (∀ k, m.testBit k = true → 3 < k ∧ k < 9) →
      ∃ x : Dev, exec (.wakeSequenceComplete t) s = .next (go x.pwr1) ∧ x.pwr.domains = p.domains ||| m ∧ x.pwr.seq = none
        ∧ (∀ k, x.pwr.held.testBit k = (p.held.testBit k || m.testBit k)) ∧ ∀ k, m.testBit k = true → x.b Reg.PWR_FRESH k = true)
    ∧ (∀ m, p.seq = some (.wake m) → p.retryWait = true → ∀ t, exec (.wakeSequenceComplete t) s = .next s)
    ∧ (∀ m pg osc, p.seq = some (.wake m) → p.retryWait = false → pg ≠ 0 → p.attempts < 4 →
      ∃ x e : Dev, exec (.wakeAttemptTimeout pg osc) s = .next (go { e with pwr := { e.pwr with retryWait := true } }) ∧ x.Noted Ev.PWR_WAKE_ABORT e
        ∧ x = { d with pwr := { p with failPg := pg % 64, failOsc := osc && m.testBit domCORE, pg := p.pg &&& railsOf p.domains p.selfRefresh } })
    ∧ (∀ m pg osc, p.seq = some (.wake m) → p.retryWait = false → pg ≠ 0 → 4 ≤ p.attempts → p.waitWake = [] →
      ∃ x e : Dev, exec (.wakeAttemptTimeout pg osc) s = .next (go e.pwr1) ∧ x.Noted Ev.PWR_WAKE_FAILED e
        ∧ x.pwr.failed = true ∧ x.pwr.seq = none ∧ x.pwr.domains = p.domains)
    ∧ (∀ m, p.seq = some (.wake m) → p.retryWait = true →
        exec .wakeRetryTimer s = .next { s with dev := { d with pwr := { p with retryWait := false, attempts := p.attempts + 1 } } })
    ∧ (p.seq = none → exec .wakeRetryTimer s = .next s)
    ∧ (p.failed = true → exec .wakeRetry s = .next (go (Dev.pwr1 { d with pwr := { p with failed := false, attempts := 0 } })))
    ∧ (p.failed = false → exec .wakeRetry s = .next s)
    ∧ (∀ val : Word, ∃ h : Nat, exec (.padRelease val) s = .next { s with dev := { d with pwr := { p with held := h } } }
        ∧ ∀ k, k < 9 → h.testBit k = (p.held.testBit k && !(2 ≤ k && bit val k && d.on k)))
    ∧ (∀ val : Word, val.toNat &&& 0x1F0 &&& p.domains ≠ 0 →
        exec (.drst val) s = .next (go (Dev.pwr1 { d with pwr := { p with drst := p.drst ||| (val.toNat &&& 0x1F0 &&& p.domains) } })))
    ∧ (∀ val : Word, val.toNat &&& 0x1F0 &&& p.domains = 0 → exec (.drst val) s = .next s)
    ∧ (∀ val : Word, exec (.aoTimerWrite val) s = .next { s with dev := { d.wr Reg.PWR_TIMER val with pwr := { p with timerOn := val ≠ 0, timerAt := d.now } } })
    ∧ (∀ i : Fin 6, p.seq = none → d.rails.testBit i = true →
        exec (.pgLost i) s = .next { s with dev := { d with pwr := { p with pg := clrBit p.pg i, pgLost := setBit p.pgLost i } } })
    ∧ (∀ i : Fin 6, (p.seq ≠ none ∨ d.rails.testBit i = false) → exec (.pgLost i) s = .next s)

/-- 16 R471, R472, R473: wake sources. An enabled wake that finds every domain of WAKE_SET wanted sets its cause alone; one that
finds a domain missing also adds the set to the host's vote and starts the controller; a source that is not enabled, and an
edge in the entry window, leave nothing. -/
def Obligations.WakeSourcesAddTheWakeSet : Prop :=
  ∀ (s : State), s.alive = true → s.dev.inWindow = false → s.dev.critHold = false →
    let d := s.dev
    let p := d.pwr
    let source := fun (k : Nat) (c : Instr) =>
      (d.b Reg.PWR_WAKE_EN k = true → d.lacks d.wakeSet = false → exec c s = .next { s with dev := d.setB Reg.PWR_WAKE_CAUSE k true })
      ∧ (d.b Reg.PWR_WAKE_EN k = true → d.lacks d.wakeSet = true → exec c s = .next (s.power (fun _ => Dev.pwr1
          { d.setB Reg.PWR_WAKE_CAUSE k true with pwr := { p with
              byEvent := true, votes := setAt p.votes 0 ((p.votes.getD 0 0 ||| d.wakeSet) &&& 0x1FC) } })))
      ∧ (d.b Reg.PWR_WAKE_EN k = false → exec c s = .next s)
    (d.lnk.st = .eidle → source 3 .eidleExit)
    ∧ source 4 .cascadeActivityWake
    ∧ (p.mgmtMatch = false → p.timerLatch = false → p.wakeN = false → source 1 .wakeNLow)
    ∧ (p.mgmtMatch = false → p.wakeN = false → p.timerOn = true → d.b Reg.PWR_WAKE_EN 2 = true → d.lacks d.wakeSet = true →
      exec .aoTimerExpiry s = .next (s.power (fun _ => Dev.pwr1 { d.setB Reg.PWR_WAKE_CAUSE 2 true with pwr := { p with
        timerOn := false, timerLatch := true, byEvent := true,
        votes := setAt p.votes 0 ((p.votes.getD 0 0 ||| d.wakeSet) &&& 0x1FC) } })))
    ∧ (p.timerOn = false → exec .aoTimerExpiry s = .next s)

/-- 16 R476, R478, R479; 17 R485; 12 R344, R345; 18 R513: resets and supplies. A power-on reset keeps the fuses alone; a cold reset and
a supply droop start everything afresh but the latched causes of the island, which stays in INTERNAL if it is there; without
supplies only the fuses last, every output net is high impedance, and only a power-on reset does anything; an enabled core watchdog resets as a hot reset does,
with its own cause. -/
def Obligations.ResetsKeepWhatTheyMust : Prop :=
  ∀ (s : State) (x : Straps),
    (s.dev.thm.shutNow = 0 → ∃ d : Dev, exec (.powerOnReset x) s = .next { dev := d, isl := {}, fuses := s.fuses, pending := s.pending }
      ∧ d = { straps := x, free := s.dev.free, lnk := d.lnk, tim := { refSel := decide (32 ≤ x.refEdges) } } ∧ d.lnk.st = .aligning)
    ∧ (∃ d : Dev, exec .powerOff s = .next { dev := d, isl := {}, fuses := s.fuses, pending := s.pending } ∧ d.pwr.off = true
        ∧ d.pwr.domains = 0 ∧ d.regs = [] ∧ d.lnk.st = .down
        ∧ ∀ (t : State) (τ : Time) (p : Pin) (n : Net), t.dev = d → t.net τ p = some n → n = .highZ)
    ∧ (∀ c : Instr, (c = .coldReset x ∨ c = .supplyDroop x) →
      (s.dev.pwr.off = false → ∃ t : State, exec c s = .next t ∧ t.dev.regs = [] ∧ t.dev.straps = x ∧ t.dev.pwr.resetCause = 1
        ∧ t.dev.pwr.domains = 0x1FF ∧ t.dev.wave.mem.cells = [] ∧ t.dev.thm.shutLatch = s.dev.thm.shutLatch ∧ t.isl.fault = s.isl.fault
        ∧ t.isl.intCode = s.isl.intCode ∧ t.isl.lockCnt = s.isl.lockCnt ∧ t.isl.defaulted = true ∧ t.isl.pw = {}
        ∧ t.isl.st = (if s.isl.st = .internal then .internal else .start) ∧ t.fuses = s.fuses)
      ∧ (s.dev.pwr.off = true → exec c s = .next s))
    ∧ (s.alive = false → ∀ c : Instr, (c = .coreWatchdog ∨ c = .heartbeat ∨ c = .chalNew ∨ c = .hotReset ∨ c = .memTrain ∨ c = .wakeNLow) →
        exec c s = .next s)
    ∧ (s.alive = true → (s.dev.b Reg.PWR_WDOG_CTL 8 = false ∨ s.dev.glb.run = false) → exec .coreWatchdog s = .next s)
    ∧ (s.alive = true → s.dev.b Reg.PWR_WDOG_CTL 8 = true → s.dev.glb.run = true → s.dev.on domCORE = true →
      ∃ t : State, exec .coreWatchdog s = .next t ∧ t.dev.lnk.st = .aligning ∧ t.dev.lnk.hotPending = true ∧ t.dev.lnk.hotWdog = true
        ∧ t.dev.pwr.resetCause = 3 ∧ t.dev.pwr.domains = s.dev.pwr.domains ∧ t.isl.st = s.isl.st ∧ t.isl.pw.openAt = none ∧ t.fuses = s.fuses)

/-- 17 R485, R486, R487, R488: challenges, tokens and keys. A challenge is 32 fresh bytes, unless challenges are refused; a
submitted token takes the challenge with it; an accepted SERVICE token opens SERVICE and an accepted FACTORY token burns the
fuse of FACTORY; any other is refused with its reason, the third refusal refusing challenges for 60 s; LOCK closes SERVICE;
the integrator key is programmed once, and a burn adds to the fuses; key commands need SERVICE or FACTORY. -/
def Obligations.TokensOpenStatesAndKeysAreBurnt : Prop :=
  ∀ (s : State), s.alive = true → s.dev.on domCORE = true →
    let d := s.dev
    let x := d.sec
    (x.refusing = none → ∃ e : Dev, exec .chalNew s = .next { s with dev := e } ∧ e.free = d.free + 32
        ∧ e = { d with free := e.free, sec := { x with chal := e.sec.chal, chalRegs := e.sec.chalRegs } }
        ∧ e.sec.chal = some e.sec.chalRegs ∧ e.sec.chalRegs.length = 32)
    ∧ (x.refusing ≠ none → exec .chalNew s = .next s)
    ∧ (x.busy = none → exec .tokenSubmit s = .next { s with dev := { d with sec := { x with busy := some (x.tokenBytes, x.chal), chal := none } } })
    ∧ (x.busy ≠ none → exec .tokenSubmit s = .next s)
    ∧ (x.busy = none → exec .tokenVerifyDone s = .next s)
    ∧ (∀ t c, x.busy = some (t, c) → s.tokenReason t c = 0 →
      (leAt t 4 1 = 1 → ∃ m e : Dev, exec .tokenVerifyDone s = .next { s with dev := e } ∧ m.Noted Ev.SEC_UNLOCK e
        ∧ m = { d with sec := { x with busy := none, reason := 0, result := 1, refusals := 0, service := true } })
      ∧ (leAt t 4 1 = 2 → ∃ m e : Dev, exec .tokenVerifyDone s = .next { s with dev := e, fuses := { s.fuses with rma := true } }
        ∧ m.Noted Ev.SEC_FACTORY e ∧ m = { d with sec := { x with busy := none, reason := 0, result := 1, refusals := 0, service := false } }))
    ∧ (∀ t c, x.busy = some (t, c) → s.tokenReason t c ≠ 0 → s.tokenReason t c < 6 →
      ∃ m e : Dev, exec .tokenVerifyDone s = .next { s with dev := e } ∧ m.Noted Ev.SEC_UNLOCK_FAIL e
        ∧ m = { d with sec := { x with
            busy := none, reason := s.tokenReason t c, result := 2, refusals := x.refusals + 1,
            refusing := if 3 ≤ x.refusals + 1 then some d.now else x.refusing } })
    ∧ (∀ t, x.refusing = some t → exec .tokenRefusalEnd s
        = .next { s with dev := { d.at (t + 60000 * ms) with sec := { x with refusing := none, refusals := 0 } } })
    ∧ (x.refusing = none → exec .tokenRefusalEnd s = .next s)
    ∧ (x.service = true → x.level < 2 → ∃ m e : Dev, exec .lock s = .next { s with dev := e } ∧ m.Noted Ev.SEC_LOCK e
        ∧ m = { d with sec := { x with service := false, chal := none } })
    ∧ (x.service = false → x.level < 2 → exec .lock s = .next { s with dev := { d with sec := { x with chal := none } } })
    ∧ (∀ u : Bool, (s.keyAllowed = false → ∃ e : Dev, d.Denied e ∧ exec (.keyProg u) s = .next { s with dev := e }
          ∧ exec .keyRevoke s = .next { s with dev := e })
      ∧ (s.keyAllowed = true → s.fuses.intKey = none → x.burn = none → exec (.keyProg u) s = .next { s with dev := { d with sec := { x with
          burn := some (.prog ((List.range 8).flatMap (fun n => leBytes 4 (tabGet 0 x.intKey n).toNat)) u) } } })
      ∧ (s.keyAllowed = true → (s.fuses.intKey ≠ none ∨ x.burn ≠ none) → exec (.keyProg u) s = .next s))
    ∧ (s.keyAllowed = true → s.fuses.revoked = false → x.burn = none →
        exec .keyRevoke s = .next { s with dev := { d with sec := { x with burn := some .revoke } } })
    ∧ (∀ b, x.burn = some b → ∃ m e : Dev, exec .keyBurnDone s = .next { s with dev := e, fuses := s.fuses.burn b }
        ∧ m.Noted Ev.SEC_KEY_PROG e ∧ m = { d with sec := { x with burn := none } })
    ∧ (x.burn = none → exec .keyBurnDone s = .next s)

/-- 17 R490, R491, R492; 12 R328: safety firmware. A rejected image completes REJECTED with its reason and event; the first accepted
one runs at once and a waiting island starts to run; one accepted at run time takes the island to WAIT and the part to
LOCKED until the switch is done, which gives the safety processor the states of the hard-wired logic and the island the
state that it left; plates, housekeeping, the axes and the domains go on. A FW_LOAD while firmware runs is DENIED unless a
password session is open and ranging is stopped, whatever the security state. -/
def Obligations.FirmwareIsVerifiedAndSwitched : Prop :=
  ∀ (s : State), s.alive = true → s.dev.on domCORE = true →
    let d := s.dev
    let x := d.sec
    (x.fw = none → exec .fwVerifyDone s = .next s)
    ∧ (∀ j, x.fw = some j → j.reason ≠ 0 → ∃ m e : Dev, m.Noted Ev.SEC_FW_REJECT e
        ∧ m = { d with sec := { x with fw := none, fwReason := j.reason } }
        ∧ exec .fwVerifyDone s = .next { s with dev := e.finish j.desc stREJECTED })
    ∧ (∀ j, x.fw = some j → j.reason = 0 → j.runTime = false → ∃ m e : Dev, m.Noted Ev.SEC_FW_ACCEPTED e
        ∧ m = { d with sec := { x with fw := none } }
        ∧ ∃ t : State, exec .fwVerifyDone s = .next t ∧ t.isl = { s.isl with fwRun := true, st := if s.isl.st = .wait then .run else s.isl.st }
          ∧ t.dev.sec = { x with fw := none, fwReason := 0, fwSlot := j.slot, fwVersion := j.version } ∧ t.fuses = s.fuses
          ∧ (s.isl.st ≠ .wait → t.dev = Dev.finish { e with sec := t.dev.sec } j.desc stOK))
    ∧ (∀ j, x.fw = some j → j.reason = 0 → j.runTime = true → s.isl.st ≠ .internal →
        ∃ t : State, exec .fwVerifyDone s = .next t ∧ t.isl = { s.isl with st := .wait, back := some s.isl.st }
          ∧ t.dev.sec.fwSwitch = some j ∧ t.dev.sec.fw = none ∧ t.dev.sec.service = false ∧ t.dev.sec.level = 0 ∧ t.dev.dsc = d.dsc
          ∧ t.dev.wave = d.wave ∧ t.dev.hkp = d.hkp ∧ t.dev.lnk = d.lnk ∧ t.dev.pwr = d.pwr ∧ t.dev.hch = d.hch ∧ t.dev.glb = d.glb)
    ∧ (∀ j, x.fwSwitch = some j →
        ∃ t : State, exec .fwSwitchDone s = .next t ∧ t.isl.sp = s.isl.hwl ∧ t.isl.hwl = s.isl.hwl ∧ t.isl.back = none
          ∧ t.isl.st = (if s.isl.st = .wait then s.isl.back.getD .run else s.isl.st) ∧ t.isl.fault = s.isl.fault
          ∧ t.dev.sec = { x with fwSwitch := none, fwReason := 0, fwSlot := j.slot, fwVersion := j.version } ∧ t.fuses = s.fuses
          ∧ t.dev.wave = d.wave ∧ t.dev.hkp = d.hkp ∧ t.dev.pwr.domains = d.pwr.domains ∧ t.dev.hch = d.hch)
    ∧ (x.fwSwitch = none → exec .fwSwitchDone s = .next s)
    ∧ (∀ (q : Desc) (data : Option (List Byte)), d.takes q → descAligned q = true → descNoB q = true → q.typ = 0x0A →
      descUnusedZero q [] = true → s.fwReady = true → s.isl.fwRun = true →
      ((s.isl.pw.openAt = none ∨ d.brn.ranging = true) →
        exec (.fwLoad q data) s = .next (s.engineLeaves { s with dev := (d.taken q).denied.finish q stDENIED }))
      ∧ (∀ bs, s.isl.pw.openAt.isSome = true → d.brn.ranging = false → data = some bs →
        exec (.fwLoad q data) s = .next (s.engineLeaves { s with dev := { d.taken q with sec := { (d.taken q).sec with
          fw := some {
            desc := q, slot := leAt bs 6 1, version := word (leAt bs 8 4), reason := s.fwReason bs, runTime := true } } } })))

/-- 17 R493, R494, R495, R496, R497, R498: debug and boundary scan. A level is given to the port that asks when the state allows
it, with an event when a session opens, and refused otherwise; halting is safe in a lock-out with every laser enable low and
an internal fault elsewhere, and the heartbeat watch resumes 2 ms after a restart; bus accesses need a session of the link; boundary instructions load while the part is active,
withhold emission and are refused as BYPASS otherwise. -/
def Obligations.DebugSessionsAndBoundaryInstructions : Prop :=
  ∀ (s : State), s.alive = true → s.dev.on domCORE = true →
    let d := s.dev
    let x := d.sec
    let may := s.opened = true ∧ x.level = 2
    (∀ val : Word, x.level = 0 → (fld val 1 0 = 1 ∨ (fld val 1 0 = 2 ∧ s.opened = true)) →
      ∃ m e : Dev, exec (.dbgCtlWrite val) s = .next { s with dev := e } ∧ m.Noted Ev.SEC_DBG_OPEN e
        ∧ m = { d with sec := { (if fld val 1 0 = 2 then x else x.restart d.now) with level := fld val 1 0, port := false } })
    ∧ (∀ val : Word, (x.level ≠ 0 ∧ x.port = true ∧ fld val 1 0 < 3) ∨ (x.level = 0 ∧ fld val 1 0 = 2 ∧ s.opened = false) →
      ∃ e : Dev, exec (.dbgCtlWrite val) s = .next { s with dev := e } ∧ d.Denied e)
    ∧ (∀ val : Word, x.level ≠ 0 → x.port = false → fld val 1 0 = 0 →
      ∃ m e : Dev, exec (.dbgCtlWrite val) s = .next { s with dev := e } ∧ m.Noted Ev.SEC_DBG_CLOSE e
        ∧ m = { d with sec := { x with
            level := 0, port := false, halted := false, hbFrom := if x.halted then d.now + 2 * ms else x.hbFrom } })
    ∧ (∀ (off : Nat) (val : Word) (write : Bool), (x.port = true ∨ x.level < (if write then 2 else 1)) →
      ∃ e : Dev, exec (.debugBusAccess write off val) s = .next { s with dev := e } ∧ (d.wr Reg.SEC_DBG_ADDR (word off)).Denied e)
    ∧ (∀ (off : Nat) (val : Word), off < 2 ^ 24 → x.port = false → x.level = 2 →
      exec (.debugBusAccess true off val) s = .next (State.regWrite false off val { s with dev := d.wr Reg.SEC_DBG_ADDR (word off) }))
    ∧ (∀ (off : Nat) (val : Word), off < 2 ^ 24 → x.port = false → 1 ≤ x.level → rowOf off = none →
      exec (.debugBusAccess false off val) s = .next { s with dev := { d.wr Reg.SEC_DBG_ADDR (word off) with free := d.free + 1 } })
    ∧ (may → (s.isl.st = .lockout ∨ s.isl.st = .internal) → s.lensLow = true →
      ∃ m e : Dev, exec .halt s = .next { s with dev := e } ∧ m.Noted Ev.SEC_SP_HALT e ∧ m = { d with sec := { x with halted := true } })
    ∧ (may → ((s.isl.st ≠ .lockout ∧ s.isl.st ≠ .internal) ∨ (s.isl.st = .lockout ∧ s.lensLow = false)) →
      ∃ m e : Dev, exec .halt s = .next (State.internalFault 0x82 { s with dev := e }) ∧ m.Noted Ev.SEC_SP_HALT e
        ∧ m = { d with sec := { x with halted := true } })
    ∧ (may → exec .resume s = .next { s with dev := { d with sec := { x with
            halted := false, hbFrom := if x.halted then d.now + 2 * ms else x.hbFrom } } }
        ∧ exec .step s = .next s)
    ∧ (¬ may → ∃ e : Dev, d.Denied e ∧ exec .halt s = .next { s with dev := e } ∧ exec .resume s = .next { s with dev := e }
        ∧ exec .step s = .next { s with dev := e })
    ∧ (d.active = true → exec .extest s = .next { s with dev := { d with sec := { x with ir := 0x00, bscan := true } } }
        ∧ exec .clamp s = .next { s with dev := { d with sec := { x with ir := 0x04, bscan := true } } }
        ∧ exec .highz s = .next { s with dev := { d with sec := { x with ir := 0x05, bscan := true } } }
        ∧ exec .samplePreload s = .next { s with dev := { d with sec := { x with ir := 0x01, captured := true } } })
    ∧ (d.active = false → ∀ c : Instr, (c = .extest ∨ c = .clamp ∨ c = .highz ∨ c = .samplePreload) →
        ∃ e : Dev, exec c s = .next { s with dev := e } ∧ Dev.Denied { d with sec := { x with ir := 0xFF, bscanRefused := true } } e)
    ∧ exec .idcode s = .next { s with dev := { d with sec := { x with ir := 0x02 } } }
    ∧ exec .bypass s = .next { s with dev := { d with sec := { x with ir := 0xFF } } }
    ∧ (∀ l : Fin 4, x.level = 0 → l.val = 1 → ∃ m e : Dev, exec (.dbgacc l) s = .next { s with dev := e } ∧ m.Noted Ev.SEC_DBG_OPEN e
        ∧ m = { d with sec := { x with ir := 0x20, level := 1, port := true, halted := false } })
    ∧ (∀ l : Fin 4, x.level ≠ 0 → x.port = false → l.val < 3 → ∃ e : Dev, exec (.dbgacc l) s = .next { s with dev := e }
        ∧ Dev.Denied { d with sec := { x with ir := 0x20 } } e)
    ∧ ∀ h : Fin 4, (x.bscan = true ∨ 2 ≤ x.level) → s.permits h = false

/-- 17 R499: the password session and the security state are independent. No challenge, token or LOCK changes anything of the
island, a password session least of all; no password command changes the security state, the debug level or a fuse; in
SERVICE without a password session an RWP write is ignored with SAF_RWP_DENIED, and with a password session outside SERVICE
and FACTORY an INVASIVE debug level is refused. -/
def Obligations.PasswordAndSecurityStateAreIndependent : Prop :=
  ∀ (s : State), s.alive = true → s.dev.on domCORE = true →
    (∀ c : Instr, (c = .chalNew ∨ c = .tokenSubmit ∨ c = .tokenVerifyDone ∨ c = .tokenRefusalEnd ∨ c = .lock) →
      ∃ t : State, exec c s = .next t ∧ t.isl = s.isl)
    ∧ (∀ c : Instr, ((∃ len, c = .pwPresent len) ∨ c = .pwClose ∨ c = .pwDerivationDone ∨ c = .pwSessionTimeout ∨ c = .pwRefusalEnd) →
      ∃ t : State, exec c s = .next t ∧ t.dev.sec = s.dev.sec ∧ t.fuses = s.fuses)
    ∧ (∀ off val r ix, s.answers → off ≠ Reg.SEC_DBG_DATA → rowOf off = some (r, ix) → r.acc = .rwp → isBrnLimit off = false →
      s.dev.sec.service = true → s.isl.pw.openAt = none →
      ∃ e : Dev, exec (.registerWrite off val) s = .next { s with dev := e } ∧ (s.dev.rxAccept (.posted 1)).Noted Ev.SAF_RWP_DENIED e)
    ∧ (∀ val : Word, s.isl.pw.openAt.isSome = true → s.dev.sec.level = 0 → fld val 1 0 = 2 → s.opened = false →
      ∃ e : Dev, exec (.dbgCtlWrite val) s = .next { s with dev := e } ∧ s.dev.Denied e)

/-- 12 R326, R344; 17 R492: whatever command a step carries out, each half of the island keeps watch over its eight pairs, and an
island that is locked out, or will be again after a firmware switch, knows the cause of its lock-out. -/
def Obligations.EveryStepKeepsTheIslandInShape : Prop :=
  ∀ (s t : State), s.isl.Shaped → Sys2Proof.Machine.step s = .next t → t.isl.Shaped

/-- 12 R345; 17 R485, R488: INTERNAL is left by a power-on reset alone; a burnt fuse and a programmed integrator key are never
lost; and no command takes another one from the queue. -/
def Obligations.WhatNoCommandUndoes : Prop :=
  ∀ (s t : State) (c : Instr), exec c s = .next t →
    t.pending = s.pending ∧ s.fuses.Kept t.fuses
    ∧ (s.isl.st = .internal → (∀ x, c ≠ .powerOnReset x) → c ≠ .powerOff → t.isl.st = .internal)

/-- 01 R21, R38; 12 R328, R345, R357; 14 R421, R426; 15 R457; 16 R462: the block right after a power-on reset. The island is in
START with the factory defaults and no fault; no frame has begun; the lanes align with sequence number 0, the last one before
it acknowledged and no credit; memory is empty, no command waits, and every register reads its default. -/
def Obligations.ResetStartsEverythingAfresh : Prop :=
  State.reset.isl.st = .start ∧ State.reset.isl.defaulted = true ∧ State.reset.isl.fault = none ∧ State.reset.isl.intCode = 0
  ∧ State.reset.isl.Shaped
  ∧ State.reset.dev.glb.run = false ∧ State.reset.dev.glb.frameNum = 0 ∧ State.reset.dev.tim.started = false ∧ State.reset.dev.tim.dt = 0
  ∧ State.reset.dev.lnk.st = .aligning ∧ State.reset.dev.lnk.txNext = 0 ∧ State.reset.dev.lnk.rxExp = 0 ∧ State.reset.dev.lnk.txAcked = 4095
  ∧ State.reset.dev.lnk.advPh = 0 ∧ State.reset.dev.lnk.reads = [] ∧ State.reset.dev.lnk.retry = []
  ∧ State.reset.dev.answered = false ∧ State.reset.dev.sec.service = false ∧ State.reset.dev.sec.level = 0
  ∧ State.reset.dev.brn.ranging = false ∧ (∀ a, (State.reset.dev.ax a).st = .disabled) ∧ (∀ p, (State.reset.dev.plt p).st = .stopped)
  ∧ State.reset.pending = [] ∧ Memory.wf State.reset.dev.wave.mem.cells = true
  ∧ (∀ a, Memory.read State.reset.dev.wave.mem.cells a = 0)
  ∧ ∀ off, State.reset.dev.rd off = regDflt 0 off

/-- 07 R220, R222: LPDDR4X memory. A byte written is read back, every other byte keeps its value, and the bytes of a burst stand
at consecutive addresses; a write keeps the canonical form of the list that holds the memory (the model's own form: log
entry 2), and touches no register and no other part of the block. -/
def Obligations.MemoryKeepsItsBytesAndItsForm : Prop :=
  ∀ (d : Dev) (a : Nat) (bs : List Byte),
    (Memory.wf d.wave.mem.cells = true → Memory.wf (d.memPut a bs).wave.mem.cells = true)
    ∧ (∀ i, i < bs.length → Memory.read (d.memPut a bs).wave.mem.cells (a + i) = bs.getD i 0)
    ∧ (∀ b, (b < a ∨ a + bs.length ≤ b) → Memory.read (d.memPut a bs).wave.mem.cells b = Memory.read d.wave.mem.cells b)
    ∧ Memory.readBytes (d.memPut a bs).wave.mem.cells a bs.length = bs
    ∧ d.memPut a bs = { d with wave := { d.wave with mem := (d.memPut a bs).wave.mem } }
    ∧ (d.memPut a bs).wave.mem.bad = d.wave.mem.bad.filter (fun b => b ≠ a / 64)
end

