-- ==== Sys2Proof/Laws/State.lean ====
section
/-! SUPPORT. One lemma per field per named update of the state, each true by unfolding the update once, so that no later
proof unfolds a record update. -/
namespace Sys2Proof.Machine

/-! ## A change of the device or of the island -/

@[simp] theorem State.onDev_isl (f : Dev → Dev) (s : State) : (s.onDev f).isl = s.isl := rfl
@[simp] theorem State.onDev_fuses (f : Dev → Dev) (s : State) : (s.onDev f).fuses = s.fuses := rfl
@[simp] theorem State.onDev_pending (f : Dev → Dev) (s : State) : (s.onDev f).pending = s.pending := rfl
@[simp] theorem State.onDev_dev (f : Dev → Dev) (s : State) : (s.onDev f).dev = f s.dev := rfl
@[simp] theorem State.onIsl_dev (f : Island → Island) (s : State) : (s.onIsl f).dev = s.dev := rfl
@[simp] theorem State.onIsl_fuses (f : Island → Island) (s : State) : (s.onIsl f).fuses = s.fuses := rfl
@[simp] theorem State.onIsl_pending (f : Island → Island) (s : State) : (s.onIsl f).pending = s.pending := rfl
@[simp] theorem State.onIsl_isl (f : Island → Island) (s : State) : (s.onIsl f).isl = f s.isl := rfl

/-! ## A register of the register file -/

@[simp] theorem Dev.wr_glb (d : Dev) (o : Nat) (v : Word) : (Dev.wr d o v).glb = d.glb := rfl
@[simp] theorem Dev.wr_bite (d : Dev) (o : Nat) (v : Word) : (Dev.wr d o v).bite = d.bite := rfl
@[simp] theorem Dev.wr_evt (d : Dev) (o : Nat) (v : Word) : (Dev.wr d o v).evt = d.evt := rfl
@[simp] theorem Dev.wr_lnk (d : Dev) (o : Nat) (v : Word) : (Dev.wr d o v).lnk = d.lnk := rfl
@[simp] theorem Dev.wr_dsc (d : Dev) (o : Nat) (v : Word) : (Dev.wr d o v).dsc = d.dsc := rfl
@[simp] theorem Dev.wr_pwr (d : Dev) (o : Nat) (v : Word) : (Dev.wr d o v).pwr = d.pwr := rfl
@[simp] theorem Dev.wr_brn (d : Dev) (o : Nat) (v : Word) : (Dev.wr d o v).brn = d.brn := rfl
@[simp] theorem Dev.wr_hch (d : Dev) (o : Nat) (v : Word) : (Dev.wr d o v).hch = d.hch := rfl
@[simp] theorem Dev.wr_afe (d : Dev) (o : Nat) (v : Word) : (Dev.wr d o v).afe = d.afe := rfl
@[simp] theorem Dev.wr_tim (d : Dev) (o : Nat) (v : Word) : (Dev.wr d o v).tim = d.tim := rfl
@[simp] theorem Dev.wr_stp (d : Dev) (o : Nat) (v : Word) : (Dev.wr d o v).stp = d.stp := rfl
@[simp] theorem Dev.wr_wave (d : Dev) (o : Nat) (v : Word) : (Dev.wr d o v).wave = d.wave := rfl
@[simp] theorem Dev.wr_hkp (d : Dev) (o : Nat) (v : Word) : (Dev.wr d o v).hkp = d.hkp := rfl
@[simp] theorem Dev.wr_thm (d : Dev) (o : Nat) (v : Word) : (Dev.wr d o v).thm = d.thm := rfl
@[simp] theorem Dev.wr_mdv (d : Dev) (o : Nat) (v : Word) : (Dev.wr d o v).mdv = d.mdv := rfl
@[simp] theorem Dev.wr_prf (d : Dev) (o : Nat) (v : Word) : (Dev.wr d o v).prf = d.prf := rfl
@[simp] theorem Dev.wr_sec (d : Dev) (o : Nat) (v : Word) : (Dev.wr d o v).sec = d.sec := rfl
@[simp] theorem Dev.wr_straps (d : Dev) (o : Nat) (v : Word) : (Dev.wr d o v).straps = d.straps := rfl
@[simp] theorem Dev.wr_answered (d : Dev) (o : Nat) (v : Word) : (Dev.wr d o v).answered = d.answered := rfl
@[simp] theorem Dev.wr_free (d : Dev) (o : Nat) (v : Word) : (Dev.wr d o v).free = d.free := rfl

/-! ## The power controller -/

@[simp] theorem Dev.modPwr_regs (f : Pwr → Pwr) (d : Dev) : (Dev.modPwr f d).regs = d.regs := rfl
@[simp] theorem Dev.modPwr_glb (f : Pwr → Pwr) (d : Dev) : (Dev.modPwr f d).glb = d.glb := rfl
@[simp] theorem Dev.modPwr_bite (f : Pwr → Pwr) (d : Dev) : (Dev.modPwr f d).bite = d.bite := rfl
@[simp] theorem Dev.modPwr_evt (f : Pwr → Pwr) (d : Dev) : (Dev.modPwr f d).evt = d.evt := rfl
@[simp] theorem Dev.modPwr_lnk (f : Pwr → Pwr) (d : Dev) : (Dev.modPwr f d).lnk = d.lnk := rfl
@[simp] theorem Dev.modPwr_dsc (f : Pwr → Pwr) (d : Dev) : (Dev.modPwr f d).dsc = d.dsc := rfl
@[simp] theorem Dev.modPwr_brn (f : Pwr → Pwr) (d : Dev) : (Dev.modPwr f d).brn = d.brn := rfl
@[simp] theorem Dev.modPwr_hch (f : Pwr → Pwr) (d : Dev) : (Dev.modPwr f d).hch = d.hch := rfl
@[simp] theorem Dev.modPwr_afe (f : Pwr → Pwr) (d : Dev) : (Dev.modPwr f d).afe = d.afe := rfl
@[simp] theorem Dev.modPwr_tim (f : Pwr → Pwr) (d : Dev) : (Dev.modPwr f d).tim = d.tim := rfl
@[simp] theorem Dev.modPwr_stp (f : Pwr → Pwr) (d : Dev) : (Dev.modPwr f d).stp = d.stp := rfl
@[simp] theorem Dev.modPwr_wave (f : Pwr → Pwr) (d : Dev) : (Dev.modPwr f d).wave = d.wave := rfl
@[simp] theorem Dev.modPwr_hkp (f : Pwr → Pwr) (d : Dev) : (Dev.modPwr f d).hkp = d.hkp := rfl
@[simp] theorem Dev.modPwr_thm (f : Pwr → Pwr) (d : Dev) : (Dev.modPwr f d).thm = d.thm := rfl
@[simp] theorem Dev.modPwr_mdv (f : Pwr → Pwr) (d : Dev) : (Dev.modPwr f d).mdv = d.mdv := rfl
@[simp] theorem Dev.modPwr_prf (f : Pwr → Pwr) (d : Dev) : (Dev.modPwr f d).prf = d.prf := rfl
@[simp] theorem Dev.modPwr_sec (f : Pwr → Pwr) (d : Dev) : (Dev.modPwr f d).sec = d.sec := rfl
@[simp] theorem Dev.modPwr_straps (f : Pwr → Pwr) (d : Dev) : (Dev.modPwr f d).straps = d.straps := rfl
@[simp] theorem Dev.modPwr_answered (f : Pwr → Pwr) (d : Dev) : (Dev.modPwr f d).answered = d.answered := rfl
@[simp] theorem Dev.modPwr_free (f : Pwr → Pwr) (d : Dev) : (Dev.modPwr f d).free = d.free := rfl

@[simp] theorem Dev.modPwr_pwr (f : Pwr → Pwr) (d : Dev) : (Dev.modPwr f d).pwr = f d.pwr := rfl

/-! ## Pairs and cascades -/

@[simp] theorem Dev.modMdv_regs (f : Mdv → Mdv) (d : Dev) : (Dev.modMdv f d).regs = d.regs := rfl
@[simp] theorem Dev.modMdv_glb (f : Mdv → Mdv) (d : Dev) : (Dev.modMdv f d).glb = d.glb := rfl
@[simp] theorem Dev.modMdv_bite (f : Mdv → Mdv) (d : Dev) : (Dev.modMdv f d).bite = d.bite := rfl
@[simp] theorem Dev.modMdv_evt (f : Mdv → Mdv) (d : Dev) : (Dev.modMdv f d).evt = d.evt := rfl
@[simp] theorem Dev.modMdv_lnk (f : Mdv → Mdv) (d : Dev) : (Dev.modMdv f d).lnk = d.lnk := rfl
@[simp] theorem Dev.modMdv_dsc (f : Mdv → Mdv) (d : Dev) : (Dev.modMdv f d).dsc = d.dsc := rfl
@[simp] theorem Dev.modMdv_pwr (f : Mdv → Mdv) (d : Dev) : (Dev.modMdv f d).pwr = d.pwr := rfl
@[simp] theorem Dev.modMdv_brn (f : Mdv → Mdv) (d : Dev) : (Dev.modMdv f d).brn = d.brn := rfl
@[simp] theorem Dev.modMdv_hch (f : Mdv → Mdv) (d : Dev) : (Dev.modMdv f d).hch = d.hch := rfl
@[simp] theorem Dev.modMdv_afe (f : Mdv → Mdv) (d : Dev) : (Dev.modMdv f d).afe = d.afe := rfl
@[simp] theorem Dev.modMdv_tim (f : Mdv → Mdv) (d : Dev) : (Dev.modMdv f d).tim = d.tim := rfl
@[simp] theorem Dev.modMdv_stp (f : Mdv → Mdv) (d : Dev) : (Dev.modMdv f d).stp = d.stp := rfl
@[simp] theorem Dev.modMdv_wave (f : Mdv → Mdv) (d : Dev) : (Dev.modMdv f d).wave = d.wave := rfl
@[simp] theorem Dev.modMdv_hkp (f : Mdv → Mdv) (d : Dev) : (Dev.modMdv f d).hkp = d.hkp := rfl
@[simp] theorem Dev.modMdv_thm (f : Mdv → Mdv) (d : Dev) : (Dev.modMdv f d).thm = d.thm := rfl
@[simp] theorem Dev.modMdv_prf (f : Mdv → Mdv) (d : Dev) : (Dev.modMdv f d).prf = d.prf := rfl
@[simp] theorem Dev.modMdv_sec (f : Mdv → Mdv) (d : Dev) : (Dev.modMdv f d).sec = d.sec := rfl
@[simp] theorem Dev.modMdv_straps (f : Mdv → Mdv) (d : Dev) : (Dev.modMdv f d).straps = d.straps := rfl
@[simp] theorem Dev.modMdv_answered (f : Mdv → Mdv) (d : Dev) : (Dev.modMdv f d).answered = d.answered := rfl
@[simp] theorem Dev.modMdv_free (f : Mdv → Mdv) (d : Dev) : (Dev.modMdv f d).free = d.free := rfl

@[simp] theorem Dev.modMdv_mdv (f : Mdv → Mdv) (d : Dev) : (Dev.modMdv f d).mdv = f d.mdv := rfl

/-! ## Calibration -/

@[simp] theorem Dev.modPrf_regs (f : Prf → Prf) (d : Dev) : (Dev.modPrf f d).regs = d.regs := rfl
@[simp] theorem Dev.modPrf_glb (f : Prf → Prf) (d : Dev) : (Dev.modPrf f d).glb = d.glb := rfl
@[simp] theorem Dev.modPrf_bite (f : Prf → Prf) (d : Dev) : (Dev.modPrf f d).bite = d.bite := rfl
@[simp] theorem Dev.modPrf_evt (f : Prf → Prf) (d : Dev) : (Dev.modPrf f d).evt = d.evt := rfl
@[simp] theorem Dev.modPrf_lnk (f : Prf → Prf) (d : Dev) : (Dev.modPrf f d).lnk = d.lnk := rfl
@[simp] theorem Dev.modPrf_dsc (f : Prf → Prf) (d : Dev) : (Dev.modPrf f d).dsc = d.dsc := rfl
@[simp] theorem Dev.modPrf_pwr (f : Prf → Prf) (d : Dev) : (Dev.modPrf f d).pwr = d.pwr := rfl
@[simp] theorem Dev.modPrf_brn (f : Prf → Prf) (d : Dev) : (Dev.modPrf f d).brn = d.brn := rfl
@[simp] theorem Dev.modPrf_hch (f : Prf → Prf) (d : Dev) : (Dev.modPrf f d).hch = d.hch := rfl
@[simp] theorem Dev.modPrf_afe (f : Prf → Prf) (d : Dev) : (Dev.modPrf f d).afe = d.afe := rfl
@[simp] theorem Dev.modPrf_tim (f : Prf → Prf) (d : Dev) : (Dev.modPrf f d).tim = d.tim := rfl
@[simp] theorem Dev.modPrf_stp (f : Prf → Prf) (d : Dev) : (Dev.modPrf f d).stp = d.stp := rfl
@[simp] theorem Dev.modPrf_wave (f : Prf → Prf) (d : Dev) : (Dev.modPrf f d).wave = d.wave := rfl
@[simp] theorem Dev.modPrf_hkp (f : Prf → Prf) (d : Dev) : (Dev.modPrf f d).hkp = d.hkp := rfl
@[simp] theorem Dev.modPrf_thm (f : Prf → Prf) (d : Dev) : (Dev.modPrf f d).thm = d.thm := rfl
@[simp] theorem Dev.modPrf_mdv (f : Prf → Prf) (d : Dev) : (Dev.modPrf f d).mdv = d.mdv := rfl
@[simp] theorem Dev.modPrf_sec (f : Prf → Prf) (d : Dev) : (Dev.modPrf f d).sec = d.sec := rfl
@[simp] theorem Dev.modPrf_straps (f : Prf → Prf) (d : Dev) : (Dev.modPrf f d).straps = d.straps := rfl
@[simp] theorem Dev.modPrf_answered (f : Prf → Prf) (d : Dev) : (Dev.modPrf f d).answered = d.answered := rfl
@[simp] theorem Dev.modPrf_free (f : Prf → Prf) (d : Dev) : (Dev.modPrf f d).free = d.free := rfl

@[simp] theorem Dev.modPrf_prf (f : Prf → Prf) (d : Dev) : (Dev.modPrf f d).prf = f d.prf := rfl

/-! ## Security -/

@[simp] theorem Dev.modSec_regs (f : Sec → Sec) (d : Dev) : (Dev.modSec f d).regs = d.regs := rfl
@[simp] theorem Dev.modSec_glb (f : Sec → Sec) (d : Dev) : (Dev.modSec f d).glb = d.glb := rfl
@[simp] theorem Dev.modSec_bite (f : Sec → Sec) (d : Dev) : (Dev.modSec f d).bite = d.bite := rfl
@[simp] theorem Dev.modSec_evt (f : Sec → Sec) (d : Dev) : (Dev.modSec f d).evt = d.evt := rfl
@[simp] theorem Dev.modSec_lnk (f : Sec → Sec) (d : Dev) : (Dev.modSec f d).lnk = d.lnk := rfl
@[simp] theorem Dev.modSec_dsc (f : Sec → Sec) (d : Dev) : (Dev.modSec f d).dsc = d.dsc := rfl
@[simp] theorem Dev.modSec_pwr (f : Sec → Sec) (d : Dev) : (Dev.modSec f d).pwr = d.pwr := rfl
@[simp] theorem Dev.modSec_brn (f : Sec → Sec) (d : Dev) : (Dev.modSec f d).brn = d.brn := rfl
@[simp] theorem Dev.modSec_hch (f : Sec → Sec) (d : Dev) : (Dev.modSec f d).hch = d.hch := rfl
@[simp] theorem Dev.modSec_afe (f : Sec → Sec) (d : Dev) : (Dev.modSec f d).afe = d.afe := rfl
@[simp] theorem Dev.modSec_tim (f : Sec → Sec) (d : Dev) : (Dev.modSec f d).tim = d.tim := rfl
@[simp] theorem Dev.modSec_stp (f : Sec → Sec) (d : Dev) : (Dev.modSec f d).stp = d.stp := rfl
@[simp] theorem Dev.modSec_wave (f : Sec → Sec) (d : Dev) : (Dev.modSec f d).wave = d.wave := rfl
@[simp] theorem Dev.modSec_hkp (f : Sec → Sec) (d : Dev) : (Dev.modSec f d).hkp = d.hkp := rfl
@[simp] theorem Dev.modSec_thm (f : Sec → Sec) (d : Dev) : (Dev.modSec f d).thm = d.thm := rfl
@[simp] theorem Dev.modSec_mdv (f : Sec → Sec) (d : Dev) : (Dev.modSec f d).mdv = d.mdv := rfl
@[simp] theorem Dev.modSec_prf (f : Sec → Sec) (d : Dev) : (Dev.modSec f d).prf = d.prf := rfl
@[simp] theorem Dev.modSec_straps (f : Sec → Sec) (d : Dev) : (Dev.modSec f d).straps = d.straps := rfl
@[simp] theorem Dev.modSec_answered (f : Sec → Sec) (d : Dev) : (Dev.modSec f d).answered = d.answered := rfl
@[simp] theorem Dev.modSec_free (f : Sec → Sec) (d : Dev) : (Dev.modSec f d).free = d.free := rfl

@[simp] theorem Dev.modSec_sec (f : Sec → Sec) (d : Dev) : (Dev.modSec f d).sec = f d.sec := rfl

/-! ## Descriptor engine -/

@[simp] theorem Dev.modDsc_regs (f : Dsc → Dsc) (d : Dev) : (Dev.modDsc f d).regs = d.regs := rfl
@[simp] theorem Dev.modDsc_glb (f : Dsc → Dsc) (d : Dev) : (Dev.modDsc f d).glb = d.glb := rfl
@[simp] theorem Dev.modDsc_bite (f : Dsc → Dsc) (d : Dev) : (Dev.modDsc f d).bite = d.bite := rfl
@[simp] theorem Dev.modDsc_evt (f : Dsc → Dsc) (d : Dev) : (Dev.modDsc f d).evt = d.evt := rfl
@[simp] theorem Dev.modDsc_lnk (f : Dsc → Dsc) (d : Dev) : (Dev.modDsc f d).lnk = d.lnk := rfl
@[simp] theorem Dev.modDsc_pwr (f : Dsc → Dsc) (d : Dev) : (Dev.modDsc f d).pwr = d.pwr := rfl
@[simp] theorem Dev.modDsc_brn (f : Dsc → Dsc) (d : Dev) : (Dev.modDsc f d).brn = d.brn := rfl
@[simp] theorem Dev.modDsc_hch (f : Dsc → Dsc) (d : Dev) : (Dev.modDsc f d).hch = d.hch := rfl
@[simp] theorem Dev.modDsc_afe (f : Dsc → Dsc) (d : Dev) : (Dev.modDsc f d).afe = d.afe := rfl
@[simp] theorem Dev.modDsc_tim (f : Dsc → Dsc) (d : Dev) : (Dev.modDsc f d).tim = d.tim := rfl
@[simp] theorem Dev.modDsc_stp (f : Dsc → Dsc) (d : Dev) : (Dev.modDsc f d).stp = d.stp := rfl
@[simp] theorem Dev.modDsc_wave (f : Dsc → Dsc) (d : Dev) : (Dev.modDsc f d).wave = d.wave := rfl
@[simp] theorem Dev.modDsc_hkp (f : Dsc → Dsc) (d : Dev) : (Dev.modDsc f d).hkp = d.hkp := rfl
@[simp] theorem Dev.modDsc_thm (f : Dsc → Dsc) (d : Dev) : (Dev.modDsc f d).thm = d.thm := rfl
@[simp] theorem Dev.modDsc_mdv (f : Dsc → Dsc) (d : Dev) : (Dev.modDsc f d).mdv = d.mdv := rfl
@[simp] theorem Dev.modDsc_prf (f : Dsc → Dsc) (d : Dev) : (Dev.modDsc f d).prf = d.prf := rfl
@[simp] theorem Dev.modDsc_sec (f : Dsc → Dsc) (d : Dev) : (Dev.modDsc f d).sec = d.sec := rfl
@[simp] theorem Dev.modDsc_straps (f : Dsc → Dsc) (d : Dev) : (Dev.modDsc f d).straps = d.straps := rfl
@[simp] theorem Dev.modDsc_answered (f : Dsc → Dsc) (d : Dev) : (Dev.modDsc f d).answered = d.answered := rfl
@[simp] theorem Dev.modDsc_free (f : Dsc → Dsc) (d : Dev) : (Dev.modDsc f d).free = d.free := rfl

@[simp] theorem Dev.modDsc_dsc (f : Dsc → Dsc) (d : Dev) : (Dev.modDsc f d).dsc = f d.dsc := rfl

/-! ## LPDDR4X -/

@[simp] theorem Dev.modMem_regs (d : Dev) (f : Mem → Mem) : (Dev.modMem d f).regs = d.regs := rfl
@[simp] theorem Dev.modMem_glb (d : Dev) (f : Mem → Mem) : (Dev.modMem d f).glb = d.glb := rfl
@[simp] theorem Dev.modMem_bite (d : Dev) (f : Mem → Mem) : (Dev.modMem d f).bite = d.bite := rfl
@[simp] theorem Dev.modMem_evt (d : Dev) (f : Mem → Mem) : (Dev.modMem d f).evt = d.evt := rfl
@[simp] theorem Dev.modMem_lnk (d : Dev) (f : Mem → Mem) : (Dev.modMem d f).lnk = d.lnk := rfl
@[simp] theorem Dev.modMem_dsc (d : Dev) (f : Mem → Mem) : (Dev.modMem d f).dsc = d.dsc := rfl
@[simp] theorem Dev.modMem_pwr (d : Dev) (f : Mem → Mem) : (Dev.modMem d f).pwr = d.pwr := rfl
@[simp] theorem Dev.modMem_brn (d : Dev) (f : Mem → Mem) : (Dev.modMem d f).brn = d.brn := rfl
@[simp] theorem Dev.modMem_hch (d : Dev) (f : Mem → Mem) : (Dev.modMem d f).hch = d.hch := rfl
@[simp] theorem Dev.modMem_afe (d : Dev) (f : Mem → Mem) : (Dev.modMem d f).afe = d.afe := rfl
@[simp] theorem Dev.modMem_tim (d : Dev) (f : Mem → Mem) : (Dev.modMem d f).tim = d.tim := rfl
@[simp] theorem Dev.modMem_stp (d : Dev) (f : Mem → Mem) : (Dev.modMem d f).stp = d.stp := rfl
@[simp] theorem Dev.modMem_hkp (d : Dev) (f : Mem → Mem) : (Dev.modMem d f).hkp = d.hkp := rfl
@[simp] theorem Dev.modMem_thm (d : Dev) (f : Mem → Mem) : (Dev.modMem d f).thm = d.thm := rfl
@[simp] theorem Dev.modMem_mdv (d : Dev) (f : Mem → Mem) : (Dev.modMem d f).mdv = d.mdv := rfl
@[simp] theorem Dev.modMem_prf (d : Dev) (f : Mem → Mem) : (Dev.modMem d f).prf = d.prf := rfl
@[simp] theorem Dev.modMem_sec (d : Dev) (f : Mem → Mem) : (Dev.modMem d f).sec = d.sec := rfl
@[simp] theorem Dev.modMem_straps (d : Dev) (f : Mem → Mem) : (Dev.modMem d f).straps = d.straps := rfl
@[simp] theorem Dev.modMem_answered (d : Dev) (f : Mem → Mem) : (Dev.modMem d f).answered = d.answered := rfl
@[simp] theorem Dev.modMem_free (d : Dev) (f : Mem → Mem) : (Dev.modMem d f).free = d.free := rfl

@[simp] theorem Dev.modMem_mem (d : Dev) (f : Mem → Mem) : (Dev.modMem d f).wave.mem = f d.wave.mem := rfl
@[simp] theorem Dev.modMem_plt (d : Dev) (f : Mem → Mem) : (Dev.modMem d f).wave.plt = d.wave.plt := rfl
@[simp] theorem Dev.modMem_flt (d : Dev) (f : Mem → Mem) : (Dev.modMem d f).wave.flt = d.wave.flt := rfl
@[simp] theorem Dev.modMem_aux (d : Dev) (f : Mem → Mem) : (Dev.modMem d f).wave.aux = d.wave.aux := rfl
@[simp] theorem Dev.modMem_sync (d : Dev) (f : Mem → Mem) : (Dev.modMem d f).wave.sync = d.wave.sync := rfl

/-! ## An axis -/

@[simp] theorem Dev.setAx_regs (d : Dev) (a : Nat) (x : Axis) : (Dev.setAx d a x).regs = d.regs := rfl
@[simp] theorem Dev.setAx_glb (d : Dev) (a : Nat) (x : Axis) : (Dev.setAx d a x).glb = d.glb := rfl
@[simp] theorem Dev.setAx_bite (d : Dev) (a : Nat) (x : Axis) : (Dev.setAx d a x).bite = d.bite := rfl
@[simp] theorem Dev.setAx_evt (d : Dev) (a : Nat) (x : Axis) : (Dev.setAx d a x).evt = d.evt := rfl
@[simp] theorem Dev.setAx_lnk (d : Dev) (a : Nat) (x : Axis) : (Dev.setAx d a x).lnk = d.lnk := rfl
@[simp] theorem Dev.setAx_dsc (d : Dev) (a : Nat) (x : Axis) : (Dev.setAx d a x).dsc = d.dsc := rfl
@[simp] theorem Dev.setAx_pwr (d : Dev) (a : Nat) (x : Axis) : (Dev.setAx d a x).pwr = d.pwr := rfl
@[simp] theorem Dev.setAx_brn (d : Dev) (a : Nat) (x : Axis) : (Dev.setAx d a x).brn = d.brn := rfl
@[simp] theorem Dev.setAx_afe (d : Dev) (a : Nat) (x : Axis) : (Dev.setAx d a x).afe = d.afe := rfl
@[simp] theorem Dev.setAx_tim (d : Dev) (a : Nat) (x : Axis) : (Dev.setAx d a x).tim = d.tim := rfl
@[simp] theorem Dev.setAx_stp (d : Dev) (a : Nat) (x : Axis) : (Dev.setAx d a x).stp = d.stp := rfl
@[simp] theorem Dev.setAx_wave (d : Dev) (a : Nat) (x : Axis) : (Dev.setAx d a x).wave = d.wave := rfl
@[simp] theorem Dev.setAx_hkp (d : Dev) (a : Nat) (x : Axis) : (Dev.setAx d a x).hkp = d.hkp := rfl
@[simp] theorem Dev.setAx_thm (d : Dev) (a : Nat) (x : Axis) : (Dev.setAx d a x).thm = d.thm := rfl
@[simp] theorem Dev.setAx_mdv (d : Dev) (a : Nat) (x : Axis) : (Dev.setAx d a x).mdv = d.mdv := rfl
@[simp] theorem Dev.setAx_prf (d : Dev) (a : Nat) (x : Axis) : (Dev.setAx d a x).prf = d.prf := rfl
@[simp] theorem Dev.setAx_sec (d : Dev) (a : Nat) (x : Axis) : (Dev.setAx d a x).sec = d.sec := rfl
@[simp] theorem Dev.setAx_straps (d : Dev) (a : Nat) (x : Axis) : (Dev.setAx d a x).straps = d.straps := rfl
@[simp] theorem Dev.setAx_answered (d : Dev) (a : Nat) (x : Axis) : (Dev.setAx d a x).answered = d.answered := rfl
@[simp] theorem Dev.setAx_free (d : Dev) (a : Nat) (x : Axis) : (Dev.setAx d a x).free = d.free := rfl

/-! ## A channel -/

@[simp] theorem Dev.setChan_regs (d : Dev) (a : Nat) (x : Chan) : (Dev.setChan d a x).regs = d.regs := rfl
@[simp] theorem Dev.setChan_glb (d : Dev) (a : Nat) (x : Chan) : (Dev.setChan d a x).glb = d.glb := rfl
@[simp] theorem Dev.setChan_bite (d : Dev) (a : Nat) (x : Chan) : (Dev.setChan d a x).bite = d.bite := rfl
@[simp] theorem Dev.setChan_evt (d : Dev) (a : Nat) (x : Chan) : (Dev.setChan d a x).evt = d.evt := rfl
@[simp] theorem Dev.setChan_lnk (d : Dev) (a : Nat) (x : Chan) : (Dev.setChan d a x).lnk = d.lnk := rfl
@[simp] theorem Dev.setChan_dsc (d : Dev) (a : Nat) (x : Chan) : (Dev.setChan d a x).dsc = d.dsc := rfl
@[simp] theorem Dev.setChan_pwr (d : Dev) (a : Nat) (x : Chan) : (Dev.setChan d a x).pwr = d.pwr := rfl
@[simp] theorem Dev.setChan_brn (d : Dev) (a : Nat) (x : Chan) : (Dev.setChan d a x).brn = d.brn := rfl
@[simp] theorem Dev.setChan_hch (d : Dev) (a : Nat) (x : Chan) : (Dev.setChan d a x).hch = d.hch := rfl
@[simp] theorem Dev.setChan_tim (d : Dev) (a : Nat) (x : Chan) : (Dev.setChan d a x).tim = d.tim := rfl
@[simp] theorem Dev.setChan_stp (d : Dev) (a : Nat) (x : Chan) : (Dev.setChan d a x).stp = d.stp := rfl
@[simp] theorem Dev.setChan_wave (d : Dev) (a : Nat) (x : Chan) : (Dev.setChan d a x).wave = d.wave := rfl
@[simp] theorem Dev.setChan_hkp (d : Dev) (a : Nat) (x : Chan) : (Dev.setChan d a x).hkp = d.hkp := rfl
@[simp] theorem Dev.setChan_thm (d : Dev) (a : Nat) (x : Chan) : (Dev.setChan d a x).thm = d.thm := rfl
@[simp] theorem Dev.setChan_mdv (d : Dev) (a : Nat) (x : Chan) : (Dev.setChan d a x).mdv = d.mdv := rfl
@[simp] theorem Dev.setChan_prf (d : Dev) (a : Nat) (x : Chan) : (Dev.setChan d a x).prf = d.prf := rfl
@[simp] theorem Dev.setChan_sec (d : Dev) (a : Nat) (x : Chan) : (Dev.setChan d a x).sec = d.sec := rfl
@[simp] theorem Dev.setChan_straps (d : Dev) (a : Nat) (x : Chan) : (Dev.setChan d a x).straps = d.straps := rfl
@[simp] theorem Dev.setChan_answered (d : Dev) (a : Nat) (x : Chan) : (Dev.setChan d a x).answered = d.answered := rfl
@[simp] theorem Dev.setChan_free (d : Dev) (a : Nat) (x : Chan) : (Dev.setChan d a x).free = d.free := rfl

/-! ## Stipple of a channel -/

@[simp] theorem Dev.setStp1_regs (d : Dev) (a : Nat) (x : StpCh) : (Dev.setStp1 d a x).regs = d.regs := rfl
@[simp] theorem Dev.setStp1_glb (d : Dev) (a : Nat) (x : StpCh) : (Dev.setStp1 d a x).glb = d.glb := rfl
@[simp] theorem Dev.setStp1_bite (d : Dev) (a : Nat) (x : StpCh) : (Dev.setStp1 d a x).bite = d.bite := rfl
@[simp] theorem Dev.setStp1_evt (d : Dev) (a : Nat) (x : StpCh) : (Dev.setStp1 d a x).evt = d.evt := rfl
@[simp] theorem Dev.setStp1_lnk (d : Dev) (a : Nat) (x : StpCh) : (Dev.setStp1 d a x).lnk = d.lnk := rfl
@[simp] theorem Dev.setStp1_dsc (d : Dev) (a : Nat) (x : StpCh) : (Dev.setStp1 d a x).dsc = d.dsc := rfl
@[simp] theorem Dev.setStp1_pwr (d : Dev) (a : Nat) (x : StpCh) : (Dev.setStp1 d a x).pwr = d.pwr := rfl
@[simp] theorem Dev.setStp1_brn (d : Dev) (a : Nat) (x : StpCh) : (Dev.setStp1 d a x).brn = d.brn := rfl
@[simp] theorem Dev.setStp1_hch (d : Dev) (a : Nat) (x : StpCh) : (Dev.setStp1 d a x).hch = d.hch := rfl
@[simp] theorem Dev.setStp1_afe (d : Dev) (a : Nat) (x : StpCh) : (Dev.setStp1 d a x).afe = d.afe := rfl
@[simp] theorem Dev.setStp1_tim (d : Dev) (a : Nat) (x : StpCh) : (Dev.setStp1 d a x).tim = d.tim := rfl
@[simp] theorem Dev.setStp1_wave (d : Dev) (a : Nat) (x : StpCh) : (Dev.setStp1 d a x).wave = d.wave := rfl
@[simp] theorem Dev.setStp1_hkp (d : Dev) (a : Nat) (x : StpCh) : (Dev.setStp1 d a x).hkp = d.hkp := rfl
@[simp] theorem Dev.setStp1_thm (d : Dev) (a : Nat) (x : StpCh) : (Dev.setStp1 d a x).thm = d.thm := rfl
@[simp] theorem Dev.setStp1_mdv (d : Dev) (a : Nat) (x : StpCh) : (Dev.setStp1 d a x).mdv = d.mdv := rfl
@[simp] theorem Dev.setStp1_prf (d : Dev) (a : Nat) (x : StpCh) : (Dev.setStp1 d a x).prf = d.prf := rfl
@[simp] theorem Dev.setStp1_sec (d : Dev) (a : Nat) (x : StpCh) : (Dev.setStp1 d a x).sec = d.sec := rfl
@[simp] theorem Dev.setStp1_straps (d : Dev) (a : Nat) (x : StpCh) : (Dev.setStp1 d a x).straps = d.straps := rfl
@[simp] theorem Dev.setStp1_answered (d : Dev) (a : Nat) (x : StpCh) : (Dev.setStp1 d a x).answered = d.answered := rfl
@[simp] theorem Dev.setStp1_free (d : Dev) (a : Nat) (x : StpCh) : (Dev.setStp1 d a x).free = d.free := rfl

/-! ## Stipple of a bank -/

@[simp] theorem Dev.setStpBank_regs (d : Dev) (a : Nat) (x : StpBank) : (Dev.setStpBank d a x).regs = d.regs := rfl
@[simp] theorem Dev.setStpBank_glb (d : Dev) (a : Nat) (x : StpBank) : (Dev.setStpBank d a x).glb = d.glb := rfl
@[simp] theorem Dev.setStpBank_bite (d : Dev) (a : Nat) (x : StpBank) : (Dev.setStpBank d a x).bite = d.bite := rfl
@[simp] theorem Dev.setStpBank_evt (d : Dev) (a : Nat) (x : StpBank) : (Dev.setStpBank d a x).evt = d.evt := rfl
@[simp] theorem Dev.setStpBank_lnk (d : Dev) (a : Nat) (x : StpBank) : (Dev.setStpBank d a x).lnk = d.lnk := rfl
@[simp] theorem Dev.setStpBank_dsc (d : Dev) (a : Nat) (x : StpBank) : (Dev.setStpBank d a x).dsc = d.dsc := rfl
@[simp] theorem Dev.setStpBank_pwr (d : Dev) (a : Nat) (x : StpBank) : (Dev.setStpBank d a x).pwr = d.pwr := rfl
@[simp] theorem Dev.setStpBank_brn (d : Dev) (a : Nat) (x : StpBank) : (Dev.setStpBank d a x).brn = d.brn := rfl
@[simp] theorem Dev.setStpBank_hch (d : Dev) (a : Nat) (x : StpBank) : (Dev.setStpBank d a x).hch = d.hch := rfl
@[simp] theorem Dev.setStpBank_afe (d : Dev) (a : Nat) (x : StpBank) : (Dev.setStpBank d a x).afe = d.afe := rfl
@[simp] theorem Dev.setStpBank_tim (d : Dev) (a : Nat) (x : StpBank) : (Dev.setStpBank d a x).tim = d.tim := rfl
@[simp] theorem Dev.setStpBank_wave (d : Dev) (a : Nat) (x : StpBank) : (Dev.setStpBank d a x).wave = d.wave := rfl
@[simp] theorem Dev.setStpBank_hkp (d : Dev) (a : Nat) (x : StpBank) : (Dev.setStpBank d a x).hkp = d.hkp := rfl
@[simp] theorem Dev.setStpBank_thm (d : Dev) (a : Nat) (x : StpBank) : (Dev.setStpBank d a x).thm = d.thm := rfl
@[simp] theorem Dev.setStpBank_mdv (d : Dev) (a : Nat) (x : StpBank) : (Dev.setStpBank d a x).mdv = d.mdv := rfl
@[simp] theorem Dev.setStpBank_prf (d : Dev) (a : Nat) (x : StpBank) : (Dev.setStpBank d a x).prf = d.prf := rfl
@[simp] theorem Dev.setStpBank_sec (d : Dev) (a : Nat) (x : StpBank) : (Dev.setStpBank d a x).sec = d.sec := rfl
@[simp] theorem Dev.setStpBank_straps (d : Dev) (a : Nat) (x : StpBank) : (Dev.setStpBank d a x).straps = d.straps := rfl
@[simp] theorem Dev.setStpBank_answered (d : Dev) (a : Nat) (x : StpBank) : (Dev.setStpBank d a x).answered = d.answered := rfl
@[simp] theorem Dev.setStpBank_free (d : Dev) (a : Nat) (x : StpBank) : (Dev.setStpBank d a x).free = d.free := rfl

/-! ## A detector bank -/

@[simp] theorem Dev.setBank_regs (d : Dev) (a : Nat) (x : Bank) : (Dev.setBank d a x).regs = d.regs := rfl
@[simp] theorem Dev.setBank_glb (d : Dev) (a : Nat) (x : Bank) : (Dev.setBank d a x).glb = d.glb := rfl
@[simp] theorem Dev.setBank_bite (d : Dev) (a : Nat) (x : Bank) : (Dev.setBank d a x).bite = d.bite := rfl
@[simp] theorem Dev.setBank_evt (d : Dev) (a : Nat) (x : Bank) : (Dev.setBank d a x).evt = d.evt := rfl
@[simp] theorem Dev.setBank_lnk (d : Dev) (a : Nat) (x : Bank) : (Dev.setBank d a x).lnk = d.lnk := rfl
@[simp] theorem Dev.setBank_dsc (d : Dev) (a : Nat) (x : Bank) : (Dev.setBank d a x).dsc = d.dsc := rfl
@[simp] theorem Dev.setBank_pwr (d : Dev) (a : Nat) (x : Bank) : (Dev.setBank d a x).pwr = d.pwr := rfl
@[simp] theorem Dev.setBank_brn (d : Dev) (a : Nat) (x : Bank) : (Dev.setBank d a x).brn = d.brn := rfl
@[simp] theorem Dev.setBank_hch (d : Dev) (a : Nat) (x : Bank) : (Dev.setBank d a x).hch = d.hch := rfl
@[simp] theorem Dev.setBank_tim (d : Dev) (a : Nat) (x : Bank) : (Dev.setBank d a x).tim = d.tim := rfl
@[simp] theorem Dev.setBank_stp (d : Dev) (a : Nat) (x : Bank) : (Dev.setBank d a x).stp = d.stp := rfl
@[simp] theorem Dev.setBank_wave (d : Dev) (a : Nat) (x : Bank) : (Dev.setBank d a x).wave = d.wave := rfl
@[simp] theorem Dev.setBank_hkp (d : Dev) (a : Nat) (x : Bank) : (Dev.setBank d a x).hkp = d.hkp := rfl
@[simp] theorem Dev.setBank_thm (d : Dev) (a : Nat) (x : Bank) : (Dev.setBank d a x).thm = d.thm := rfl
@[simp] theorem Dev.setBank_mdv (d : Dev) (a : Nat) (x : Bank) : (Dev.setBank d a x).mdv = d.mdv := rfl
@[simp] theorem Dev.setBank_prf (d : Dev) (a : Nat) (x : Bank) : (Dev.setBank d a x).prf = d.prf := rfl
@[simp] theorem Dev.setBank_sec (d : Dev) (a : Nat) (x : Bank) : (Dev.setBank d a x).sec = d.sec := rfl
@[simp] theorem Dev.setBank_straps (d : Dev) (a : Nat) (x : Bank) : (Dev.setBank d a x).straps = d.straps := rfl
@[simp] theorem Dev.setBank_answered (d : Dev) (a : Nat) (x : Bank) : (Dev.setBank d a x).answered = d.answered := rfl
@[simp] theorem Dev.setBank_free (d : Dev) (a : Nat) (x : Bank) : (Dev.setBank d a x).free = d.free := rfl

/-! ## A plate -/

@[simp] theorem Dev.setPlt_regs (d : Dev) (a : Nat) (x : Plt) : (Dev.setPlt d a x).regs = d.regs := rfl
@[simp] theorem Dev.setPlt_glb (d : Dev) (a : Nat) (x : Plt) : (Dev.setPlt d a x).glb = d.glb := rfl
@[simp] theorem Dev.setPlt_bite (d : Dev) (a : Nat) (x : Plt) : (Dev.setPlt d a x).bite = d.bite := rfl
@[simp] theorem Dev.setPlt_evt (d : Dev) (a : Nat) (x : Plt) : (Dev.setPlt d a x).evt = d.evt := rfl
@[simp] theorem Dev.setPlt_lnk (d : Dev) (a : Nat) (x : Plt) : (Dev.setPlt d a x).lnk = d.lnk := rfl
@[simp] theorem Dev.setPlt_dsc (d : Dev) (a : Nat) (x : Plt) : (Dev.setPlt d a x).dsc = d.dsc := rfl
@[simp] theorem Dev.setPlt_pwr (d : Dev) (a : Nat) (x : Plt) : (Dev.setPlt d a x).pwr = d.pwr := rfl
@[simp] theorem Dev.setPlt_brn (d : Dev) (a : Nat) (x : Plt) : (Dev.setPlt d a x).brn = d.brn := rfl
@[simp] theorem Dev.setPlt_hch (d : Dev) (a : Nat) (x : Plt) : (Dev.setPlt d a x).hch = d.hch := rfl
@[simp] theorem Dev.setPlt_afe (d : Dev) (a : Nat) (x : Plt) : (Dev.setPlt d a x).afe = d.afe := rfl
@[simp] theorem Dev.setPlt_tim (d : Dev) (a : Nat) (x : Plt) : (Dev.setPlt d a x).tim = d.tim := rfl
@[simp] theorem Dev.setPlt_stp (d : Dev) (a : Nat) (x : Plt) : (Dev.setPlt d a x).stp = d.stp := rfl
@[simp] theorem Dev.setPlt_hkp (d : Dev) (a : Nat) (x : Plt) : (Dev.setPlt d a x).hkp = d.hkp := rfl
@[simp] theorem Dev.setPlt_thm (d : Dev) (a : Nat) (x : Plt) : (Dev.setPlt d a x).thm = d.thm := rfl
@[simp] theorem Dev.setPlt_mdv (d : Dev) (a : Nat) (x : Plt) : (Dev.setPlt d a x).mdv = d.mdv := rfl
@[simp] theorem Dev.setPlt_prf (d : Dev) (a : Nat) (x : Plt) : (Dev.setPlt d a x).prf = d.prf := rfl
@[simp] theorem Dev.setPlt_sec (d : Dev) (a : Nat) (x : Plt) : (Dev.setPlt d a x).sec = d.sec := rfl
@[simp] theorem Dev.setPlt_straps (d : Dev) (a : Nat) (x : Plt) : (Dev.setPlt d a x).straps = d.straps := rfl
@[simp] theorem Dev.setPlt_answered (d : Dev) (a : Nat) (x : Plt) : (Dev.setPlt d a x).answered = d.answered := rfl
@[simp] theorem Dev.setPlt_free (d : Dev) (a : Nat) (x : Plt) : (Dev.setPlt d a x).free = d.free := rfl

/-! ## A filter chain -/

@[simp] theorem Dev.setFlt_regs (d : Dev) (a : Nat) (x : Flt) : (Dev.setFlt d a x).regs = d.regs := rfl
@[simp] theorem Dev.setFlt_glb (d : Dev) (a : Nat) (x : Flt) : (Dev.setFlt d a x).glb = d.glb := rfl
@[simp] theorem Dev.setFlt_bite (d : Dev) (a : Nat) (x : Flt) : (Dev.setFlt d a x).bite = d.bite := rfl
@[simp] theorem Dev.setFlt_evt (d : Dev) (a : Nat) (x : Flt) : (Dev.setFlt d a x).evt = d.evt := rfl
@[simp] theorem Dev.setFlt_lnk (d : Dev) (a : Nat) (x : Flt) : (Dev.setFlt d a x).lnk = d.lnk := rfl
@[simp] theorem Dev.setFlt_dsc (d : Dev) (a : Nat) (x : Flt) : (Dev.setFlt d a x).dsc = d.dsc := rfl
@[simp] theorem Dev.setFlt_pwr (d : Dev) (a : Nat) (x : Flt) : (Dev.setFlt d a x).pwr = d.pwr := rfl
@[simp] theorem Dev.setFlt_brn (d : Dev) (a : Nat) (x : Flt) : (Dev.setFlt d a x).brn = d.brn := rfl
@[simp] theorem Dev.setFlt_hch (d : Dev) (a : Nat) (x : Flt) : (Dev.setFlt d a x).hch = d.hch := rfl
@[simp] theorem Dev.setFlt_afe (d : Dev) (a : Nat) (x : Flt) : (Dev.setFlt d a x).afe = d.afe := rfl
@[simp] theorem Dev.setFlt_tim (d : Dev) (a : Nat) (x : Flt) : (Dev.setFlt d a x).tim = d.tim := rfl
@[simp] theorem Dev.setFlt_stp (d : Dev) (a : Nat) (x : Flt) : (Dev.setFlt d a x).stp = d.stp := rfl
@[simp] theorem Dev.setFlt_hkp (d : Dev) (a : Nat) (x : Flt) : (Dev.setFlt d a x).hkp = d.hkp := rfl
@[simp] theorem Dev.setFlt_thm (d : Dev) (a : Nat) (x : Flt) : (Dev.setFlt d a x).thm = d.thm := rfl
@[simp] theorem Dev.setFlt_mdv (d : Dev) (a : Nat) (x : Flt) : (Dev.setFlt d a x).mdv = d.mdv := rfl
@[simp] theorem Dev.setFlt_prf (d : Dev) (a : Nat) (x : Flt) : (Dev.setFlt d a x).prf = d.prf := rfl
@[simp] theorem Dev.setFlt_sec (d : Dev) (a : Nat) (x : Flt) : (Dev.setFlt d a x).sec = d.sec := rfl
@[simp] theorem Dev.setFlt_straps (d : Dev) (a : Nat) (x : Flt) : (Dev.setFlt d a x).straps = d.straps := rfl
@[simp] theorem Dev.setFlt_answered (d : Dev) (a : Nat) (x : Flt) : (Dev.setFlt d a x).answered = d.answered := rfl
@[simp] theorem Dev.setFlt_free (d : Dev) (a : Nat) (x : Flt) : (Dev.setFlt d a x).free = d.free := rfl

/-! ## Thermal management -/

@[simp] theorem Dev.modThm_regs (f : Thm → Thm) (d : Dev) : (Dev.modThm f d).regs = d.regs := rfl
@[simp] theorem Dev.modThm_glb (f : Thm → Thm) (d : Dev) : (Dev.modThm f d).glb = d.glb := rfl
@[simp] theorem Dev.modThm_bite (f : Thm → Thm) (d : Dev) : (Dev.modThm f d).bite = d.bite := rfl
@[simp] theorem Dev.modThm_evt (f : Thm → Thm) (d : Dev) : (Dev.modThm f d).evt = d.evt := rfl
@[simp] theorem Dev.modThm_lnk (f : Thm → Thm) (d : Dev) : (Dev.modThm f d).lnk = d.lnk := rfl
@[simp] theorem Dev.modThm_dsc (f : Thm → Thm) (d : Dev) : (Dev.modThm f d).dsc = d.dsc := rfl
@[simp] theorem Dev.modThm_pwr (f : Thm → Thm) (d : Dev) : (Dev.modThm f d).pwr = d.pwr := rfl
@[simp] theorem Dev.modThm_brn (f : Thm → Thm) (d : Dev) : (Dev.modThm f d).brn = d.brn := rfl
@[simp] theorem Dev.modThm_hch (f : Thm → Thm) (d : Dev) : (Dev.modThm f d).hch = d.hch := rfl
@[simp] theorem Dev.modThm_afe (f : Thm → Thm) (d : Dev) : (Dev.modThm f d).afe = d.afe := rfl
@[simp] theorem Dev.modThm_tim (f : Thm → Thm) (d : Dev) : (Dev.modThm f d).tim = d.tim := rfl
@[simp] theorem Dev.modThm_stp (f : Thm → Thm) (d : Dev) : (Dev.modThm f d).stp = d.stp := rfl
@[simp] theorem Dev.modThm_wave (f : Thm → Thm) (d : Dev) : (Dev.modThm f d).wave = d.wave := rfl
@[simp] theorem Dev.modThm_hkp (f : Thm → Thm) (d : Dev) : (Dev.modThm f d).hkp = d.hkp := rfl
@[simp] theorem Dev.modThm_mdv (f : Thm → Thm) (d : Dev) : (Dev.modThm f d).mdv = d.mdv := rfl
@[simp] theorem Dev.modThm_prf (f : Thm → Thm) (d : Dev) : (Dev.modThm f d).prf = d.prf := rfl
@[simp] theorem Dev.modThm_sec (f : Thm → Thm) (d : Dev) : (Dev.modThm f d).sec = d.sec := rfl
@[simp] theorem Dev.modThm_straps (f : Thm → Thm) (d : Dev) : (Dev.modThm f d).straps = d.straps := rfl
@[simp] theorem Dev.modThm_answered (f : Thm → Thm) (d : Dev) : (Dev.modThm f d).answered = d.answered := rfl
@[simp] theorem Dev.modThm_free (f : Thm → Thm) (d : Dev) : (Dev.modThm f d).free = d.free := rfl

/-! ## A temperature sensor -/

@[simp] theorem Dev.setSensor_regs (d : Dev) (a : Nat) (x : Sensor) : (Dev.setSensor d a x).regs = d.regs := rfl
@[simp] theorem Dev.setSensor_glb (d : Dev) (a : Nat) (x : Sensor) : (Dev.setSensor d a x).glb = d.glb := rfl
@[simp] theorem Dev.setSensor_bite (d : Dev) (a : Nat) (x : Sensor) : (Dev.setSensor d a x).bite = d.bite := rfl
@[simp] theorem Dev.setSensor_evt (d : Dev) (a : Nat) (x : Sensor) : (Dev.setSensor d a x).evt = d.evt := rfl
@[simp] theorem Dev.setSensor_lnk (d : Dev) (a : Nat) (x : Sensor) : (Dev.setSensor d a x).lnk = d.lnk := rfl
@[simp] theorem Dev.setSensor_dsc (d : Dev) (a : Nat) (x : Sensor) : (Dev.setSensor d a x).dsc = d.dsc := rfl
@[simp] theorem Dev.setSensor_pwr (d : Dev) (a : Nat) (x : Sensor) : (Dev.setSensor d a x).pwr = d.pwr := rfl
@[simp] theorem Dev.setSensor_brn (d : Dev) (a : Nat) (x : Sensor) : (Dev.setSensor d a x).brn = d.brn := rfl
@[simp] theorem Dev.setSensor_hch (d : Dev) (a : Nat) (x : Sensor) : (Dev.setSensor d a x).hch = d.hch := rfl
@[simp] theorem Dev.setSensor_afe (d : Dev) (a : Nat) (x : Sensor) : (Dev.setSensor d a x).afe = d.afe := rfl
@[simp] theorem Dev.setSensor_tim (d : Dev) (a : Nat) (x : Sensor) : (Dev.setSensor d a x).tim = d.tim := rfl
@[simp] theorem Dev.setSensor_stp (d : Dev) (a : Nat) (x : Sensor) : (Dev.setSensor d a x).stp = d.stp := rfl
@[simp] theorem Dev.setSensor_wave (d : Dev) (a : Nat) (x : Sensor) : (Dev.setSensor d a x).wave = d.wave := rfl
@[simp] theorem Dev.setSensor_hkp (d : Dev) (a : Nat) (x : Sensor) : (Dev.setSensor d a x).hkp = d.hkp := rfl
@[simp] theorem Dev.setSensor_mdv (d : Dev) (a : Nat) (x : Sensor) : (Dev.setSensor d a x).mdv = d.mdv := rfl
@[simp] theorem Dev.setSensor_prf (d : Dev) (a : Nat) (x : Sensor) : (Dev.setSensor d a x).prf = d.prf := rfl
@[simp] theorem Dev.setSensor_sec (d : Dev) (a : Nat) (x : Sensor) : (Dev.setSensor d a x).sec = d.sec := rfl
@[simp] theorem Dev.setSensor_straps (d : Dev) (a : Nat) (x : Sensor) : (Dev.setSensor d a x).straps = d.straps := rfl
@[simp] theorem Dev.setSensor_answered (d : Dev) (a : Nat) (x : Sensor) : (Dev.setSensor d a x).answered = d.answered := rfl
@[simp] theorem Dev.setSensor_free (d : Dev) (a : Nat) (x : Sensor) : (Dev.setSensor d a x).free = d.free := rfl

/-! ## An interval unit -/

@[simp] theorem Dev.setIu_regs (d : Dev) (a : Nat) (x : Iu) : (Dev.setIu d a x).regs = d.regs := rfl
@[simp] theorem Dev.setIu_glb (d : Dev) (a : Nat) (x : Iu) : (Dev.setIu d a x).glb = d.glb := rfl
@[simp] theorem Dev.setIu_bite (d : Dev) (a : Nat) (x : Iu) : (Dev.setIu d a x).bite = d.bite := rfl
@[simp] theorem Dev.setIu_evt (d : Dev) (a : Nat) (x : Iu) : (Dev.setIu d a x).evt = d.evt := rfl
@[simp] theorem Dev.setIu_lnk (d : Dev) (a : Nat) (x : Iu) : (Dev.setIu d a x).lnk = d.lnk := rfl
@[simp] theorem Dev.setIu_dsc (d : Dev) (a : Nat) (x : Iu) : (Dev.setIu d a x).dsc = d.dsc := rfl
@[simp] theorem Dev.setIu_pwr (d : Dev) (a : Nat) (x : Iu) : (Dev.setIu d a x).pwr = d.pwr := rfl
@[simp] theorem Dev.setIu_brn (d : Dev) (a : Nat) (x : Iu) : (Dev.setIu d a x).brn = d.brn := rfl
@[simp] theorem Dev.setIu_hch (d : Dev) (a : Nat) (x : Iu) : (Dev.setIu d a x).hch = d.hch := rfl
@[simp] theorem Dev.setIu_afe (d : Dev) (a : Nat) (x : Iu) : (Dev.setIu d a x).afe = d.afe := rfl
@[simp] theorem Dev.setIu_stp (d : Dev) (a : Nat) (x : Iu) : (Dev.setIu d a x).stp = d.stp := rfl
@[simp] theorem Dev.setIu_wave (d : Dev) (a : Nat) (x : Iu) : (Dev.setIu d a x).wave = d.wave := rfl
@[simp] theorem Dev.setIu_hkp (d : Dev) (a : Nat) (x : Iu) : (Dev.setIu d a x).hkp = d.hkp := rfl
@[simp] theorem Dev.setIu_thm (d : Dev) (a : Nat) (x : Iu) : (Dev.setIu d a x).thm = d.thm := rfl
@[simp] theorem Dev.setIu_mdv (d : Dev) (a : Nat) (x : Iu) : (Dev.setIu d a x).mdv = d.mdv := rfl
@[simp] theorem Dev.setIu_prf (d : Dev) (a : Nat) (x : Iu) : (Dev.setIu d a x).prf = d.prf := rfl
@[simp] theorem Dev.setIu_sec (d : Dev) (a : Nat) (x : Iu) : (Dev.setIu d a x).sec = d.sec := rfl
@[simp] theorem Dev.setIu_straps (d : Dev) (a : Nat) (x : Iu) : (Dev.setIu d a x).straps = d.straps := rfl
@[simp] theorem Dev.setIu_answered (d : Dev) (a : Nat) (x : Iu) : (Dev.setIu d a x).answered = d.answered := rfl
@[simp] theorem Dev.setIu_free (d : Dev) (a : Nat) (x : Iu) : (Dev.setIu d a x).free = d.free := rfl

/-! ## The answer of the management port, and the safety processor -/

@[simp] theorem State.mgmtReply_isl (a : Nat) (v : Word) (s : State) : (s.mgmtReply a v).isl = s.isl := rfl
@[simp] theorem State.mgmtReply_fuses (a : Nat) (v : Word) (s : State) : (s.mgmtReply a v).fuses = s.fuses := rfl
@[simp] theorem State.mgmtReply_pending (a : Nat) (v : Word) (s : State) : (s.mgmtReply a v).pending = s.pending := rfl
@[simp] theorem State.mgmtReply_regs (a : Nat) (v : Word) (s : State) : (s.mgmtReply a v).dev.regs = s.dev.regs := rfl
@[simp] theorem State.mgmtReply_lnk (a : Nat) (v : Word) (s : State) : (s.mgmtReply a v).dev.lnk = s.dev.lnk := rfl
@[simp] theorem State.mgmtReply_ans (a : Nat) (v : Word) (s : State) : (s.mgmtReply a v).dev.pwr.mgmtAns = some (a, v) := rfl
@[simp] theorem Sec.restart_halted (t : Time) (x : Sec) : (x.restart t).halted = false := rfl
@[simp] theorem Sec.restart_service (t : Time) (x : Sec) : (x.restart t).service = x.service := rfl
@[simp] theorem Sec.restart_level (t : Time) (x : Sec) : (x.restart t).level = x.level := rfl
@[simp] theorem Sec.restart_port (t : Time) (x : Sec) : (x.restart t).port = x.port := rfl
@[simp] theorem Sec.restart_bscan (t : Time) (x : Sec) : (x.restart t).bscan = x.bscan := rfl

end Sys2Proof.Machine
end

