-- ==== Sys2Proof/Laws/Tab.lean ====
section
/-! SUPPORT. Laws of sparse tables: what is stored is read back, other keys keep their value, and every operation keeps
the canonical form. -/
namespace Sys2Proof.Machine

variable {α : Type}

theorem tabFind_insert_same (m : Tab α) (k : Nat) (v : α) : tabFind (tabInsert m k v) k = some v := by
  induction m with
  | nil => simp [tabInsert, tabFind]
  | cons e m ih =>
    obtain ⟨j, w⟩ := e
    simp only [tabInsert]
    split
    · simp [tabFind]
    · split
      · simp [tabFind]
      · rename_i h _
        simp [tabFind, h, ih]

theorem tabFind_insert_ne (m : Tab α) {k j : Nat} (v : α) (h : k ≠ j) : tabFind (tabInsert m k v) j = tabFind m j := by
  induction m with
  | nil => simp [tabInsert, tabFind, h]
  | cons e m ih =>
    obtain ⟨i, w⟩ := e
    simp only [tabInsert]
    split
    · rename_i hi
      subst hi
      simp [tabFind, h]
    · split
      · simp [tabFind, h]
      · simp only [tabFind, ih]

theorem tabFind_erase_same (m : Tab α) (k : Nat) : tabFind (tabErase m k) k = none := by
  induction m with
  | nil => rfl
  | cons e m ih =>
    obtain ⟨j, w⟩ := e
    simp only [tabErase]
    split
    · exact ih
    · rename_i h
      simp [tabFind, h, ih]

theorem tabFind_erase_ne (m : Tab α) {k j : Nat} (h : k ≠ j) : tabFind (tabErase m k) j = tabFind m j := by
  induction m with
  | nil => rfl
  | cons e m ih =>
    obtain ⟨i, w⟩ := e
    simp only [tabErase]
    split
    · rename_i hi
      subst hi
      simp [tabFind, h, ih]
    · simp only [tabFind, ih]

section
variable [DecidableEq α]

/-- What is stored at a key is read back. -/
@[simp] theorem tabGet_put_same (d : α) (m : Tab α) (k : Nat) (v : α) : tabGet d (tabPut d m k v) k = v := by
  unfold tabGet tabPut
  split
  · rename_i h
    simp [tabFind_erase_same, h]
  · simp [tabFind_insert_same]

/-- A store leaves every other key alone. -/
theorem tabGet_put_ne (d : α) (m : Tab α) {k j : Nat} (v : α) (h : k ≠ j) : tabGet d (tabPut d m k v) j = tabGet d m j := by
  unfold tabGet tabPut
  split
  · simp [tabFind_erase_ne m h]
  · simp [tabFind_insert_ne m v h]

/-- A store and a read, in one equation. -/
theorem tabGet_put (d : α) (m : Tab α) (k j : Nat) (v : α) :
    tabGet d (tabPut d m k v) j = if k = j then v else tabGet d m j := by
  split
  · rename_i h
    subst h
    simp
  · rename_i h
    exact tabGet_put_ne d m v h

end

/-- Every key of a list is above a bound. -/
def tabAbove (k : Nat) (m : Tab α) : Prop := ∀ e ∈ m, k < e.1

theorem tabSorted_cons {j : Nat} {w : α} {m : Tab α} (h : tabSorted ((j, w) :: m) = true) :
    tabAbove j m ∧ tabSorted m = true := by
  induction m generalizing j w with
  | nil => exact ⟨fun e he => by simp at he, rfl⟩
  | cons e m ih =>
    obtain ⟨k, x⟩ := e
    simp only [tabSorted, Bool.and_eq_true, decide_eq_true_eq] at h
    have r := ih h.2
    refine ⟨fun e he => ?_, h.2⟩
    rcases List.mem_cons.mp he with rfl | he
    · exact h.1
    · exact Nat.lt_trans h.1 (r.1 e he)

theorem tabSorted_of_above {j : Nat} {w : α} {m : Tab α} (h : tabAbove j m) (hs : tabSorted m = true) :
    tabSorted ((j, w) :: m) = true := by
  cases m with
  | nil => rfl
  | cons e m =>
    obtain ⟨k, x⟩ := e
    simp only [tabSorted, Bool.and_eq_true, decide_eq_true_eq]
    exact ⟨h (k, x) List.mem_cons_self, hs⟩

theorem tabErase_mem {m : Tab α} {k : Nat} {e : Nat × α} (h : e ∈ tabErase m k) : e ∈ m := by
  induction m with
  | nil => simp [tabErase] at h
  | cons x m ih =>
    simp only [tabErase] at h
    split at h
    · exact List.mem_cons_of_mem _ (ih h)
    · rcases List.mem_cons.mp h with rfl | h
      · exact List.mem_cons_self
      · exact List.mem_cons_of_mem _ (ih h)

theorem tabInsert_mem {m : Tab α} {k : Nat} {v : α} {e : Nat × α} (h : e ∈ tabInsert m k v) : e = (k, v) ∨ e ∈ m := by
  induction m with
  | nil => simp [tabInsert] at h; exact .inl h
  | cons x m ih =>
    obtain ⟨j, w⟩ := x
    simp only [tabInsert] at h
    split at h
    · rcases List.mem_cons.mp h with rfl | h
      · exact .inl rfl
      · exact .inr (List.mem_cons_of_mem _ h)
    · split at h
      · rcases List.mem_cons.mp h with rfl | h
        · exact .inl rfl
        · exact .inr h
      · rcases List.mem_cons.mp h with rfl | h
        · exact .inr List.mem_cons_self
        · exact (ih h).imp id (List.mem_cons_of_mem _)

theorem tabErase_sorted {m : Tab α} (k : Nat) (h : tabSorted m = true) : tabSorted (tabErase m k) = true := by
  induction m with
  | nil => rfl
  | cons e m ih =>
    obtain ⟨j, w⟩ := e
    have r := tabSorted_cons h
    simp only [tabErase]
    split
    · exact ih r.2
    · exact tabSorted_of_above (fun e he => r.1 e (tabErase_mem he)) (ih r.2)

theorem tabInsert_sorted {m : Tab α} (k : Nat) (v : α) (h : tabSorted m = true) : tabSorted (tabInsert m k v) = true := by
  induction m with
  | nil => rfl
  | cons e m ih =>
    obtain ⟨j, w⟩ := e
    have r := tabSorted_cons h
    simp only [tabInsert]
    split
    · rename_i hk
      subst hk
      exact tabSorted_of_above r.1 r.2
    · split
      · rename_i hlt
        refine tabSorted_of_above (fun e he => ?_) h
        rcases List.mem_cons.mp he with rfl | he
        · exact hlt
        · exact Nat.lt_trans hlt (r.1 e he)
      · rename_i hne hnlt
        refine tabSorted_of_above (fun e he => ?_) (ih r.2)
        rcases tabInsert_mem he with rfl | he
        · show j < k
          omega
        · exact r.1 e he

/-- A store keeps the canonical form. -/
theorem tabPut_wf [DecidableEq α] {d : α} {m : Tab α} (k : Nat) (v : α) (h : tabWf d m = true) : tabWf d (tabPut d m k v) = true := by
  simp only [tabWf, Bool.and_eq_true, List.all_eq_true, bne_iff_ne, ne_eq] at h ⊢
  unfold tabPut
  split
  · exact ⟨tabErase_sorted k h.1, fun e he => h.2 e (tabErase_mem he)⟩
  · rename_i hv
    refine ⟨tabInsert_sorted k v h.1, fun e he => ?_⟩
    rcases tabInsert_mem he with rfl | he
    · exact hv
    · exact h.2 e he

/-- Keeping some entries keeps the canonical form. -/
theorem tabKeep_wf [DecidableEq α] {d : α} {m : Tab α} (p : Nat → Bool) (h : tabWf d m = true) : tabWf d (tabKeep p m) = true := by
  induction m with
  | nil => rfl
  | cons e m ih =>
    obtain ⟨j, w⟩ := e
    simp only [tabWf, Bool.and_eq_true, List.all_eq_true, bne_iff_ne, ne_eq] at h ih ⊢
    have r := tabSorted_cons h.1
    have t := ih ⟨r.2, fun e he => h.2 e (List.mem_cons_of_mem _ he)⟩
    unfold tabKeep at t ⊢
    rw [List.filter_cons]
    split
    · refine ⟨tabSorted_of_above (fun e he => r.1 e (List.mem_filter.mp he).1) t.1, fun e he => ?_⟩
      rcases List.mem_cons.mp he with rfl | he
      · exact h.2 _ List.mem_cons_self
      · exact t.2 e he
    · exact t

end Sys2Proof.Machine
end

