-- ==== Sys2Proof/Laws/Ops.lean ====
section
/-! SUPPORT. Laws of the named operations: registers, bits, events, the gates around a meaning. -/
namespace Sys2Proof.Machine

/-! ## Registers -/

/-- A register reads what was written to it. -/
@[simp] theorem Dev.rd_wr_same (d : Dev) (o : Nat) (v : Word) : (d.wr o v).rd o = v := by
  simp [Dev.rd, Dev.wr]

/-- A write leaves every other register alone. -/
theorem Dev.rd_wr_ne (d : Dev) {o p : Nat} (v : Word) (h : o ≠ p) : (d.wr o v).rd p = d.rd p := by
  simp [Dev.rd, Dev.wr, tabGet, tabPut]
  split
  · rw [tabFind_erase_ne _ h]
  · rw [tabFind_insert_ne _ _ h]

/-- A write and a read, in one equation. -/
theorem Dev.rd_wr (d : Dev) (o p : Nat) (v : Word) : (d.wr o v).rd p = if o = p then v else d.rd p := by
  split
  · rename_i h
    subst h
    simp
  · rename_i h
    exact d.rd_wr_ne v h

/-- Register reads depend on the register file and the straps alone. -/
theorem Dev.rd_congr {d e : Dev} (hr : e.regs = d.regs) (hs : e.straps = d.straps) (o : Nat) : e.rd o = d.rd o := by
  simp [Dev.rd, hr, hs]

@[simp] theorem Dev.rd_modPwr (f : Pwr → Pwr) (d : Dev) (o : Nat) : (d.modPwr f).rd o = d.rd o := rfl
@[simp] theorem Dev.rd_modMdv (f : Mdv → Mdv) (d : Dev) (o : Nat) : (d.modMdv f).rd o = d.rd o := rfl
@[simp] theorem Dev.rd_modPrf (f : Prf → Prf) (d : Dev) (o : Nat) : (d.modPrf f).rd o = d.rd o := rfl
@[simp] theorem Dev.rd_modSec (f : Sec → Sec) (d : Dev) (o : Nat) : (d.modSec f).rd o = d.rd o := rfl
@[simp] theorem Dev.rd_modDsc (f : Dsc → Dsc) (d : Dev) (o : Nat) : (d.modDsc f).rd o = d.rd o := rfl
@[simp] theorem Dev.rd_modMem (d : Dev) (f : Mem → Mem) (o : Nat) : (d.modMem f).rd o = d.rd o := rfl
@[simp] theorem Dev.rd_setAx (d : Dev) (a : Nat) (x : Axis) (o : Nat) : (d.setAx a x).rd o = d.rd o := rfl
@[simp] theorem Dev.rd_setChan (d : Dev) (a : Nat) (x : Chan) (o : Nat) : (d.setChan a x).rd o = d.rd o := rfl
@[simp] theorem Dev.rd_setBank (d : Dev) (a : Nat) (x : Bank) (o : Nat) : (d.setBank a x).rd o = d.rd o := rfl
@[simp] theorem Dev.rd_setPlt (d : Dev) (a : Nat) (x : Plt) (o : Nat) : (d.setPlt a x).rd o = d.rd o := rfl
@[simp] theorem Dev.rd_setFlt (d : Dev) (a : Nat) (x : Flt) (o : Nat) : (d.setFlt a x).rd o = d.rd o := rfl

@[simp] theorem Dev.on_wr (d : Dev) (o : Nat) (v : Word) (k : Nat) : (d.wr o v).on k = d.on k := rfl
@[simp] theorem Dev.on_setAx (d : Dev) (a : Nat) (x : Axis) (k : Nat) : (d.setAx a x).on k = d.on k := rfl
@[simp] theorem Dev.now_wr (d : Dev) (o : Nat) (v : Word) : (d.wr o v).now = d.now := rfl

/-- An axis reads what was stored. -/
@[simp] theorem Dev.ax_setAx (d : Dev) (a : Nat) (x : Axis) : (d.setAx a x).ax a = x := by simp [Dev.ax, Dev.setAx]
/-- Storing an axis leaves the others alone. -/
theorem Dev.ax_setAx_ne (d : Dev) {a b : Nat} (x : Axis) (h : a ≠ b) : (d.setAx a x).ax b = d.ax b := by
  simp [Dev.ax, Dev.setAx, tabGet_put_ne _ _ _ h]
/-- Storing an axis changes that axis alone. -/
theorem Dev.setAx_only (d : Dev) (a : Nat) (x : Axis) : d.OnlyAxis a (d.setAx a x) :=
  ⟨rfl, fun _ h => d.ax_setAx_ne x (fun e => h e.symm)⟩

/-- A channel reads what was stored. -/
@[simp] theorem Dev.chan_setChan (d : Dev) (c : Nat) (x : Chan) : (d.setChan c x).chan c = x := by simp [Dev.chan, Dev.setChan]
/-- A bank reads what was stored. -/
@[simp] theorem Dev.bank_setBank (d : Dev) (b : Nat) (x : Bank) : (d.setBank b x).bank b = x := by simp [Dev.bank, Dev.setBank]
/-- A plate reads what was stored. -/
@[simp] theorem Dev.plt_setPlt (d : Dev) (p : Nat) (x : Plt) : (d.setPlt p x).plt p = x := by simp [Dev.plt, Dev.setPlt]
/-- A filter chain reads what was stored. -/
@[simp] theorem Dev.flt_setFlt (d : Dev) (p : Nat) (x : Flt) : (d.setFlt p x).flt p = x := by simp [Dev.flt, Dev.setFlt]

/-! ## Bits -/

/-- Below 2^32 the word of a number is the number. -/
theorem word_toNat {v : Nat} (h : v < 2 ^ 32) : (word v).toNat = v := by
  simp only [word, BitVec.toNat_ofNat]
  exact Nat.mod_eq_of_lt h

theorem testBit_setBit (m i j : Nat) : (setBit m i).testBit j = (decide (i = j) || m.testBit j) := by
  unfold setBit
  rw [Nat.testBit_or, Nat.one_shiftLeft, Nat.testBit_two_pow, Bool.or_comm]

theorem setBit_lt {m i n : Nat} (h : m < 2 ^ n) (hi : i < n) : setBit m i < 2 ^ n := by
  unfold setBit
  rw [Nat.one_shiftLeft]
  exact Nat.or_lt_two_pow h (Nat.pow_lt_pow_right (by decide) hi)

/-- A bit of a register that was set reads 1. -/
theorem Dev.b_setB_true (d : Dev) (o : Nat) {i : Nat} (h : i < 32) : (d.setB o i true).b o i = true := by
  simp only [Dev.b, Dev.setB, Dev.rd_wr_same, bit, putBit]
  rw [if_pos trivial, word_toNat (setBit_lt (d.rd o).isLt h), testBit_setBit]
  simp

/-- Setting a bit of a register leaves its other bits alone. -/
theorem Dev.b_setB_true_ne (d : Dev) (o : Nat) {i j : Nat} (h : i < 32) (hj : i ≠ j) :
    (d.setB o i true).b o j = d.b o j := by
  simp only [Dev.b, Dev.setB, Dev.rd_wr_same, bit, putBit]
  rw [if_pos trivial, word_toNat (setBit_lt (d.rd o).isLt h), testBit_setBit]
  simp [hj]

/-! ## Loops -/

/-- A relation that is reflexive and transitive holds over a loop when it holds over each turn. -/
theorem forN_rel {α : Type} {n : Nat} {f : Nat → α → α} (P : α → α → Prop) (hr : ∀ d, P d d)
    (ht : ∀ {d e g}, P d e → P e g → P d g) (h : ∀ i d, i < n → P d (f i d)) (d : α) : P d (forN n f d) := by
  have go : ∀ (l : List Nat) (d : α), (∀ i ∈ l, i < n) → P d (l.foldl (fun x i => f i x) d) := by
    intro l
    induction l with
    | nil => exact fun d _ => hr d
    | cons i l ih =>
      exact fun d hl => ht (h i d (hl i List.mem_cons_self)) (ih _ (fun j hj => hl j (List.mem_cons_of_mem _ hj)))
  exact go _ d (fun i hi => by simpa using hi)

/-! ## Events -/

/-- The raw bit of an event lies in no configuration register. -/
theorem evtRaw_ne_cfg {n m : Nat} (hm : m < 512) : evtRawOff n ≠ Reg.DSC_EVT_CFG m := by
  unfold evtRawOff Reg.DSC_EVT_RAW Reg.DSC_EVT_CFG
  omega

/-- The pending records after an occurrence of event `n`. -/
def Dev.pendAfter (d : Dev) (n : Nat) : List Pend :=
  if d.b (Reg.DSC_EVT_CFG n) 0 then pendAdd n d.now d.glb.frameNum d.evt.pend else d.evt.pend

/-- While CORE is powered an occurrence sets its raw bit and opens or merges its record. -/
theorem Dev.raise_eq {d : Dev} {n : Nat} (hc : d.on domCORE = true) (hn : n < 512) :
    d.raise n = { d with regs := (d.setB (evtRawOff n) (n % 32) true).regs,
                         evt := { d.evt with pend := d.pendAfter n } } := by
  have hcfg : (d.setB (evtRawOff n) (n % 32) true).b (Reg.DSC_EVT_CFG n) 0 = d.b (Reg.DSC_EVT_CFG n) 0 := by
    simp [Dev.b, Dev.setB, Dev.rd_wr_ne _ _ (evtRaw_ne_cfg hn)]
  unfold Dev.raise Dev.pendAfter
  simp only [hc, Bool.not_true, Bool.false_eq_true, if_false, hcfg]
  split <;> rfl

/-- While CORE is powered an occurrence is noted, and that is all. -/
theorem Dev.raise_noted {d : Dev} {n : Nat} (hc : d.on domCORE = true) (hn : n < 512) : d.Noted n (d.raise n) := by
  have hr : ∀ o, (d.raise n).rd o = (d.setB (evtRawOff n) (n % 32) true).rd o := fun o => by
    rw [Dev.raise_eq hc hn]
    rfl
  have hlt : n % 32 < 32 := Nat.mod_lt _ (by decide)
  refine ⟨?_, ?_, fun o ho => ?_, fun j hj => ?_, ?_⟩
  · unfold Dev.OnlyNotes
    rw [Dev.raise_eq hc hn]
  · simp only [Dev.b, hr]
    exact d.b_setB_true _ hlt
  · rw [hr]
    exact Dev.rd_wr_ne _ _ (fun h => ho h.symm)
  · simp only [Dev.b, hr]
    exact d.b_setB_true_ne _ hlt (fun h => hj h.symm)
  · rw [Dev.raise_eq hc hn]
    rfl

/-- While CORE is off the event waits for the next wake of CORE. -/
theorem Dev.raise_off {d : Dev} {n : Nat} (hc : d.on domCORE = false) :
    d.raise n = { d with pwr := { d.pwr with lateEv := d.pwr.lateEv ++ [n] } } := by
  unfold Dev.raise
  simp [hc]

end Sys2Proof.Machine
end

