-- ==== Sys2Proof/Laws/Gate.lean ====
section
/-! SUPPORT. What the gates around a meaning let through, said once: supplies, domains, boundary scan, power control. -/
namespace Sys2Proof.Machine

/-- A part with supplies carries a command out. -/
theorem State.live_pos {s : State} (h : s.alive = true) (f : State → State) : s.live f = f s := by simp [State.live, h]

/-- A part without supplies carries none out. -/
theorem State.live_neg {s : State} (h : s.alive = false) (f : State → State) : s.live f = s := by simp [State.live, h]

/-- A command of a powered domain is carried out on the device. -/
theorem State.inDom_pos {s : State} {k : Nat} (h : s.alive = true) (ho : s.dev.on k = true) (f : Dev → Dev) :
    s.inDom k f = { s with dev := f s.dev } := by
  simp [State.inDom, State.live, h, ho, State.onDev]

/-- A command of a domain without power changes nothing. -/
theorem State.inDom_neg {s : State} {k : Nat} (ho : s.dev.on k = false) (f : Dev → Dev) : s.inDom k f = s := by
  simp [State.inDom, State.live, ho]

/-- A pin acts while no boundary instruction is loaded. -/
theorem State.atPin_pos {s : State} {k : Nat} (h : s.alive = true) (hb : s.dev.sec.bscan = false) (ho : s.dev.on k = true)
    (f : Dev → Dev) : s.atPin k f = { s with dev := f s.dev } := by
  simp [State.atPin, hb, State.inDom_pos h ho]

/-- A loaded boundary instruction holds a pin. -/
theorem State.atPin_bscan {s : State} {k : Nat} (hb : s.dev.sec.bscan = true) (f : Dev → Dev) : s.atPin k f = s := by
  simp [State.atPin, hb]

/-- Without a change of the device state, of the domains powered and of the resets of class D, no session closes. -/
theorem State.settle_id {s : State} {before : Dev} (h1 : s.dev.devSt = before.devSt)
    (h2 : s.dev.pwr.domains = before.pwr.domains) (h3 : s.dev.pwr.dCount = before.pwr.dCount) :
    s.settle before = s := by
  have h4 : s.dev.on domCORE = before.on domCORE := by simp [Dev.on, h2]
  unfold State.settle
  simp only [h1, h3, h4]
  cases before.devSt <;> cases before.on domCORE <;> simp

/-- A command that leaves the target set alone starts no sequence. -/
theorem State.revoted_id {s : State} {f : State → State} (h : (f s).dev.target = s.dev.target) : State.revoted f s = f s := by
  simp [State.revoted, h]

/-- The device state depends on the domains powered, on ranging and on the plates alone. -/
theorem Dev.devSt_congr {d e : Dev} (h1 : d.pwr.domains = e.pwr.domains) (h2 : d.brn.ranging = e.brn.ranging)
    (h3 : d.wave.plt = e.wave.plt) : d.devSt = e.devSt := by
  unfold Dev.devSt Dev.on
  rw [h1, h2, h3]

/-- A power command that leaves domains, ranging, plates and the count of class D resets alone is carried out, and that is all. -/
theorem State.power_pos {s : State} {f : Dev → Dev} (h1 : (f s.dev).pwr.domains = s.dev.pwr.domains)
    (h2 : (f s.dev).brn.ranging = s.dev.brn.ranging) (h3 : (f s.dev).wave.plt = s.dev.wave.plt)
    (h4 : (f s.dev).pwr.dCount = s.dev.pwr.dCount) : s.power f = { s with dev := f s.dev } := by
  unfold State.power
  exact State.settle_id (Dev.devSt_congr h1 h2 h3) h1 h4

/-- The target set depends on the votes, thermal management, calibration, pairs and CASC_CTL alone. -/
theorem Dev.target_congr {d e : Dev} (h1 : e.thm = d.thm) (h2 : e.pwr = d.pwr) (h3 : e.prf = d.prf) (h4 : e.mdv = d.mdv)
    (h5 : e.straps = d.straps) (h6 : e.rd Reg.MDV_CASC_CTL = d.rd Reg.MDV_CASC_CTL) : e.target = d.target := by
  have hv : ∀ k, e.vote k = d.vote k := by
    intro k
    unfold Dev.vote Dev.b
    rw [h2, h3, h4, h5, h6]
  unfold Dev.target Dev.voteUnion Dev.critHold
  rw [h1, h2]
  simp only [hv]

/-- Accepting a packet changes the link alone. -/
theorem Dev.rxAccept_eq (k : RxClass) (d : Dev) : ∃ l, d.rxAccept k = { d with lnk := l } := by
  unfold Dev.rxAccept
  dsimp only
  split <;> exact ⟨_, rfl⟩

end Sys2Proof.Machine
end

