-- ==== Sys2Proof/Laws/Hatch.lean ====
section
/-! SUPPORT. Laws of Hatch: what putting a servo table in force touches. -/
namespace Sys2Proof.Machine

/-- Registers alone differ, and of them only those of the window of axis `a`. -/
def Dev.AxisWindow (a : Nat) (d e : Dev) : Prop :=
  e = { d with regs := e.regs } ∧ ∀ o, (o < 0x201000 + 4096 * a ∨ 0x202000 + 4096 * a ≤ o) → e.rd o = d.rd o

theorem Dev.AxisWindow.refl (a : Nat) (d : Dev) : d.AxisWindow a d := ⟨rfl, fun _ _ => rfl⟩

theorem Dev.AxisWindow.trans {a : Nat} {d e g : Dev} (h : d.AxisWindow a e) (k : e.AxisWindow a g) : d.AxisWindow a g :=
  ⟨by rw [k.1]; rw [h.1], fun o ho => (k.2 o ho).trans (h.2 o ho)⟩

theorem Dev.AxisWindow.wr {a o : Nat} (d : Dev) (v : Word) (h : 0x201000 + 4096 * a ≤ o) (h2 : o < 0x202000 + 4096 * a) :
    d.AxisWindow a (d.wr o v) :=
  ⟨rfl, fun _ hp => Dev.rd_wr_ne _ _ (by omega)⟩

/-- A loop of writes in the window stays in the window. -/
theorem Dev.AxisWindow.loop {a n : Nat} {f : Nat → Dev → Dev} (h : ∀ (i : Nat) (d : Dev), i < n → d.AxisWindow a (f i d)) (d : Dev) :
    d.AxisWindow a (forN n f d) :=
  forN_rel (Dev.AxisWindow a) (Dev.AxisWindow.refl a) (fun h k => Dev.AxisWindow.trans h k) h d

/-- A servo table put in force changes registers of its axis alone (03 R79, R97). -/
theorem Dev.putServo_window (a : Nat) (bs : List Byte) (d : Dev) : d.AxisWindow a (Dev.putServo a bs d) := by
  dsimp only [Dev.putServo]
  refine .trans (.trans (.trans (.loop (fun i d hi => .loop (fun j d hj => .wr _ _ ?_ ?_) _) _)
    (.loop (fun i d hi => .loop (fun j d hj => .wr _ _ ?_ ?_) _) _)) (.wr _ _ ?_ ?_))
    (.loop (fun i d hi => .trans (.wr _ _ ?_ ?_) (.wr _ _ ?_ ?_)) _)
  all_goals
    simp only [Reg.HCH_REGION, Reg.HCH_BIQ, Reg.HCH_I_LIM, Reg.HCH_GT0, Reg.HCH_GT1]
    omega

end Sys2Proof.Machine
end

