-- ==== Sys2Proof/Laws/Mem.lean ====
section
/-! SUPPORT. Laws of LPDDR4X memory: every operation keeps its canonical form, and a byte written is read back. -/
namespace Sys2Proof.Machine

/-- Empty memory has the canonical form. -/
theorem Memory.nil_wf : Memory.wf [] = true := rfl

/-- Memory right after reset has the canonical form. -/
theorem State.reset_mem_wf : Memory.wf State.reset.dev.wave.mem.cells = true := rfl

/-- Writing a byte keeps the canonical form. -/
theorem Memory.write_wf {m : List Host.Cell} (a : Nat) (b : Byte) (h : Memory.wf m = true) :
    Memory.wf (Memory.write m a b) = true := tabPut_wf a b h

/-- Writing bytes keeps the canonical form. -/
theorem Memory.writeBytes_wf (bs : List Byte) {m : List Host.Cell} (a : Nat) (h : Memory.wf m = true) :
    Memory.wf (Memory.writeBytes m a bs) = true := by
  induction bs generalizing m a with
  | nil => exact h
  | cons b bs ih => exact ih (a + 1) (Memory.write_wf a b h)

/-- A byte written is read back, and every other byte keeps its value. -/
theorem Memory.read_write (m : List Host.Cell) (a c : Nat) (b : Byte) :
    Memory.read (Memory.write m a b) c = if a = c then b else Memory.read m c := tabGet_put _ _ _ _ _

end Sys2Proof.Machine
end

