-- ==== Sys2Proof/Laws/Shared.lean ====
section
/-! SUPPORT. Laws of shared operations of the cascade, the link, the safety island and the package: each says once everything its
operation can do. -/
namespace Sys2Proof.Machine

/-! ## Cascade messages -/

/-- A message leaves on the lanes where the unit drives its transmitters, and nothing else changes. -/
theorem Dev.cascOut_eq (m : CascMsg) (d : Dev) :
    d.cascOut m = { d with mdv := { d.mdv with tx := if d.drives = true then d.mdv.tx ++ [m] else d.mdv.tx } } := by
  unfold Dev.cascOut
  split <;> rfl

/-- Without an enabled cascade no message is put on the lanes. -/
theorem Dev.cascPut_off {d : Dev} (h : d.cascOn = false) (m : CascMsg) (metered : Bool) : d.cascPut m metered = d := by
  simp [Dev.cascPut, h]

/-- A message that is not metered leaves at once. -/
theorem Dev.cascPut_free {d : Dev} (h : d.cascOn = true) (m : CascMsg) : d.cascPut m false = d.cascOut m := by
  simp [Dev.cascPut, h]

/-- A repeat adds at most one message to the repeated ones, 128 ns after it came, and nothing else changes. -/
theorem Dev.cascRepeat_eq (up : Bool) (m : CascMsg) (t : Time) (d : Dev) :
    d.cascRepeat up m t = { d with mdv := { d.mdv with
      rep := d.mdv.rep ++ (if d.cascMember && d.drives then [{ dt := t + 128 * 1024, up := up, msg := m }] else []) } } := by
  unfold Dev.cascRepeat
  split <;> simp

/-- A message with a good CRC is repeated and acted on. -/
theorem Dev.cascReceive_good (up : Bool) (m : CascMsg) (t : Time) (act : Dev → Dev) (d : Dev) :
    d.cascReceive up true m t act = act (d.cascRepeat up m t) := rfl

/-- A message with a bad CRC is counted by an enabled cascade and has no other effect than the instant at which it came. -/
theorem Dev.cascReceive_bad (up : Bool) (m : CascMsg) (t : Time) (act : Dev → Dev) (d : Dev) :
    d.cascReceive up false m t act = if d.cascOn then (d.at t).inc Reg.MDV_CASC_CRC_CNT else d := rfl

/-! ## The link -/

/-- A packet takes credits of its own class alone. -/
theorem Lnk.take_eq (k : RxClass) (l : Lnk) :
    l.take k = { l with gotPh := (l.take k).gotPh, gotPd := (l.take k).gotPd, gotNph := (l.take k).gotNph } := by
  cases k <;> rfl

/-- A completion takes no credits. -/
theorem Lnk.take_completion (l : Lnk) : l.take .completion = l := rfl

/-! ## Guard inputs and the scan monitor -/

/-- A half accepts a reading only when it differs from the accepted one for at least the filter time, at a sample that no test
pulse of the assigned output masks. -/
theorem InFilter.sample_accepts {f : Nat} {assigned acc closed tp : Bool} {x : InFilter}
    (h : (InFilter.sample f assigned acc closed tp x).1 = true) :
    closed ≠ acc ∧ max f 10 ≤ 10 * x.run ∧ (assigned = true → tp = true ∧ x.mask = 0) := by
  unfold InFilter.sample at h
  dsimp only at h
  split at h
  · cases h
  · rename_i hm
    split at h
    · cases h
    · rename_i hc
      refine ⟨hc, of_decide_eq_true h, fun ha => ?_⟩
      subst ha
      cases tp <;> simp_all

/-- A sample of the monitor without a motion keeps its reference and counts while its head fires. -/
theorem Mon.sample_still {carrier : Bool} {delta : Nat} {t : Time} {vs : List Int} {fired : Bool} {x : Mon}
    (h : ¬ 65536 * delta < (monValue carrier x.m vs - x.ref).natAbs) :
    x.sample carrier delta t vs fired
      = { m := monValue carrier x.m vs, ref := x.ref, timer := if fired then x.timer + 10 else 0, moved := x.moved } := by
  unfold Mon.sample
  cases fired <;> simp [h]

/-- A motion makes the value the reference and restarts the timer. -/
theorem Mon.sample_motion {carrier : Bool} {delta : Nat} {t : Time} {vs : List Int} {fired : Bool} {x : Mon}
    (h : 65536 * delta < (monValue carrier x.m vs - x.ref).natAbs) :
    x.sample carrier delta t vs fired
      = { m := monValue carrier x.m vs, ref := monValue carrier x.m vs, timer := 0, moved := t + 1 } := by
  unfold Mon.sample
  simp [h]

/-! ## The package -/

/-- A ball is on the grid when its row and its column are. -/
theorem Ball.wf_of {b : Ball} (h : (1 ≤ b.row ∧ b.row ≤ 66) ∧ 1 ≤ b.col ∧ b.col ≤ 66) : b.wf = true := by
  simp [Ball.wf, h]

theorem LaneBall.row_bounds (x : LaneBall) : 59 ≤ x.row ∧ x.row ≤ 65 := by
  rcases x with ⟨a, b⟩
  cases a <;> cases b <;> decide

theorem LpSig.place_bounds (x : LpSig) : (45 ≤ x.place.1 ∧ x.place.1 ≤ 57) ∧ 1 ≤ x.place.2 ∧ x.place.2 ≤ 8 := by
  cases x <;> (repeat (rename_i a; revert a)) <;> decide

theorem Ctl.col_bounds (c : Ctl) : 1 ≤ c.col ∧ c.col ≤ 49 := by
  cases c <;> (repeat (rename_i a; revert a)) <;> decide

/-- Every signal lies on a ball of the grid. -/
theorem Pin.ball_wf (p : Pin) : p.ball.wf = true := by
  apply Ball.wf_of
  cases p
  case rx c neg => have := c.isLt; cases neg <;> dsimp only [Pin.ball] <;> simp only [Bool.false_eq_true, if_false, if_true] <;> omega
  case ctl c => have := c.col_bounds; dsimp only [Pin.ball]; omega
  case lp m x => have := x.place_bounds; have := m.isLt; dsimp only [Pin.ball]; omega
  case host l x => have := x.row_bounds; have := l.isLt; dsimp only [Pin.ball]; omega
  case cross l x => have := x.row_bounds; have := l.isLt; dsimp only [Pin.ball]; omega
  case casc dn x => have := x.row_bounds; cases dn <;> dsimp only [Pin.ball] <;> simp only [Bool.false_eq_true, if_false, if_true] <;> omega
  case fire e neg => revert e neg; decide
  case md e neg => revert e neg; decide
  case pf e neg => revert e neg; decide
  case aux e neg => revert e neg; decide
  case lq e => revert e; decide
  case ex e => revert e; decide
  case bias e => revert e; decide
  case ti e => revert e; decide
  case loop e => revert e; decide
  case lsns e => revert e; decide
  case hk e => revert e; decide
  case hkGnd => decide
  case si i b => revert i b; decide
  case tp k => revert k; decide
  case so k b => revert k b; decide
  case len h b => revert h b; decide
  case srstN => decide
  case lpResetN => decide
  case lpZq => decide

end Sys2Proof.Machine
end

