-- ==== Sys2Proof/Laws/Tick.lean ====
section
/-! SUPPORT. Laws of the tick: measuring and publishing the frame that ends leaves the frame's own state alone. -/
namespace Sys2Proof.Machine

/-! ## What leaves the frame state alone -/

@[simp] theorem Dev.raise_glb (d : Dev) (n : Nat) : (d.raise n).glb = d.glb := by
  unfold Dev.raise
  split
  · rfl
  · dsimp only
    split <;> rfl

@[simp] theorem Dev.raiseOnce_glb (d : Dev) (n : Nat) : (d.raiseOnce n).glb = d.glb := by
  unfold Dev.raiseOnce
  split
  · rfl
  · simp

@[simp] theorem Dev.raiseIf_glb (d : Dev) (c : Bool) (n : Nat) : (d.raiseIf c n).glb = d.glb := by
  unfold Dev.raiseIf
  split
  · simp
  · rfl

@[simp] theorem Dev.wrN_glb (d : Dev) (o v : Nat) : (d.wrN o v).glb = d.glb := rfl
@[simp] theorem Dev.inc_glb (d : Dev) (o : Nat) : (d.inc o).glb = d.glb := rfl
@[simp] theorem Dev.add_glb (d : Dev) (o n : Nat) : (d.add o n).glb = d.glb := rfl
@[simp] theorem Dev.setB_glb (d : Dev) (o i : Nat) (v : Bool) : (d.setB o i v).glb = d.glb := rfl
@[simp] theorem Dev.setF_glb (d : Dev) (o h l v : Nat) : (d.setF o h l v).glb = d.glb := rfl
@[simp] theorem Dev.drawN_glb (d : Dev) (n : Nat) : (d.drawN n).2.glb = d.glb := rfl

theorem Dev.when_glb {f : Dev → Dev} (h : ∀ d, (f d).glb = d.glb) (d : Dev) (c : Bool) : (d.when c f).glb = d.glb := by
  unfold Dev.when
  split
  · exact h d
  · rfl

theorem foldl_glb {β : Type} {f : Dev → β → Dev} (h : ∀ d x, (f d x).glb = d.glb) (l : List β) (d : Dev) :
    (l.foldl f d).glb = d.glb := by
  induction l generalizing d with
  | nil => rfl
  | cons x l ih => exact (ih _).trans (h d x)

theorem forN_glb {n : Nat} {f : Nat → Dev → Dev} (h : ∀ i d, (f i d).glb = d.glb) (d : Dev) : (forN n f d).glb = d.glb := by
  exact foldl_glb (fun d i => h i d) _ d

@[simp] theorem Dev.memErrors_glb (l : List (Nat × Bool)) (d : Dev) : (Dev.memErrors l d).glb = d.glb := rfl

@[simp] theorem Dev.brnEnd_glb (d : Dev) : (d.brnEnd).glb = d.glb := by
  dsimp only [Dev.brnEnd]
  refine (Dev.wrN_glb _ _ _).trans (forN_glb (fun i d => ?_) d)
  simp

@[simp] theorem Dev.afePublish_glb (o : TickObs) (d : Dev) : (Dev.afePublish o d).glb = d.glb := by
  dsimp only [Dev.afePublish]
  refine (forN_glb (fun i d => ?_) _).trans ((Dev.raiseIf_glb _ _ _).trans
    ((forN_glb (fun i d => ?_) _).trans (foldl_glb (fun d x => ?_) _ _)))
  all_goals simp

@[simp] theorem Dev.staleFrame_glb (d : Dev) : (d.staleFrame).glb = d.glb := by
  dsimp only [Dev.staleFrame]
  refine (forN_glb (fun i d => ?_) _).trans (Dev.raiseIf_glb _ _ _)
  simp

@[simp] theorem Dev.metersRestart_glb (d : Dev) : (d.metersRestart).glb = d.glb := by
  dsimp only [Dev.metersRestart]
  refine forN_glb (fun i d => ?_) d
  simp

@[simp] theorem Dev.applyEpoch_glb (push : Bool) (e : Epoch) (d : Dev) : (Dev.applyEpoch push e d).glb = d.glb := by
  dsimp only [Dev.applyEpoch, Dev.epochState]
  simp only [Dev.wr_glb, Dev.modPrf_glb, Dev.setF_glb]
  refine foldl_glb (fun d x => ?_) _ _
  split
  · simp [Dev.epochChan]
  · rfl

theorem Dev.ite_glb (c : Prop) [Decidable c] (d e : Dev) : (if c then d else e).glb = if c then d.glb else e.glb := by
  split <;> rfl

@[simp] theorem Dev.qualify_glb (d : Dev) : (d.qualify).glb = d.glb := by
  unfold Dev.qualify
  simp only [Dev.ite_glb, Dev.raise_glb, Dev.modMdv_glb, ite_self]

@[simp] theorem Dev.epochTick_glb (d : Dev) : (d.epochTick).glb = d.glb := by
  unfold Dev.epochTick
  split
  · rfl
  · simp only [Dev.qualify_glb, Dev.modMdv_glb, Dev.applyEpoch_glb]

theorem drawAmps_glb (es : List Echo) (d : Dev) : (Dev.drawAmps es d).2.glb = d.glb := by
  induction es generalizing d with
  | nil => rfl
  | cons e es ih =>
    dsimp only [Dev.drawAmps]
    rw [ih]
    split <;> simp

@[simp] theorem Dev.publishChan_glb (c : Nat) (d : Dev) : (Dev.publishChan c d).2.glb = d.glb := by
  dsimp only [Dev.publishChan]
  simp only [Dev.setStp1_glb, Dev.ite_glb, Dev.wrN_glb, Dev.raiseOnce_glb, Dev.setB_glb, Dev.add_glb, drawAmps_glb,
    Dev.drawN_glb, ite_self]

@[simp] theorem Dev.publishIdle_glb (c : Nat) (d : Dev) : (Dev.publishIdle c d).glb = d.glb := by
  dsimp only [Dev.publishIdle]
  rw [Dev.setStp1_glb, Dev.wrN_glb]

@[simp] theorem Dev.stpPublish_glb (d : Dev) : (d.stpPublish).2.glb = d.glb := by
  dsimp only [Dev.stpPublish]
  have go : ∀ (l : List Nat) (a : List (List Byte) × Dev),
      (l.foldl (fun acc c => if acc.2.chEn c = true then (acc.1 ++ (acc.2.publishChan c).1, (acc.2.publishChan c).2)
        else (acc.1, acc.2.publishIdle c)) a).2.glb = a.2.glb := by
    intro l
    induction l with
    | nil => exact fun a => rfl
    | cons c l ih =>
      intro a
      refine (ih _).trans ?_
      dsimp only
      split
      · exact Dev.publishChan_glb c a.2
      · exact Dev.publishIdle_glb c a.2
  exact (go _ _).trans (Dev.wrN_glb _ _ _)

end Sys2Proof.Machine
end

