-- ==== Sys2Proof/Laws/Time.lean ====
section
/-! SUPPORT. Laws of device time and of the constant forms of the gates: bringing device time to an instant changes the
timebase alone, and a gate looks at its function only where it is applied. -/
namespace Sys2Proof.Machine

/-- Bringing device time to an instant changes the timebase alone. -/
theorem Dev.at_eq (d : Dev) (t : Time) : d.at t = { d with tim := (d.at t).tim } := by unfold Dev.at; split <;> rfl

@[simp] theorem Dev.at_regs (d : Dev) (t : Time) : (d.at t).regs = d.regs := by unfold Dev.at; split <;> rfl
@[simp] theorem Dev.at_rd (d : Dev) (t : Time) (o : Nat) : (d.at t).rd o = d.rd o := by unfold Dev.at; split <;> rfl
@[simp] theorem Dev.at_glb (d : Dev) (t : Time) : (d.at t).glb = d.glb := by unfold Dev.at; split <;> rfl
@[simp] theorem Dev.at_evt (d : Dev) (t : Time) : (d.at t).evt = d.evt := by unfold Dev.at; split <;> rfl
@[simp] theorem Dev.at_afe (d : Dev) (t : Time) : (d.at t).afe = d.afe := by unfold Dev.at; split <;> rfl
@[simp] theorem Dev.at_stp (d : Dev) (t : Time) : (d.at t).stp = d.stp := by unfold Dev.at; split <;> rfl
@[simp] theorem Dev.at_hch (d : Dev) (t : Time) : (d.at t).hch = d.hch := by unfold Dev.at; split <;> rfl
@[simp] theorem Dev.at_hkp (d : Dev) (t : Time) : (d.at t).hkp = d.hkp := by unfold Dev.at; split <;> rfl
@[simp] theorem Dev.at_thm (d : Dev) (t : Time) : (d.at t).thm = d.thm := by unfold Dev.at; split <;> rfl
@[simp] theorem Dev.at_mdv (d : Dev) (t : Time) : (d.at t).mdv = d.mdv := by unfold Dev.at; split <;> rfl
@[simp] theorem Dev.at_pwr (d : Dev) (t : Time) : (d.at t).pwr = d.pwr := by unfold Dev.at; split <;> rfl
@[simp] theorem Dev.at_brn (d : Dev) (t : Time) : (d.at t).brn = d.brn := by unfold Dev.at; split <;> rfl
@[simp] theorem Dev.at_wave (d : Dev) (t : Time) : (d.at t).wave = d.wave := by unfold Dev.at; split <;> rfl
@[simp] theorem Dev.at_plt (d : Dev) (t : Time) (p : Nat) : (d.at t).plt p = d.plt p := by unfold Dev.at; split <;> rfl
@[simp] theorem Dev.at_on (d : Dev) (t : Time) (k : Nat) : (d.at t).on k = d.on k := by unfold Dev.at; split <;> rfl

/-- Whether a domain is powered depends on the power controller alone. -/
theorem Dev.on_congr {d e : Dev} (h : e.pwr.domains = d.pwr.domains) (k : Nat) : e.on k = d.on k := by simp [Dev.on, h]

/-- Storing a plate leaves the others alone. -/
theorem Dev.plt_setPlt_ne (d : Dev) {p q : Nat} (x : Plt) (h : q ≠ p) : (d.setPlt p x).plt q = d.plt q := by
  simp [Dev.plt, Dev.setPlt, tabGet_put_ne _ _ _ (fun e => h e.symm)]

/-- Each gate applies its function once, to the state it is given. -/
theorem State.power_const (f : Dev → Dev) (s : State) : s.power f = s.power (fun _ => f s.dev) := rfl
theorem State.tidied_const (f : Dev → Dev) (s : State) : s.tidied f = s.tidied (fun _ => f s.dev) := rfl
theorem State.revoted_const (f : State → State) (s : State) : State.revoted f s = State.revoted (fun _ => f s) s := rfl

end Sys2Proof.Machine
end

