-- ==== Sys2Proof/Tests/Slice0.lean ====
section
/-! SUPPORT. Tests: ill-formed commands that the well-formedness check refuses, worked values from the spec, and for each
statement a state and operands that meet its hypotheses, clause by clause. -/

open Sys2Proof Sys2Proof.Machine
namespace Sys2Proof.Tests

set_option Elab.async false

/-- The block after reset, with its device and island changed. -/
def at0 (f : Dev → Dev) (g : Island → Island := id) : State := { dev := f State.reset.dev, isl := g State.reset.isl }

/-- A list of registers listed as they are, in rising order of offset. -/
def regs (l : List (Nat × Word)) (d : Dev) : Dev := { d with regs := l }

/-- The same in a part whose time runs. -/
def clocked (l : List (Nat × Word)) (d : Dev) : Dev :=
  { d with regs := l, glb := { d.glb with run := true }, tim := { d.tim with started := true, lock := true, refOk := true } }

/-- A part that answers register accesses over its link. -/
def linked (f : Dev → Dev) (g : Island → Island := id) : State :=
  at0 (fun d => f { d with lnk := { d.lnk with st := .up }, answered := true }) g

/-- Nothing measured in a frame. -/
def noObs : TickObs := { amb := [], ovr := [], gap := 1000000000, mem := [], loops := [] }

/-- A descriptor of a type with parameter bytes from offset 32. -/
def desc (typ : Nat) (par : List Byte := []) (lenA : Nat := 0) (lenB : Nat := 0) : Desc :=
  {
    ring := 0, slot := 0, typ := typ, attn := false, fence := false, bad := false, tag := 0, addrA := 0, lenA := lenA, lenB := lenB,
    addrB := 0, param := par ++ List.replicate (32 - par.length) 0 }

/-- An edge of a capture unit at half a nanosecond times `p`. -/
def edge (p : Nat) : Edge := { p := p, k := 0 }

/-- A running island with emitter 0's limits, all heads enabled and no input pair. -/
def running (i : Island) : Island :=
  { i with st := .run, defaulted := false, spb := [(144, 1), (148, 0x100FFF), (149, 0x100000)], pw := { openAt := some 0 } }

/-- Axis 0 in a state. -/
def axis0 (x : Axis) (l : List (Nat × Word) := []) : State := at0 (fun d => { clocked l d with hch := { axes := [(0, x)] } })

/-- Security in a state. -/
def sec0 (x : Sec) (f : Fuses := {}) (i : Island → Island := id) : State :=
  { at0 (fun d => { d with sec := x }) i with fuses := f }

/-! ## Ill-formed commands are refused -/

theorem wf_refuses_offset : (Instr.registerWrite 0x1000000 0).wf = false ∧ (Instr.brnLimitWrite 2 0).wf = false
    ∧ (Instr.ringCtlWrite 0x1000000 0).wf = false ∧ (Instr.mgmtWrite 1 0 false).wf = false
    ∧ (Instr.loRegisterRead .host 3 0).wf = false ∧ (Instr.loRegisterRead .host 0 256).wf = false := by decide
theorem wf_refuses_tick_channels : (Instr.internalTick { noObs with ovr := [512] }).wf = false
    ∧ (Instr.deferredTick { noObs with amb := [(512, 0)] }).wf = false
    ∧ (Instr.cascadeTick { noObs with loops := [(8, 0)] }).wf = false
    ∧ (Instr.substituteTick { noObs with ovr := [600] }).wf = false
    ∧ (Instr.encoderTick { noObs with ovr := [600] } 0).wf = false
    ∧ (Instr.tickInEdge true 0 { noObs with ovr := [600] }).wf = false := by decide
theorem wf_refuses_servo_readings : (Instr.servoSample 0 []).wf = false := by decide
theorem wf_refuses_window_channels : (Instr.listenWindowClose 0 [512] []).wf = false
    ∧ (Instr.listenWindowClose 0 [] [512]).wf = false := by decide
theorem wf_refuses_read_tag : (Instr.iuResRead 0 .host 256).wf = false := by decide
theorem wf_refuses_slot : (Instr.hkRoundPublish [64]).wf = false := by decide
theorem wf_refuses_test_pulse : (Instr.testPulse 0 [(65536, 0)]).wf = false ∧ (Instr.testPulse 0 [(0, 16)]).wf = false := by decide
theorem wf_refuses_password_length : (Instr.pwPresent 128).wf = false := by decide
/-- An empty epoch. -/
def epoch0 (n : Word) : Epoch := { num := n, tick := 0, famset := 0, seed := 0, phases := true, key := 0, chans := [], digest := true }

theorem wf_refuses_pair_operands : (Instr.claimRound 0 (some 64)).wf = false ∧ (Instr.selfCheckFail 8).wf = false
    ∧ (Instr.echoCompare 0 [[]]).wf = false ∧ (Instr.pairLinkUp 32 false false).wf = false
    ∧ (Instr.stateImageReceived (epoch0 0) [{ c := 512, rows := [], wins := [], pred := [], coarse := [], fine := [] }]).wf = false
    ∧ (Instr.epochReceived {
        num := 0, tick := 0, famset := 0, seed := 0, phases := true, key := 0, digest := true,
        chans := [{ c := 512, gain := 0, clipRun := 0, quietRun := 0, wins := [], pred := [], row := [] }] }).wf = false := by decide
theorem wf_refuses_packets : (Instr.laneAligned 0 16 0).wf = false ∧ (Instr.laneAligned 0 0 256).wf = false
    ∧ (Instr.cplReceived 256 0 0).wf = false ∧ (Instr.cplReceived 0 256 0).wf = false ∧ (Instr.cplReceived 0 0 513).wf = false
    ∧ (Instr.flowReceived 256 0 0 0 0).wf = false ∧ (Instr.flowReceived 0 0 0 4096 0).wf = false
    ∧ (Instr.ackReceived 4096).wf = false ∧ (Instr.nakReceived 4096).wf = false
    ∧ (Instr.badPacketReceived (.malformed (some 256))).wf = false ∧ (Instr.lnkCplTimeout 256).wf = false
    ∧ (Instr.lchReceived 17 0).wf = false := by decide
theorem wf_refuses_rings : (Instr.doorbellPageReadDone true [(64, 0)] [] []).wf = false
    ∧ (Instr.doorbellPageReadDone true [] [(0, 65536)] []).wf = false ∧ (Instr.doorbellPageReadDone true [] [] [(8, 0)]).wf = false
    ∧ (Instr.attnSend 0 64).wf = false ∧ (Instr.attnSend 1 8).wf = false ∧ (Instr.attnSend 2 0).wf = false := by decide
theorem wf_refuses_descriptors : (Instr.nop { desc 0 with slot := 65536 }).wf = false ∧ (Instr.nop { desc 0 with addrA := 2 }).wf = false
    ∧ (Instr.nop { desc 0 with lenA := 2 }).wf = false ∧ (Instr.nop { desc 0 with param := [] }).wf = false
    ∧ (Instr.descriptorFetchDone 0 true [{ desc 0 with tag := 2 ^ 32 }]).wf = false
    ∧ (Instr.powerVote { desc 12 with typ := 256 }).wf = false ∧ (Instr.nop (desc 0)).wf = true := by decide
theorem wf_refuses_power_operands : (Instr.voteWrite 2 0).wf = false ∧ (Instr.wakeAttemptTimeout 64 false).wf = false
    ∧ (Instr.powerOnReset { eqSel := 4 }).wf = false ∧ (Instr.coldReset { cascRole := 4 }).wf = false
    ∧ (Instr.supplyDroop { mgmtAddr := 8 }).wf = false ∧ (Instr.debugBusAccess false (2 ^ 32) 0).wf = false := by decide

/-! ## Hypotheses that can be met: registers, ticks, shots -/

/-- Answers hold of a linked part. -/
theorem answers_linked : (linked id).answers ∧ (linked id (fun i => { i with defaulted := false, pw := { openAt := some 0 } })).answers := by
  unfold State.answers; decide +kernel

theorem witness_RegisterWritesFollowTheAccessCode :
    (linked id).answers
    ∧ rowOf 0xFFFFFC = none
    ∧ (∃ r ix, rowOf Reg.GLB_FRAME_NUM = some (r, ix) ∧ r.acc = .ro)
    ∧ (∃ r ix, rowOf (Reg.AFE_CH_CTL 0) = some (r, ix) ∧ r.acc ≠ .ro)
    ∧ (∃ r ix, rowOf Reg.TIM_REF_CTL = some (r, ix) ∧ r.acc = .rw ∧ ringOf Reg.TIM_REF_CTL = none ∧ baseGuard Reg.TIM_REF_CTL = none
        ∧ Reg.TIM_REF_CTL ∉ [Reg.MDV_CASC_CTL, Reg.MDV_TICK_LEAD, Reg.GLB_MEM_CFG, Reg.PWR_TIMER, Reg.SEC_DBG_CTL]
        ∧ r.base ∉ [Reg.PWR_VOTE 0, Reg.DSC_EVT_CFG 0] ∧ Reg.TIM_REF_CTL ≠ Reg.SEC_DBG_DATA)
    ∧ (∃ r ix, rowOf Reg.HKP_OPEN_LATCH = some (r, ix) ∧ r.acc = .w1c ∧ Reg.HKP_OPEN_LATCH ≠ Reg.MDV_CASC_CTL)
    ∧ (∃ r ix, rowOf (Reg.BRN_EM_START 15) = some (r, ix) ∧ r.acc = .rwt
        ∧ Reg.BRN_EM_START 15 ∉ [Reg.GLB_FRAME_LEN, Reg.GLB_FRAME_MIN, Reg.GLB_FRAME_MAX, Reg.BRN_CODE_SEED, Reg.BRN_CODE_CTL]
        ∧ r.base ∉ [Reg.HKP_SLOT_CFG 0, Reg.HKP_SLOT_AUX 0])
    ∧ (∃ r ix, rowOf Reg.HKP_EL_CTL = some (r, ix) ∧ r.acc = .rwp ∧ isBrnLimit Reg.HKP_EL_CTL = false
        ∧ (linked id).isl.pw.openAt = none ∧ (linked id).dev.on domCORE = true) := by
  refine ⟨answers_linked.1, by decide +kernel, ⟨_, _, rfl, by decide +kernel⟩, ⟨_, _, rfl, by decide +kernel⟩, ⟨_, _, rfl, by decide +kernel⟩,
    ⟨_, _, rfl, by decide +kernel⟩, ⟨_, _, rfl, by decide +kernel⟩, ⟨_, _, rfl, by decide +kernel⟩⟩

/-- A part on a tick source, with one tick deferred. -/
def ticked (k : Src) (defer : Bool) (l : List (Nat × Word)) : State :=
  at0 (fun d => { clocked l d with glb := { d.glb with run := true, src := k, deferred := defer, encAcc := 256 } })

theorem witness_TicksFallWhenTheSourceSays :
    ((ticked .internal false []).alive = true ∧ (ticked .internal false []).dev.ticking = true
      ∧ (ticked .internal false []).dev.cascMaster = false ∧ (ticked .internal false []).dev.isStandby = false)
    ∧ (let d := (ticked .encoder false [(Reg.GLB_ENC_CTL, 32), (Reg.GLB_ENC_TICK_DIST, 1)]).dev;
      d.ticking = true ∧ d.cascMaster = false ∧ d.b Reg.GLB_ENC_CTL 5 = true ∧ d.f Reg.GLB_ENC_TICK_DIST 23 0 = 1
        ∧ d.glb.encAcc = 256 ∧ d.glb.start + d.f Reg.GLB_FRAME_MIN 19 0 * 1024 ≤ 10 ^ 9)
    ∧ (let d := (ticked .tickIn false []).dev;
      d.ticking = true ∧ d.cascMaster = false ∧ d.sec.bscan = false
        ∧ d.glb.start + d.f Reg.GLB_FRAME_MIN 19 0 * 1024 ≤ 10 ^ 9 / 8 * 8 + 40 * 1024)
    ∧ (let d := (ticked .tickIn true []).dev;
      d.ticking = true ∧ d.cascMaster = false ∧ d.glb.deferred = true)
    ∧ (let d := (ticked .tickIn false [(Reg.GLB_TICK_CTL, 8)]).dev;
      d.ticking = true ∧ d.cascMaster = false ∧ d.glb.src ≠ .internal ∧ d.b Reg.GLB_TICK_CTL 3 = true)
    ∧ (let d : Dev := { (ticked .cascade false [(Reg.GLB_TICK_CTL, 3), (Reg.MDV_CASC_CTL, 4096)]).dev with
          straps := { cascRole := 1 },
          mdv := { ticks := [{ dt := 0, fr := 0, kind := .cascade }, { dt := 10 ^ 9, fr := 1, kind := .cascade }] } };
      d.ticking = true ∧ d.cascMaster = false ∧ d.cascMember = true ∧ d.f Reg.GLB_TICK_CTL 1 0 = 3 ∧ d.glb.src = .cascade
        ∧ d.glb.deferred = false ∧ 0 < d.glb.start + d.f Reg.GLB_FRAME_MIN 19 0 * 1024
        ∧ d.glb.start + d.f Reg.GLB_FRAME_MIN 19 0 * 1024 ≤ 10 ^ 9) := by decide +kernel

theorem witness_EarlyTicksAreDeferredOnce :
    (let d := (ticked .tickIn false [(Reg.GLB_FRAME_MIN, 25000)]).dev;
      d.ticking = true ∧ d.cascMaster = false ∧ d.glb.src = .tickIn ∧ d.sec.bscan = false ∧ d.glb.deferred = false
        ∧ 0 / 8 * 8 + 40 * 1024 < d.glb.start + d.f Reg.GLB_FRAME_MIN 19 0 * 1024)
    ∧ (let d := (ticked .tickIn true [(Reg.GLB_FRAME_MIN, 25000)]).dev;
      d.ticking = true ∧ d.cascMaster = false ∧ d.glb.src = .tickIn ∧ d.glb.deferred = true
        ∧ 0 / 8 * 8 + 40 * 1024 < d.glb.start + d.f Reg.GLB_FRAME_MIN 19 0 * 1024) := by decide +kernel

theorem witness_EncoderPositionIsCountedAndLatched :
    State.reset.dev.regs = []
    ∧ (let s := ticked .encoder false [];
      s.alive = true ∧ s.dev.sec.bscan = false ∧ s.dev.on domCORE = true ∧ s.dev.b Reg.GLB_ENC_CTL 5 = false
        ∧ s.dev.glb.encA = false ∧ s.dev.glb.encB = false)
    ∧ (let d := (ticked .encoder false [(Reg.GLB_ENC_CTL, 32)]).dev;
      d.b Reg.GLB_ENC_CTL 5 = true ∧ d.glb.encA ≠ true ∧ d.glb.encB ≠ true ∧ d.glb.encB = false) := by decide +kernel

/-- Emitter 0 with one shot planned. -/
def ranging (d : Dev) : Dev :=
  { clocked [(Reg.BRN_EM_CTL 0, 9), (Reg.BRN_EM_COUNT 0, 1), (Reg.BRN_LIM_PULSE 0, 16), (Reg.BRN_LIM_GATE 0, 65536)] d with
    brn := { d.brn with ranging := true } }

theorem witness_ShotsFireOnlyWhenPermitted :
    ((at0 ranging running).alive = true ∧ (at0 ranging running).dev.on domACQ = true ∧ (at0 ranging running).dev.planned 0 = 1
      ∧ (at0 ranging running).dev.planFires 0 0 = true ∧ (at0 ranging running).mayEmit 0 = true
      ∧ (at0 ranging running).dev.counterRoom (at0 ranging running).isl.spb 0 1 = 1)
    ∧ ((at0 ranging).isl.st ≠ .run ∧ (at0 ranging).mayEmit 0 = false ∧ (at0 ranging).dev.drives = true
      ∧ (at0 ranging).dev.brn.recharged.testBit 0 = false)
    ∧ (let s := at0 ranging (fun i => { running i with st := .wait });
      s.mayEmit 0 = false ∧ tabGet 0 s.isl.count 0 + 16 ≤ spbPulse s.isl.spb 0
        ∧ tabGet 0 s.isl.gate 0 + 64 ≤ spbGate s.isl.spb 0 + 2 * (tabGet 0 s.isl.count 0 + 16) ∧ 4159 ≤ spbCharge s.isl.spb 0 + 64) := by
  decide +kernel

theorem witness_LimitWritesNeedASession :
    (let s := at0 id running;
      s.alive = true ∧ s.dev.on domCORE = true ∧ s.isl.rwpOk = true ∧ fld 4095 11 0 ≤ spbCharge s.isl.spb 0
        ∧ fld 16 12 0 ≤ spbPulse s.isl.spb 0 ∧ fld 0x100000 23 0 ≤ spbGate s.isl.spb 0 ∧ s.dev.elOn = false
        ∧ spbPulse s.isl.spb 0 < fld 17 12 0)
    ∧ (at0 id).isl.rwpOk = false ∧ isBrnLimit 0 = false := by decide +kernel

theorem witness_AxisCommandsMoveOneAxis :
    (let s := axis0 { cmds := [.engage] };
      s.alive = true ∧ s.dev.on domSERVO = true ∧ s.dev.on domCORE = true ∧ s.dev.tim.started = true ∧ s.dev.pwr.dtFrozen = false
        ∧ s.dev.servoLeaving = false ∧ (s.dev.ax 0).cmds = [.engage] ∧ (s.dev.ax 0).trip = none ∧ (s.dev.ax 0).ramp = false
        ∧ (s.dev.ax 0).tracked = 0 ∧ (s.dev.ax 0).tblOk = false ∧ (s.dev.ax 0).st ≠ .run ∧ (s.dev.ax 0).drive = 0)
    ∧ (let x := (axis0 { tblOk := true, profOk := true, cmds := [.engage] }).dev.ax 0;
      x.tblOk = true ∧ x.profOk = true ∧ x.latched = false ∧ x.st = .disabled ∧ x.st ≠ .openPark)
    ∧ (let x := (axis0 { tblOk := true, profOk := true, st := .parked, cmds := [.engage] }).dev.ax 0;
      x.tblOk = true ∧ x.profOk = true ∧ x.latched = false ∧ x.st = .parked)
    ∧ (let x := (axis0 { tblOk := true, profOk := true, st := .run, cmds := [.park], drive := 5 }).dev.ax 0;
      x.cmds = [.park] ∧ x.tblOk = true ∧ x.profOk = true ∧ x.latched = false ∧ x.st = .run ∧ x.drive ≠ 0)
    ∧ ((axis0 { st := .openPark, cmds := [.clear] }).dev.ax 0).st = .openPark := by decide +kernel

theorem witness_AxesMoveOnByTimeAndByFault :
    (let s := axis0 { st := .engaging, samples := 80 };
      s.alive = true ∧ s.dev.on domSERVO = true ∧ s.dev.servoLeaving = false ∧ (s.dev.ax 0).st = .engaging ∧ 80 ≤ (s.dev.ax 0).samples
        ∧ (s.dev.ax 0).fbRun = 0 ∧ (s.dev.ax 0).fbLoss = false)
    ∧ ((axis0 { st := .engaging, samples := 80, fbRun := 1 }).dev.ax 0).fbRun ≠ 0
    ∧ ((axis0 { st := .engaging, samples := 79 }).dev.ax 0).samples < 80
    ∧ ((axis0 { st := .parking, samples := 800 }).dev.ax 0).st = .parking
    ∧ ((axis0 { st := .parking, samples := 799 }).dev.ax 0).samples < 800
    ∧ (let d := (axis0 { exOn := true, fbRun := 255 }).dev;
      d.on domCORE = true ∧ (d.ax 0).exOn = true ∧ 0 < (d.ax 0).fbRun ∧ d.f (Reg.HCH_FB_CHK 0) 7 0 ≤ (d.ax 0).fbRun)
    ∧ (let d := (axis0 { st := .run, frzRun := 2 } [(Reg.HCH_FRZ_CTL 0, 0x20000)]).dev;
      (d.ax 0).st = .run ∧ 0 < d.f (Reg.HCH_FRZ_CTL 0) 23 16 ∧ d.f (Reg.HCH_FRZ_CTL 0) 23 16 ≤ (d.ax 0).frzRun)
    ∧ (let d := (axis0 { st := .run, errRun := 255 }).dev;
      (d.ax 0).st = .run ∧ 0 < (d.ax 0).errRun ∧ d.f (Reg.HCH_ERR_CTL 0) 23 16 ≤ (d.ax 0).errRun)
    ∧ ((axis0 {}).dev.ax 0).exOn = false ∧ ((axis0 {}).dev.ax 0).st ≠ .run
    ∧ (let d := (axis0 { st := .run, exOn := true, trip := some .toOpen }).dev;
      d.tim.started = true ∧ d.pwr.dtFrozen = false ∧ (d.ax 0).exOn = true ∧ (d.ax 0).cmds = [] ∧ (d.ax 0).ramp = false)
    ∧ ((axis0 { st := .run, trip := some .toPark }).dev.ax 0).trip = some .toPark := by decide +kernel

theorem witness_ServoTableSwapAndTrackedDrive :
    (let s := axis0 { swapDue := true, shadow := some [] };
      s.alive = true ∧ s.dev.on domCORE = true ∧ s.dev.on domSERVO = true ∧ (s.dev.ax 0).swapDue = true ∧ (s.dev.ax 0).shadow = some [])
    ∧ ((axis0 {}).dev.ax 0).shadow = none ∧ (axis0 {}).dev.isStandby = false
    ∧ (let d : Dev := { (axis0 {}).dev with straps := { pairEn := true }, mdv := { xlink := true } };
      d.isStandby = true ∧ d.mdv.xlink = true ∧ 3 ≤ (d.ax 0).biq.length) := by decide +kernel

theorem witness_ServoSamplesDriveEveryAxis :
    (let s := axis0 { st := .run };
      s.alive = true ∧ s.dev.on domSERVO = true ∧ s.dev.on domCORE = true ∧ s.dev.tim.started = true ∧ s.dev.pwr.dtFrozen = false
        ∧ s.dev.servoLeaving = false ∧ (s.dev.ax 0).st = .run ∧ (s.dev.ax 0).tracked = 0 ∧ (s.dev.ax 0).cmds = []
        ∧ (s.dev.ax 0).trip = none ∧ (s.dev.ax 0).ramp = false)
    ∧ ((axis0 { st := .run, tracked := 2 }).dev.ax 0).tracked = 2 ∧ ((axis0 { st := .openPark, ramp := true, drive := 3 }).dev.ax 0).drive = 3
    ∧ ((axis0 {}).dev.ax 0).st = .disabled ∧ ((axis0 { st := .openPark }).dev.ax 7).st = .disabled
    ∧ ([{ x0 := 0, x1 := 0, x2 := 0, x3 := 0, x4 := 0, cmOk := true, exRead := 0 }] : List PfIn)[0]?.isSome = true
    ∧ ((axis0 { st := .openPark }).dev.ax 0).st = .openPark ∧ ((axis0 { st := .parked }).dev.ax 0).st = .parked := by decide +kernel

/-! ## Hypotheses that can be met: receive channels, timing, histograms -/

/-- Bank 0 lit by emitter 0, with one bank record and one channel record. -/
def bank0 (x : Bank) (c : Chan := {}) (l : List (Nat × Word) := []) (noWin : Nat := 0) : State :=
  at0 (fun d => { clocked l d with afe := { d.afe with banks := [(0, x)], chans := [(0, c)], noWin := noWin } })

theorem witness_GainWaitsForTheShotBoundary :
    ((bank0 {}).alive = true ∧ (bank0 {}).dev.on domACQ = true ∧ (bank0 {}).dev.noWin (bankOf 0) = false)
    ∧ (bank0 {} {} [] 1).dev.noWin (bankOf 0) = true := by decide +kernel

theorem witness_ListenWindowsOpenAndClose :
    (let s := bank0 { refs := [(0, 0)] } {} [(Reg.BRN_ILLUM_EN, 1)];
      s.alive = true ∧ s.dev.on domACQ = true ∧ (s.dev.bank 0).refs = [(0, 0)] ∧ (s.dev.bank 0).win = none
        ∧ s.dev.bankEmitter 0 = some 0 ∧ (s.dev.bank 0).settle ≤ 0 + 8 * s.dev.winOfs (0 / 8))
    ∧ (let s := bank0 { refs := [(0, 0)], settle := 10 ^ 6 } {} [(Reg.BRN_ILLUM_EN, 1)];
      0 + 8 * s.dev.winOfs (0 / 8) < (s.dev.bank 0).settle)
    ∧ ((bank0 {}).dev.bank 0).refs = []
    ∧ ((bank0 { win := some { e := 0, k := 0, fire := 0, opened := 0, close := 1 } }).dev.bank 0).win
        = some { e := 0, k := 0, fire := 0, opened := 0, close := 1 }
    ∧ (let s := bank0 { missed := [5] } {} [(Reg.BRN_ILLUM_EN, 1)];
      (s.dev.bank 0).win = none ∧ (s.dev.bank 0).missed = [5] ∧ s.dev.bankEmitter 0 = some 0)
    ∧ ((bank0 {}).dev.bank 0).win = none ∧ ((bank0 {}).dev.bank 0).missed = [] := by decide +kernel

/-- An open window of bank 0. -/
def win0 : Bank := { win := some { e := 0, k := 0, fire := 0, opened := 0, close := 10 ^ 6 } }

theorem witness_ComparatorEdgesMakeEvents :
    (let s := bank0 win0 {} [(Reg.AFE_CH_CTL 0, 0x10000000)];
      let t := s.dev.edgeTime (Reg.TIM_TBL 0 0) (edge 1)
      s.alive = true ∧ s.dev.on domACQ = true ∧ s.dev.on domCORE = true ∧ (s.dev.chan 0).low = false
        ∧ s.dev.chEn 0 = true ∧ s.dev.borrowed 0 = false ∧ s.dev.tim.lock = true ∧ win0.win.any (·.counted) = true ∧ 0 ≤ t ∧ t ≤ 10 ^ 6
        ∧ s.dev.prf.settle.testBit 0 = false ∧ (s.dev.chan 0).evCount < 4 ∧ (s.dev.chan 0).lastEnd = 0)
    ∧ ((bank0 win0 { evCount := 4 }).dev.chan 0).evCount = 4
    ∧ (let s := bank0 win0 { lastEnd := 10 ^ 5 } [(Reg.AFE_CH_CTL 0, 0x10000000)];
      let t := s.dev.edgeTime (Reg.TIM_TBL 0 0) (edge 1)
      (s.dev.chan 0).lastEnd ≠ 0 ∧ t < (s.dev.chan 0).lastEnd - 1 + s.dev.deadTime (bankOf 0))
    ∧ (let s := bank0 win0 { low := true, ev := some { on := 0, hi := none, clip := false } };
      (s.dev.chan 0).low = true ∧ (s.dev.chan 0).ev = some { on := 0, hi := none, clip := false } ∧ (s.dev.bank (bankOf 0)).win = win0.win
        ∧ s.dev.tim.lock = true)
    ∧ ((at0 (fun d => { d with afe := { d.afe with chans := [(0, { low := true })] } })).dev.chan 0).low = true
    ∧ (at0 id).dev.tim.lock = false
    ∧ ((bank0 {}).dev.chan 0).ev = none ∧ ((bank0 {}).dev.chan 0).low = false := by decide +kernel

theorem witness_LocksAndReferences :
    ((at0 id).alive = true ∧ (at0 id).dev.tim.lock = false ∧ (at0 id).dev.tim.noRef = false ∧ (at0 id).dev.tim.lockLost = false
      ∧ (at0 id).dev.pwr.shutHold = false ∧ (at0 id).dev.tim.started = false ∧ (at0 id).dev.on domCORE = true)
    ∧ (at0 (fun d => { d with tim := { started := true } })).dev.tim.started = true
    ∧ (let d := (at0 (clocked [(Reg.TIM_REF_CTL, 1)])).dev;
      d.tim.lock = true ∧ d.tim.refOk = true ∧ d.b Reg.TIM_REF_CTL 0 = true)
    ∧ (let d := (at0 (clocked [(Reg.TIM_REF_CTL, 0)])).dev;
      d.tim.lock = true ∧ d.tim.refOk = true ∧ d.b Reg.TIM_REF_CTL 0 = false ∧ d.tim.holdover = false)
    ∧ ((at0 (fun d => { d with tim := { holdover := true } })).dev.tim.holdover = true
      ∧ (at0 (fun d => { d with tim := { holdover := true } })).dev.tim.refOk = false) ∧ (at0 id).dev.tim.refOk = false
    ∧ (at0 (clocked [])).dev.tim.refOk = true := by decide +kernel

/-- Interval unit 0 in a state, with its control register. -/
def unit0 (x : Iu) (l : List (Nat × Word)) (last : Nat := 0) : State :=
  at0 (fun d => { clocked l d with tim := { d.tim with lock := true, started := true, iu := [(0, x)], lastEdge := [(0, last)] } })

theorem witness_TimingInputEdgesDriveIntervalUnits :
    (let s := unit0 {} [(Reg.TIM_TI_IN 0, 0x100000)] (10 ^ 6);
      let t := s.dev.edgeTime (tiTable 0 true) (edge 1)
      s.alive = true ∧ s.dev.sec.bscan = false ∧ s.dev.on domACQ = true ∧ s.dev.b (Reg.TIM_TI_IN 0) 20 = true ∧ s.dev.tim.lock = true
        ∧ tabGet 0 s.dev.tim.lastEdge 0 ≠ 0
        ∧ t < tabGet 0 s.dev.tim.lastEdge 0 - 1 + max 1 (s.dev.f (Reg.TIM_TI_IN 0) 19 12) * 4 * 1024)
    ∧ (let s := unit0 { st := .armed 0 } [(Reg.TIM_TI_IN 0, 0x100000), (Reg.TIM_IU_CTL 0, 0x1001)];
      tabGet 0 s.dev.tim.lastEdge 0 = 0 ∧ s.dev.iuOn 0 = true ∧ (s.dev.iu 0).st = .armed 0
        ∧ s.dev.f (Reg.TIM_IU_CTL 0) 6 4 = 0 ∧ s.dev.b (Reg.TIM_IU_CTL 0) 7 ≠ true ∧ s.dev.f (Reg.TIM_IU_CTL 0) 14 12 ≠ 0
        ∧ s.dev.iuOn 1 = false) := by decide +kernel

theorem witness_IntervalUnitsFormResults :
    (let s := unit0 {} [(Reg.TIM_IU_CTL 0, 1)];
      s.alive = true ∧ s.dev.on domACQ = true ∧ s.dev.on domCORE = true ∧ s.dev.iuOn 0 = true ∧ (s.dev.iu 0).st = .idle
        ∧ s.dev.iuGmode 0 = 0 ∧ (s.dev.iu 0).ready ≤ 5)
    ∧ 5 < ((unit0 { ready := 6 } []).dev.iu 0).ready ∧ (unit0 { st := .count 1 2 3 4 } []).dev.iuGmode 0 ≠ 2
    ∧ ((unit0 { st := .one true 5 9 } []).dev.iu 0).st = .one true 5 9
    ∧ ((unit0 { st := .count 1 2 3 4 } []).dev.iu 0).st = .count 1 2 3 4
    ∧ ((unit0 { st := .count 1 2 3 4 } []).dev.iu 0).fifo.length < 64 := by decide +kernel

theorem witness_IntervalUnitReads :
    let s := linked (fun d => { d with tim := { d.tim with iu := [(0, { fifo := [[1]] })] } });
    s.answers ∧ (s.dev.iu 0).fifo = [[1]] := by
  unfold State.answers; decide +kernel

theorem witness_HitsCountAndZoomSplits :
    (8 * (State.reset.dev.nearGate (headOf 0) : Int) ≤ 8192 ∧ (8192 : Int) < 32768 ∧ (32768 : Int) ≤ 32768)
    ∧ (let s := at0 (fun d => { clocked [(Reg.BRN_EM_CTL 0, 1), (Reg.BRN_EM_COUNT 0, 8), (Reg.BRN_ILLUM_EN, 1)] d with
        brn := { d.brn with ranging := true, next := [(0, 8)] } });
      s.alive = true ∧ s.dev.on domACQ = true ∧ 8 ≤ s.dev.planned 0 ∧ s.dev.splitIndex 0 ≤ tabGet 0 s.dev.brn.next 0
        ∧ s.dev.bankEmitter 0 = some 0 ∧ (s.dev.stpBank 0).split = 0 ∧ s.dev.bankEmitter 1 ≠ some 0)
    ∧ (at0 id).dev.planned 0 < 8 := by decide +kernel

/-! ## Hypotheses that can be met: plates, filters, memory -/

/-- Plate 0 in a state. -/
def plate0 (x : Plt) (l : List (Nat × Word) := []) (f : Flt := {}) (m : Mem := {}) : State :=
  at0 (fun d => { clocked l d with wave := { d.wave with plt := [(0, x)], flt := [(0, f)], mem := m } })

/-- An armed plate whose segment takes the edges of TRIG_IN0. -/
def armed0 : Plt := { st := .armed, acquiring := true, cfg := { trg := 3 } }

/-- A segment triggered at device time 0. -/
def seg0 : Seg :=
  { trig := 0, frac := 0, ref := 0, src := 3, forced := false, short := false, gap := false, throttled := false, half := false,
    fill := 0, cfg := {}, heldEnd := 0, heldN := 0 }

theorem witness_TriggersAreTakenHeldOrMissed :
    (let s := plate0 armed0;
      s.alive = true ∧ s.dev.sec.bscan = false ∧ s.dev.on domWAVE = true ∧ fld (s.dev.plt 0).cfg.trg 3 0 = 3
        ∧ fld (s.dev.plt 0).cfg.trg 11 10 = 0 ∧ (s.dev.plt 0).acquiring = true ∧ s.dev.isStream 0 = false ∧ (s.dev.plt 0).seg = none
        ∧ (s.dev.plt 0).holdEnd ≤ 5 ∧ (s.dev.plt 0).holdN = 0 ∧ (s.dev.plt 0).st = .armed ∧ (s.dev.plt 0).stAt 5 = .armed
        ∧ bit (s.dev.plt 0).cfg.trg 15 = false)
    ∧ (5 < ((plate0 { armed0 with holdEnd := 6 }).dev.plt 0).holdEnd ∧ 0 < ((plate0 { armed0 with holdN := 1 }).dev.plt 0).holdN)
    ∧ ((plate0 { armed0 with st := .rearm }).dev.plt 0).stAt 5 = .rearm
    ∧ ((plate0 { armed0 with acquiring := false }).dev.plt 0).acquiring = false
    ∧ (let s := plate0 { armed0 with st := .capturing, seg := some { seg0 with forced := true } };
      (s.dev.plt 0).seg = some { seg0 with forced := true } ∧ seg0.ref = 5 / s.dev.ts 0 * s.dev.ts 0 ∧ seg0.heldEnd ≤ 5 ∧ seg0.heldN = 0
        ∧ s.dev.rd (Reg.PLT_FORCED_CNT 0) ≠ 0xFFFFFFFF) := by decide +kernel

/-- A plate whose chain has been filled since long ago. -/
def filled : Flt := { bases := [(0, true)] }

theorem witness_PlateTimesMoveTheArming :
    (let s := plate0 { st := .setup, holdEnd := 5 } [] filled;
      s.alive = true ∧ s.dev.on domWAVE = true ∧ (s.dev.plt 0).holdEnd ≤ 10 ^ 9 ∧ 1 < (s.dev.plt 0).holdEnd
        ∧ (s.dev.plt 0).st = .setup ∧ (s.dev.plt 0).since + 16 * ns ≤ 10 ^ 9 ∧ s.dev.pltRoom 0 = true
        ∧ s.dev.fltFilled 0 (10 ^ 9) = true ∧ s.dev.isStream 0 = false
        ∧ s.dev.preSpan 0 (s.dev.plt 0).cfg ≤ (s.dev.plt 0).cfg.postDly * s.dev.ts 0 ∧ fld (s.dev.plt 0).cfg.trg 3 0 ≠ 8)
    ∧ (let s := plate0 { st := .setup, cfg := { preLen := 1024 } } [] filled;
      (s.dev.plt 0).cfg.postDly * s.dev.ts 0 < s.dev.preSpan 0 (s.dev.plt 0).cfg)
    ∧ (let s := plate0 { st := .setup } [(Reg.PLT_CTL 0, 4)] filled;
      s.dev.isStream 0 = true ∧ (s.dev.plt 0).streamNext = 0 ∧ (s.dev.plt 0).gap = false ∧ s.dev.pltFull 0 = false
        ∧ s.dev.pltRoom 0 = true ∧ s.dev.fltFilled 0 (10 ^ 9) = true)
    ∧ ((plate0 { st := .setup }).dev.fltFilled 0 0 = false)
    ∧ ((plate0 { st := .rearm }).dev.plt 0).since + 16 * ns ≤ 10 ^ 9 ∧ 0 < ((plate0 { st := .rearm }).dev.plt 0).since + 16 * ns
    ∧ (let s := plate0 { st := .filling, cfg := { preLen := 1024 } };
      (s.dev.plt 0).since + s.dev.preSpan 0 (s.dev.plt 0).cfg ≤ 10 ^ 9 + (s.dev.plt 0).cfg.postDly * s.dev.ts 0
        ∧ fld (s.dev.plt 0).cfg.trg 3 0 ≠ 8
        ∧ 0 + (s.dev.plt 0).cfg.postDly * s.dev.ts 0 < (s.dev.plt 0).since + s.dev.preSpan 0 (s.dev.plt 0).cfg)
    ∧ (let s := plate0 { st := .armed, cfg := { trg := 0x1000, autoTo := 7 } };
      bit (s.dev.plt 0).cfg.trg 12 = true ∧ (s.dev.plt 0).since + (s.dev.plt 0).cfg.autoTo * us ≤ 10 ^ 9
        ∧ 6 < (s.dev.plt 0).since + (s.dev.plt 0).cfg.autoTo * us)
    ∧ bit ((plate0 { st := .armed }).dev.plt 0).cfg.trg 12 = false
    ∧ (let s := plate0 { st := .setup, acquiring := true, streamNext := 1,
                         buf := [{ seq := 0, slot := 0, addr := 0, head := [], data := [], done := 0, last := false }] }
          [(Reg.PLT_CTL 0, 12), (Reg.PLT_SEG_LEN 0, 0x7FFFC0)];
      (s.dev.plt 0).acquiring = true ∧ s.dev.isStream 0 = true ∧ (s.dev.plt 0).st = .setup ∧ (s.dev.plt 0).streamNext ≠ 0
        ∧ s.dev.pltRoom 0 = false ∧ s.dev.isRing 0 = true)
    ∧ (plate0 {}).dev.pltRoom 0 = true := by decide +kernel

theorem witness_CompletedSegmentsEnterTheBuffer :
    (let s := plate0 { st := .capturing, acquiring := true, seg := some seg0 } [] filled;
      s.alive = true ∧ s.dev.on domWAVE = true ∧ (s.dev.plt 0).closing = [] ∧ (s.dev.plt 0).seg = some seg0
        ∧ s.dev.isStream 0 = false ∧ (s.dev.form 0).stream = false ∧ (s.dev.form 0).mode < 3
        ∧ ((s.dev.form 0).record seg0 { base := 0, raw := [List.replicate 64 0] }).ranges.length ≤ 4)
    ∧ (let s := plate0 { closing := [{ seg0 with cut := some 9 }] } [] filled;
      (s.dev.plt 0).closing = [{ seg0 with cut := some 9 }]
        ∧ ((s.dev.form 0).record { seg0 with cut := some 9 } { base := 0, raw := [List.replicate 64 0] }).ranges.length ≤ 4)
    ∧ ((plate0 {}).dev.plt 0).closing = [] ∧ ((plate0 {}).dev.plt 0).seg = none := by decide +kernel

/-- A segment in the capture buffer whose data is written. -/
def out0 : Out := { seq := 0, slot := 0, addr := 4096, head := List.replicate 64 1, data := [2], done := 1, last := false }

/-- A PLATE_DRAIN that is transferring the slot of segment 4. -/
def drain0 : Drain :=
  { desc := desc 3, plate := 0, next := 4, left := 1, moving := true, pos := 0, written := 0, overwritten := 0, firstOver := 0,
    memErr := false }

theorem witness_CommitsWriteDataBeforeTheHead :
    (let s := plate0 { buf := [out0] } [] {} { ready := true };
      s.alive = true ∧ s.dev.on domWAVE = true ∧ (s.dev.plt 0).buf = [out0] ∧ s.dev.wave.mem.ready = true ∧ s.dev.on domMEM = true
        ∧ out0.data.length ≤ out0.done ∧ out0.last = false)
    ∧ (let s : State := at0 (fun d => { d with bite := { d.bite with eff := List.replicate 16 1024 } });
      s.dev.fits actDRAIN 64 = true)
    ∧ (let d : Dev := (plate0 { ring := 4, buf := [out0] } [] {} { ready := true }).dev;
      ({ d with dsc := { d.dsc with drains := [drain0] } } : Dev).slotBusy 0 out0.slot = true)
    ∧ (plate0 { buf := [out0] }).dev.slotBusy 0 out0.slot = false
    ∧ (at0 id).dev.fits actDRAIN 64 = false ∧ ((plate0 {}).dev.plt 0).buf = [] := by decide +kernel

theorem witness_AuxCascadeTriggersAndTraining :
    (let s := at0 (fun d => { (regs [(auxCtlOff 0, 0x10F4C)] d) with wave := { d.wave with aux := [(0, 1)], auxRun := [(0, (4, 2))] } });
      s.alive = true ∧ s.dev.on domWAVE = true ∧ bit (s.dev.rd (auxCtlOff 0)) 2 = true ∧ s.dev.auxRange 0 = 1
        ∧ fld (s.dev.rd (auxCtlOff 0)) 4 3 = 1 ∧ fld (s.dev.rd (auxCtlOff 0)) 6 5 = 2 ∧ fld (s.dev.rd (auxCtlOff 0)) 11 8 = 15
        ∧ tabGet (0, 0) s.dev.wave.auxRun 0 = (4, 2))
    ∧ (let s := at0 (fun d => { (regs [(auxCtlOff 0, 0x44)] d) with wave := { d.wave with aux := [(0, 1)], auxRun := [(0, (0, 65000))] } });
      bit (s.dev.rd (auxCtlOff 0)) 2 = true ∧ 0 < s.dev.auxRange 0 ∧ fld (s.dev.rd (auxCtlOff 0)) 4 3 ≤ s.dev.auxRange 0 - 1
        ∧ s.dev.auxRange 0 - 1 ≤ min 2 (fld (s.dev.rd (auxCtlOff 0)) 6 5) ∧ fld (s.dev.rd (auxCtlOff 0)) 16 12 = 0)
    ∧ bit ((at0 (regs [(auxCtlOff 0, 0x40)])).dev.rd (auxCtlOff 0)) 2 = false
    ∧ (let d : Dev := { (at0 (regs [(Reg.MDV_CASC_CTL, 4096)])).dev with straps := { cascRole := 1 } };
      d.cascOn = true ∧ d.cascMember = true ∧ d.drives = true ∧ d.on domWAVE = true ∧ d.on domCORE = true)
    ∧ (let d : Dev := { (at0 (regs [(Reg.MDV_CASC_CTL, 4096), (Reg.BIT_BUDGET actCASC, 100)])).dev with straps := { cascRole := 2 } };
      d.cascOn = true ∧ d.cascRole = 2 ∧ d.drives = true ∧ d.fits actCASC 16 = false
        ∧ ({ d with bite := { d.bite with eff := List.replicate 9 100 } } : Dev).fits actCASC 16 = true)
    ∧ (at0 (regs [(Reg.PLT_TRG_CTL 0, 6)])).dev.cascPicks 0 0 = true
    ∧ (at0 id).dev.cascOn = false ∧ (at0 id).dev.on domMEM = true
    ∧ memCapacity ((at0 id).dev.f Reg.GLB_MEM_CFG 2 0) = some (2 * 2 ^ 30)
    ∧ memCapacity ((at0 (regs [(Reg.GLB_MEM_CFG, 7)])).dev.f Reg.GLB_MEM_CFG 2 0) = none
    ∧ (plate0 {} [] {} { training := true }).dev.wave.mem.training = true
    ∧ (at0 (fun d => { d with pwr := { d.pwr with domains := 0x17F } })).dev.on domMEM = false := by decide +kernel

/-- A bank of one tap. -/
def bank1 : FirBank := { n := 1, d0 := 1, s0 := 0, sym := false, gd := 0, h := [1] }

/-- A fade between equal banks. -/
def fade0 : Fade := { due := 0, k := 4, old := bank1, new := bank1 }

theorem witness_ChainSwitchesFadesAndSync :
    ((plate0 {}).alive = true ∧ (plate0 {}).dev.on domWAVE = true ∧ (plate0 {}).dev.on domCORE = true ∧ ((plate0 {}).dev.flt 0).shd = none)
    ∧ (let d := (plate0 {} [] { shd := some bank1 }).dev;
      (d.flt 0).shd ≠ none ∧ (d.flt 0).shd = some bank1 ∧ (d.flt 0).fade = none ∧ (d.chain 0).fir = false ∧ (d.plt 0).acquiring = false
        ∧ (plate0 {} [] { act := some bank1, shd := some bank1 }).dev.flt 0 = { act := some bank1, shd := some bank1 })
    ∧ (let f : Flt := { fade := some fade0, held := [(bank1, desc 9)] };
      ((plate0 {} [] f).dev.flt 0).fade = some fade0 ∧ ((plate0 {} [] f).dev.flt 0).due = []
        ∧ ((plate0 {} [] f).dev.flt 0).held = [(bank1, desc 9)])
    ∧ (let d := (plate0 { acquiring := true } [] { act := some bank1, shd := some { bank1 with d0 := 2 } }).dev;
      (d.plt 0).acquiring = true ∧ (d.flt 0).act = some bank1 ∧ (d.flt 0).shd = some { bank1 with d0 := 2 }
        ∧ bank1.d0 ≠ ({ bank1 with d0 := 2 } : FirBank).d0)
    ∧ (let d := (at0 (regs [(Reg.FLT_SYNC_CTL, 3)])).dev;
      d.b Reg.FLT_SYNC_CTL 0 = true ∧ d.b Reg.FLT_SYNC_CTL 1 = true ∧ d.cascRole ≠ 2 ∧ d.wave.sync.edge = 0)
    ∧ (let d := (at0 (fun d => { d with wave := { d.wave with sync := { edge := 1, due := [7] } } })).dev;
      d.wave.sync.edge ≠ 0 ∧ 5 ≤ d.wave.sync.edge - 1 + us ∧ d.wave.sync.edge - 1 + us < 10 ^ 9 ∧ d.wave.sync.due = [7]
        ∧ ∀ p : Fin 8, (d.flt p).sw ≠ .atSync)
    ∧ (at0 id).dev.wave.sync.due = [] ∧ (at0 (regs [(Reg.FLT_SYNC_CTL, 0)])).dev.b Reg.FLT_SYNC_CTL 1 = false := by decide +kernel

/-! ## Hypotheses that can be met: calibration, housekeeping, thermal management -/

/-- A descriptor-borne run of kind 1 over targets 0 and 1, target 0 measured. -/
def run0 (first : Option (List Int × Int × Bool)) (attempt : Nat) : CalRun :=
  { desc := desc 8, kind := 1, force := false, todo := [{ id := 0, attempt := attempt, first := first, frames := 1 }, { id := 1 }] }

theorem witness_CalibrationTargetsAreMeasuredTwice :
    (let s := at0 (fun d => { d with prf := { d.prf with active := some (run0 none 0) } });
      s.alive = true ∧ s.dev.on domCORE = true ∧ s.dev.prf.active = some (run0 none 0) ∧ kindBorrows 1 = true
        ∧ (run0 none 0).todo.find? (fun t => t.id = 0) = some { id := 0, attempt := 0, first := none, frames := 1 }
        ∧ ([1, 2, 3] : List Int).length = kindValues 1 ∧ measurable 1 { id := 0, frames := 1 } = true)
    ∧ agrees 1 ([1, 2, 3], 0, true) ([1, 2, 3], 0, true) = true ∧ agrees 1 ([1, 2, 3], 0, true) ([30000, 2, 3], 0, true) = false
    ∧ ((run0 (some ([1, 2, 3], 0, true)) 3).todo.filter (fun x => x.id ≠ 0)) ≠ []
    ∧ (at0 id).dev.prf.active = none := by decide +kernel

/-- 10 R286 with the tables of IEC 60584-1: type K at 4.0962 mV and J at 42.9186 mV, cold junction 0 °C. -/
theorem test_thermocouples : tcTemp 5 40962 0 = .value (64 * 100) ∧ tcTemp 6 429186 0 = .value (64 * 760) := by decide +kernel

/-- A round that runs, at slot 0 with slot 1 to follow or none. -/
def round0 (todo : List Nat) : Round :=
  { cfg := [], slot := 0, slotAt := 0, todo := todo, openAt := 0, changes := [], capped := false,
    done := [{ slot := 0, value := some 5, opened := false, capped := false }, { slot := 24, value := none, opened := true, capped := false }] }

theorem witness_HousekeepingRoundsAreRunAndPublished :
    ((at0 id).alive = true ∧ (at0 id).dev.on domHK = true ∧ (at0 id).dev.hkp.round = none ∧ (at0 id).dev.hkp.next ≤ ms ∧ ms % (250 * us) = 0 ∧ 0 < (at0 id).dev.hkp.next
      ∧ 1 % (250 * us) ≠ 0)
    ∧ (at0 (fun d => { d with hkp := { round := some (round0 [1]) } })).dev.hkp.round = some (round0 [1])
    ∧ (at0 (fun d => { d with hkp := { round := some (round0 []) } })).dev.hkp.round = some (round0 [])
    ∧ (let d := (at0 (regs [(Reg.HKP_HK_IN 0, 8)])).dev;
      d.b (Reg.HKP_HK_IN 0) 3 = true ∧ d.b Reg.HKP_OPEN_NOW 0 = false)
    ∧ (at0 (regs [(Reg.HKP_OPEN_NOW, 1)])).dev.b Reg.HKP_OPEN_NOW 0 = true
    ∧ (at0 (fun d => { d with hkp := { pub := some (round0 [], 0) } })).dev.hkp.pub = some (round0 [], 0)
    ∧ ((round0 []).done.map (fun g => g.slot)).Nodup ∧ (∀ g ∈ (round0 []).done, g.slot < 64)
    ∧ (at0 (fun d => { d with hkp := { round := some { round0 [] with slot := 24 } } })).dev.on domHK = true
    ∧ (at0 (fun d => { d with pwr := { d.pwr with domains := 0xFF } })).dev.on domHK = false
    ∧ (at0 id).dev.hkp.pub = none := by decide +kernel

theorem witness_LoopFaultsWatchdogsAndTheEnergyLimit :
    (let s := at0 (fun d => { regs [(Reg.HKP_LOOP_CTL 0, 1)] d with hkp := { loopCur := [(0, some 8000)] } });
      s.alive = true ∧ s.dev.on domHK = true ∧ s.dev.on domCORE = true ∧ (s.dev.loopOut s.lockedOut 0).cur = some 8000
        ∧ tabGet none s.dev.hkp.loopCur 0 = some 8000 ∧ s.dev.hkp.opens.testBit 0 = false
        ∧ 8 * (250 * us) % (250 * us) = 0 ∧ tabGet 0 s.dev.hkp.loopAt 0 + 1750 * us ≤ 8 * (250 * us)
        ∧ loopOff false 8000 (5999, true) = true ∧ loopOff false 8000 (6000, true) = false ∧ loopOff false 8000 (0, false) = false
        ∧ loopOff true 8000 (10001, false) = true ∧ loopOff true 8000 (10000, false) = false)
    ∧ ((at0 id).dev.loopOut (at0 id).lockedOut 0).cur = none
    ∧ (let d := (at0 (fun d => { regs [(Reg.HKP_LOOP_WDOG 0, 1)] d with glb := { d.glb with tickDt := ms } })).dev;
      0 < d.f (Reg.HKP_LOOP_WDOG 0) 15 0 ∧ d.hkp.wdFault.testBit 0 = false
        ∧ tabGet 0 d.hkp.wdStart 0 + d.f (Reg.HKP_LOOP_WDOG 0) 15 0 * ms ≤ d.glb.tickDt)
    ∧ (at0 (regs [(Reg.HKP_LOOP_WDOG 0, 0)])).dev.f (Reg.HKP_LOOP_WDOG 0) 15 0 = 0
    ∧ (at0 id running).isl.pw.openAt.isSome = true ∧ (at0 id running).isl.defaulted = false ∧ (at0 id).isl.pw.openAt = none := by
  decide +kernel

/-- Sensor 0 in a state. -/
def sensor0 (x : Sensor) (latch : Bool) : State := at0 (fun d => { d with thm := { d.thm with sensors := [(0, x)], critLatch := latch } })

theorem witness_SensorsFailAndAreCleared :
    (let s := sensor0 { dev := 16 } false;
      s.alive = true ∧ s.dev.on domHK = true ∧ s.dev.on domCORE = true ∧ s.dev.sensorOn 0 = true ∧ (s.dev.sensor 0).failed = false
        ∧ 0 < (s.dev.sensor 0).dev ∧ s.dev.failN ≤ (s.dev.sensor 0).dev ∧ s.dev.thm.critLatch = false)
    ∧ ((at0 id).dev.sensor 0).dev = 0
    ∧ ((sensor0 { level := 3 } true).dev.thm.critLatch = true ∧ (sensor0 { level := 3 } true).dev.critCool = false)
    ∧ (sensor0 { level := 3, down := 10000 } true).dev.critCool = true := by decide +kernel

theorem witness_ShutTakesThePartDown :
    ((at0 id).dev.pwr.off = false ∧ (at0 id).dev.pwr.domains &&& 0x1FC ≠ 0 ∧ (at0 id running).isl.st = .run
      ∧ (at0 id running).isl.fault = none ∧ (at0 id).dev.pwr.shutHold = false)
    ∧ (let s := at0 (fun d => { d with pwr := { d.pwr with domains := 3, shutHold := true } }) (fun i => { i with st := .lockout });
      s.dev.pwr.domains &&& 0x1FC = 0 ∧ s.dev.pwr.seq = none ∧ s.isl.st = .lockout ∧ s.dev.pwr.shutHold = true) := by decide +kernel

/-! ## Hypotheses that can be met: the safety island -/

/-- The island of reset is in shape, and so is one in any state with a cause. -/
theorem shaped_reset : State.reset.isl.Shaped ∧ Island.Shaped { st := .lockout, fault := some { code := 8, index := 0, dt := 0 } } := by
  unfold Island.Shaped; decide +kernel

/-- A running island with pair 0 of class S enabled, with or without RESTART, DISC 10 ms, and its guard in both halves. -/
def pair0 (restart : Bool) (g : Guard) (st : IslSt := .run) : State :=
  at0 id (fun i => { i with
    st := st, defaulted := false, spb := [(48, if restart then 0x000A0015 else 0x000A0005)],
    sp := { guards := setAt (List.replicate 8 {}) 0 g }, hwl := { guards := setAt (List.replicate 8 {}) 0 g } })

theorem witness_GuardReadingsMakeAndEndDemand :
    ((pair0 true {}).isl.Shaped ∧ (pair0 false { a := true }).isl.Shaped) ∧ (pair0 true {}).alive = true
    ∧ pairEn (pair0 true {}).isl.spb 0 = true ∧ pairAnti (pair0 true {}).isl.spb 0 = false ∧ pairRestart (pair0 true {}).isl.spb 0 = true
    ∧ pairRestart (pair0 false {}).isl.spb 0 = false
    ∧ pairByte (pair0 false {}).isl.spb 0 1 = 0 ∧ pairClass (pair0 false {}).isl.spb 0 < 2
    ∧ 2 ≤ pairClass (at0 id (fun i => { i with spb := [(48, 0x000A0009)] })).isl.spb 0
    ∧ (let x : InFilter := { run := 1 }; max (1000 * pairByte (pair0 false {}).isl.spb 0 1) 10 ≤ 10 * x.run ∧ x.mask = 0)
    ∧ (((pair0 false { a := true }).isl.half 0).guard 0).a = true ∧ (((pair0 false { a := true }).isl.half 0).guard 0).demand = true
    ∧ (((pair0 false { a := true }).isl.half 1).guard 0).both = true ∧ (((pair0 false { a := true, both := false }).isl.half 1).guard 0).both = false := by
  unfold Island.Shaped; decide +kernel

theorem witness_TheFirstFaultLocksOut :
    (at0 id running).dev.on domCORE = true ∧ (at0 id running).isl.st = .run ∧ (at0 id running).isl.fault = none
    ∧ (at0 id).isl.st = .start ∧ (at0 id).isl.fault = none
    ∧ (at0 id (fun i => { i with fault := some { code := 1, index := 0, dt := 0 } })).isl.fault ≠ none
    ∧ (at0 id (fun i => { i with st := .lockout })).isl.st = .lockout ∧ (at0 id (fun i => { i with st := .internal })).isl.st = .internal := by
  decide +kernel

/-- A running island with test output 0 on, pair 0 of class T on test outputs 0 and 1, safety output 0 with off-tests, and
head 0 monitored. -/
def tested : State :=
  at0 id (fun i => { i with
    st := .run, defaulted := false,
    spb := [(32, 0x30000), (48, 0x000A0009), (49, 0x400), (112, 7), (144, 0x640003), (145, 10)] })

theorem witness_InputAndOutputChecksTakeTheirFaults :
    (let i := tested.isl;
      tested.alive = true ∧ i.fault = none ∧ i.checking = true ∧ (tpEnabled i.spb).testBit 0 = true
        ∧ (List.range 16).find? (i.tpStuck 0 ((1, 15) :: List.replicate 25 (1, 14))) = some 0
        ∧ (∀ n < 16, i.tpForeign 0 ((1, 15) :: List.replicate 25 (1, 14)) n = false)
        ∧ (∀ n < 16, i.tpStuck 0 ([(3, 15)] ++ List.replicate 25 (0, 14) ++ [(3, 15)]) n = false)
        ∧ (List.range 16).find? (i.tpForeign 0 ([(3, 15)] ++ List.replicate 25 (0, 14) ++ [(3, 15)])) = some 1
        ∧ (∀ n < 16, i.tpStuck 0 [] n = false ∧ i.tpForeign 0 [] n = false)
        ∧ (tpEnabled i.spb).testBit 3 = false ∧ tested.dev.drives = true ∧ tested.offTest 0 = false ∧ i.soOn 0 0 = true
        ∧ (soByte i.spb 0 0).testBit 1 = true ∧ tested.dev.on domCORE = true ∧ axisMonitored i.spb 0 0 = true ∧ i.stall.testBit 0 = false
        ∧ axisMonitored i.spb 0 1 = false
        ∧ (Mon.run (monCarrier i.spb 0) (scanDelta i.spb 0) (scanWin i.spb 0) 0 (List.replicate 10 ([3], true)) {}).1 = true
        ∧ (Mon.run (monCarrier i.spb 0) (scanDelta i.spb 0) (scanWin i.spb 0) 0 (List.replicate 10 ([3], false)) {}).1 = false
        ∧ (Mon.run (monCarrier i.spb 0) (scanDelta i.spb 0) (scanWin i.spb 0) 0
            ((List.range 10).map fun n => ([11 * (n : Int)], true)) {}).1 = false)
    ∧ (let s := pair0 false { a := true, discMs := 9 };
      s.isl.discRuns 0 0 = true ∧ pairDisc s.isl.spb 0 ≤ ((s.isl.half 0).guard 0).discMs + 1) := by decide +kernel

theorem witness_IslandChecksOfItself :
    (let s := at0 id running;
      s.alive = true ∧ s.isl.up = true ∧ s.dev.sec.halted = false ∧ s.dev.sec.fwSwitch = none ∧ s.isl.defaulted = false
        ∧ s.dev.sec.hbFrom ≤ s.dev.now
        ∧ ∀ (w : Fin 2) (p : Fin 8), s.isl.discRuns w p = false)
    ∧ (at0 id running).isl.Shaped
    ∧ (at0 id).isl.up = false ∧ (at0 id).isl.st = .start ∧ (at0 id).dev.on domCORE = true ∧ (at0 id).isl.defaulted = true
    ∧ (at0 id (fun i => { i with st := .selftest })).isl.st = .selftest := by
  unfold Island.Shaped; decide +kernel

theorem witness_RestartPulsesClearAFault :
    (let s := at0 id (fun i => { i with st := .lockout, fault := some { code := 8, index := 0, dt := 0 } });
      s.alive = true ∧ s.dev.on domCORE = true ∧ s.isl.Shaped ∧ s.dev.sec.halted = false ∧ s.isl.st = .lockout
        ∧ s.isl.fault = some { code := 8, index := 0, dt := 0 } ∧ s.causeCleared { code := 8, index := 0, dt := 0 } = true
        ∧ s.causeCleared { code := 9, index := 0, dt := 0 } = false)
    ∧ (let s := pair0 true { a := true, b := true, wait := true };
      s.isl.Shaped ∧ s.isl.st = .run ∧ pairEn s.isl.spb 0 = true ∧ pairAnti s.isl.spb 0 = false ∧ ((s.isl.half 0).guard 0).wait = true
        ∧ ((s.isl.half 0).guard 0).a = true ∧ ((s.isl.half 0).guard 0).b = true ∧ pairClass s.isl.spb 0 % 2 = 1)
    ∧ 200000 ≤ 200000 ∧ 200000 ≤ 2000000 ∧ 189999 < 190000 := by
  unfold Island.Shaped; decide +kernel

/-- A password under derivation against a block of one iteration with verifier `v`, 32 bytes in words. -/
def deriving0 (v : List (Nat × Word)) : State :=
  at0 id (fun i => { i with defaulted := false, spb := (3, 1) :: v, pw := { busy := some [0x70], openAt := some 3, refusing := some 0 } })

theorem witness_PasswordSessionsOpenAndClose :
    ((at0 id).alive = true ∧ (at0 id).dev.on domCORE = true ∧ (at0 id).isl.pw.busy = none ∧ (at0 id).pwRefusing = false)
    ∧ ((deriving0 []).isl.pw.busy = some [0x70] ∧ (deriving0 []).isl.pw.openAt = some 3 ∧ (deriving0 []).isl.pw.refusing = some 0)
    ∧ ¬ pbkdf2 [0x70] (((spbBytes (deriving0 []).isl.spb).drop 16).take 16) (leAt (spbBytes (deriving0 []).isl.spb) 12 4)
        = ((spbBytes (deriving0 []).isl.spb).drop 32).take 32
    ∧ (let v : List (Nat × Word) := [(8, 0xD0792898), (9, 0x63C9F96E), (10, 0xCD502CFA), (11, 0x39DE13D2), (12, 0xF91823A3), (13, 0x61F385D5),
        (14, 0x8B6D2778), (15, 0xB34C8AD0)];
      pbkdf2 [0x70] (((spbBytes (deriving0 v).isl.spb).drop 16).take 16) (leAt (spbBytes (deriving0 v).isl.spb) 12 4)
        = ((spbBytes (deriving0 v).isl.spb).drop 32).take 32 ∧ (deriving0 v).isl.defaulted = false) := by decide +kernel

/-! ## Hypotheses that can be met: pairs and cascades -/

/-- A unit of a pair. -/
def paired (m : Mdv) (l : List (Nat × Word) := []) (ready : Bool := false) : State :=
  at0 (fun d => { clocked l d with straps := { pairEn := true }, mdv := m }) (if ready then running else id)

theorem witness_ClaimRoundsDecideWhoIsActive :
    (let s := paired { qualified := true } [(Reg.DSC_CFG_STATUS, 0)] true;
      s.alive = true ∧ s.dev.on domCORE = true ∧ s.dev.straps.pairEn = true ∧ s.mayBid = true ∧ 1 ≤ s.dev.claimNum)
    ∧ (let s := paired {};
      s.mayBid = false ∧ s.dev.mdv.hbLost = false ∧ s.dev.claimNum < 63 ∧ s.dev.mdv.xlink = false)
    ∧ (let m := (paired { hbLost := true, qualified := true }).dev.mdv; m.hbLost = true ∧ m.qualified = true)
    ∧ (let s := paired { active := true, won := true, xlink := true, partnerPrio := 1 } [(Reg.DSC_CFG_STATUS, 0)] true;
      s.mayBid = true ∧ s.dev.mdv.partnerPrio = s.dev.prio ∧ s.dev.mdv.prioSeen = false)
    ∧ (paired { prioSeen := true }).dev.mdv.prioSeen = true
    ∧ (at0 id).dev.straps.pairEn = false := by decide +kernel

theorem witness_StagesTurnOnAtHandoverAndOffOnFailure :
    ((paired { handoverDue := true }).alive = true ∧ (paired { handoverDue := true }).dev.mdv.handoverDue = true
      ∧ (paired { handoverDue := true }).dev.mdv.sawOther = false)
    ∧ (let m := (paired { handoverDue := true, sawOther := true }).dev.mdv;
      m.sawOther = true ∧ m.epoch = none)
    ∧ (paired { qualified := true }).dev.mdv.qualified = true ∧ (paired {}).dev.mdv.qualified = false
    ∧ (paired {}).dev.mdv.handoverDue = false ∧ ((axis0 { st := .run }).dev.ax 0).st ≠ .disabled
    ∧ (paired {}).selfChk.testBit 0 = false ∧ (paired {} [] true).selfChk.testBit 1 = true := by decide +kernel

theorem witness_DetectionsMakeTheStandbySuspect :
    (let m := (paired { xlink := true, active := true }).dev.mdv;
      m.xlink = true ∧ m.active = true ∧ m.qualified = false)
    ∧ (let d := (paired { xlink := true, driveMis := [(0, 15)], echoMis := 15 }).dev;
      d.mdv.xlink = true ∧ d.mdv.active = false ∧ d.misN ≤ tabGet 0 d.mdv.driveMis 0 ∧ d.echoN ≤ d.mdv.echoMis)
    ∧ (let d := (paired { xlink := true }).dev;
      (∀ a : Fin 8, tabGet 0 d.mdv.driveMis a.val < d.misN) ∧ d.mdv.echoMis < d.echoN)
    ∧ (paired {}).dev.mdv.xlink = false := by decide +kernel

theorem witness_CrossLinkMessagesAndCommandsOfAPair :
    (let d := (paired { xlink := true } [(Reg.MDV_ECMP_CTL, 0x10000000)]).dev;
      d.mdv.active = false ∧ d.mdv.xlink = true ∧ d.b Reg.MDV_ECMP_CTL 28 = true ∧ d.mdv.recFrame = 0 ∧ d.glb.frameNum = 0
        ∧ (epoch0 (-1)).num + 1 = d.glb.frameNum ∧ (epoch0 0).num + 1 ≠ d.glb.frameNum)
    ∧ (let xs : List ImageChan := [{ c := 511, rows := [], wins := [], pred := [], coarse := [], fine := [] }];
      xs.find? (fun y => y.c = 511) = some { c := 511, rows := [], wins := [], pred := [], coarse := [], fine := [] } ∧ (xs.map (fun y => y.c)).Nodup)
    ∧ (paired { xlink := true }).dev.mdv.since = [] ∧ (paired { xlink := true, since := [(epoch0 8, true)] }).dev.mdv.since = [(epoch0 8, true)]
    ∧ (epoch0 8).num = (epoch0 7).num + 1
    ∧ (let d := (paired { active := true, partnerQual := true, xlink := true }).dev;
      d.straps.pairEn = true ∧ d.mdv.active = true ∧ d.mdv.partnerQual = true ∧ d.mdv.partnerSuspect = false ∧ d.mdv.xlink = true)
    ∧ (paired {}).dev.mdv.xlink = false ∧ (paired {}).dev.mdv.active = false ∧ max 1 31 ≠ (paired {}).dev.prio
    ∧ max 1 (paired {}).dev.prio = (paired {}).dev.prio := by decide +kernel

/-- A device of a cascade. -/
def casc0 (role : Nat) (m : Mdv) (on : Bool := true) : State :=
  at0 (fun d => { clocked (if on then [(Reg.MDV_CASC_CTL, 4096)] else []) d with straps := { cascRole := role }, mdv := m })

theorem witness_CascadeControlAndMessages :
    (let d := (casc0 2 {} false).dev;
      (casc0 2 {} false).alive = true ∧ bit (d.rd Reg.MDV_CASC_CTL) 12 = false ∧ bit 4096 12 = true ∧ d.straps.cascRole = 2 ∧ d.leadOk = true)
    ∧ (casc0 2 { maxDelay := 10 ^ 9 } false).dev.leadOk = false
    ∧ bit ((casc0 1 {}).dev.rd Reg.MDV_CASC_CTL) 12 = true ∧ (casc0 1 {}).dev.straps.cascRole = 1
    ∧ (let d := (casc0 1 { joined := true, aligned := true }).dev;
      d.cascMember = true ∧ d.mdv.joined = true ∧ d.mdv.seeded = false ∧ d.mdv.freerun = false ∧ d.on domCORE = true)
    ∧ (casc0 1 { aligned := true }).dev.mdv.joined = false
    ∧ (let d := (casc0 2 {}).dev;
      d.cascOn = true ∧ d.cascRole = 2 ∧ d.mdv.peerWait = false ∧ d.cascMember = false ∧ d.b Reg.MDV_CASC_PEERS 3 = false
        ∧ d.drives = true)
    ∧ (casc0 2 { peerWait := true }).dev.mdv.peerWait = true ∧ (casc0 1 {} false).dev.cascOn = false := by decide +kernel

/-! ## Hypotheses that can be met: link, registers, descriptors, rings -/

/-- A part with its link in a state. -/
def link0 (l : Lnk) (x : Straps := {}) : State := at0 (fun d => { d with lnk := l, straps := x })

/-- An outstanding read. -/
def rd0 : Rd := { tag := 5, reader := .buffer, addr := 0, words := 16, got := 0 }

/-- A packet held for retry. -/
def pkt0 : Packet := { typ := .memwr, seq := 3 }

theorem witness_LinkTrainsRecoversAndGoesDown :
    ((at0 id).alive = true ∧ (at0 id).dev.on domCORE = true ∧ (at0 id).dev.laneTrains 0 = true ∧ (at0 id).dev.laneNumber 0 = 0
      ∧ (at0 id).dev.laneCfg % 64 = (at0 id).dev.laneCfg ∧ (at0 id).dev.lnk.cfgMismatch = false ∧ 63 % 64 ≠ (at0 id).dev.laneCfg)
    ∧ (link0 { st := .up }).dev.laneTrains 0 = false
    ∧ (let l := (link0 { aligned := 0xFFFF, upSince := true }).dev.lnk;
      l.st = .aligning ∧ l.aligned &&& (link0 { aligned := 0xFFFF, upSince := true }).dev.lanesInUse
          = (link0 { aligned := 0xFFFF, upSince := true }).dev.lanesInUse ∧ l.hotPending = false ∧ l.upSince = true)
    ∧ (link0 { aligned := 0xFFFF }).dev.lnk.upSince = false ∧ (link0 { st := .up }).dev.lnk.st = .up
    ∧ (let d := (link0 { st := .recovery, aligned := 0x00FF }).dev;
      d.lnk.st = .recovery ∧ d.straps.linkMode = false ∧ d.lnk.width ≠ 0 ∧ d.lnk.aligned &&& d.lanesInUse ≠ d.lanesInUse
        ∧ bestBlock (d.lnk.aligned >>> d.lnk.laneBase) (2 ^ d.lnk.width) (d.lnk.width - 1) = some (3, 0))
    ∧ (let d := (link0 { st := .up }).dev;
      d.lanesInUse.testBit 0 = true ∧ markerSeen (d.laneSent 0) [] = false
        ∧ (receiveChars (List.replicate 16 0#10) (d.lnk.disp.testBit 0)).1 = 16
        ∧ (receiveChars [0x0FA#10] (d.lnk.disp.testBit 0)).1 = 0)
    ∧ (link0 { st := .up, width := 0 }).dev.lanesInUse.testBit 3 = false := by decide +kernel

theorem witness_PacketsAreAcknowledgedAndReplayed :
    (let l := (link0 { st := .up, reads := [rd0], retry := [pkt0], ackDue := true }).dev.lnk;
      (link0 { st := .up }).alive = true ∧ l.st = .up ∧ l.reads.find? (fun r => r.tag = 5) = some rd0 ∧ rd0.reader = .buffer
        ∧ l.hotPending = false ∧ l.reads.find? (fun r => r.tag = 6) = none ∧ l.retry = pkt0 :: [] ∧ ¬ (l.replaySeq = pkt0.seq ∧ 3 ≤ l.replays)
        ∧ l.ackDue = true ∧ l.nakOut = false)
    ∧ (link0 { st := .up, nakOut := true }).dev.lnk.nakOut = true ∧ (link0 { st := .up }).dev.lnk.ackDue = false
    ∧ (link0 { st := .up }).dev.lnk.retry = [] := by decide +kernel

theorem witness_RetunesAndHotResets :
    (let d := (link0 { st := .up }).dev;
      (link0 { st := .up }).alive = true ∧ d.on domCORE = true ∧ d.lnk.st = .up ∧ d.straps.linkMode = false ∧ d.lnk.width ≠ 0
        ∧ d.lnk.retune = none ∧ d.lnk.st ≠ .eidle)
    ∧ (link0 { st := .up, retune := some { lane := 0, block := 1, rxSwitched := false } }).dev.lnk.retune
        = some { lane := 0, block := 1, rxSwitched := false }
    ∧ (let l := (link0 { st := .up, aligned := 0xFFFF, retune := some { lane := 0, block := 1, rxSwitched := true } }).dev.lnk;
      (l.retune.map (fun r => r.rxSwitched)) = some true ∧ (∀ k, k < 2 ^ l.nomWidth → l.aligned.testBit k = true))
    ∧ (link0 { st := .up } { linkMode := true }).dev.straps.linkMode = true ∧ (link0 { st := .eidle }).dev.lnk.st = .eidle := by decide +kernel

theorem witness_RegisterReadsAreAnsweredAndPairsCaptured :
    (linked id).answers ∧ rowOf 0xFFFFFC = none ∧ rowOf Reg.GLB_DT_LO ≠ none ∧ 0xFFFFFC ≠ Reg.SEC_DBG_DATA ∧ Reg.GLB_DT_LO ≠ Reg.SEC_DBG_DATA := by
  unfold State.answers; decide +kernel

/-- A part that takes host descriptors. -/
def taking (f : Dev → Dev := id) : State := linked f

theorem witness_DescriptorsDoWhatTheirTypeSays :
    ((taking).alive = true ∧ (taking).dev.on domCORE = true ∧ (taking).dev.takes (desc 0) ∧ descAligned (desc 0) = true)
    ∧ (descNoA (desc 0) = true ∧ descNoB (desc 0) = true ∧ descUnusedZero (desc 0) [] = true ∧ descUnusedZero (desc 0 [1]) [] = false)
    ∧ (descUnusedZero (desc 1) [] = true ∧ descUnusedZero (desc 2 [1, 1]) [32, 33] = true ∧ descPar (desc 2 [1, 1]) 32 1 ≤ 1)
    ∧ (descUnusedZero (desc 6 [7, 1]) [32, 33] = true ∧ descPar (desc 6 [7, 1]) 32 1 < 8 ∧ descPar (desc 6 [7, 1]) 33 1 ≤ 1)
    ∧ (descNoB (desc 4 [] 65568) = true ∧ descUnusedZero (desc 4 [] 65568) [32, 33, 34, 35] = true ∧ 65568 ≤ (desc 4 [] 65568).lenA
      ∧ (taking).dev.on domACQ = true ∧ ((taking).dev.taken (desc 4 [] 65568)).dsc.stream = none
      ∧ ((taking).dev.taken (desc 4 [] 65568)).dsc.waiting = none)
    ∧ (let x := desc 5 [0, 0, 1, 0] 65536;
      descNoB x = true ∧ descUnusedZero x [32, 33, 34, 35] = true ∧ 1 ≤ descPar x 34 2 ∧ descPar x 34 2 ≤ 512
        ∧ descPar x 32 2 + descPar x 34 2 ≤ 512 ∧ ((dumpChans x).flatMap (taking).dev.dumpOf).length ≤ x.lenA)
    ∧ (let x := desc 7 [7, 0, 0, 0, 0, 0, 0, 0, 1] 0x1000000;
      descNoB x = true ∧ descUnusedZero x [32, 36, 37, 38, 39, 40, 41, 42, 43] = true ∧ descPar x 32 1 < 8
        ∧ descPar x 40 4 * (taking).dev.drainSlot (descPar x 32 1) ≤ x.lenA)
    ∧ (let x := desc 8 [1, 0, 0, 0, 1];
      calRunGood x = true ∧ ((taking).dev.taken x).on (kindDomain (descPar x 32 1)) = true ∧ ((taking).dev.taken x).prf.active = none
        ∧ ((taking).dev.taken x).prf.queue = [])
    ∧ (let x := desc 12 [0xFC, 1];
      let d := (taking).dev.taken x
      descUnusedZero x [32, 33] = true ∧ descPar x 32 2 % 4 = 0 ∧ descPar x 32 2 < 512 ∧ d.critHold = false ∧ d.pwr.failed = false
        ∧ ({ d with pwr := { d.pwr with votes := setAt d.pwr.votes 0 (descPar x 32 2 &&& 0x1FC) } } : Dev).target
            = (if d.pwr.seq.isSome then d.pwr.goal else d.pwr.domains)) := by
  unfold Dev.takes; decide +kernel

theorem witness_CalibrationRunsQueue :
    let d := ((taking (fun d => { d with prf := { d.prf with active := some (run0 none 0), queue := List.replicate 8 (run0 none 0) } })).dev.taken
      (desc 8 [1, 0, 0, 0, 1]))
    d.prf.active ≠ none ∧ 8 ≤ d.prf.queue.length := by decide +kernel

/-- A configuration image without sections. -/
def image0 : List Byte :=
  leBytes 4 0x43464701 ++ leBytes 2 1 ++ leBytes 2 0 ++ leBytes 4 36 ++ leBytes 4 9 ++ List.replicate 16 0 ++ leBytes 4 0xE39C6BFC

theorem witness_LoadsAreCheckedBeforeTheyAct :
    (image0.length = (desc 3 [] 36).lenA ∧ parseConfig image0 = some (9, [])) ∧
    ((taking).alive = true ∧ (taking).dev.on domCORE = true ∧ (taking).dev.takes (desc 3) ∧ descAligned (desc 3) = true ∧ descNoB (desc 3) = true
      ∧ descUnusedZero (desc 3) [] = true ∧ ((taking).dev.taken (desc 3)).glb.image = none ∧ parseConfig [] = none)
    ∧ (descUnusedZero (desc 9 [2] 8200) [32] = true ∧ descPar (desc 9 [2] 8200) 32 1 = 2 ∧ ((taking).dev.taken (desc 9)).on domACQ = true
      ∧ codeTableOk [] = false)
    ∧ (descUnusedZero (desc 10) [] = true ∧ (linked id running).fwReady = true ∧ (linked id running).fwAllowed = true
      ∧ (linked id (fun i => { running i with fwRun := true, pw := {} })).fwAllowed = false ∧ (taking).fwReady = false)
    ∧ (at0 (fun d => { d with pwr := { d.pwr with domains := 0x1EF } })).dev.on domACQ = false := by
  unfold Dev.takes; decide +kernel

theorem witness_RingsDoorbellsAndFetches :
    (let d := (linked (fun d => { regs [(Reg.DSC_CTL, 1)] d with dsc := { d.dsc with dbBusy := true } })).dev;
      d.lnk.st = .up ∧ d.dsc.dbBusy = true ∧ d.b Reg.DSC_CTL 0 = true)
    ∧ (let d := (linked (fun d => { regs [(Reg.DSC_SQ_CTL 0, 0x1004)] d with dsc := { d.dsc with dbBusy := true, fetching := [(0, 1)] } })).dev;
      d.b Reg.DSC_CTL 0 = false ∧ d.dsc.dbBusy = true ∧ d.dsc.dbAgain = false ∧ d.lnk.hotPending = false ∧ d.dsc.held = []
        ∧ 15 < ringSize (d.rd (Reg.DSC_SQ_CTL 0)) ∧ ringLive (d.rd (Reg.DSC_SQ_CTL 0)) = true ∧ tabGet 0 d.dsc.fetching 0 ≠ 0
        ∧ tabGet 0 d.dsc.retries 0 < 3)
    ∧ (linked (fun d => { d with dsc := { d.dsc with retries := [(0, 3)] } })).dev.dsc.retries = [(0, 3)]
    ∧ (bit ((at0 id).dev.rd (Reg.DSC_SQ_CTL 0)) 12 = false ∧ bit ((at0 id).dev.rd (Reg.DSC_SQ_CTL 0)) 14 = false ∧ bit 0x1004 12 = true
      ∧ ringOf 0 = none ∧ (at0 id).dev.dsc.dbBusy = false ∧ (at0 id).dev.evt.attn = [] ∧ (at0 id).dev.lnk.st ≠ .up)
    ∧ (let d := (linked (fun d => { d with evt := { d.evt with attn := [{ kind := 0, ring := 63, sev := 0, safety := false }] } })).dev;
      d.evt.attn.find? (fun a => a.kind = 0 && a.ring = 63) = some { kind := 0, ring := 63, sev := 0, safety := false } ∧ d.lnk.st = .up)
    ∧ (let d := (linked (fun d => { regs [(Reg.DSC_CTL, 1), (Reg.DSC_EQ_CTL 0, 0x1004)] d with
          evt := { d.evt with pend := [{ num := 0, count := 1, first := 0, last := 0, frame := 0, due := true }] } })).dev;
      d.evLive (d.evRing 0) = true ∧ d.evRoom (d.evRing 0) = true)
    ∧ (at0 id).dev.lacks (at0 id).dev.wakeSet = false ∧ mgmtWritable 0 = false := by decide +kernel

/-! ## Hypotheses that can be met: power, security, invariants -/

/-- The power controller in a state. -/
def power0 (p : Pwr) (l : List (Nat × Word) := []) (k : LinkSt := .up) : State :=
  at0 (fun d => { regs l d with pwr := p, lnk := { d.lnk with st := k } })

theorem witness_VotesSequencesAndWakesMoveTheDomains :
    ((power0 {}).alive = true ∧ (power0 {}).dev.on domCORE = true ∧ (power0 {}).dev.critHold = false ∧ (power0 {}).dev.inWindow = false
      ∧ (power0 {}).dev.rails.testBit 5 = true ∧ (power0 {}).dev.pwr.failed = false ∧ 0x10 &&& 0x1F0 &&& (power0 {}).dev.pwr.domains ≠ 0
      ∧ 0xF &&& 0x1F0 &&& (power0 {}).dev.pwr.domains = 0)
    ∧ (power0 { seq := some (.entry 0x10), phase := .window }).dev.inWindow = true
    ∧ (let p := (power0 { seq := some (.wake 0x10), domains := 0x1EF }).dev.pwr;
      p.seq = some (.wake 0x10) ∧ p.retryWait = false ∧ p.byEvent = false ∧ p.attempts < 4 ∧ p.waitWake = []
        ∧ (power0 p).dev.on domCORE = true)
    ∧ (power0 { seq := some (.wake 0x10), attempts := 4 }).dev.pwr.attempts = 4
    ∧ (power0 { seq := some (.wake 0x10), retryWait := true }).dev.pwr.retryWait = true
    ∧ (power0 { failed := true }).dev.pwr.failed = true := by decide +kernel

/-- The wake of ACQ alone names domain bits between CORE and the last domain. -/
theorem witness_wake_mask : ∀ k, (0x10 : Nat).testBit k = true → 3 < k ∧ k < 9 := by
  intro k h
  rw [show (0x10 : Nat) = 2 ^ 4 from rfl, Nat.testBit_two_pow] at h
  have : 4 = k := by simpa using h
  omega

theorem witness_WakeSourcesAddTheWakeSet :
    (let d := (power0 {} [(Reg.PWR_WAKE_EN, 0x1F)] .eidle).dev;
      d.inWindow = false ∧ d.critHold = false ∧ d.lnk.st = .eidle ∧ d.b Reg.PWR_WAKE_EN 3 = true ∧ d.lacks d.wakeSet = false)
    ∧ (let d := (power0 { domains := 0xF, votes := [0, 0, 0], timerOn := true } [(Reg.PWR_WAKE_SET, 0x1FC), (Reg.PWR_WAKE_EN, 0x1F)]).dev;
      d.lacks d.wakeSet = true ∧ d.pwr.timerOn = true ∧ d.b Reg.PWR_WAKE_EN 2 = true ∧ d.pwr.mgmtMatch = false ∧ d.pwr.wakeN = false
        ∧ d.pwr.timerLatch = false)
    ∧ (power0 {}).dev.pwr.timerOn = false ∧ (power0 {} [(Reg.PWR_WAKE_EN, 0)]).dev.b Reg.PWR_WAKE_EN 4 = false := by decide +kernel

theorem witness_ResetsKeepWhatTheyMust :
    State.reset.dev.thm.shutNow = 0 ∧ State.reset.dev.pwr.off = false ∧ (power0 { off := true }).alive = false
    ∧ (power0 { off := true }).dev.pwr.off = true
    ∧ (let d := (at0 (clocked [(Reg.PWR_WDOG_CTL, 0x100)])).dev;
      d.b Reg.PWR_WDOG_CTL 8 = true ∧ d.glb.run = true ∧ d.on domCORE = true)
    ∧ State.reset.dev.glb.run = false := by decide +kernel

theorem witness_TokensOpenStatesAndKeysAreBurnt :
    ((sec0 {}).alive = true ∧ (sec0 {}).dev.on domCORE = true ∧ (sec0 {}).dev.sec.refusing = none ∧ (sec0 {}).dev.sec.busy = none
      ∧ (sec0 {}).dev.sec.burn = none ∧ (sec0 {}).keyAllowed = false ∧ (sec0 {}).dev.sec.level < 2)
    ∧ ((sec0 { busy := some ([], none) }).tokenReason [] none ≠ 0 ∧ (sec0 { busy := some ([], none) }).tokenReason [] none < 6)
    ∧ (sec0 { refusing := some 0 }).dev.sec.refusing = some 0 ∧ (sec0 { service := true }).dev.sec.service = true
    ∧ ((sec0 { service := true }).keyAllowed = true ∧ (sec0 { service := true }).fuses.intKey = none ∧ (sec0 { service := true }).fuses.revoked = false)
    ∧ (sec0 {} { intKey := some [] }).fuses.intKey ≠ none ∧ (sec0 { burn := some .revoke }).dev.sec.burn = some .revoke := by decide +kernel

/-- A firmware image under verification. -/
def fw0 (reason : Nat) (rt : Bool) : FwJob := { desc := desc 10, slot := 0, version := 1, reason := reason, runTime := rt }

/-- Firmware runs, with and without a password session. -/
def fwRunning (open_ : Bool) : State :=
  linked id (fun i => { running i with fwRun := true, pw := if open_ then { openAt := some 0 } else {} })

theorem witness_FirmwareIsVerifiedAndSwitched_load :
    (let s := fwRunning false;
      s.alive = true ∧ s.dev.on domCORE = true ∧ s.dev.takes (desc 10) ∧ descAligned (desc 10) = true ∧ descNoB (desc 10) = true
        ∧ (desc 10).typ = 0x0A ∧ descUnusedZero (desc 10) [] = true ∧ s.fwReady = true ∧ s.isl.fwRun = true ∧ s.isl.pw.openAt = none)
    ∧ (let s := fwRunning true;
      s.isl.fwRun = true ∧ s.isl.pw.openAt.isSome = true ∧ s.dev.brn.ranging = false ∧ s.fwReady = true) := by
  unfold Dev.takes; decide +kernel

theorem witness_FirmwareIsVerifiedAndSwitched :
    (sec0 {}).dev.sec.fw = none ∧ (sec0 { fw := some (fw0 1 false) }).dev.sec.fw = some (fw0 1 false) ∧ (fw0 1 false).reason ≠ 0
    ∧ (fw0 0 false).reason = 0 ∧ (fw0 0 true).runTime = true ∧ (sec0 { fw := some (fw0 0 true) } {} running).isl.st ≠ .internal
    ∧ (sec0 { fwSwitch := some (fw0 0 true) }).dev.sec.fwSwitch = some (fw0 0 true) ∧ (sec0 {}).dev.sec.fwSwitch = none
    ∧ (sec0 {} {} running).isl.st ≠ .wait := by decide +kernel

theorem witness_DebugSessionsAndBoundaryInstructions :
    ((sec0 {}).dev.sec.level = 0 ∧ fld (1 : Word) 1 0 = 1 ∧ fld (2 : Word) 1 0 = 2 ∧ (sec0 {}).opened = false ∧ (sec0 {}).dev.active = true)
    ∧ ((sec0 { level := 1, port := true }).dev.sec.port = true ∧ (sec0 { level := 1 }).dev.sec.port = false ∧ (sec0 { level := 1 }).dev.sec.level < 2)
    ∧ (rowOf 0xFFFFFC = none ∧ 0xFFFFFC < 2 ^ 24)
    ∧ (let s := sec0 { service := true, level := 2 } {} (fun i => { i with st := .lockout });
      s.opened = true ∧ s.dev.sec.level = 2 ∧ s.isl.st = .lockout ∧ s.lensLow = true)
    ∧ (let s := sec0 { service := true, level := 2 } {} running;
      s.opened = true ∧ s.isl.st ≠ .lockout ∧ s.isl.st ≠ .internal)
    ∧ (let s := sec0 { service := true, level := 2 } {} (fun i => { i with st := .lockout, lenStuck := [(0, 2)] });
      s.isl.st = .lockout ∧ s.lensLow = false)
    ∧ (power0 { domains := 0xF }).dev.active = false ∧ (sec0 { bscan := true }).dev.sec.bscan = true := by decide +kernel

/-- A step from a state in shape, and a command in INTERNAL. -/
theorem witness_EveryStepKeepsTheIslandInShape : State.reset.isl.Shaped ∧ ∃ t, Sys2Proof.Machine.step State.reset = .next t :=
  ⟨shaped_reset.1, _, rfl⟩
theorem witness_WhatNoCommandUndoes : ∃ t, exec .pwClose (at0 id (fun i => { i with st := .internal })) = .next t := ⟨_, rfl⟩
theorem witness_MemoryKeepsItsBytesAndItsForm : Memory.wf State.reset.dev.wave.mem.cells = true ∧ 0 < ([7] : List Byte).length := by decide


/-- A linked part in SERVICE, and one with a password session open. -/
def serviced : State := linked (fun d => { d with sec := { service := true } })

theorem answers_serviced : serviced.answers := by unfold State.answers; decide +kernel

theorem witness_PasswordAndSecurityStateAreIndependent :
    serviced.answers
    ∧ (serviced.alive = true ∧ serviced.dev.on domCORE = true ∧ serviced.dev.sec.service = true ∧ serviced.isl.pw.openAt = none)
    ∧ (∃ r ix, rowOf Reg.HKP_EL_CTL = some (r, ix) ∧ r.acc = .rwp ∧ isBrnLimit Reg.HKP_EL_CTL = false ∧ Reg.HKP_EL_CTL ≠ Reg.SEC_DBG_DATA)
    ∧ (let s := linked id (fun i => { i with defaulted := false, pw := { openAt := some 0 } });
      s.alive = true ∧ s.dev.on domCORE = true ∧ s.isl.pw.openAt.isSome = true ∧ s.dev.sec.level = 0 ∧ fld (2 : Word) 1 0 = 2
        ∧ s.opened = false) := by
  refine ⟨answers_serviced, by decide +kernel, ⟨_, _, rfl, by decide +kernel⟩, by decide +kernel⟩
/-! ## A token that is accepted -/

/-- A token for die 7 and the all-zero challenge, with the base point as public key and signature `s`. -/
def token0 (kind slot s : Nat) : List Byte :=
  leBytes 4 0x53455401 ++ leBytes 1 kind ++ leBytes 1 slot ++ leBytes 2 0 ++ leBytes 8 7 ++ List.replicate 32 0
    ++ beBytes 32 p256G.1 ++ beBytes 32 p256G.2 ++ beBytes 32 p256G.1 ++ beBytes 32 s

/-- The SHA-256 of the base point. -/
def hashG : Nat := 0xd875db7def232236aec738c6b0bb3e80142f5d0fd8f4df24fed6eef5cbb50d9f

/-- Die 7, with the base point's hash as the vendor's key and as the integrator's key with UNLOCK. -/
def die7 (service : Bool) : State :=
  { sec0 { service := service } { intKey := some (beBytes 32 hashG), unlock := true } with
    dev := { (sec0 { service := service }).dev with
      regs := [(0x800020, 7), (0x800024, 0), (0xF80240, 0x7DDB75D8), (0xF80244, 0x362223EF), (0xF80248, 0xC638C7AE), (0xF8024C, 0x803EBBB0),
        (0xF80250, 0x0F5D2F14), (0xF80254, 0x24DFF4D8), (0xF80258, 0xF5EED6FE), (0xF8025C, 0x9F0DB5CB)] } }

theorem witness_service_token : (die7 false).tokenReason
    (token0 1 1 0xe669ae84ae86f5998b3e446d962b87df054d1163060df7b983c7057cfb111e9b) (some (List.replicate 32 0)) = 0 := by decide +kernel
theorem witness_factory_token : (die7 true).tokenReason
    (token0 2 0 0xdf09007f21648bfbab956660da1a0c0b96b1430a392f14ed550b70b99cb1614) (some (List.replicate 32 0)) = 0 := by decide +kernel

/-! ## Tables whose CRC is right -/

/-- One bit of the CRC on numbers. -/
def bitN (n : Nat) : Nat := if n % 2 = 1 then n / 2 ^^^ 0xEDB88320 else n / 2

theorem bitN_eq (c : BitVec 32) : bitN c.toNat = (crcBit c).toNat := by
  have h : c.getLsbD 0 = decide (c.toNat % 2 = 1) := by
    simp [BitVec.getLsbD, Nat.testBit_zero]
  unfold bitN crcBit
  rw [h]
  by_cases k : c.toNat % 2 = 1
  · simp [k, Nat.shiftRight_succ]
  · simp [k, Nat.shiftRight_succ]

/-- `k` bits, each state a number. -/
def bitsGo : Nat → Nat → Nat
  | 0, n => n
  | k + 1, 0 => bitsGo k (bitN 0)
  | k + 1, n + 1 => bitsGo k (bitN (n + 1))

/-- `k` bits of the CRC. -/
def crcBits : Nat → BitVec 32 → BitVec 32
  | 0, c => c
  | k + 1, c => crcBits k (crcBit c)

theorem bitsGo_eq (k : Nat) (c : BitVec 32) : bitsGo k c.toNat = (crcBits k c).toNat := by
  induction k generalizing c with
  | zero => rfl
  | succ k ih =>
    rw [crcBits, ← ih, ← bitN_eq]
    cases c.toNat <;> rfl

/-- The CRC byte by byte, each state a number. -/
def crcGo : List Byte → Nat → Nat
  | [], c => c
  | b :: bs, 0 => crcGo bs (bitsGo 8 (0 ^^^ b.toNat))
  | b :: bs, n + 1 => crcGo bs (bitsGo 8 ((n + 1) ^^^ b.toNat))

theorem crcGo_eq (bs : List Byte) (c : BitVec 32) : crcGo bs c.toNat = (bs.foldl crcByte c).toNat := by
  induction bs generalizing c with
  | nil => rfl
  | cons b bs ih =>
    have h : (c ^^^ b.setWidth 32).toNat = c.toNat ^^^ b.toNat := by
      have := b.isLt
      simp
      omega
    rw [List.foldl_cons, ← ih, show crcByte c b = crcBits 8 (c ^^^ b.setWidth 32) from rfl, ← bitsGo_eq, h]
    cases c.toNat <;> rfl
/-- The CRC of a table, from the number that its bytes lead to. -/
theorem crc_eq {bs : List Byte} {n : Nat} (h : crcGo bs 0xFFFFFFFF = n) : crc32 bs = BitVec.ofNat 32 n ^^^ 0xFFFFFFFF#32 := by
  have k : (bs.foldl crcByte 0xFFFFFFFF#32).toNat = n := by rw [← crcGo_eq]; exact h
  rw [crc32, ← k, BitVec.ofNat_toNat, BitVec.setWidth_eq]

/-- A table of bytes and its CRC. -/
theorem crcOk_append (bs : List Byte) (c : BitVec 32) (h : crc32 bs = c) : crcOk (bs ++ leBytes 4 c.toNat) = true := by
  have hl : (leBytes 4 c.toNat).length = 4 := rfl
  have hn : leNat (leBytes 4 c.toNat) = c.toNat := by
    have := c.isLt
    simp [leBytes, leNat]
    omega
  simp [crcOk, leAt, hl, h, hn, List.take_of_length_le]






/-- A code table without dither, before its CRC. -/
def codeData : List Byte := leBytes 4 0x42524301 ++ List.replicate 8192 0

/-- The table. -/
def codeBytes : List Byte := codeData ++ leBytes 4 (0x1ddbd957#32).toNat

theorem codeData_crc : crcGo codeData 0xFFFFFFFF = 0xe22426a8 := by decide +kernel

theorem witness_code_table : codeTableOk codeBytes = true := by
  have hc : crcOk codeBytes = true := crcOk_append _ _ ((crc_eq codeData_crc).trans (by decide))
  have hl : codeBytes.length = 8200 := by
    unfold codeBytes codeData
    rw [List.length_append, List.length_append, List.length_replicate]; rfl
  have hm : leAt codeBytes 0 4 = 0x42524301 := by decide +kernel
  unfold codeTableOk
  rw [hc, hl, hm]; rfl

/-- The first words of a parameter block without pairs and heads. -/
def spbWords : List Nat := [0x53504201, 1, 7, 10000] ++ List.replicate 28 0 ++ [8, 0x640001, 10]

/-- The CRC of the block. -/
def spbCrc : BitVec 32 := 0x132e6353#32

/-- The words of the block. -/
def blockWords : List Nat := spbWords ++ List.replicate 988 0 ++ [spbCrc.toNat]

/-- The bytes of the block. -/
def spbBlock : List Byte := blockWords.flatMap (leBytes 4)

theorem leBytes_cons (w : Nat) : leBytes 4 w
    = [BitVec.ofNat 8 w, BitVec.ofNat 8 (w / 256), BitVec.ofNat 8 (w / 256 / 256), BitVec.ofNat 8 (w / 256 / 256 / 256)] := rfl

theorem leAt_words (ws : List Nat) (i : Nat) : leAt (ws.flatMap (leBytes 4)) (4 * i) 4 = ws.getD i 0 % 2 ^ 32 := by
  induction ws generalizing i with
  | nil => simp [leAt, leNat]
  | cons w ws ih =>
    cases i with
    | zero => simp [leAt, leBytes_cons, leNat]; omega
    | succ i =>
      have := ih i
      simp only [leAt] at this ⊢
      simp only [List.flatMap_cons, leBytes_cons, List.getD_cons_succ]
      rw [show 4 * (i + 1) = 4 * i + 1 + 1 + 1 + 1 by omega]
      simpa using this

theorem words_len (ws : List Nat) : (ws.flatMap (leBytes 4)).length = 4 * ws.length := by
  induction ws with
  | nil => rfl
  | cons w ws ih => simp [leBytes_cons, ih]; omega

theorem zero_words (n : Nat) : (List.replicate n 0).flatMap (leBytes 4) = List.replicate (4 * n) (0 : Byte) := by
  induction n with
  | zero => rfl
  | succ n ih => rw [List.replicate_succ, List.flatMap_cons, ih]; rfl

theorem block_getD (i : Nat) : blockWords.getD i 0 = if i < 35 then spbWords.getD i 0 else if i = 1023 then spbCrc.toNat else 0 := by
  have h1 : spbWords.length = 35 := rfl
  simp only [blockWords, List.getD_eq_getElem?_getD, List.getElem?_append, List.length_append, List.length_replicate, h1, List.getElem?_replicate]
  by_cases h : i < 35
  · rw [if_pos (by omega), if_pos h, if_pos h]
  · rw [if_neg h, if_neg h]
    by_cases k : i < 1023
    · rw [if_pos (by omega), if_pos (by omega), if_neg (by omega)]; rfl
    · rw [if_neg (by omega)]
      by_cases j : i = 1023
      · subst j; rfl
      · rw [if_neg j, show i - (35 + 988) = (i - 1024) + 1 by omega]; rfl

theorem block_words : wordsOf spbBlock
    = [(0, 0x53504201), (1, 1), (2, 7), (3, 10000), (32, 8), (33, 0x640001), (34, 10), (1023, word spbCrc.toNat)] := by
  have hl : spbBlock.length / 4 = 1024 := by rw [spbBlock, words_len]; decide +kernel
  unfold wordsOf
  rw [hl]
  have h : ∀ i, leAt spbBlock (4 * i) 4 = blockWords.getD i 0 % 2 ^ 32 := leAt_words blockWords
  simp only [h, block_getD]
  decide +kernel

theorem block_split : spbBlock = (spbWords ++ List.replicate 988 0).flatMap (leBytes 4) ++ leBytes 4 spbCrc.toNat := by
  unfold spbBlock blockWords
  rw [List.flatMap_append]
  exact congrArg _ (List.append_nil _)

theorem block_data_crc : crcGo ((spbWords ++ List.replicate 988 0).flatMap (leBytes 4)) 0xFFFFFFFF = 0xecd19cac := by
  rw [List.flatMap_append, zero_words]
  decide +kernel

theorem block_len : spbBlock.length = 4096 := by rw [spbBlock, words_len]; decide +kernel

theorem witness_valid_block : spbValid (spbBlock.take 4096) = true := by
  have hc : crcOk spbBlock = true := by
    rw [block_split]
    exact crcOk_append _ _ ((crc_eq block_data_crc).trans (by decide))
  rw [List.take_of_length_le (Nat.le_of_eq block_len)]
  unfold spbValid
  rw [block_words]
  unfold spbCond1
  rw [hc, block_len]
  decide +kernel

/-- An island whose self-test is over. -/
theorem witness_ParameterBlocksAreTakenOrRefused :
    (let x := desc 11 [] 4096 4176;
      (linked id running).alive = true ∧ (linked id running).dev.on domCORE = true ∧ x.typ = 0x0B ∧ (linked id running).dev.takes x
        ∧ descAligned x = true ∧ descUnusedZero x [] = true ∧ 4096 ≤ x.lenA ∧ 4176 ≤ x.lenB ∧ (linked id running).isl.up = true
        ∧ readA x (some []) = some [] ∧ (linked id running).isl.accepted = false ∧ spbValid (([] : List Byte).take 4096) = false)
    ∧ (linked id (fun i => { running i with accepted := true, pw := {} })).isl.accepted = true
    ∧ (linked id (fun i => { running i with accepted := true, pw := {} })).isl.pw.openAt = none := by
  unfold Dev.takes; decide +kernel

theorem witness_block_read : readA (desc 11 [] 4096 4176) (some spbBlock) = some spbBlock := by
  show some (spbBlock.take 4096) = some spbBlock
  rw [List.take_of_length_le (Nat.le_of_eq block_len)]

/-! ## Worked values of the spec -/

/-- 00 and 05, the example of R134: entry 41 of channel RX040 is 20,969, and the edge p = 1,953,587, k = 41 falls at
1,000,000,000 + 236,872; the nominal entry is 21,248. -/
theorem test_corrected_time :
    (at0 (regs [(Reg.TIM_TBL 40 0 20, 20969 * 65536)])).dev.edgeTime (Reg.TIM_TBL 40 0) { p := 1953587, k := 41 } = 1000236872
    ∧ (at0 id).dev.binEntry (Reg.TIM_TBL 40 0) 41 = 21248 := by decide +kernel

/-- Emitter 3 of the example plan of 02. -/
def plan3 (start : Nat) : Dev :=
  (at0 (regs [(Reg.BRN_EM_CTL 3, 33), (Reg.BRN_DITHER_SPAN, 12800)])).dev.wrN (Reg.BRN_EM_START 3) start
    |>.wrN (Reg.BRN_EM_PERIOD 3) 76800 |>.wrN (Reg.BRN_EM_COUNT 3) 80

/-- 02 R49, the example: conditions 2 and 3 hold for E3, whose plan ends 257,664 fine bins before the planning length; one
more fine bin than that is too late. -/
theorem test_plan_check : ((plan3 57600).planCond [] 3 2 = true ∧ (plan3 57600).planCond [] 3 3 = true)
    ∧ (plan3 315264).planCond [] 3 3 = true ∧ (plan3 315265).planCond [] 3 3 = false := by decide +kernel

/-- 04 R118, the example of bias: the outputs after three slow rounds. -/
theorem test_bias_moves :
    let d : Dev := { (at0 (regs [(Reg.AFE_BIAS_CTL 1, 9830 + 0x4000 + 0x20 * 0x10000 + 0x400000), (Reg.AFE_BIAS_TC 1, 60 * 256 + 1600 * 65536),
      (Reg.AFE_BIAS_LIM 1, 0x3FFF0000), (Reg.AFE_BIAS_SLEW 1, 200), (Reg.HKP_SLOT_VAL 32, 2144), (Reg.HKP_SLOT_STAT 32, 1)])).dev with
        afe := { bias := [(1, { code := 9830 })], roundDone := true } }
    ((Dev.biasMove 1 d).bias 1).code = 10030 ∧ ((Dev.biasMove 1 (Dev.biasMove 1 d)).bias 1).code = 10230
      ∧ ((Dev.biasMove 1 (Dev.biasMove 1 (Dev.biasMove 1 d))).bias 1).code = 10340 := by decide +kernel

/-- 08 R244, the example of plate P3: group delays 112,128 and 95,744 DT. -/
theorem test_group_delay :
    let b : Nat → FirBank := fun n => { n := n, d0 := 8, s0 := 17, sym := true, gd := 0, h := [] };
    let c : Chain := { ts := 512, fir := true, l := 16, d1 := 4, s1 := 4, d0 := 8, bank := b 191 };
    c.gd (b 191) = 112128 ∧ c.gd (b 127) = 95744 := by decide

/-- 08 R249, the example of SYNC: the edge at 4,999,950,000 with LEAD 0 makes the instant 4,999,991,296. -/
theorem test_sync_instant : up1024 (4999950000 + 40960) = 4999991296 := by decide

/-- 10 R284, the example of the round: slots of 1,021.2, 271.2 and 308.2 us, and 6,268.8 us for the fixed slots 0-23. -/
theorem test_slot_times :
    slotTime (word (4 + 64 * 20)) 1 = 1021200 * 1024 ∧ slotTime (word (4 + 64 * 20)) 0 = 271200 * 1024
      ∧ slotTime (word (32 + 64 * 50)) 0 = 308200 * 1024
      ∧ ((List.range 24).map (fun j => slotTime ((at0 id).dev.rd (Reg.HKP_SLOT_AUX j)) 0)).sum = 6268800 * 1024 := by decide +kernel

/-- 01 R28, the budget example: 937,500 bytes of link, 936,476 of them available, and 2,559,600 bytes of LPDDR4X in a 50 us
frame. -/
theorem test_frame_capacity :
    (at0 id).dev.capLink = 937500 ∧ (at0 id).dev.linkAvail = 936476 ∧ (at0 id).dev.capMem = 2559600 := by decide +kernel

/-- 05, the example of IU1, step 5: a stop 3,072 DT before its start forms a record whose interval is 0xFFFFFFFFFFFFF400. -/
theorem test_interval_reversed : leBytes 8 (ofSigned 64 (-3072)) = leBytes 8 0xFFFFFFFFFFFFF400 := by decide

/-- 01 R21: the frame number wraps at a tick. -/
theorem test_frame_number_wraps :
    (Dev.frameEnd .internal 7 none noObs { (at0 (clocked [])).dev with glb := { frameNum := 0xFFFFFFFF, run := true } }).2.glb.frameNum = 0 := by
  decide +kernel

/-- 01 R18: the order 00, 10, 11, 01 counts up, its reverse down. -/
theorem test_encoder_order :
    (let s := at0 (clocked [(Reg.GLB_ENC_CTL, 32)]);
      (match exec (.encEdgeAccepted true false 0) s with | .next t => t.dev.rd Reg.GLB_ENC_POS | _ => 9) = 1
        ∧ (match exec (.encEdgeAccepted false true 0) s with | .next t => t.dev.rd Reg.GLB_ENC_POS | _ => 9) = -1) := by decide +kernel

/-- 14 R416: the check value of CRC-32. -/
theorem test_crc32 : crc32 [0x31, 0x32, 0x33, 0x34, 0x35, 0x36, 0x37, 0x38, 0x39] = 0xCBF43926#32 := by decide +kernel

/-- 17 R487: SHA-256 of the empty string begins with E3 B0 C4 42. -/
theorem test_sha256 : (sha256 []).take 4 = [0xE3, 0xB0, 0xC4, 0x42] := by decide +kernel

/-- 00 R5: a write of 1 to a write-1-to-clear bit clears it, and a write of 0 keeps it. -/
theorem test_w1c :
    (let s := linked (regs [(Reg.HKP_OPEN_LATCH, 3)]);
      (match exec (.registerWrite Reg.HKP_OPEN_LATCH 1) s with | .next t => t.dev.rd Reg.HKP_OPEN_LATCH | _ => 9) = 2) := by decide +kernel

/-- 14 R407: the spec's example: K28.5 at negative disparity, its Gray symbols, the levels sent and what the receiver recovers. -/
theorem test_compat_comma :
    symCOM.encode false = (0b0011111010, true) ∧ graySyms (tenBits 0b0011111010) = [0, 2, 2, 3, 3]
    ∧ compatLevels [symCOM] false 0 = [-3, 1, -3, 3, -3] ∧ unprecode 0 (precode 0 [0, 2, 2, 3, 3]) = [0, 2, 2, 3, 3] := by
  decide +kernel

/-- 14 R403, R404: K28.7 is a code error, a comma of the wrong disparity is one, and SOP is none. -/
theorem test_code_errors :
    symError (decodeSym false (Sym.encode (.k 252) false).1) = true ∧ symError (decodeSym true 0b0011111010) = true
    ∧ decodeSym false (symSOP.encode false).1 = some symSOP ∧ symError (some symSOP) = false := by decide +kernel

/-- 14 R406: a marker that lost or gained one SKP is still a marker of its lane, and one that lost both is none. -/
theorem test_markers :
    markerOk 3 ((laneMarker 3 1).map some) = true ∧ markerOk 3 ((laneMarker 3 3).map some) = true
    ∧ markerOk 3 ((laneMarker 3 0).map some) = false ∧ markerOk 2 ((laneMarker 3 2).map some) = false := by decide

/-- 14 R413: a packet with 512 bytes of payload takes 34 character times on 16 lanes, and one of 16 bytes takes 3. -/
theorem test_character_times :
    (stripe 16 (fun _ => .d 0) 600 (packetSyms (Packet.wire true { typ := .memwr, payload := List.replicate 512 0 }))).length = 34
    ∧ (stripe 16 (fun _ => .d 0) 600 (packetSyms (Packet.wire true { typ := .msg, payload := List.replicate 16 0 }))).length = 3 := by
  decide +kernel

/-- 12 R331: a door that opens puts its pair in demand, and closing both channels again releases it. -/
theorem test_door :
    (let s := pair0 false { a := true, b := true, demand := false };
      (match exec (.guardInputAccepted 0 0 0 [(false, true), (false, true)]) s with | .next t => ((t.isl.half 0).guard 0).demand | _ => false) = true)
    ∧ (let s := pair0 false { b := true, demand := true };
      (match exec (.guardInputAccepted 0 0 0 [(true, true), (true, true)]) s with | .next t => ((t.isl.half 0).guard 0).demand | _ => true) = false)
    ∧ (let s := pair0 false { b := true, demand := true };
      (match exec (.guardInputAccepted 0 0 0 [(true, true), (false, true), (true, true)]) s with
        | .next t => ((t.isl.half 0).guard 0).demand | _ => false) = true) := by
  decide +kernel

/-- 03 R73, R90: a drive that ramps to 0 moves by at most PARK_SLEW. -/
theorem test_slew : slewTo 1000 0 64 = 936 ∧ slewTo 10 0 64 = 0 ∧ slewTo (-1000) 0 64 = -936 := by decide

/-- 18 R504, R506, R509, R510: RX021 lies at D6 and E6, RX300 at G45 and H45, LP7_DQ15 at BL64, H15RXN at CH32; row 66 is CJ. -/
theorem test_balls :
    (Pin.rx 21 false).ball = { row := rowNum 0 'D', col := 6 } ∧ (Pin.rx 21 true).ball = { row := rowNum 0 'E', col := 6 }
    ∧ (Pin.rx 300 false).ball = { row := rowNum 0 'G', col := 45 } ∧ (Pin.lp 7 (.dq 15)).ball = { row := rowNum 2 'L', col := 64 }
    ∧ (Pin.host 15 { rx := true, neg := true }).ball = { row := rowNum 3 'H', col := 32 } ∧ rowName 66 = ['C', 'J'] := by decide +kernel

/-- 18 R525: after reset the laser enables are driven low, fire outputs and loops are at high impedance while their pads are held,
and BIAS drives 0 V. -/
theorem test_nets :
    (let s := at0 (fun d => { d with pwr := { d.pwr with held := 0x1FC } });
      s.net 0 (.len 0 true) = some .low ∧ s.net 0 (.fire 3 false) = some .highZ ∧ s.net 0 (.loop 1) = some .highZ
        ∧ s.net 0 (.bias 2) = some (.code 0)) := by decide +kernel

/-- 15 R437, R438: the management port answers OK to a write of its subset and UNSUPPORTED to one outside it. -/
theorem test_management_answers :
    (match exec (.mgmtWrite Reg.PWR_TIMER 5 false) (at0 id) with | .next t => t.dev.pwr.mgmtAns.map Prod.fst | _ => none) = some 0
    ∧ (match exec (.mgmtWrite Reg.GLB_TICK_CTL 5 false) (at0 id) with | .next t => t.dev.pwr.mgmtAns.map Prod.fst | _ => none) = some 2 := by
  decide +kernel

end Sys2Proof.Tests
end

section
/-! The encoder position (01 R18-R20): what an accepted edge does to it, case by case, and that the end of a frame latches it. -/
namespace Sys2Proof.Machine

/-! ## Words of integers -/

/-- The word of an integer is its residue modulo 2^32. -/
theorem wordI_eq_ofInt (i : Int) : wordI i = BitVec.ofInt 32 i :=
  BitVec.eq_of_toNat_eq (by simp only [wordI, word, ofSigned, BitVec.toNat_ofNat, BitVec.toNat_ofInt]; omega)

/-- Adding an integer to the signed value of a word adds its word. -/
theorem wordI_toInt_add (w : Word) (i : Int) : wordI (w.toInt + i) = w + wordI i := by
  simp only [wordI_eq_ofInt, BitVec.ofInt_add, BitVec.ofInt_toInt]

/-! ## The levels -/

/-- The device once the accepted levels and their instant are kept, and nothing is counted (R18). -/
def Dev.encLevels (a b : Bool) (t : Time) (d : Dev) : Dev := { d.at t with glb := { d.glb with encA := a, encB := b } }

@[simp] theorem Dev.encLevels_rd (a b : Bool) (t : Time) (d : Dev) (o : Nat) : (d.encLevels a b t).rd o = d.rd o :=
  d.at_rd t o
@[simp] theorem Dev.encLevels_b (a b : Bool) (t : Time) (d : Dev) (o i : Nat) : (d.encLevels a b t).b o i = d.b o i := by
  simp [Dev.b]
@[simp] theorem Dev.encLevels_on (a b : Bool) (t : Time) (d : Dev) (k : Nat) : (d.encLevels a b t).on k = d.on k :=
  d.at_on t k

/-! ## The count -/

/-- The new levels follow the old ones in the order that counts up: the forward order, or the other one where ENC_CTL bit 4
turns the sense (R18). -/
def Dev.encUp (a b : Bool) (d : Dev) : Bool :=
  (decide ((encPhase d.glb.encA d.glb.encB + 1) % 4 = encPhase a b)) != d.b Reg.GLB_ENC_CTL 4

/-- The quadrature count of one edge. -/
def countOf (up : Bool) : Int := if up then 1 else -1

/-- The distance accumulator after an edge: it counts where the encoder is the tick source and a tick distance is set (R18). -/
def Dev.encAccAfter (up : Bool) (d : Dev) : Int :=
  if d.glb.src = .encoder ∧ d.f Reg.GLB_ENC_TICK_DIST 23 0 ≠ 0 then
    d.glb.encAcc + countOf up * ((d.f Reg.GLB_ENC_SCALE 23 0 : Nat) : Int)
  else d.glb.encAcc

/-- Keeping the levels first changes nothing in that. -/
theorem Dev.encAccAfter_encLevels (up a b : Bool) (t : Time) (d : Dev) :
    (d.encLevels a b t).encAccAfter up = d.encAccAfter up := by
  simp only [Dev.encAccAfter, Dev.f, Dev.encLevels_rd]
  rfl

/-- The device with one edge counted into the position and the accumulator. -/
def Dev.encCount (up : Bool) (d : Dev) : Dev :=
  { d.wr Reg.GLB_ENC_POS (d.rd Reg.GLB_ENC_POS + wordI (countOf up)) with
    glb := { d.glb with encAcc := d.encAccAfter up } }

theorem Dev.encCount_rd (up : Bool) (d : Dev) (o : Nat) :
    (d.encCount up).rd o = (d.wr Reg.GLB_ENC_POS (d.rd Reg.GLB_ENC_POS + wordI (countOf up))).rd o := rfl

/-- An edge moves the position by one. -/
theorem Dev.encCount_pos (up : Bool) (d : Dev) :
    (d.encCount up).rd Reg.GLB_ENC_POS = if up then d.rd Reg.GLB_ENC_POS + 1 else d.rd Reg.GLB_ENC_POS - 1 := by
  rw [Dev.encCount_rd, Dev.rd_wr_same]
  cases up
  · show d.rd Reg.GLB_ENC_POS + wordI (-1) = d.rd Reg.GLB_ENC_POS - 1
    rw [BitVec.sub_eq_add_neg]
    rfl
  · rfl

/-- Counting an edge leaves every other register alone. -/
theorem Dev.encCount_rd_ne (up : Bool) (d : Dev) {o : Nat} (h : o ≠ Reg.GLB_ENC_POS) : (d.encCount up).rd o = d.rd o := by
  rw [Dev.encCount_rd, Dev.rd_wr_ne _ _ h.symm]

/-- The sense of an edge, with ENC_CTL read where the new levels are kept already. -/
theorem Dev.encUp_eq (a b : Bool) (t : Time) (d : Dev) :
    (if (d.encLevels a b t).b Reg.GLB_ENC_CTL 4 then !decide ((encPhase d.glb.encA d.glb.encB + 1) % 4 = encPhase a b)
      else decide ((encPhase d.glb.encA d.glb.encB + 1) % 4 = encPhase a b)) = d.encUp a b := by
  rw [Dev.encLevels_b, Dev.encUp]
  cases d.b Reg.GLB_ENC_CTL 4 <;> simp

/-- Counting in the model's order: the position is written first, and the accumulator's registers are read after it. -/
theorem Dev.encCount_eq (d : Dev) (up : Bool) :
    (let e := d.wr Reg.GLB_ENC_POS (wordI ((d.rd Reg.GLB_ENC_POS).toInt + countOf up))
      if e.glb.src = .encoder && e.f Reg.GLB_ENC_TICK_DIST 23 0 ≠ 0 then
        { e with glb := { e.glb with encAcc := e.glb.encAcc + countOf up * (e.f Reg.GLB_ENC_SCALE 23 0 : Nat) } }
      else e) = d.encCount up := by
  have hf : ∀ {o : Nat} (v : Word), Reg.GLB_ENC_POS ≠ o → (d.wr Reg.GLB_ENC_POS v).f o 23 0 = d.f o 23 0 :=
    fun v h => congrArg (fld · 23 0) (d.rd_wr_ne v h)
  rw [wordI_toInt_add]
  dsimp only
  rw [hf _ (by decide : Reg.GLB_ENC_POS ≠ Reg.GLB_ENC_TICK_DIST), hf _ (by decide : Reg.GLB_ENC_POS ≠ Reg.GLB_ENC_SCALE)]
  have hiff : ∀ {p q : Prop} [Decidable p] [Decidable q], (decide p && decide q) = true ↔ p ∧ q := by simp
  by_cases h : d.glb.src = .encoder ∧ d.f Reg.GLB_ENC_TICK_DIST 23 0 ≠ 0
  · have hacc : d.encAccAfter up = d.glb.encAcc + countOf up * (d.f Reg.GLB_ENC_SCALE 23 0 : Nat) := if_pos h
    rw [Dev.encCount, hacc]
    exact if_pos (hiff.mpr h)
  · have hacc : d.encAccAfter up = d.glb.encAcc := if_neg h
    rw [Dev.encCount, hacc]
    exact if_neg (mt hiff.mp h)

/-! ## What an accepted edge does (R18, R19) -/

/-- An accepted edge: without the enable or without a change the levels alone are kept, a change of both is an error, and a
change of one is counted. -/
theorem Dev.encEdge_eq (a b : Bool) (t : Time) (d : Dev) :
    d.encEdge a b t =
      if d.b Reg.GLB_ENC_CTL 5 = false ∨ (d.glb.encA = a ∧ d.glb.encB = b) then d.encLevels a b t
      else if d.glb.encA ≠ a ∧ d.glb.encB ≠ b then ((d.encLevels a b t).inc Reg.GLB_ENC_ERR_CNT).raise Ev.ENC_ERROR
      else (d.encLevels a b t).encCount (d.encUp a b) := by
  unfold Dev.encEdge
  simp only [Dev.at_glb]
  refine if_congr ?enabled rfl (if_congr (by simp) rfl ?count)
  case enabled =>
    show (!(d.encLevels a b t).b Reg.GLB_ENC_CTL 5 || (decide (d.glb.encA = a) && decide (d.glb.encB = b))) = true ↔ _
    simp
  case count => exact ((d.encLevels a b t).encCount_eq _).trans (congrArg (Dev.encCount · _) (d.encUp_eq a b t))

/-- The command of an accepted edge: while the encoder's pins act, it is carried out on the device. -/
theorem exec_encEdgeAccepted {s : State} (a b : Bool) (t : Time) (ha : s.alive = true) (hb : s.dev.sec.bscan = false)
    (ho : s.dev.on domCORE = true) :
    exec (.encEdgeAccepted a b t) s = .next { s with dev := s.dev.encEdge a b t } :=
  congrArg _ (State.atPin_pos ha hb ho _)

/-! ## The latch (R20) -/

/-- An event leaves every register but its raw word alone, whether CORE is powered or not. -/
theorem Dev.rd_raise_ne (d : Dev) {n o : Nat} (hn : n < 512) (h : o ≠ evtRawOff n) : (d.raise n).rd o = d.rd o := by
  cases hc : d.on domCORE with
  | false => rw [Dev.raise_off hc]; rfl
  | true =>
    obtain ⟨-, -, hrd, -⟩ := Dev.raise_noted hc hn
    exact hrd o h

/-- TICK_ENC_POS holds the encoder position. -/
def Dev.EncLatched (d : Dev) : Prop := d.rd Reg.GLB_TICK_ENC_POS = d.rd Reg.GLB_ENC_POS

/-- Copying the position latches it. -/
theorem Dev.encLatched_wr (d : Dev) : (d.wr Reg.GLB_TICK_ENC_POS (d.rd Reg.GLB_ENC_POS)).EncLatched := by
  unfold Dev.EncLatched
  rw [Dev.rd_wr_same, Dev.rd_wr_ne _ _ (by decide)]

/-- What leaves both registers alone keeps the latch. -/
theorem Dev.EncLatched.of_rd_eq {d e : Dev} (h : d.EncLatched) (ht : e.rd Reg.GLB_TICK_ENC_POS = d.rd Reg.GLB_TICK_ENC_POS)
    (hp : e.rd Reg.GLB_ENC_POS = d.rd Reg.GLB_ENC_POS) : e.EncLatched :=
  ht.trans (h.trans hp.symm)

theorem Dev.EncLatched.ite {c : Prop} [Decidable c] {d e : Dev} (hd : d.EncLatched) (he : e.EncLatched) :
    (if c then d else e).EncLatched := by
  split
  · exact hd
  · exact he

/-- Noting and counting a substitute tick keeps the latch. -/
theorem Dev.EncLatched.substitute {d : Dev} (h : d.EncLatched) (c : Bool) :
    ((d.inc Reg.GLB_TICK_SUBST_CNT).raiseIf c Ev.TICK_TIMEOUT).EncLatched := by
  have hi : (d.inc Reg.GLB_TICK_SUBST_CNT).EncLatched :=
    h.of_rd_eq (d.rd_wr_ne _ (by decide)) (d.rd_wr_ne _ (by decide))
  cases c with
  | false => exact hi
  | true => exact hi.of_rd_eq (Dev.rd_raise_ne _ (by decide) (by decide)) (Dev.rd_raise_ne _ (by decide) (by decide))

/-- The end of a frame latches the position: of the registers, only those of a substitute tick are written after it. -/
theorem Dev.frameEnd_encLatched (k : TickKind) (t : Time) (fr : Option Word) (o : TickObs) (d : Dev) :
    (Dev.frameEnd k t fr o d).2.EncLatched := by
  have hsub : ∀ (c : Bool) (x : Dev), (if k = .substitute then
      ((x.wr Reg.GLB_TICK_ENC_POS (x.rd Reg.GLB_ENC_POS)).inc Reg.GLB_TICK_SUBST_CNT).raiseIf c Ev.TICK_TIMEOUT
      else x.wr Reg.GLB_TICK_ENC_POS (x.rd Reg.GLB_ENC_POS)).EncLatched :=
    fun c x => .ite (x.encLatched_wr.substitute c) x.encLatched_wr
  exact Dev.EncLatched.ite (hsub _ _) (hsub _ _)

/-! ## The obligation -/

/-- Where the registers have been reset the position is 0, whatever the straps. -/
theorem Dev.encPos_of_regs_nil {d : Dev} (h : d.regs = []) : d.rd Reg.GLB_ENC_POS = 0 := by
  simp only [Dev.rd, h]
  rfl

/-- Settles O6: the cases of `Dev.encEdge_eq` one by one, and the latch of `Dev.frameEnd_encLatched`. -/
theorem encoderPositionIsCountedAndLatched : Obligations.EncoderPositionIsCountedAndLatched := by
  unfold Obligations.EncoderPositionIsCountedAndLatched
  refine ⟨fun d h => Dev.encPos_of_regs_nil h, fun s a b t ha hb ho => ?_, Dev.frameEnd_encLatched⟩
  rw [exec_encEdgeAccepted a b t ha hb ho, Dev.encEdge_eq]
  refine ⟨fun he => ?disabled, fun hA hB => ?unchanged, fun he hA hB => ?both, fun he hone => ?one⟩
  case disabled => rw [if_pos (.inl he)]; rfl
  case unchanged => rw [if_pos (.inr ⟨hA, hB⟩)]; rfl
  case both =>
    rw [if_neg (by simp [he, hA]), if_pos ⟨hA, hB⟩]
    refine ⟨_, _, rfl, Dev.raise_noted ?_ (by decide), ⟨rfl, fun o h => ?_⟩, ?_⟩
    · simpa [Dev.inc] using ho
    · exact Dev.rd_wr_ne _ _ (List.ne_of_not_mem_cons h).symm
    · simp [Dev.inc]
  case one =>
    rw [if_neg (by rw [he]; tauto), if_neg (by tauto)]
    refine ⟨_, rfl, rfl, ?_, fun r hr => ?_, ?_⟩
    · simpa [Dev.encUp] using Dev.encCount_pos (s.dev.encUp a b) (s.dev.encLevels a b t)
    · simpa using Dev.encCount_rd_ne (s.dev.encUp a b) (s.dev.encLevels a b t) hr
    · exact Dev.encAccAfter_encLevels _ a b t s.dev

end Sys2Proof.Machine
end

section
/-! The filter chains (08 R239-R243): what SW_GO, the end of a fade and a switch that falls due do to the banks of a chain;
and SYNC (08 R249-R252): what each of its sources does to the instants to come, and what an instant does to the chains. -/
namespace Sys2Proof.Machine

/-! ## What an event leaves alone -/

/-- What differs in nothing but its notes has the same waveform state. -/
theorem Dev.OnlyNotes.wave {d e : Dev} (h : d.OnlyNotes e) : e.wave = d.wave := by
  unfold Dev.OnlyNotes at h
  rw [h]

/-- What differs in nothing but its notes has the same chains. -/
theorem Dev.OnlyNotes.flt {d e : Dev} (h : d.OnlyNotes e) (p : Nat) : e.flt p = d.flt p :=
  congrArg (fun w : Wave => tabGet ({} : Flt) w.flt p) h.wave

/-- What differs in nothing but its notes has the same messages of the cascade. -/
theorem Dev.OnlyNotes.mdv {d e : Dev} (h : d.OnlyNotes e) : e.mdv = d.mdv := by
  unfold Dev.OnlyNotes at h
  rw [h]

/-- While CORE is powered a conditional event is either noted or nothing happens. -/
theorem Dev.raiseIf_cases {d : Dev} {n : Nat} (c : Bool) (hc : d.on domCORE = true) (hn : n < 512) :
    d.raiseIf c n = d ∨ d.Noted n (d.raiseIf c n) := by
  cases c with
  | false => exact .inl rfl
  | true => exact .inr (Dev.raise_noted hc hn)

/-! ## One chain -/

/-- Storing a chain leaves the others alone. -/
theorem Dev.flt_setFlt_ne (d : Dev) {p q : Nat} (x : Flt) (h : q ≠ p) : (d.setFlt p x).flt q = d.flt q := by
  simp [Dev.flt, Dev.setFlt, tabGet_put_ne _ _ _ h.symm]

/-- Storing a chain changes that chain alone. -/
theorem Dev.setFlt_only (d : Dev) (p : Nat) (x : Flt) : d.OnlyChain p (d.setFlt p x) :=
  ⟨rfl, fun _ h => d.flt_setFlt_ne x h⟩

/-! ## SW_GO (R240) -/

theorem exec_swGo {s : State} (p : Fin 8) (ha : s.alive = true) (hw : s.dev.on domWAVE = true) :
    exec (.swGo p) s = .next { s with dev := s.dev.swGo p } :=
  congrArg _ (State.inDom_pos ha hw _)

/-- Without a loaded shadow bank SW_GO is refused with its event. -/
theorem Dev.swGo_empty {d : Dev} {p : Nat} (hw : d.on domWAVE = true) (h : (d.flt p).shd = none) :
    d.swGo p = d.raise Ev.FLT_SWITCH_REJECT := by
  simp [Dev.swGo, hw, h]

/-- With a loaded shadow bank SW_GO asks for a switch. -/
theorem Dev.swGo_loaded {d : Dev} {p : Nat} (hw : d.on domWAVE = true) (h : (d.flt p).shd ≠ none) :
    d.swGo p = d.setFlt p { d.flt p with sw := .asked } := by
  simp [Dev.swGo, hw, h]

/-! ## The end of a fade (R239, R242) -/

theorem exec_fltFadeDone {s : State} (p : Fin 8) (ha : s.alive = true) (hw : s.dev.on domWAVE = true) :
    exec (.fltFadeDone p) s = .next { s with dev := s.dev.fadeDone p } :=
  congrArg _ (State.inDom_pos ha hw _)

/-- The device once fade `f` of a chain is over and counted, before its event. -/
def Dev.fadeEnded (p : Nat) (f : Fade) (d : Dev) : Dev :=
  (d.setFlt p (({ d.flt p with fade := none, past := f :: (d.flt p).past, held := [] } : Flt).keep (d.histFrom p))).inc
    (Reg.FLTP_FADE_CNT p)

/-- The device with bank `b` in the shadow of a chain. -/
def Dev.shadowLoaded (p : Nat) (b : FirBank) (d : Dev) : Dev := d.setFlt p { d.flt p with shd := some b }

@[simp] theorem Dev.shadowLoaded_flt (d : Dev) (p : Nat) (b : FirBank) :
    (d.shadowLoaded p b).flt p = { d.flt p with shd := some b } :=
  d.flt_setFlt p _

theorem Dev.shadowLoaded_only (d : Dev) (p : Nat) (b : FirBank) : d.OnlyChain p (d.shadowLoaded p b) := d.setFlt_only p _

/-- The device with one load held written into the shadow bank and its descriptor completed. -/
def Dev.heldWritten (p : Nat) (d : Dev) (h : FirBank × Desc) : Dev := (d.shadowLoaded p h.1).finish h.2 stOK

/-- Without a fade its end does nothing. -/
theorem Dev.fadeDone_none {d : Dev} {p : Nat} (h : (d.flt p).fade = none) : d.fadeDone p = d := by
  simp [Dev.fadeDone, h]

/-- The end of a fade counts it, notes it and writes the loads held; then the switches that wait fall due again. -/
theorem Dev.fadeDone_some {d : Dev} {p : Nat} {f : Fade} (hf : (d.flt p).fade = some f) :
    ∃ start, d.fadeDone p = Dev.dueGo p start (d.flt p).due.length
      ((d.flt p).held.foldl (Dev.heldWritten p) ((d.fadeEnded p f).raise (Ev.FLT_FADE_DONE p))) := by
  simp only [Dev.fadeDone, Dev.fadeOver, hf]
  exact ⟨_, rfl⟩

/-- With no switch waiting that is all. -/
theorem Dev.fadeDone_some_due_nil {d : Dev} {p : Nat} {f : Fade} (hf : (d.flt p).fade = some f) (hd : (d.flt p).due = []) :
    d.fadeDone p = (d.flt p).held.foldl (Dev.heldWritten p) ((d.fadeEnded p f).raise (Ev.FLT_FADE_DONE p)) := by
  obtain ⟨start, h⟩ := Dev.fadeDone_some hf
  rw [h, hd]
  rfl

@[simp] theorem Dev.fadeEnded_flt (d : Dev) (p : Nat) (f : Fade) : (d.fadeEnded p f).flt p =
    ({ d.flt p with fade := none, past := f :: (d.flt p).past, held := [] } : Flt).keep (d.histFrom p) :=
  d.flt_setFlt p _

theorem Dev.fadeEnded_flt_ne (d : Dev) {p q : Nat} (f : Fade) (h : q ≠ p) : (d.fadeEnded p f).flt q = d.flt q :=
  d.flt_setFlt_ne _ h

/-- A fade that has ended has been counted. -/
@[simp] theorem Dev.fadeEnded_count (d : Dev) (p : Nat) (f : Fade) :
    (d.fadeEnded p f).rd (Reg.FLTP_FADE_CNT p) = satInc (d.rd (Reg.FLTP_FADE_CNT p)) :=
  Dev.rd_wr_same _ _ _

theorem Dev.fadeEnded_rd_ne (d : Dev) {p o : Nat} (f : Fade) (h : o ≠ Reg.FLTP_FADE_CNT p) :
    (d.fadeEnded p f).rd o = d.rd o :=
  Dev.rd_wr_ne _ _ h.symm

/-- The end of a fade is noted while CORE is powered. -/
theorem Dev.fadeEnded_noted {d : Dev} (p : Fin 8) (f : Fade) (hc : d.on domCORE = true) :
    (d.fadeEnded p f).Noted (Ev.FLT_FADE_DONE p) ((d.fadeEnded p f).raise (Ev.FLT_FADE_DONE p)) :=
  Dev.raise_noted hc (by unfold Ev.FLT_FADE_DONE; omega)

/-! ## A switch that falls due (R240, R241) -/


/-- The banks of a chain have exchanged roles, the former shadow bank `new` being active now. -/
def Flt.Switched (x : Flt) (new : FirBank) (y : Flt) : Prop := y.act = some new ∧ y.shd = x.act

/-- A switch is refused for its D0: the chain has an active bank of another one, and its plate acquires. -/
def Dev.RefusesBank (p : Nat) (new : FirBank) (d : Dev) : Prop :=
  (d.plt p).acquiring = true ∧ ∃ old, (d.flt p).act = some old ∧ old.d0 ≠ new.d0

/-- The model's test for a bank that is refused. -/
theorem Dev.refusesBank_iff {d : Dev} {p : Nat} {new : FirBank} :
    ((d.flt p).act.any (fun b => decide (b.d0 ≠ new.d0)) && (d.plt p).acquiring) = true ↔ d.RefusesBank p new := by
  simp only [Dev.RefusesBank, Bool.and_eq_true, Option.any_eq_true, decide_eq_true_eq]
  exact and_comm

/-- An idle plate, a chain without an active bank and one of the same D0 refuse nothing. -/
theorem Dev.not_refusesBank {d : Dev} {p : Nat} {new : FirBank}
    (h : (d.plt p).acquiring = false ∨ (d.flt p).act = none ∨ ∃ old, (d.flt p).act = some old ∧ old.d0 = new.d0) :
    ¬ d.RefusesBank p new := by
  rintro ⟨hacq, old, hold, hne⟩
  rcases h with hidle | hempty | ⟨same, hsame, heq⟩
  · exact Bool.false_ne_true (hidle.symm.trans hacq)
  · exact Option.some_ne_none old (hold.symm.trans hempty)
  · rw [← Option.some_inj.mp (hold.symm.trans hsame)] at heq
    exact hne heq

/-- A refused bank stays in the shadow, and the refusal is noted. -/
theorem Dev.switchDue_refused {d : Dev} {p : Nat} {new : FirBank} (t : Time) (hn : (d.flt p).shd = some new)
    (hf : (d.flt p).fade = none) (h : d.RefusesBank p new) : d.switchDue p t = d.raise Ev.FLT_SWITCH_REJECT := by
  simp only [Dev.switchDue, hn, hf]
  rw [if_neg (by simp), if_pos (Dev.refusesBank_iff.mpr h)]

/-- A switch that is not refused exchanges the banks: at once where the chain had none, its FIR stage is off or the D0
differs, and by the start of a fade otherwise. -/
theorem Dev.switchDue_switched {d : Dev} {p : Nat} {new : FirBank} (t : Time) (hn : (d.flt p).shd = some new)
    (hf : (d.flt p).fade = none) (h : ¬ d.RefusesBank p new) : (d.flt p).Switched new ((d.switchDue p t).flt p) := by
  simp only [Dev.switchDue, hn, hf]
  rw [if_neg (by simp), if_neg (mt Dev.refusesBank_iff.mp h)]
  split
  case h_1 old hold =>
    split
    · exact ⟨by rw [Dev.flt_setFlt]; rfl, by rw [Dev.flt_setFlt]; rfl⟩
    · exact ⟨by rw [Dev.flt_setFlt], by rw [Dev.flt_setFlt]⟩
  case h_2 hnone => exact ⟨by rw [Dev.flt_setFlt]; rfl, by rw [Dev.flt_setFlt, hnone]; rfl⟩

/-! ## SYNC instants to come (R249) -/

/-- The device with one SYNC instant more to come. -/
theorem Dev.syncAdd_eq (t : Time) (d : Dev) : d.syncAdd t =
    { d with wave := { d.wave with sync := { d.wave.sync with due := insSorted t d.wave.sync.due } } } := rfl

/-- Only a master forwards a SYNC. -/
theorem Dev.syncForward_of_not_master {d : Dev} (ts : Time) (h : d.cascRole ≠ 2) : d.syncForward ts = d := by
  simp [Dev.syncForward, h]

/-- The role in the cascade does not depend on the instant. -/
@[simp] theorem Dev.at_cascRole (d : Dev) (t : Time) : (d.at t).cascRole = d.cascRole := by
  unfold Dev.at
  split <;> rfl

theorem exec_syncNEdge {s : State} (t : Time) (ha : s.alive = true) (hb : s.dev.sec.bscan = false)
    (hw : s.dev.on domWAVE = true) : exec (.syncNEdge t) s = .next { s with dev := s.dev.syncNEdge t } :=
  congrArg _ (State.atPin_pos ha hb hw _)

/-- Without its enable an edge does nothing. -/
theorem Dev.syncNEdge_disabled {d : Dev} (t : Time) (h : d.b Reg.FLT_SYNC_CTL 0 = false) : d.syncNEdge t = d := by
  simp [Dev.syncNEdge, h]

/-- A disabled edge changes nothing, whether its pin acts or not. -/
theorem exec_syncNEdge_disabled {s : State} (t : Time) (ha : s.alive = true) (hw : s.dev.on domWAVE = true)
    (h : s.dev.b Reg.FLT_SYNC_CTL 0 = false) : exec (.syncNEdge t) s = .next s := by
  cases hb : s.dev.sec.bscan with
  | true => exact congrArg _ (State.atPin_bscan hb _)
  | false => rw [exec_syncNEdge t ha hb hw, Dev.syncNEdge_disabled t h]

/-- The last accepted edge lies at most 1 us before instant `u`. -/
def Sync.Soon (u : Time) (y : Sync) : Prop := y.edge ≠ 0 ∧ u ≤ y.edge - 1 + us

theorem Sync.not_soon_iff {u : Time} {y : Sync} : ¬ y.Soon u ↔ y.edge = 0 ∨ y.edge - 1 + us < u := by
  rw [Sync.Soon, not_and_or, not_not, not_le]

/-- An enabled edge: too soon it is counted alone, and otherwise it sets the next instant. -/
theorem Dev.syncNEdge_enabled {d : Dev} (t : Time) (hw : d.on domWAVE = true) (h : d.b Reg.FLT_SYNC_CTL 0 = true)
    (hr : d.cascRole ≠ 2) :
    (d.wave.sync.Soon (t / 8 * 8) → d.syncNEdge t = (d.at (t / 8 * 8)).inc Reg.FLT_SYNC_IGN_CNT)
    ∧ (¬ d.wave.sync.Soon (t / 8 * 8) → d.syncNEdge t = { d.at (t / 8 * 8) with wave := { d.wave with sync :=
        { d.wave.sync with edge := t / 8 * 8 + 1,
                           due := insSorted (up1024 (t / 8 * 8 + 40960 + d.syncLead)) d.wave.sync.due } } }) := by
  have hiff : (decide (d.wave.sync.edge ≠ 0) && decide (t / 8 * 8 ≤ d.wave.sync.edge - 1 + us)) = true
      ↔ d.wave.sync.Soon (t / 8 * 8) := by simp [Sync.Soon]
  unfold Dev.syncNEdge
  rw [if_neg (by simp [hw, h])]
  refine ⟨fun hs => if_pos (hiff.mpr hs), fun hs => (if_neg (mt hiff.mp hs)).trans ?_⟩
  have hforward : ∀ ts w, Dev.syncForward ts { d.at (t / 8 * 8) with wave := w } = { d.at (t / 8 * 8) with wave := w } :=
    fun ts w => Dev.syncForward_of_not_master ts ((d.at_cascRole (t / 8 * 8)).trans_ne hr)
  refine (hforward _ _).trans ?_
  simp only [Dev.at_wave]

theorem exec_syncCmd {s : State} (ha : s.alive = true) (hw : s.dev.on domWAVE = true) :
    exec .syncCmd s = .next { s with dev := s.dev.syncCmd } :=
  congrArg _ (State.inDom_pos ha hw _)

/-- SYNC_CMD leaves its mark for the next tick. -/
theorem Dev.syncCmd_on {d : Dev} (hw : d.on domWAVE = true) :
    d.syncCmd = { d with wave := { d.wave with sync := { d.wave.sync with cmd := true } } } := if_pos hw

/-! ## A SYNC message of the cascade (R249) -/

/-- What a SYNC message does once it has been repeated. -/
def Dev.syncReceived (ts t : Time) (d : Dev) : Dev :=
  if !d.on domWAVE || !d.b Reg.FLT_SYNC_CTL 1 then d
  else if t ≤ ts then (d.at t).syncAdd (up1024 ts)
  else (((d.at t).inc Reg.FLT_SYNC_LATE_CNT).raise Ev.FLT_SYNC_LATE).syncAdd (t / 1024 * 1024 + 1024)

/-- The SYNC message for instant `ts`. -/
def syncMsg (ts : Time) : CascMsg := { typ := 4, pos := 0, plate := 0, arg := 0, dt := ts, payload := 0 }

theorem exec_cascSyncMessage {s : State} (ts t : Time) (ha : s.alive = true) (hc : s.dev.on domCORE = true) :
    exec (.cascSyncMessage ts t true) s
      = .next { s with dev := (s.dev.cascRepeat false (syncMsg ts) t).syncReceived ts t } :=
  congrArg _ (State.inDom_pos ha hc _)

/-- What is no member of a cascade repeats nothing. -/
theorem Dev.cascRepeat_of_not_member {d : Dev} (up : Bool) (m : CascMsg) (t : Time) (h : d.cascMember = false) :
    d.cascRepeat up m t = d := by
  simp [Dev.cascRepeat, h]

/-- The device with the SYNC message for instant `ts`, which came at `t`, repeated down the cascade 128 ns later. -/
def Dev.syncRepeated (ts t : Time) (d : Dev) : Dev :=
  { d with mdv := { d.mdv with rep := d.mdv.rep ++ [{ dt := t + 131072, up := false, msg := syncMsg ts }] } }

/-- A member that drives its transmitters repeats a SYNC message. -/
theorem Dev.cascRepeat_of_member {d : Dev} (ts t : Time) (h : d.cascMember = true) (hd : d.drives = true) :
    d.cascRepeat false (syncMsg ts) t = d.syncRepeated ts t := by
  simp [Dev.cascRepeat, Dev.syncRepeated, h, hd]

/-- Without its enable a SYNC message does nothing. -/
theorem Dev.syncReceived_disabled {d : Dev} (ts t : Time) (h : d.b Reg.FLT_SYNC_CTL 1 = false) : d.syncReceived ts t = d := by
  simp [Dev.syncReceived, h]

/-- A SYNC message in time is due at its instant. -/
theorem Dev.syncReceived_inTime {d : Dev} {ts t : Time} (hw : d.on domWAVE = true) (h : d.b Reg.FLT_SYNC_CTL 1 = true)
    (ht : t ≤ ts) : d.syncReceived ts t = { d.at t with wave := { d.wave with sync :=
      { d.wave.sync with due := insSorted (up1024 ts) d.wave.sync.due } } } := by
  rw [Dev.syncReceived, if_neg (by simp [hw, h]), if_pos ht, Dev.syncAdd_eq, Dev.at_wave]

/-- A late SYNC message is counted and noted, and is due at the next multiple of 1,024. -/
theorem Dev.syncReceived_late {d : Dev} {ts t : Time} (hw : d.on domWAVE = true) (hc : d.on domCORE = true)
    (h : d.b Reg.FLT_SYNC_CTL 1 = true) (ht : ts < t) :
    ∃ m, ((d.at t).inc Reg.FLT_SYNC_LATE_CNT).Noted Ev.FLT_SYNC_LATE m
      ∧ d.syncReceived ts t = { m with wave := { d.wave with sync :=
          { d.wave.sync with due := insSorted (t / 1024 * 1024 + 1024) d.wave.sync.due } } } := by
  have hnoted := Dev.raise_noted (d := (d.at t).inc Reg.FLT_SYNC_LATE_CNT) (n := Ev.FLT_SYNC_LATE)
    ((d.at_on t domCORE).trans hc) (by decide)
  refine ⟨_, hnoted, ?_⟩
  have hwave : (((d.at t).inc Reg.FLT_SYNC_LATE_CNT).raise Ev.FLT_SYNC_LATE).wave = d.wave :=
    hnoted.1.wave.trans (d.at_wave t)
  rw [Dev.syncReceived, if_neg (by simp [hw, h]), if_neg (Nat.not_le.mpr ht), Dev.syncAdd_eq, hwave]

/-- Whatever a SYNC message does, it leaves pairs and cascades alone. -/
theorem Dev.syncReceived_mdv {d : Dev} (ts t : Time) (hc : d.on domCORE = true) : (d.syncReceived ts t).mdv = d.mdv := by
  have hlate : (((d.at t).inc Reg.FLT_SYNC_LATE_CNT).raise Ev.FLT_SYNC_LATE).mdv = d.mdv :=
    (Dev.raise_noted (d := (d.at t).inc Reg.FLT_SYNC_LATE_CNT) ((d.at_on t domCORE).trans hc) (by decide)).1.mdv.trans
      (d.at_mdv t)
  unfold Dev.syncReceived
  split
  · rfl
  · split
    · exact d.at_mdv t
    · exact hlate

/-! ## The restart of the phase counters (R250) -/

/-- The history that a plate needs depends on the plates and the instant alone. -/
theorem Dev.histFrom_congr {d e : Dev} (hp : e.wave.plt = d.wave.plt) (ht : e.tim = d.tim) (p : Nat) :
    e.histFrom p = d.histFrom p := by
  unfold Dev.histFrom Dev.plt Dev.now
  rw [hp, ht]

/-- A chain whose phase counters have restarted by a SYNC, with the history from `since` on kept. -/
def Flt.Restarted (ts since : Time) (x y : Flt) : Prop :=
  y.bases = keepSince since (fun b => b.1) ((ts, true) :: x.bases)
    ∧ y.act = x.act ∧ y.shd = x.shd ∧ y.fade = x.fade ∧ y.sw = x.sw

/-- A restart changes the chain of its plate alone. -/
theorem Dev.addBase_only (p : Nat) (b : Time × Bool) (d : Dev) : d.OnlyChain p (d.addBase p b) := d.setFlt_only p _

/-- A SYNC put at the front of the restarts, and what is no longer needed forgotten. -/
theorem Flt.restarted_keep (ts since : Time) (x : Flt) :
    x.Restarted ts since (({ x with bases := (ts, true) :: x.bases } : Flt).keep since) := ⟨rfl, rfl, rfl, rfl, rfl⟩

/-- The latched delays and times are no part of a restart. -/
theorem Flt.Restarted.latch {ts since : Time} {x y : Flt} (h : x.Restarted ts since y) (c : Chain) (f : Fade) :
    x.Restarted ts since (y.latch c f) := h

/-- A restart by a SYNC, with or without a fade that runs. -/
theorem Dev.addBase_restarted (p : Nat) (ts : Time) (d : Dev) :
    (d.flt p).Restarted ts (d.histFrom p) ((d.addBase p (ts, true)).flt p) := by
  have hkeep := (d.flt p).restarted_keep ts (d.histFrom p)
  unfold Dev.addBase
  rw [Dev.flt_setFlt]
  split
  · exact hkeep.latch _ _
  · exact hkeep

/-- The chains of the plates below `n` have restarted, and nothing else has happened. -/
def Dev.RestartedBelow (ts : Time) (n : Nat) (d e : Dev) : Prop :=
  e = { d with wave := { d.wave with flt := e.wave.flt } }
    ∧ (∀ p < n, (d.flt p).Restarted ts (d.histFrom p) (e.flt p)) ∧ ∀ p ≥ n, e.flt p = d.flt p

/-- One turn of the loop restarts one chain more. -/
theorem Dev.RestartedBelow.addBase {ts : Time} {n : Nat} {d e : Dev} (h : d.RestartedBelow ts n e) :
    d.RestartedBelow ts (n + 1) (e.addBase n (ts, true)) := by
  obtain ⟨hframe, hbelow, habove⟩ := h
  obtain ⟨hone, hother⟩ := e.addBase_only n (ts, true)
  refine ⟨hone.trans (by rw [hframe]), fun p hp => ?_, fun p hp => (hother p (by omega)).trans (habove p (by omega))⟩
  rcases Nat.lt_succ_iff_lt_or_eq.mp hp with hp | rfl
  · exact hother p (by omega) ▸ hbelow p hp
  · have hhist : e.histFrom p = d.histFrom p :=
      Dev.histFrom_congr (congrArg (fun x : Dev => x.wave.plt) hframe) (congrArg Dev.tim hframe) p
    exact hhist ▸ habove p le_rfl ▸ e.addBase_restarted p ts

/-- The loop over the plates restarts the chains of all of them. -/
theorem Dev.forN_addBase (ts : Time) (n : Nat) (d : Dev) :
    d.RestartedBelow ts n (forN n (fun p d => d.addBase p (ts, true)) d) := by
  induction n with
  | zero => exact ⟨rfl, fun _ h => absurd h (Nat.not_lt_zero _), fun _ _ => rfl⟩
  | succ n ih =>
    rw [forN, List.range_succ, List.foldl_concat]
    exact ih.addBase

/-- A loop does nothing where none of its turns does anything. -/
theorem forN_id {α : Type} {n : Nat} {f : Nat → α → α} {a : α} (h : ∀ i < n, f i a = a) : forN n f a = a :=
  List.foldlRecOn (motive := fun b => b = a) (List.range n) _ rfl (fun b hb i hi => by
    rw [hb]
    exact h i (List.mem_range.mp hi))

/-! ## A SYNC instant (R250) -/

theorem exec_syncInstant {s : State} (ha : s.alive = true) (hw : s.dev.on domWAVE = true) :
    exec .syncInstant s = .next { s with dev := s.dev.syncInstant } :=
  congrArg _ (State.inDom_pos ha hw _)

/-- The device at SYNC instant `ts`, which is no longer to come. -/
def Dev.syncTaken (ts : Time) (rest : List Time) (d : Dev) : Dev :=
  { d.at ts with wave := { (d.at ts).wave with sync := { (d.at ts).wave.sync with due := rest } } }

/-- The device once all chains have restarted, before the stamp of the instant. -/
def Dev.syncRestarted (ts : Time) (rest : List Time) (d : Dev) : Dev :=
  forN 8 (fun p d => d.addBase p (ts, true)) (d.syncTaken ts rest)

/-- The device with the instant stamped and counted, before its event. -/
def Dev.syncStamped (ts : Time) (rest : List Time) (d : Dev) : Dev :=
  ((d.syncRestarted ts rest).wr64 Reg.FLT_SYNC_DT_LO ts).inc Reg.FLT_SYNC_CNT

/-- Without a SYNC instant to come nothing happens. -/
theorem Dev.syncInstant_none {d : Dev} (h : d.wave.sync.due = []) : d.syncInstant = d := by
  simp [Dev.syncInstant, h]

/-- The switch of a chain that waits for a SYNC falls due. -/
def Dev.switchAtSync (ts : Time) (p : Nat) (d : Dev) : Dev :=
  match (d.flt p).sw with
  | .atSync => (d.setFlt p { d.flt p with sw := .none }).switchDue p ts
  | _ => d

/-- A chain that waits for no SYNC does not switch. -/
theorem Dev.switchAtSync_of_ne {d : Dev} {p : Nat} (ts : Time) (h : (d.flt p).sw ≠ .atSync) : d.switchAtSync ts p = d := by
  unfold Dev.switchAtSync
  split
  · contradiction
  · rfl

/-- The earliest SYNC instant to come restarts all chains, is stamped, noted where an output moved, and lets the switches
that wait for it fall due. -/
theorem Dev.syncInstant_some {d : Dev} {ts : Time} {rest : List Time} (h : d.wave.sync.due = ts :: rest) :
    ∃ moved, d.syncInstant = forN 8 (fun p d => d.switchAtSync ts p) ((d.syncStamped ts rest).raiseIf moved Ev.FLT_SYNC) := by
  simp only [Dev.syncInstant, h]
  exact ⟨_, rfl⟩

/-- Taking an instant leaves the chains as they are. -/
@[simp] theorem Dev.syncTaken_flt (d : Dev) (ts : Time) (rest : List Time) (p : Nat) :
    (d.syncTaken ts rest).flt p = d.flt p := by
  show tabGet {} (d.at ts).wave.flt p = d.flt p
  rw [Dev.at_wave]
  rfl

/-- The restart of all chains changes, besides them, device time and the instants to come. -/
theorem Dev.syncRestarted_eq (d : Dev) (ts : Time) (rest : List Time) : d.syncRestarted ts rest =
    { d.at ts with wave := { d.wave with flt := (d.syncRestarted ts rest).wave.flt,
                                         sync := { d.wave.sync with due := rest } } } := by
  have hframe : d.syncRestarted ts rest = { d.syncTaken ts rest with
      wave := { (d.syncTaken ts rest).wave with flt := (d.syncRestarted ts rest).wave.flt } } :=
    ((d.syncTaken ts rest).forN_addBase ts 8).1
  refine hframe.trans ?_
  simp only [Dev.syncTaken, Dev.at_wave]

/-- Each chain has restarted at the instant. -/
theorem Dev.syncStamped_restarted (d : Dev) (ts : Time) (rest : List Time) (p : Fin 8) :
    (d.flt p).Restarted ts ((d.at ts).histFrom p) ((d.syncStamped ts rest).flt p) := by
  obtain ⟨-, hbelow, -⟩ := (d.syncTaken ts rest).forN_addBase ts 8
  have hhist : (d.syncTaken ts rest).histFrom p = (d.at ts).histFrom p := Dev.histFrom_congr rfl rfl p
  have h := hbelow p p.isLt
  rwa [Dev.syncTaken_flt, hhist] at h

/-- Of the waveform state, the chains and the instants to come alone have changed. -/
theorem Dev.syncStamped_wave (d : Dev) (ts : Time) (rest : List Time) : (d.syncStamped ts rest).wave =
    { d.wave with flt := (d.syncStamped ts rest).wave.flt, sync := { d.wave.sync with due := rest } } := by
  have hwave : (d.syncStamped ts rest).wave = (d.syncRestarted ts rest).wave := by
    simp only [Dev.syncStamped, Dev.inc, Dev.wr64, Dev.wr_wave]
  have hframe := d.syncRestarted_eq ts rest
  rw [hwave]
  generalize d.syncRestarted ts rest = e at hframe
  exact congrArg Dev.wave hframe

theorem Dev.syncStamped_on (d : Dev) (ts : Time) (rest : List Time) (k : Nat) : (d.syncStamped ts rest).on k = d.on k :=
  (show (d.syncRestarted ts rest).on k = (d.at ts).on k by rw [d.syncRestarted_eq]; rfl).trans (d.at_on ts k)

/-- The restart of the chains leaves the registers alone. -/
theorem Dev.syncRestarted_rd (d : Dev) (ts : Time) (rest : List Time) (o : Nat) : (d.syncRestarted ts rest).rd o = d.rd o :=
  (congrArg (fun x : Dev => x.rd o) (d.syncRestarted_eq ts rest)).trans (d.at_rd ts o)

/-- The registers of a SYNC: its instant in SYNC_DT, one more in SYNC_CNT, and every other one as it was. -/
theorem Dev.syncStamped_rd (d : Dev) (ts : Time) (rest : List Time) (o : Nat) : (d.syncStamped ts rest).rd o =
    if o = Reg.FLT_SYNC_DT_LO then loW ts else if o = Reg.FLT_SYNC_DT_HI then hiW ts
    else if o = Reg.FLT_SYNC_CNT then satInc (d.rd Reg.FLT_SYNC_CNT) else d.rd o := by
  simp only [Dev.syncStamped, Dev.inc, Dev.wr64, Dev.rd_wr, Dev.syncRestarted_rd, Reg.FLT_SYNC_CNT, Reg.FLT_SYNC_DT_LO,
    Reg.FLT_SYNC_DT_HI]
  grind

/-- Where no chain waits for the instant, it stamps the device and is noted at most. -/
theorem Dev.syncInstant_of_no_switch {d : Dev} {ts : Time} {rest : List Time} (hc : d.on domCORE = true)
    (h : d.wave.sync.due = ts :: rest) (hsw : ∀ p : Fin 8, (d.flt p).sw ≠ .atSync) :
    d.syncInstant = d.syncStamped ts rest ∨ (d.syncStamped ts rest).Noted Ev.FLT_SYNC d.syncInstant := by
  obtain ⟨moved, heq⟩ := Dev.syncInstant_some h
  have hcases := Dev.raiseIf_cases (n := Ev.FLT_SYNC) moved ((d.syncStamped_on ts rest domCORE).trans hc) (by decide)
  have hflt : ∀ p, ((d.syncStamped ts rest).raiseIf moved Ev.FLT_SYNC).flt p = (d.syncStamped ts rest).flt p := fun p => by
    rcases hcases with h | h
    · rw [h]
    · exact h.1.flt p
  have hstill : ∀ p < 8, ((d.syncStamped ts rest).raiseIf moved Ev.FLT_SYNC).switchAtSync ts p
      = (d.syncStamped ts rest).raiseIf moved Ev.FLT_SYNC := fun p hp => by
    obtain ⟨-, -, -, -, hkept⟩ := d.syncStamped_restarted ts rest ⟨p, hp⟩
    exact Dev.switchAtSync_of_ne ts (((congrArg Flt.sw (hflt p)).trans hkept).trans_ne (hsw ⟨p, hp⟩))
  rw [heq, forN_id hstill]
  exact hcases

/-! ## The obligation -/

/-- Settles O25: SW_GO by `Dev.swGo_empty` and `Dev.swGo_loaded`, the end of a fade by `Dev.fadeDone_some_due_nil`, the exchange
of banks by `Dev.switchDue_switched` and `Dev.switchDue_refused`; the sources of SYNC by `Dev.syncNEdge_enabled`,
`Dev.syncCmd_on` and the cases of `Dev.syncReceived`, and the instant by `Dev.syncInstant_of_no_switch`. -/
theorem chainSwitchesFadesAndSync : Obligations.ChainSwitchesFadesAndSync := by
  unfold Obligations.ChainSwitchesFadesAndSync
  refine ⟨fun s p ha hw hc => ?chain, fun s ha hw hc => ?sync⟩
  case chain =>
    rw [exec_swGo p ha hw, exec_fltFadeDone p ha hw]
    refine ⟨fun h => ?empty, fun h => ?loaded, fun f hf hd => ?fade, fun hf => ?noFade,
      fun t new hn hf => ⟨fun h => ?switched, fun old hacq hold hne => ?refused⟩⟩
    case empty => exact ⟨_, rfl, Dev.swGo_empty hw h ▸ Dev.raise_noted hc (by decide)⟩
    case loaded =>
      rw [Dev.swGo_loaded hw h]
      exact ⟨_, rfl, s.dev.setFlt_only p _, s.dev.flt_setFlt p _⟩
    case fade =>
      have hnoted := Dev.fadeEnded_noted p f hc
      refine ⟨_, _, hnoted, s.dev.fadeEnded_flt p f, fun q hq => s.dev.fadeEnded_flt_ne f hq, s.dev.fadeEnded_count p f,
        fun o ho => s.dev.fadeEnded_rd_ne f ho, rfl, fun hh => ?_, fun b desc hh => ?_⟩
      · rw [Dev.fadeDone_some_due_nil hf hd, hh]
        rfl
      · refine ⟨_, Dev.shadowLoaded_only _ p b, ?_, ?_⟩
        · rw [Dev.shadowLoaded_flt, hnoted.1.flt]
        · rw [Dev.fadeDone_some_due_nil hf hd, hh]
          rfl
    case noFade => rw [Dev.fadeDone_none hf]
    case switched => exact Dev.switchDue_switched t hn hf (Dev.not_refusesBank h)
    case refused =>
      rw [Dev.switchDue_refused t hn hf ⟨hacq, old, hold, hne⟩]
      exact Dev.raise_noted hc (by decide)
  case sync =>
    rw [exec_syncCmd ha hw, exec_syncInstant ha hw]
    refine ⟨fun t hb h hr => ?edge, fun t h => exec_syncNEdge_disabled t ha hw h, ⟨_, rfl, Dev.syncCmd_on hw⟩,
      fun ts t h hm => ?message, fun ts t hm hd => ?member, fun ts t h hm => ?ignored, fun h => ?none,
      fun ts l h hsw => ?instant⟩
    case edge =>
      obtain ⟨hsoon, hlater⟩ := Dev.syncNEdge_enabled t hw h hr
      rw [exec_syncNEdge t ha hb hw]
      refine ⟨fun hfirst hnear => ?_, fun hfar => ⟨_, rfl, hlater (Sync.not_soon_iff.mpr hfar)⟩⟩
      rw [hsoon ⟨hfirst, hnear⟩]
    case message =>
      rw [exec_cascSyncMessage ts t ha hc, Dev.cascRepeat_of_not_member _ _ _ hm]
      refine ⟨fun ht => ⟨_, rfl, Dev.syncReceived_inTime hw h ht⟩, fun ht => ?_⟩
      obtain ⟨m, hnoted, heq⟩ := Dev.syncReceived_late hw hc h ht
      exact ⟨m, _, rfl, hnoted, heq⟩
    case member =>
      rw [exec_cascSyncMessage ts t ha hc, Dev.cascRepeat_of_member ts t hm hd]
      have hmdv := Dev.syncReceived_mdv (d := s.dev.syncRepeated ts t) ts t hc
      exact ⟨_, rfl, congrArg Mdv.rep hmdv, fun h ht =>
        congrArg Dev.wave (Dev.syncReceived_inTime (d := s.dev.syncRepeated ts t) hw h ht)⟩
    case ignored =>
      rw [exec_cascSyncMessage ts t ha hc, Dev.cascRepeat_of_not_member _ _ _ hm, Dev.syncReceived_disabled ts t h]
    case none => rw [Dev.syncInstant_none h]
    case instant =>
      refine ⟨s.dev.syncStamped ts l, _, rfl, Dev.syncInstant_of_no_switch hc h hsw, ?_, ?_, ?_, fun o h1 h2 h3 => ?_,
        by rw [s.dev.syncStamped_wave], by rw [s.dev.syncStamped_wave], fun p => ?_⟩
      · exact s.dev.syncStamped_rd ts l _
      · exact s.dev.syncStamped_rd ts l _
      · exact s.dev.syncStamped_rd ts l _
      · rw [s.dev.syncStamped_rd, if_neg h1, if_neg h2, if_neg h3]
      · obtain ⟨hbases, hact, hshd, hfade, -⟩ := s.dev.syncStamped_restarted ts l p
        exact ⟨hbases, hact, hshd, hfade⟩

end Sys2Proof.Machine
end

section
/-! The password session and the security state (17 R499): the security commands leave the island alone, the password commands
leave the security block and the fuses alone, and neither opens what the other guards. -/
namespace Sys2Proof.Machine

/-! ## What the security commands leave of the island (R485-R487) -/

/-- A command that leaves the island alone does so with supplies and without. -/
theorem State.live_isl {f : State → State} {s : State} (h : (f s).isl = s.isl) : (s.live f).isl = s.isl := by
  unfold State.live
  split
  · exact h
  · rfl

/-- The end of a token's verification leaves the island alone, whether the token opens SERVICE, opens FACTORY or is refused. -/
theorem State.tokenDone_isl (s : State) : s.tokenDone.isl = s.isl := by
  unfold State.tokenDone
  split
  case h_1 => rfl
  case h_2 t chal _ =>
    dsimp only
    by_cases hwhy : s.tokenReason t chal = 0
    · rw [if_pos hwhy]
      split <;> rfl
    · rw [if_neg hwhy]
      rfl

/-! ## What the password commands leave of the security block (12 R358) -/

/-- The security block and the fuses are the same. -/
def State.SameSecurity (s t : State) : Prop := t.dev.sec = s.dev.sec ∧ t.fuses = s.fuses

/-- A command that leaves the security block alone does so with supplies and without. -/
theorem State.SameSecurity.live {f : State → State} {s : State} (h : s.SameSecurity (f s)) : s.SameSecurity (s.live f) := by
  unfold State.live
  split
  · exact h
  · exact ⟨rfl, rfl⟩

@[simp] theorem Dev.at_sec (d : Dev) (t : Time) : (d.at t).sec = d.sec := by
  rw [Dev.at_eq]

@[simp] theorem Dev.raise_sec (d : Dev) (n : Nat) : (d.raise n).sec = d.sec := by
  unfold Dev.raise
  dsimp only
  split
  · rfl
  · split <;> rfl

@[simp] theorem Dev.raiseIf_sec (d : Dev) (c : Bool) (n : Nat) : (d.raiseIf c n).sec = d.sec := by
  cases c with
  | false => rfl
  | true => exact d.raise_sec n

theorem State.pwPresent_security (len : Nat) (s : State) : s.SameSecurity (s.pwPresent len) := by
  unfold State.pwPresent
  split <;> exact ⟨rfl, rfl⟩

/-- The end of a derivation opens a session or notes a failure; the security block is the same in both cases. -/
theorem State.pwDone_security (s : State) : s.SameSecurity s.pwDone := by
  unfold State.pwDone
  split
  case h_1 => exact ⟨rfl, rfl⟩
  case h_2 =>
    dsimp only
    split
    · exact ⟨rfl, rfl⟩
    · exact ⟨Dev.raise_sec _ _, rfl⟩

theorem State.pwTimeout_security (s : State) : s.SameSecurity s.pwTimeout := by
  unfold State.pwTimeout
  split
  · exact ⟨Dev.at_sec _ _, rfl⟩
  · exact ⟨rfl, rfl⟩

theorem State.pwRefusalEnd_security (s : State) : s.SameSecurity s.pwRefusalEnd := by
  unfold State.pwRefusalEnd
  split
  · exact ⟨Dev.at_sec _ _, rfl⟩
  · exact ⟨rfl, rfl⟩

/-! ## A refused RWP write (12 R358) -/

/-- Accepting a packet neither begins nor ends a hot reset. -/
theorem Dev.rxAccept_hotPending (k : RxClass) (d : Dev) : (d.rxAccept k).lnk.hotPending = d.lnk.hotPending := by
  have htake : (d.lnk.take k).hotPending = d.lnk.hotPending := by rw [Lnk.take_eq]
  unfold Dev.rxAccept
  dsimp only
  split <;> exact htake

/-- A block that answers carries a host command out on the device that has accepted its packet. -/
theorem State.hosted_of_answers {s : State} (h : s.answers) (f : State → State) :
    s.hosted f = f { s with dev := s.dev.rxAccept (.posted 1) } := by
  obtain ⟨-, hup, hans, hhot⟩ := h
  have hacc : (s.dev.rxAccept (.posted 1)).answered = true := by
    obtain ⟨l, hl⟩ := Dev.rxAccept_eq (.posted 1) s.dev
    rw [hl]
    exact hans
  have hanswering : (s.dev.rxAccept (.posted 1)).answering = s.dev.rxAccept (.posted 1) := by
    rw [Dev.answering, if_pos hacc]
  unfold State.hosted
  rw [if_pos hup]
  simp only [State.onDev, hanswering, hacc, Dev.rxAccept_hotPending, hhot]
  rfl

/-- The register write of a block that answers. -/
theorem exec_registerWrite_of_answers {s : State} (off : Nat) (val : Word) (h : s.answers) : exec (.registerWrite off val) s
    = .next (State.revoted (State.pathWrite false off val) { s with dev := s.dev.rxAccept (.posted 1) }) :=
  congrArg _ ((State.live_pos h.1 _).trans (State.hosted_of_answers h _))

/-- Outside the debug window a write to an RWP register that is no limit, without a session, is refused with its event. -/
theorem State.pathWrite_rwp_denied {s : State} {off : Nat} {r : Row} {ix : List Nat} (mgmt : Bool) (val : Word)
    (hoff : off ≠ Reg.SEC_DBG_DATA) (hrow : rowOf off = some (r, ix)) (hacc : r.acc = .rwp) (hlim : isBrnLimit off = false)
    (hok : s.isl.rwpOk = false) : s.pathWrite mgmt off val = { s with dev := s.dev.raise Ev.SAF_RWP_DENIED } := by
  simp only [State.pathWrite, if_neg hoff, State.regWrite, hrow, hacc, State.rwpWrite, hlim, hok, Bool.false_eq_true, if_false]
  rfl

/-- An event leaves the target set alone while CORE is powered. -/
theorem Dev.Noted.target {n : Nat} {d e : Dev} (h : d.Noted n e) (hn : evtRawOff n ≠ Reg.MDV_CASC_CTL) : e.target = d.target := by
  obtain ⟨honly, -, hrd, -⟩ := h
  unfold Dev.OnlyNotes at honly
  refine Dev.target_congr ?_ ?_ ?_ ?_ ?_ (hrd _ hn.symm)
  all_goals rw [honly]

/-! ## A debug request (17 R493, R498) -/

/-- While CORE is powered a refused operation is counted and noted. -/
theorem Dev.denied_denied {d : Dev} (hc : d.on domCORE = true) : d.Denied d.denied :=
  Dev.raise_noted (d := d.inc Reg.SEC_DENY_CNT) hc (by decide)

/-- Without an open debug session a request for INVASIVE outside SERVICE and FACTORY is refused. -/
theorem State.dbgCtl_invasive_denied {s : State} (port : Bool) (hlevel : s.dev.sec.level = 0) (hopen : s.opened = false) :
    s.dbgCtl port 2 = { s with dev := s.dev.denied } := by
  simp [State.dbgCtl, hlevel, hopen, State.onDev]

theorem exec_dbgCtlWrite {s : State} (val : Word) (ha : s.alive = true) :
    exec (.dbgCtlWrite val) s = .next (s.dbgCtl false (fld val 1 0)) :=
  congrArg _ (State.live_pos ha _)

/-! ## The obligation -/

/-- Settles O56: the security commands leave the island alone (`State.live_isl`), the password commands the security block and
the fuses (`State.SameSecurity`); an RWP write is refused by `State.pathWrite_rwp_denied` and the debug level by
`State.dbgCtl_invasive_denied`. -/
theorem passwordAndSecurityStateAreIndependent : Obligations.PasswordAndSecurityStateAreIndependent := by
  unfold Obligations.PasswordAndSecurityStateAreIndependent
  refine fun s ha hc => ⟨fun c hcmd => ?security, fun c hcmd => ?password,
    fun off val r ix hans hoff hrow hacc hlim _ hclosed => ?rwp, fun val _ hlevel hval hopen => ?debug⟩
  case security =>
    rcases hcmd with rfl | rfl | rfl | rfl | rfl
    · exact ⟨_, rfl, State.live_isl rfl⟩
    · exact ⟨_, rfl, State.live_isl rfl⟩
    · exact ⟨_, rfl, State.live_isl s.tokenDone_isl⟩
    · exact ⟨_, rfl, State.live_isl rfl⟩
    · exact ⟨_, rfl, State.live_isl rfl⟩
  case password =>
    rcases hcmd with ⟨len, rfl⟩ | rfl | rfl | rfl | rfl
    · exact ⟨_, rfl, (s.pwPresent_security len).live⟩
    · exact ⟨_, rfl, State.SameSecurity.live (f := State.pwClose) ⟨rfl, rfl⟩⟩
    · exact ⟨_, rfl, s.pwDone_security.live⟩
    · exact ⟨_, rfl, s.pwTimeout_security.live⟩
    · exact ⟨_, rfl, s.pwRefusalEnd_security.live⟩
  case rwp =>
    have hok : s.isl.rwpOk = false := by rw [Island.rwpOk, hclosed]; rfl
    have hcore : (s.dev.rxAccept (.posted 1)).on domCORE = true := by
      obtain ⟨l, hl⟩ := Dev.rxAccept_eq (.posted 1) s.dev
      rw [hl]
      exact hc
    have hnoted := Dev.raise_noted (n := Ev.SAF_RWP_DENIED) hcore (by decide)
    have hwrite := State.pathWrite_rwp_denied (s := { s with dev := s.dev.rxAccept (.posted 1) }) false val hoff hrow hacc hlim hok
    refine ⟨_, ?_, hnoted⟩
    rw [exec_registerWrite_of_answers off val hans, State.revoted_id, hwrite]
    rw [hwrite]
    exact hnoted.target (by decide)
  case debug =>
    rw [exec_dbgCtlWrite val ha, hval, State.dbgCtl_invasive_denied false hlevel hopen]
    exact ⟨_, rfl, Dev.denied_denied hc⟩

end Sys2Proof.Machine
end

section
/-! What a completion leaves alone (15 R444): its entry goes to the host under the budgets of the link, and nothing else of the
device changes. -/
namespace Sys2Proof.Machine

/-! ## The relation -/

/-- Of the device, nothing but what carries a completion to the host differs: registers, meters, events, the link, the
descriptor engine and the events that wait for CORE. -/
def Dev.OnlyCompletes (d e : Dev) : Prop :=
  e = { d with regs := e.regs, bite := e.bite, evt := e.evt, lnk := e.lnk, dsc := e.dsc,
               pwr := { d.pwr with lateEv := e.pwr.lateEv } }

theorem Dev.OnlyCompletes.refl (d : Dev) : d.OnlyCompletes d := rfl

theorem Dev.OnlyCompletes.trans {d e g : Dev} (h : d.OnlyCompletes e) (k : e.OnlyCompletes g) : d.OnlyCompletes g := by
  unfold Dev.OnlyCompletes at h k ⊢
  rw [k, h]

theorem Dev.OnlyCompletes.sec {d e : Dev} (h : d.OnlyCompletes e) : e.sec = d.sec := by
  unfold Dev.OnlyCompletes at h
  rw [h]

/-- Plates, housekeeping, the axes and the domains go on as they were. -/
def Dev.SameUnits (d e : Dev) : Prop :=
  e.wave = d.wave ∧ e.hkp = d.hkp ∧ e.pwr.domains = d.pwr.domains ∧ e.hch = d.hch

theorem Dev.SameUnits.trans {d e g : Dev} (h : d.SameUnits e) (k : e.SameUnits g) : d.SameUnits g := by
  obtain ⟨hwave, hhkp, hdom, hhch⟩ := h
  obtain ⟨kwave, khkp, kdom, khch⟩ := k
  exact ⟨kwave.trans hwave, khkp.trans hhkp, kdom.trans hdom, khch.trans hhch⟩

theorem Dev.OnlyCompletes.sameUnits {d e : Dev} (h : d.OnlyCompletes e) : d.SameUnits e := by
  unfold Dev.OnlyCompletes at h
  rw [h]
  exact ⟨rfl, rfl, rfl, rfl⟩

/-! ## The steps of a completion -/

theorem Dev.onlyCompletes_wr (d : Dev) (o : Nat) (v : Word) : d.OnlyCompletes (d.wr o v) := rfl
theorem Dev.onlyCompletes_bite (d : Dev) (x : Bite) : d.OnlyCompletes { d with bite := x } := rfl
theorem Dev.onlyCompletes_evt (d : Dev) (x : Evt) : d.OnlyCompletes { d with evt := x } := rfl
theorem Dev.onlyCompletes_lnk (d : Dev) (x : Lnk) : d.OnlyCompletes { d with lnk := x } := rfl
theorem Dev.onlyCompletes_dsc (d : Dev) (x : Dsc) : d.OnlyCompletes { d with dsc := x } := rfl

theorem Dev.onlyCompletes_raise (d : Dev) (n : Nat) : d.OnlyCompletes (d.raise n) := by
  unfold Dev.raise
  dsimp only
  split
  · rfl
  · split <;> rfl

theorem Dev.onlyCompletes_raiseIf (d : Dev) (c : Bool) (n : Nat) : d.OnlyCompletes (d.raiseIf c n) := by
  cases c with
  | false => rfl
  | true => exact d.onlyCompletes_raise n

theorem Dev.onlyCompletes_pause (d : Dev) (a : Nat) : d.OnlyCompletes (d.pause a) := by
  unfold Dev.pause
  split
  · rfl
  · exact ((d.onlyCompletes_bite _).trans (Dev.onlyCompletes_wr _ _ _)).trans (Dev.onlyCompletes_raiseIf _ _ _)

theorem foldl_onlyCompletes {β : Type} {f : Dev → β → Dev} (h : ∀ (d : Dev) x, d.OnlyCompletes (f d x)) (l : List β)
    (d : Dev) : d.OnlyCompletes (l.foldl f d) := by
  induction l generalizing d with
  | nil => rfl
  | cons x l ih => exact (h d x).trans (ih _)

theorem Dev.onlyCompletes_pauseOver (d : Dev) : d.OnlyCompletes d.pauseOver := by
  unfold Dev.pauseOver
  refine foldl_onlyCompletes (fun (d : Dev) (a : Nat) => ?_) _ d
  split
  · split
    · rfl
    · exact d.onlyCompletes_pause a
  · rfl

theorem Dev.onlyCompletes_transmit (d : Dev) (p : Packet) (tag : Nat) : d.OnlyCompletes (d.transmit p tag) := by
  unfold Dev.transmit
  dsimp only
  split <;> rfl

/-- Packets that start change the link and what meters it. -/
theorem Dev.onlyCompletes_pumpGo (n : Nat) (d : Dev) : d.OnlyCompletes (Dev.pumpGo n d) := by
  induction n generalizing d with
  | zero => exact .refl d
  | succ n ih =>
    refine d.onlyCompletes_pauseOver.trans ?_
    unfold Dev.pumpGo
    dsimp only
    split
    · exact .refl _
    · rename_i c p tag _
      have hleft : d.pauseOver.OnlyCompletes (d.pauseOver.unqueue c.1) := d.pauseOver.onlyCompletes_lnk _
      refine (hleft.trans (Dev.onlyCompletes_transmit _ p tag)).trans (.trans ?_ (ih _))
      split
      · exact Dev.onlyCompletes_lnk _ _
      · exact .refl _

theorem Dev.onlyCompletes_memWrite (d : Dev) (act : Option Nat) (addr : Nat) (bs : List Byte) :
    d.OnlyCompletes (d.memWrite act addr bs) := by
  unfold Dev.memWrite Dev.pump
  dsimp only
  split
  · exact (d.onlyCompletes_lnk _).trans (Dev.onlyCompletes_pumpGo _ _)
  · exact d.onlyCompletes_lnk _

theorem Dev.onlyCompletes_advance (d : Dev) (kind ring tailReg size : Nat) :
    d.OnlyCompletes (d.advance kind ring tailReg size) := by
  unfold Dev.advance
  dsimp only
  split <;> rfl

theorem Dev.onlyCompletes_putEntry (d : Dev) (e : Entry) : d.OnlyCompletes (d.putEntry e) := by
  unfold Dev.putEntry
  dsimp only
  split
  · exact ((d.onlyCompletes_memWrite _ _ _).trans (Dev.onlyCompletes_advance _ _ _ _ _)).trans (Dev.onlyCompletes_evt _ _)
  · exact (d.onlyCompletes_memWrite _ _ _).trans (Dev.onlyCompletes_advance _ _ _ _ _)

/-- An entry is written, or held back with the event that marks the start of a stall. -/
theorem Dev.onlyCompletes_pushEntry (d : Dev) (e : Entry) : d.OnlyCompletes (d.pushEntry e) := by
  unfold Dev.pushEntry
  dsimp only
  split
  · exact d.onlyCompletes_putEntry e
  · split
    · exact d.onlyCompletes_dsc _
    · exact ((d.onlyCompletes_dsc _).trans (Dev.onlyCompletes_dsc _ _)).trans (Dev.onlyCompletes_raise _ _)

/-- A completion leaves alone everything that does not carry it. -/
theorem Dev.onlyCompletes_finish (d : Dev) (x : Desc) (status : Nat) : d.OnlyCompletes (d.finish x status) := by
  unfold Dev.finish Dev.done
  exact (d.onlyCompletes_dsc _).trans (Dev.onlyCompletes_pushEntry _ _)

end Sys2Proof.Machine
end

section
/-! Safety firmware (17 R489-R492): what the end of a verification and of a switch do to the island, the security block and the
rest of the device, and when a FW_LOAD made while firmware runs is taken. -/
namespace Sys2Proof.Machine

/-! ## What a change of the security block leaves alone (R485, R493) -/

/-- Of the device, nothing but its security block, its registers and its events differs. -/
def Dev.OnlySecurity (d e : Dev) : Prop := e = { d with regs := e.regs, evt := e.evt, sec := e.sec }

theorem Dev.OnlySecurity.trans {d e g : Dev} (h : d.OnlySecurity e) (k : e.OnlySecurity g) : d.OnlySecurity g := by
  unfold Dev.OnlySecurity at h k ⊢
  rw [k, h]

theorem Dev.OnlySecurity.on {d e : Dev} (h : d.OnlySecurity e) (k : Nat) : e.on k = d.on k := by
  unfold Dev.OnlySecurity at h
  rw [h]
  rfl

/-- The blocks of the device that a switch of firmware leaves to go on. -/
theorem Dev.OnlySecurity.blocks {d e : Dev} (h : d.OnlySecurity e) : e.dsc = d.dsc ∧ e.wave = d.wave ∧ e.hkp = d.hkp
    ∧ e.lnk = d.lnk ∧ e.pwr = d.pwr ∧ e.hch = d.hch ∧ e.glb = d.glb := by
  unfold Dev.OnlySecurity at h
  rw [h]
  exact ⟨rfl, rfl, rfl, rfl, rfl, rfl, rfl⟩

theorem Dev.onlySecurity_modSec (d : Dev) (f : Sec → Sec) : d.OnlySecurity (d.modSec f) := rfl

/-- While CORE is powered an event changes registers and the pending records alone. -/
theorem Dev.onlySecurity_raise {d : Dev} (n : Nat) (hc : d.on domCORE = true) : d.OnlySecurity (d.raise n) := by
  unfold Dev.raise
  simp only [hc, Bool.not_true, Bool.false_eq_true, if_false]
  split <;> rfl

theorem Dev.onlySecurity_raiseIf {d : Dev} (c : Bool) (n : Nat) (hc : d.on domCORE = true) :
    d.OnlySecurity (d.raiseIf c n) := by
  cases c with
  | false => rfl
  | true => exact Dev.onlySecurity_raise n hc

theorem Dev.onlySecurity_dbgClose {d : Dev} (hc : d.on domCORE = true) : d.OnlySecurity d.dbgClose := by
  unfold Dev.dbgClose
  split
  · rfl
  · exact (d.onlySecurity_modSec _).trans (Dev.onlySecurity_raise _ hc)

/-- The end of a debug session leaves no level open, and firmware and security state as they are. -/
theorem Dev.dbgClose_sec (d : Dev) :
    d.dbgClose.sec = { d.sec with level := 0, port := d.dbgClose.sec.port, halted := d.dbgClose.sec.halted,
                                  hbFrom := d.dbgClose.sec.hbFrom } := by
  unfold Dev.dbgClose
  split
  · rename_i hlevel
    rw [← hlevel]
  · simp only [Dev.raise_sec]
    rfl

/-- Entry to LOCKED that ends every session: SERVICE and the challenge go, then the debug session, and SERVICE left is noted. -/
theorem Dev.secLock_all (d : Dev) : d.secLock true
    = (d.modSec (fun x => { x with service := false, chal := none })).dbgClose.raiseIf d.sec.service Ev.SEC_LOCK := by
  simp [Dev.secLock]

theorem Dev.onlySecurity_secLock {d : Dev} (hc : d.on domCORE = true) : d.OnlySecurity (d.secLock true) := by
  rw [Dev.secLock_all]
  have hclosed := (d.onlySecurity_modSec _).trans
    (Dev.onlySecurity_dbgClose (d := d.modSec (fun x => { x with service := false, chal := none })) hc)
  exact hclosed.trans (Dev.onlySecurity_raiseIf _ _ ((hclosed.on domCORE).trans hc))

/-- In LOCKED neither SERVICE nor a debug level is left, and the firmware jobs are as they were. -/
theorem Dev.secLock_sec (d : Dev) : (d.secLock true).sec.service = false ∧ (d.secLock true).sec.level = 0
    ∧ (d.secLock true).sec.fw = d.sec.fw ∧ (d.secLock true).sec.fwSwitch = d.sec.fwSwitch := by
  rw [Dev.secLock_all, Dev.raiseIf_sec, Dev.dbgClose_sec]
  exact ⟨rfl, rfl, rfl, rfl⟩

/-! ## An island state entered (12 R363) -/

/-- Entering an island state changes the state of the island, and a change is noted. -/
theorem State.setIsl_eq (x : IslSt) (s : State) : s.setIsl x
    = { s with dev := s.dev.raiseIf (decide (s.isl.st ≠ x)) Ev.SAF_STATE, isl := { s.isl with st := x } } := by
  unfold State.setIsl
  by_cases h : s.isl.st = x
  · subst h
    simp [Dev.raiseIf]
  · simp [h, Dev.raiseIf, State.onDev, State.onIsl]

/-! ## The end of a verification (R490, R492) -/

theorem exec_fwVerifyDone {s : State} (ha : s.alive = true) : exec .fwVerifyDone s = .next s.fwVerified :=
  congrArg _ (State.live_pos ha _)

/-- The device once the image under verification has been judged. -/
def Dev.fwJudged (d : Dev) : Dev := d.modSec (fun x => { x with fw := none })

/-- The device once an image has been accepted and noted. -/
def Dev.fwAccepted (d : Dev) : Dev := d.fwJudged.raise Ev.SEC_FW_ACCEPTED

/-- The device with an image rejected for its reason, before the event. -/
def Dev.fwRefused (j : FwJob) (d : Dev) : Dev := d.fwJudged.modSec (fun x => { x with fwReason := j.reason })

/-- The device with the switch to an accepted image begun and the part LOCKED. -/
def Dev.fwSwitching (j : FwJob) (d : Dev) : Dev := (d.fwAccepted.modSec (fun x => { x with fwSwitch := some j })).secLock true

/-- The state with the first image in force and its descriptor completed. -/
def State.fwFirst (j : FwJob) (s : State) : State :=
  { s with dev := (s.dev.fwAccepted.fwInForce j).finish j.desc stOK, isl := { s.isl with fwRun := true } }

theorem State.fwVerified_none {s : State} (h : s.dev.sec.fw = none) : s.fwVerified = s := by
  simp [State.fwVerified, h]

/-- A rejected image. -/
theorem State.fwVerified_rejected {s : State} {j : FwJob} (h : s.dev.sec.fw = some j) (hr : j.reason ≠ 0) :
    s.fwVerified = { s with dev := ((s.dev.fwRefused j).raise Ev.SEC_FW_REJECT).finish j.desc stREJECTED } := by
  simp only [State.fwVerified, h, if_pos hr]
  rfl

/-- The first accepted image runs at once, and a waiting island with it. -/
theorem State.fwVerified_first {s : State} {j : FwJob} (h : s.dev.sec.fw = some j) (hr : j.reason = 0)
    (hrun : j.runTime = false) :
    s.fwVerified = if s.isl.st = .wait then (s.fwFirst j).setIsl .run else s.fwFirst j := by
  simp only [State.fwVerified, h, hr, hrun, ne_eq, not_true_eq_false, Bool.false_eq_true, if_false]
  rfl

/-- An image accepted at run time is switched in from WAIT; INTERNAL is not left. -/
theorem State.fwVerified_runTime {s : State} {j : FwJob} (h : s.dev.sec.fw = some j) (hr : j.reason = 0)
    (hrun : j.runTime = true) (hi : s.isl.st ≠ .internal) :
    s.fwVerified = ({ s with dev := s.dev.fwSwitching j, isl := { s.isl with back := some s.isl.st } } : State).setIsl .wait := by
  simp only [State.fwVerified, h, hr, hrun, ne_eq, not_true_eq_false, if_false, if_true]
  exact if_neg hi

theorem Dev.fwAccepted_sec (d : Dev) : d.fwAccepted.sec = { d.sec with fw := none } := Dev.raise_sec _ _

/-- The security block with an image in force. -/
theorem Dev.fwInForce_finish_sec (j : FwJob) (d : Dev) (x : Desc) (status : Nat) : ((d.fwInForce j).finish x status).sec
    = { d.sec with fwReason := 0, fwSlot := j.slot, fwVersion := j.version } :=
  (Dev.onlyCompletes_finish _ _ _).sec

theorem Dev.onlySecurity_fwAccepted {d : Dev} (hc : d.on domCORE = true) : d.OnlySecurity d.fwAccepted :=
  (d.onlySecurity_modSec _).trans (Dev.onlySecurity_raise (d := d.fwJudged) _ hc)

/-- The start of a switch changes the security block, registers and events alone. -/
theorem Dev.onlySecurity_fwSwitching {d : Dev} (j : FwJob) (hc : d.on domCORE = true) : d.OnlySecurity (d.fwSwitching j) := by
  have hset : d.OnlySecurity (d.fwAccepted.modSec (fun x => { x with fwSwitch := some j })) :=
    (Dev.onlySecurity_fwAccepted hc).trans (Dev.onlySecurity_modSec _ _)
  exact hset.trans (Dev.onlySecurity_secLock ((hset.on domCORE).trans hc))

/-- With the switch begun the image is no longer under verification, and neither SERVICE nor a debug level is left. -/
theorem Dev.fwSwitching_sec (j : FwJob) (d : Dev) : (d.fwSwitching j).sec.fwSwitch = some j ∧ (d.fwSwitching j).sec.fw = none
    ∧ (d.fwSwitching j).sec.service = false ∧ (d.fwSwitching j).sec.level = 0 := by
  obtain ⟨hservice, hlevel, hfw, hswitch⟩ := (d.fwAccepted.modSec (fun x => { x with fwSwitch := some j })).secLock_sec
  exact ⟨hswitch, hfw.trans (congrArg Sec.fw d.fwAccepted_sec), hservice, hlevel⟩

/-! ## The end of a switch (R492) -/

theorem exec_fwSwitchDone {s : State} (ha : s.alive = true) : exec .fwSwitchDone s = .next s.fwSwitched :=
  congrArg _ (State.live_pos ha _)

/-- The state with the island handed to the new firmware: the safety processor has the states of the hard-wired logic. -/
def State.fwHanded (s : State) : State := { s with isl := { s.isl with sp := s.isl.hwl, back := none } }

/-- The device with the image of a switch in force and its descriptor completed. -/
def Dev.fwSwitchOver (j : FwJob) (d : Dev) : Dev :=
  ((d.modSec (fun x => { x with fwSwitch := none })).fwInForce j).finish j.desc stOK

theorem State.fwSwitched_none {s : State} (h : s.dev.sec.fwSwitch = none) : s.fwSwitched = s := by
  simp [State.fwSwitched, h]

/-- The end of a switch: the island returns where it was if it is still in WAIT (log 69), and the image is in force. -/
theorem State.fwSwitched_some {s : State} {j : FwJob} (h : s.dev.sec.fwSwitch = some j) : s.fwSwitched
    = (if s.isl.st = .wait then s.fwHanded.setIsl (s.isl.back.getD .run) else s.fwHanded).onDev (Dev.fwSwitchOver j) := by
  simp only [State.fwSwitched, h]
  rfl

/-- The security block once a switch is done. -/
theorem Dev.fwSwitchOver_sec (j : FwJob) (d : Dev) : (d.fwSwitchOver j).sec
    = { d.sec with fwSwitch := none, fwReason := 0, fwSlot := j.slot, fwVersion := j.version } :=
  Dev.fwInForce_finish_sec j _ _ _

theorem Dev.fwSwitchOver_sameUnits (j : FwJob) (d : Dev) : d.SameUnits (d.fwSwitchOver j) :=
  Dev.SameUnits.trans (e := (d.modSec (fun x => { x with fwSwitch := none })).fwInForce j) ⟨rfl, rfl, rfl, rfl⟩
    (Dev.onlyCompletes_finish _ _ _).sameUnits

/-- The state of the island when a switch has been handed over, back where it was if it is still in WAIT. -/
theorem State.fwHanded_back (s : State) : ∃ c : Bool,
    (if s.isl.st = .wait then s.fwHanded.setIsl (s.isl.back.getD .run) else s.fwHanded)
      = { s with dev := s.dev.raiseIf c Ev.SAF_STATE, isl := { s.fwHanded.isl with
          st := if s.isl.st = .wait then s.isl.back.getD .run else s.isl.st } } := by
  by_cases hw : s.isl.st = .wait
  · rw [if_pos hw, if_pos hw, State.setIsl_eq]
    exact ⟨_, rfl⟩
  · rw [if_neg hw, if_neg hw]
    exact ⟨false, rfl⟩

/-! ## A FW_LOAD (R490, R491) -/

/-- A descriptor of its row is carried out by the row's engine while CORE is powered, and then the engines go on. -/
theorem State.engine_pos {s : State} {typ : Nat} {x : Desc} (f : Desc → State → State) (ha : s.alive = true)
    (hc : s.dev.on domCORE = true) (ht : x.typ = typ) : State.engine typ f x s = s.engineLeaves (f x s) := by
  subst ht
  unfold State.engine State.engineLeaves
  rw [State.live_pos ha, State.revoted_const, if_pos hc]

/-- A well-formed descriptor that its ring and its engine let through reaches the engine. -/
theorem Dev.dispatch_takes {d : Dev} {x : Desc} {good : Bool} {ready : Dev → Bool} (act : Dev → Dev) (h : d.takes x)
    (hgood : good = true) (hal : descAligned x = true) (hready : ready (d.known x) = true) :
    Dev.dispatch x good ready act d = act (d.taken x) := by
  obtain ⟨hlink, hout, hmay⟩ := h
  simp [Dev.dispatch, hlink, hout, hmay, hgood, hal, hready, Dev.taken]

/-- The conditions under which a FW_LOAD reaches its engine (R490). -/
structure State.TakesFwLoad (s : State) (q : Desc) : Prop where
  takes : s.dev.takes q
  aligned : descAligned q = true
  noB : descNoB q = true
  unused : descUnusedZero q [] = true
  ready : s.fwReady = true

/-- The descriptor uses buffer A alone. -/
theorem State.TakesFwLoad.good {s : State} {q : Desc} (h : s.TakesFwLoad q) : (descNoB q && descUnusedZero q []) = true :=
  Bool.and_eq_true_iff.mpr ⟨h.noB, h.unused⟩

/-- A FW_LOAD that is not allowed is DENIED, whatever its buffer holds. -/
theorem State.fwLoad_denied {s : State} {q : Desc} (data : Option (List Byte)) (h : s.TakesFwLoad q)
    (hno : s.fwAllowed = false) : s.fwLoad q data = { s with dev := (s.dev.taken q).denied.finish q stDENIED } := by
  unfold State.fwLoad State.onDev
  dsimp only
  rw [Dev.dispatch_takes _ h.takes h.good h.aligned h.ready, hno]
  rfl

/-- A FW_LOAD that is allowed puts the image read under verification. -/
theorem State.fwLoad_taken {s : State} {q : Desc} (bs : List Byte) (h : s.TakesFwLoad q) (hok : s.fwAllowed = true) :
    s.fwLoad q (some bs) = { s with dev := (s.dev.taken q).modSec (fun c => { c with fw := some {
      desc := q, slot := leAt bs 6 1, version := word (leAt bs 8 4), reason := s.fwReason bs, runTime := s.isl.fwRun } }) } := by
  unfold State.fwLoad State.onDev
  dsimp only
  rw [Dev.dispatch_takes _ h.takes h.good h.aligned h.ready, hok]
  rfl

/-- While firmware runs, a load is refused without a password session and while ranging goes on. -/
theorem State.fwAllowed_running_eq_false {s : State} (hrun : s.isl.fwRun = true)
    (h : s.isl.pw.openAt = none ∨ s.dev.brn.ranging = true) : s.fwAllowed = false := by
  rcases h with h | h <;> simp [State.fwAllowed, hrun, h]

theorem exec_fwLoad {s : State} {q : Desc} (data : Option (List Byte)) (ha : s.alive = true) (hc : s.dev.on domCORE = true)
    (ht : q.typ = 0x0A) : exec (.fwLoad q data) s = .next (s.engineLeaves (s.fwLoad q data)) :=
  congrArg _ (State.engine_pos (fun x s => s.fwLoad x data) ha hc ht)

/-! ## The obligation -/

/-- Settles O54: the end of a verification case by case (`State.fwVerified_rejected`, `State.fwVerified_first`,
`State.fwVerified_runTime`), the end of a switch (`State.fwSwitched_some`, `State.fwHanded_back`; that the island returns only
from WAIT is log 69), and a FW_LOAD (`State.fwLoad_denied`, `State.fwLoad_taken`). -/
theorem firmwareIsVerifiedAndSwitched : Obligations.FirmwareIsVerifiedAndSwitched := by
  unfold Obligations.FirmwareIsVerifiedAndSwitched
  intro s ha hc
  dsimp only
  rw [exec_fwVerifyDone ha, exec_fwSwitchDone ha]
  refine ⟨fun h => ?none, fun j h hr => ?rejected, fun j h hr hrun => ?first, fun j h hr hrun hi => ?runTime,
    fun j h => ?switched, fun h => ?noSwitch, fun q data ht hal hb htyp hu hready hrun => ?load⟩
  case none => rw [State.fwVerified_none h]
  case rejected =>
    rw [State.fwVerified_rejected h hr]
    exact ⟨s.dev.fwRefused j, _, Dev.raise_noted hc (by decide), rfl, rfl⟩
  case first =>
    refine ⟨s.dev.fwJudged, s.dev.fwAccepted, Dev.raise_noted hc (by decide), rfl, _, rfl, ?_⟩
    have hsec : (s.fwFirst j).dev.sec = { s.dev.sec with fw := none, fwReason := 0, fwSlot := j.slot, fwVersion := j.version } := by
      rw [State.fwFirst, Dev.fwInForce_finish_sec, Dev.fwAccepted_sec]
    rw [State.fwVerified_first h hr hrun]
    by_cases hw : s.isl.st = .wait
    · rw [if_pos hw, if_pos hw, State.setIsl_eq]
      exact ⟨rfl, (Dev.raiseIf_sec _ _ _).trans hsec, rfl, fun hne => absurd hw hne⟩
    · rw [if_neg hw, if_neg hw]
      refine ⟨rfl, hsec, rfl, fun _ => ?_⟩
      rw [hsec, State.fwFirst, Dev.fwInForce, Dev.modSec, Dev.fwAccepted_sec]
  case runTime =>
    have hsec := s.dev.fwSwitching_sec j
    rw [← Dev.raiseIf_sec (s.dev.fwSwitching j) (decide (s.isl.st ≠ .wait)) Ev.SAF_STATE] at hsec
    obtain ⟨hswitch, hfw, hservice, hlevel⟩ := hsec
    have hbegun := Dev.onlySecurity_fwSwitching j hc
    have honly := hbegun.trans (Dev.onlySecurity_raiseIf (decide (s.isl.st ≠ .wait)) Ev.SAF_STATE ((hbegun.on domCORE).trans hc))
    rw [State.fwVerified_runTime h hr hrun hi, State.setIsl_eq]
    exact ⟨_, rfl, rfl, hswitch, hfw, hservice, hlevel, honly.blocks⟩
  case switched =>
    obtain ⟨c, hback⟩ := s.fwHanded_back
    have hunits := (s.dev.onlyCompletes_raiseIf c Ev.SAF_STATE).sameUnits.trans (Dev.fwSwitchOver_sameUnits j _)
    have hsec := Dev.fwSwitchOver_sec j (s.dev.raiseIf c Ev.SAF_STATE)
    rw [Dev.raiseIf_sec] at hsec
    rw [State.fwSwitched_some h, hback]
    exact ⟨_, rfl, rfl, rfl, rfl, rfl, rfl, hsec, rfl, hunits⟩
  case noSwitch => rw [State.fwSwitched_none h]
  case load =>
    have htakes : s.TakesFwLoad q := ⟨ht, hal, hb, hu, hready⟩
    rw [exec_fwLoad data ha hc htyp]
    refine ⟨fun hno => ?_, fun bs hopen hrange hdata => ?_⟩
    · rw [State.fwLoad_denied data htakes (State.fwAllowed_running_eq_false hrun hno)]
    · have hok : s.fwAllowed = true := by simp [State.fwAllowed, hopen, hrange]
      rw [hdata, State.fwLoad_taken bs htakes hok, hrun]
      rfl

end Sys2Proof.Machine
end

section
/-! What no command undoes (12 R326, R344, R345; 17 R485, R488, R492): one relation between the states before and after, which every
shared operation of the island and of the gates around a meaning keeps, and with it every command. -/
namespace Sys2Proof.Machine

/-! ## The relation -/

/-- What the shape of the island rests on: its state, how many pairs each half watches, the cause latched, and the state that a
firmware switch goes back to. -/
def Island.shape (i : Island) : IslSt × Nat × Nat × Option Cause × Option IslSt :=
  (i.st, i.sp.guards.length, i.hwl.guards.length, i.fault, i.back)

/-- A change of the island that leaves INTERNAL alone and keeps its shape. -/
structure Island.Upholds (i j : Island) : Prop where
  internal : i.st = .internal → j.st = .internal
  shaped : i.Shaped → j.Shaped

/-- A change of the block that takes no command from the queue, undoes no fuse and upholds the island. -/
structure State.Upholds (s t : State) : Prop where
  pending : t.pending = s.pending
  fuses : s.fuses.Kept t.fuses
  isl : s.isl.Upholds t.isl

theorem Fuses.Kept.refl (f : Fuses) : f.Kept f := ⟨id, id, id, fun _ => id⟩

theorem Fuses.Kept.trans {f g h : Fuses} (hfg : f.Kept g) (hgh : g.Kept h) : f.Kept h := by
  obtain ⟨rma, unlock, revoked, key⟩ := hfg
  obtain ⟨rma', unlock', revoked', key'⟩ := hgh
  exact ⟨rma' ∘ rma, unlock' ∘ unlock, revoked' ∘ revoked, fun k => key' k ∘ key k⟩

theorem Island.Upholds.trans {i j k : Island} (hij : i.Upholds j) (hjk : j.Upholds k) : i.Upholds k :=
  ⟨hjk.internal ∘ hij.internal, hjk.shaped ∘ hij.shaped⟩

/-- An island of the same shape is upheld. -/
theorem Island.Upholds.of_shape {i j : Island} (h : j.shape = i.shape) : i.Upholds j := by
  simp only [Island.shape, Prod.mk.injEq] at h
  obtain ⟨hst, hsp, hhwl, hfault, hback⟩ := h
  exact ⟨fun hi => hst.trans hi, fun hs => by rwa [Island.Shaped, hst, hsp, hhwl, hfault, hback]⟩

/-- The island takes another state, which is no LOCKOUT without a cause, and leaves no INTERNAL. -/
theorem Island.upholds_st {i : Island} {x : IslSt} (hint : i.st = .internal → x = .internal)
    (hlock : i.Shaped → x = .lockout → i.fault ≠ none) : i.Upholds { i with st := x } := by
  refine ⟨hint, fun h => ?_⟩
  obtain ⟨hsp, hhwl, -, hback⟩ := id h
  exact ⟨hsp, hhwl, hlock h, hback⟩

@[refl] theorem State.Upholds.refl (s : State) : s.Upholds s := ⟨rfl, .refl _, .of_shape rfl⟩

theorem State.Upholds.trans {s t u : State} (hst : s.Upholds t) (htu : t.Upholds u) : s.Upholds u :=
  ⟨htu.pending.trans hst.pending, hst.fuses.trans htu.fuses, hst.isl.trans htu.isl⟩

theorem State.Upholds.ite {c : Prop} {_ : Decidable c} {s t u : State} (ht : s.Upholds t) (hu : s.Upholds u) :
    s.Upholds (if c then t else u) := by
  split
  · exact ht
  · exact hu

/-- Whatever a turn of a loop does, if each turn upholds the block the loop does. -/
theorem State.upholds_foldl {β : Type} {f : State → β → State} (h : ∀ (s : State) x, s.Upholds (f s x)) (l : List β) (s : State) :
    s.Upholds (l.foldl f s) := by
  induction l generalizing s with
  | nil => exact .refl s
  | cons x l ih => exact (h s x).trans (ih _)

/-! ## A change of the device or of the island -/

/-- The device is no part of the relation. -/
theorem State.Upholds.setDev {s t : State} (h : s.Upholds t) (d : Dev) : s.Upholds { t with dev := d } :=
  ⟨h.pending, h.fuses, h.isl⟩

theorem State.Upholds.onDev {s t : State} (h : s.Upholds t) (f : Dev → Dev) : s.Upholds (t.onDev f) := h.setDev _

theorem State.upholds_onDev (f : Dev → Dev) (s : State) : s.Upholds (s.onDev f) := (State.Upholds.refl s).onDev f

theorem State.Upholds.onIsl {s t : State} (h : s.Upholds t) {f : Island → Island} (hf : t.isl.Upholds (f t.isl)) :
    s.Upholds (t.onIsl f) :=
  ⟨h.pending, h.fuses, h.isl.trans hf⟩

/-- A change of the island outside its shape. -/
theorem State.Upholds.onIslShape {s t : State} (h : s.Upholds t) {f : Island → Island} (hf : (f t.isl).shape = t.isl.shape) :
    s.Upholds (t.onIsl f) := h.onIsl (.of_shape hf)

@[simp] theorem State.setIsl_pending (x : IslSt) (s : State) : (s.setIsl x).pending = s.pending := by rw [State.setIsl_eq]
@[simp] theorem State.setIsl_fuses (x : IslSt) (s : State) : (s.setIsl x).fuses = s.fuses := by rw [State.setIsl_eq]

/-- The island is in the state entered, whether that was a change or not. -/
@[simp] theorem State.setIsl_isl (x : IslSt) (s : State) : (s.setIsl x).isl = { s.isl with st := x } := by rw [State.setIsl_eq]

theorem State.Upholds.setIsl {s t : State} (h : s.Upholds t) {x : IslSt} (hint : t.isl.st = .internal → x = .internal)
    (hlock : t.isl.Shaped → x = .lockout → t.isl.fault ≠ none) : s.Upholds (t.setIsl x) :=
  .ite h ((h.onIsl (Island.upholds_st hint hlock)).onDev _)

/-! ## Faults (12 R344, R345) -/

/-- The first cause is latched, with nothing yet seen of its end; a later one is not. -/
def Island.latch (c : Cause) (i : Island) : Island :=
  if i.fault.isSome then i
  else { i with fault := some c, okPulses := 0, ticked := false,
                sp := { i.sp with guards := i.sp.guards.map (fun g => { g with clr := 0 }) },
                hwl := { i.hwl with guards := i.hwl.guards.map (fun g => { g with clr := 0 }) } }

/-- One fault more in LOCKOUT_CNT. -/
def Island.countLockout (i : Island) : Island := { i with lockCnt := satInc i.lockCnt }

theorem Island.latch_none {i : Island} (c : Cause) (h : i.fault = none) : i.latch c =
    { i with fault := some c, okPulses := 0, ticked := false,
             sp := { i.sp with guards := i.sp.guards.map (fun g => { g with clr := 0 }) },
             hwl := { i.hwl with guards := i.hwl.guards.map (fun g => { g with clr := 0 }) } } := by
  rw [Island.latch, h]
  rfl

theorem Island.latch_some {i : Island} (c : Cause) (h : i.fault ≠ none) : i.latch c = i :=
  if_pos (Option.isSome_iff_ne_none.mpr h)

theorem Island.latch_fault_ne_none (c : Cause) (i : Island) : (i.latch c).fault ≠ none := by
  by_cases h : i.fault = none
  · rw [Island.latch_none c h]
    exact Option.some_ne_none c
  · rwa [Island.latch_some c h]

@[simp] theorem Island.latch_st (c : Cause) (i : Island) : (i.latch c).st = i.st := by
  unfold Island.latch
  split <;> rfl

theorem Island.latch_upholds (c : Cause) (i : Island) : i.Upholds (i.latch c) := by
  refine ⟨fun h => by rwa [Island.latch_st], fun h => ?_⟩
  by_cases hf : i.fault = none
  · obtain ⟨hsp, hhwl, -, -⟩ := h
    rw [Island.latch_none c hf]
    exact ⟨by simpa using hsp, by simpa using hhwl, fun _ => Option.some_ne_none c, fun _ => Option.some_ne_none c⟩
  · rwa [Island.latch_some c hf]

/-- The fault that is noted: its cause latched, counted and its event raised. -/
def State.faultNoted (code idx : Nat) (s : State) : State :=
  ((s.onIsl (Island.latch ⟨code, idx, s.dev.now⟩)).onIsl Island.countLockout).onDev (fun d => d.raise Ev.SAF_LOCKOUT)

theorem State.fault_internal {s : State} (code idx : Nat) (h : s.isl.st = .internal) :
    s.fault code idx = s.onIsl (Island.latch ⟨code, idx, s.dev.now⟩) := by
  unfold State.fault
  rw [h]
  rfl

theorem State.fault_lockout {s : State} (code idx : Nat) (h : s.isl.st = .lockout) : s.fault code idx = s := by
  unfold State.fault
  rw [h]

/-- A fault of a running or waiting island locks it out. -/
theorem State.fault_active {s : State} (code idx : Nat) (h : s.isl.st = .run ∨ s.isl.st = .wait) :
    s.fault code idx = (s.faultNoted code idx).setIsl .lockout := by
  unfold State.fault
  rcases h with h | h <;> rw [h] <;> rfl

/-- A fault during the start is noted once, and the state stays. -/
theorem State.fault_starting {s : State} (code idx : Nat) (h : s.isl.st = .start ∨ s.isl.st = .selftest) :
    s.fault code idx = if s.isl.fault.isSome then s else s.faultNoted code idx := by
  unfold State.fault
  rcases h with h | h <;> rw [h] <;> rfl

theorem State.upholds_faultNoted (code idx : Nat) (s : State) : s.Upholds (s.faultNoted code idx) :=
  (((State.Upholds.refl s).onIsl (Island.latch_upholds _ _)).onIslShape rfl).onDev _

theorem State.upholds_fault (code idx : Nat) (s : State) : s.Upholds (s.fault code idx) := by
  cases h : s.isl.st with
  | internal =>
    rw [State.fault_internal code idx h]
    exact (State.Upholds.refl s).onIsl (Island.latch_upholds _ _)
  | lockout => rw [State.fault_lockout code idx h]
  | start =>
    rw [State.fault_starting code idx (.inl h)]
    exact .ite (.refl s) (State.upholds_faultNoted code idx s)
  | selftest =>
    rw [State.fault_starting code idx (.inr h)]
    exact .ite (.refl s) (State.upholds_faultNoted code idx s)
  | run =>
    rw [State.fault_active code idx (.inl h)]
    refine (State.upholds_faultNoted code idx s).setIsl (fun hi => ?_) (fun _ _ => Island.latch_fault_ne_none _ s.isl)
    exact absurd ((Island.latch_st _ s.isl).symm.trans hi) (by simp [h])
  | wait =>
    rw [State.fault_active code idx (.inr h)]
    refine (State.upholds_faultNoted code idx s).setIsl (fun hi => ?_) (fun _ _ => Island.latch_fault_ne_none _ s.isl)
    exact absurd ((Island.latch_st _ s.isl).symm.trans hi) (by simp [h])

theorem State.upholds_internalFault (code : Nat) (s : State) : s.Upholds (s.internalFault code) :=
  .ite (.refl s) ((((State.Upholds.refl s).onIslShape rfl).setIsl (fun _ => rfl) nofun).onDev _)

/-! ## Guards (12 R330-R334) -/

theorem setAt_length {α : Type} (l : List α) (i : Nat) (x : α) : (setAt l i x).length = l.length := by
  induction l generalizing i with
  | nil => rfl
  | cons y l ih =>
    cases i with
    | zero => rfl
    | succ i => exact congrArg (· + 1) (ih i)

/-- A half that watches as many pairs is stored in the same shape. -/
theorem Island.shape_setHalf {i : Island} {w : Nat} {x : Half} (h : x.guards.length = (i.half w).guards.length) :
    (i.setHalf w x).shape = i.shape := by
  unfold Island.setHalf
  unfold Island.half at h
  split at h <;> rename_i hw <;> simp [hw, Island.shape, h]

theorem Island.shape_put (i : Island) (w p : Nat) (g : Guard) : (i.setHalf w ((i.half w).put p g)).shape = i.shape :=
  Island.shape_setHalf (setAt_length _ _ _)

theorem State.upholds_put (w i : Nat) (g : Guard) (s : State) :
    s.Upholds (s.onIsl fun isl => isl.setHalf w ((s.isl.half w).put i g)) :=
  (State.Upholds.refl s).onIslShape (Island.shape_put s.isl w i g)

theorem State.upholds_guardEval (w i : Nat) (f : Guard → Guard) (s : State) : s.Upholds (s.guardEval w i f) := by
  have hput := fun g => State.upholds_put w i g s
  exact .ite (((hput _).onIslShape rfl).onDev _) (.ite ((hput _).onDev _) (hput _))

theorem State.upholds_guardSample (w i ch : Nat) (s : State) (x : Bool × Bool) : s.Upholds (s.guardSample w i ch x) := by
  have hput := fun g => State.upholds_put w i g s
  exact .ite ((hput _).trans (State.upholds_guardEval w i _ _)) (hput _)

theorem Island.shape_stepDisc (i : Island) (w : Nat) : (i.stepDisc w).shape = i.shape :=
  Island.shape_setHalf (by simp)

theorem State.upholds_safetyExchange (s : State) : s.Upholds s.safetyExchange := by
  have hdisc : ∀ n, ({ (s.isl.stepDisc 0).stepDisc 1 with differ := n } : Island).shape = s.isl.shape := fun n =>
    (Island.shape_stepDisc (s.isl.stepDisc 0) 1).trans (Island.shape_stepDisc s.isl 0)
  exact ((State.Upholds.refl s).onIslShape (hdisc _)).trans
    (State.upholds_foldl (fun s i => .ite (State.upholds_fault 0x01 i s) (.refl s)) _ _)

/-! ## Inputs, outputs and the scan monitor (12 R332-R342) -/

theorem State.upholds_faultIf {c : Prop} {_ : Decidable c} (code idx : Nat) (s : State) :
    s.Upholds (if c then s.fault code idx else s) := .ite (State.upholds_fault code idx s) (.refl s)

theorem State.upholds_faultOf (code : Nat) (c : Option Nat) (s : State) :
    s.Upholds (match c with | some i => s.fault code i | none => s) := by
  cases c with
  | none => exact .refl s
  | some i => exact State.upholds_fault code i s

theorem State.upholds_testPulse (k : Nat) (xs : List (Nat × Nat)) (s : State) : s.Upholds (s.testPulse k xs) := by
  refine .ite (.refl s) (((State.Upholds.onIslShape (.refl s) ?_).trans (State.upholds_faultOf 0x02 _ _)).trans
    (State.upholds_faultOf 0x03 _ _))
  dsimp only
  split <;> rfl

theorem State.upholds_tpReadback (k : Nat) (differ : Bool) (s : State) : s.Upholds (s.tpReadback k differ) :=
  .ite (.refl s) (((State.Upholds.refl s).onIslShape rfl).trans (State.upholds_faultIf 0x04 k _))

theorem State.upholds_soReadback (k w : Nat) (level : Bool) (s : State) : s.Upholds (s.soReadback k w level) :=
  .ite (.refl s) (((State.Upholds.refl s).onIslShape rfl).trans (State.upholds_faultIf 0x05 _ _))

theorem State.upholds_lenReadback (h w : Nat) (level : Bool) (s : State) : s.Upholds (s.lenReadback h w level) :=
  .ite (.refl s) (((State.Upholds.refl s).onIslShape rfl).trans (State.upholds_faultIf 0x07 _ _))

theorem State.upholds_offtestStart (k w : Nat) (low high : Bool) (s : State) : s.Upholds (s.offtestStart k w low high) := by
  unfold State.offtestStart
  have htest : ∀ f : Island → Tab Nat, s.Upholds (s.onIsl fun i => { i with testing := f i }) := fun _ =>
    (State.Upholds.refl s).onIslShape rfl
  exact .ite (.refl s) (.ite (htest _) ((htest _).trans (State.upholds_fault 0x06 _ _)))

theorem State.upholds_stallLatch (h : Nat) (s : State) : s.Upholds (s.stallLatch h) :=
  .ite (.refl s) ((((State.Upholds.refl s).onIslShape (f := fun i => { i with stall := setBit i.stall h }) rfl).onDev _).trans
    (State.upholds_faultIf 0x08 h _))

theorem State.upholds_scanStall (h a : Nat) (t : Time) (xs : List (List Int × Bool)) (s : State) :
    s.Upholds (s.scanStall h a t xs) := by
  have hmon := fun m : Island → Tab Mon =>
    (State.upholds_onDev (fun d => d.at t) s).onIslShape (f := fun i => { i with mon := m i }) rfl
  exact .ite (.refl s) (.ite ((hmon _).trans (State.upholds_stallLatch h _)) (hmon _))

/-- Start-up pending pairs are as many as before. -/
theorem pendS_length (t : Tab Word) (x : Half) : (pendS t x).guards.length = x.guards.length := by simp [pendS]

theorem State.upholds_hwlCount (e pulses gate lq : Nat) (s : State) : s.Upholds (s.hwlCount e pulses gate lq) := by
  unfold State.hwlCount
  exact .ite (.refl s) ((((State.Upholds.refl s).onIslShape rfl).trans (State.upholds_faultIf 0x09 e _)).trans
    (State.upholds_faultIf 0x0A e _))

/-! ## Restart pulses (12 R331, R346; 17 R492, R495) -/

/-- The pairs that wait for the restart pulse are released in both halves. -/
def State.waitsReleased (s : State) : State :=
  (List.range 8).foldl (fun s i => (List.range 2).foldl (fun s w =>
    if ((s.isl.half w).guard i).wait then s.guardEval w i (fun g => { g with wait := false, demand := false }) else s) s) s

/-- The island once its fault is cleared, in its old state. -/
def Island.cleared (i : Island) : Island :=
  { i with fault := none, back := none, okPulses := 0, sp := pendS i.spb i.sp, hwl := pendS i.spb i.hwl, pw := {} }

/-- A locked-out island whose fault is cleared goes to RUN or WAIT. -/
def State.lockoutCleared (s : State) : State :=
  ((s.onIsl Island.cleared).setIsl (if s.isl.fwRun then .run else .wait)).onDev
    (fun d => (d.dropRegs .l (fun _ => true)).raise Ev.SAF_LOCKOUT_CLEARED)

/-- What an accepted restart pulse does. -/
def State.restarted (s : State) : State :=
  if s.isl.st = .run then s.waitsReleased
  else if s.isl.st = .lockout then
    s.isl.fault.elim s fun c => if s.causeCleared c then s.lockoutCleared else s.onDev (fun d => d.raise Ev.SAF_RESET_REFUSED)
  else s

/-- The width lies where a half may accept the pulse or not. -/
def srstEdge (width : Nat) : Bool := decide (width < 200000) || decide (2000000 < width)

/-- The state in which the halves have decided about a pulse of this width. -/
def State.srstDrawn (width : Nat) (s : State) : State := if srstEdge width then { s with dev := s.dev.drawB.2 } else s

theorem State.srstPulse_eq (width : Nat) (s : State) : s.srstPulse width =
    if width < 190000 || 2010000 < width || s.dev.sec.halted then s
    else if srstEdge width && !s.dev.drawB.1 then s.srstDrawn width else (s.srstDrawn width).restarted := by
  unfold State.srstPulse State.restarted
  dsimp only
  rw [show (if (decide (width < 200000) || decide (2000000 < width)) = true then { s with dev := s.dev.drawB.2 } else s)
    = s.srstDrawn width from rfl]
  refine if_congr Iff.rfl rfl (if_congr Iff.rfl rfl ?_)
  generalize s.srstDrawn width = u
  split
  next h => rw [if_pos h]; rfl
  next h =>
    rw [if_neg (show ¬ u.isl.st = .run by rw [h]; decide), if_pos h]
    cases u.isl.fault <;> rfl
  next hrun hlock => rw [if_neg hrun, if_neg hlock]

/-- The island after its fault was cleared. -/
theorem State.lockoutCleared_isl (s : State) :
    s.lockoutCleared.isl = { s.isl.cleared with st := if s.isl.fwRun then .run else .wait } :=
  State.setIsl_isl _ _

/-- An island whose fault is cleared no longer needs a cause. -/
theorem State.upholds_lockoutCleared {s : State} (h : s.isl.st = .lockout) : s.Upholds s.lockoutCleared := by
  have hst : (if s.isl.fwRun then IslSt.run else IslSt.wait) ≠ .lockout := by split <;> decide
  have hfuses : s.lockoutCleared.fuses = s.fuses := by simp [State.lockoutCleared]
  refine ⟨by simp [State.lockoutCleared], hfuses ▸ .refl _, ⟨fun hi => absurd (h.symm.trans hi) (by decide), fun hs => ?_⟩⟩
  obtain ⟨hsp, hhwl, -, -⟩ := hs
  rw [State.lockoutCleared_isl]
  exact ⟨(pendS_length _ _).trans hsp, (pendS_length _ _).trans hhwl, fun hl => absurd hl hst, nofun⟩

theorem State.upholds_restarted (s : State) : s.Upholds s.restarted := by
  unfold State.restarted
  split
  next => exact State.upholds_foldl (fun s i => State.upholds_foldl
    (fun s w => .ite (State.upholds_guardEval w i _ s) (.refl s)) _ s) _ _
  next =>
    split
    next hst =>
      cases s.isl.fault with
      | none => exact .refl s
      | some c => exact .ite (State.upholds_lockoutCleared hst) (State.upholds_onDev _ s)
    next => exact .refl s

theorem State.upholds_srstPulse (width : Nat) (s : State) : s.Upholds (s.srstPulse width) := by
  have hdrawn : s.Upholds (s.srstDrawn width) := .ite ((State.Upholds.refl s).setDev _) (.refl s)
  rw [State.srstPulse_eq]
  exact .ite (.refl s) (.ite hdrawn (hdrawn.trans (State.upholds_restarted _)))

/-! ## The tick of the island (12 R333, R342, R354) -/

theorem State.upholds_islandTick (gap : Nat) (s : State) : s.Upholds (s.islandTick gap) := by
  unfold State.islandTick
  dsimp only
  have hcount : ∀ heads : Tab Nat, s.Upholds (s.onIsl fun i =>
      { i with headPulses := heads, count := [], gate := [], ticked := true, tickSeen := true }) := fun _ =>
    (State.Upholds.refl s).onIslShape rfl
  split
  next => exact (hcount _).trans (State.upholds_faultIf 0x0B 0 _)
  next =>
    refine (((hcount _).trans (State.upholds_faultIf 0x0B 0 _)).onIslShape ?_).trans
      (State.upholds_foldl (fun s i => State.upholds_foldl
        (fun s w => .ite (.refl s) (State.upholds_guardEval w i _ s)) _ s) _ _)
    rfl

theorem Island.toDefaults_shape (i : Island) : i.toDefaults.shape = i.shape := by simp [Island.toDefaults, Island.shape]

/-! ## The island's own checks (12 R327, R328, R343, R356) -/

theorem State.upholds_internalFaultIf {c : Prop} {_ : Decidable c} (code : Nat) (s : State) :
    s.Upholds (if c then s.internalFault code else s) := .ite (State.upholds_internalFault code s) (.refl s)

theorem State.upholds_spbCrcBad (s : State) : s.Upholds s.spbCrcBad :=
  .ite (.refl s) ((State.upholds_internalFault 0x85 s).onIslShape (Island.toDefaults_shape _))

theorem State.upholds_oscReady (s : State) : s.Upholds s.oscReady := by
  unfold State.oscReady
  split
  next h =>
    have hst : s.isl.st = .start := of_decide_eq_true (Bool.and_eq_true_iff.mp h).1
    exact (State.Upholds.refl s).setIsl (fun hi => absurd (hst.symm.trans hi) (by decide)) nofun
  next => exact .refl s

/-- The self-test ends in LOCKOUT with a fault latched alone. -/
theorem State.upholds_selftestDone (pass : Bool) (s : State) : s.Upholds (s.selftestDone pass) := by
  have hans := State.upholds_onDev (fun d => { d with answered := true }) s
  unfold State.selftestDone
  dsimp only
  split
  next => exact hans
  next hst =>
    rw [not_not] at hst
    refine .ite (hans.trans (State.upholds_internalFault 0x86 _)) (hans.setIsl (fun hi => ?_) (fun _ hl hf => ?_))
    · exact absurd (hst.symm.trans hi) (by decide)
    · rw [hf] at hl
      exact nomatch hl

/-! ## Password sessions and parameter blocks (12 R354, R358) -/

theorem State.upholds_pwPresent (len : Nat) (s : State) : s.Upholds (s.pwPresent len) :=
  .ite (.refl s) ((State.Upholds.refl s).onIslShape rfl)

theorem State.Upholds.pwClose {s t : State} (h : s.Upholds t) : s.Upholds t.pwClose := h.onIslShape rfl

theorem State.upholds_pwDone (s : State) : s.Upholds s.pwDone := by
  have hpw : ∀ (t : State) (f : Island → Pw), s.Upholds t → s.Upholds (t.onIsl fun i => { i with pw := f i }) :=
    fun _ _ h => h.onIslShape rfl
  unfold State.pwDone
  split
  next => exact .refl s
  next => exact .ite (hpw _ _ (hpw _ _ (.refl s))) ((hpw _ _ (hpw _ _ (.refl s))).onDev _)

theorem State.upholds_pwTimeout (s : State) : s.Upholds s.pwTimeout := by
  unfold State.pwTimeout
  split
  next => exact (State.upholds_onDev _ s).pwClose
  next => exact .refl s

theorem State.upholds_pwRefusalEnd (s : State) : s.Upholds s.pwRefusalEnd := by
  unfold State.pwRefusalEnd
  split
  next => exact (State.upholds_onDev _ s).onIslShape rfl
  next => exact .refl s

theorem State.upholds_spbOffer (bs : List Byte) (s : State) : s.Upholds (s.spbOffer bs).2.2 := by
  have htake : ∀ (f : Island → Tab Word) (g : Island → List (List Byte)) (h : Island → Bool),
      s.Upholds (s.onIsl fun i => { i with next := some (f i), log := g i, accepted := h i }) := fun _ _ _ =>
    (State.Upholds.refl s).onIslShape rfl
  unfold State.spbOffer
  dsimp only
  split <;> split <;> dsimp only
  · exact (htake (fun _ => wordsOf bs) (fun i => i.log) (fun _ => true)).onDev _
  · exact State.upholds_onDev _ s
  · exact (htake (fun _ => _) (fun i => _) (fun i => i.accepted)).onDev _
  · exact State.upholds_onDev _ s

theorem State.upholds_spbLoad (x : Desc) (data : Option (List Byte)) (s : State) : s.Upholds (s.spbLoad x data) := by
  have hdev : ∀ d : Dev, s.Upholds { s with dev := d } := (State.Upholds.refl s).setDev
  unfold State.spbLoad
  dsimp only
  refine .ite (hdev _) ?_
  split
  next => exact (hdev _).onDev _
  next bs _ =>
    have hoffer := fun d => (hdev d).trans (State.upholds_spbOffer (bs.take 4096) { s with dev := d })
    exact .ite (((hdev _).onDev _).onDev _) (.ite ((hoffer _).onDev _) (.ite ((hoffer _).onDev _) (((hoffer _).onDev _).onDev _)))

/-! ## The gates around a meaning (16 R469, R473, R479) -/

/-- What a change of power state brings with it closes sessions alone. -/
theorem State.upholds_settle (before : Dev) (s : State) : s.Upholds (s.settle before) := by
  have hclose : s.Upholds (s.onIsl Island.closeSession) := (State.Upholds.refl s).onIslShape rfl
  have hentered : ∀ c : Bool, s.Upholds (if c then s.onIsl Island.closeSession else s) := fun _ => .ite hclose (.refl s)
  have hreset : ∀ c d : Bool, s.Upholds (if d then (if c then s.onIsl Island.closeSession else s).onIsl Island.pwReset
      else if c then s.onIsl Island.closeSession else s) := fun c _ => .ite ((hentered c).onIslShape rfl) (hentered c)
  exact .ite ((State.Upholds.ite ((hentered _).onIslShape rfl) (hentered _)).onDev _)
    (State.Upholds.ite ((hentered _).onIslShape rfl) (hentered _))

theorem State.upholds_power (f : Dev → Dev) (s : State) : s.Upholds (s.power f) :=
  (State.upholds_onDev f s).trans (State.upholds_settle s.dev _)

theorem State.upholds_tidied (f : Dev → Dev) (s : State) : s.Upholds (s.tidied f) := State.upholds_power _ s

theorem State.upholds_live {f : State → State} (h : ∀ s : State, s.Upholds (f s)) (s : State) : s.Upholds (s.live f) :=
  .ite (h s) (.refl s)

theorem State.upholds_liveDev (f : Dev → Dev) (s : State) : s.Upholds (s.live (State.onDev f)) :=
  State.upholds_live (State.upholds_onDev f) s

theorem State.upholds_inDom (k : Nat) (f : Dev → Dev) (s : State) : s.Upholds (s.inDom k f) :=
  State.upholds_live (fun s => .ite (State.upholds_onDev f s) (.refl s)) s

theorem State.upholds_atPin (k : Nat) (f : Dev → Dev) (s : State) : s.Upholds (s.atPin k f) :=
  .ite (.refl s) (State.upholds_inDom k f s)

theorem State.upholds_revoted {f : State → State} (h : ∀ s : State, s.Upholds (f s)) (s : State) : s.Upholds (State.revoted f s) :=
  .ite (h s) (((h s).onDev _).trans (State.upholds_settle s.dev _))

theorem State.upholds_inDomVoted (k : Nat) (f : Dev → Dev) (s : State) : s.Upholds (s.inDomVoted k f) :=
  State.upholds_revoted (State.upholds_inDom k f) s

theorem State.upholds_engine (typ : Nat) {f : Desc → State → State} (h : ∀ x (s : State), s.Upholds (f x s)) (x : Desc) (s : State) :
    s.Upholds (State.engine typ f x s) :=
  State.upholds_live (State.upholds_revoted fun s => .ite ((h _ s).trans (State.upholds_tidied _ _)) (.refl s)) s

theorem State.upholds_engineDev (typ : Nat) (f : Desc → Dev → Dev) (x : Desc) (s : State) :
    s.Upholds (State.engineDev typ f x s) :=
  State.upholds_engine typ (fun x s => State.upholds_onDev (f x) s) x s

/-! ## Security (17 R485-R495) -/

/-- An accepted FACTORY token burns its fuse, and nothing else of the fuses changes with a token. -/
theorem State.upholds_tokenDone (s : State) : s.Upholds s.tokenDone := by
  unfold State.tokenDone
  split
  next => exact .refl s
  next =>
    have hsec := fun f => State.upholds_onDev f s
    refine .ite (.ite (((hsec _).onDev _).onDev _) ⟨rfl, ⟨fun _ => rfl, id, id, fun _ => id⟩, .of_shape rfl⟩) ((hsec _).onDev _)

theorem State.upholds_keyProg (unlock : Bool) (s : State) : s.Upholds (s.keyProg unlock) :=
  .ite (State.upholds_onDev _ s) (.ite (.refl s) (State.upholds_onDev _ s))

theorem State.upholds_keyRevoke (s : State) : s.Upholds s.keyRevoke :=
  .ite (State.upholds_onDev _ s) (.ite (.refl s) (State.upholds_onDev _ s))

/-- A burn only ever adds to the fuses (17 R488). -/
theorem Fuses.kept_burn (f : Fuses) (b : Burn) : f.Kept (f.burn b) := by
  cases b with
  | prog h u =>
    unfold Fuses.burn
    dsimp only
    split
    next => exact .refl f
    next hnone => exact ⟨id, fun hu => by simp [hu], id, fun k hk => absurd (hnone.symm.trans hk) (Option.some_ne_none k).symm⟩
  | revoke => exact ⟨id, id, fun _ => rfl, fun _ => id⟩

theorem State.upholds_burnDone (s : State) : s.Upholds s.burnDone := by
  unfold State.burnDone
  split
  next => exact .refl s
  next b _ => exact ⟨rfl, Fuses.kept_burn s.fuses b, .of_shape rfl⟩

theorem State.upholds_fwLoad (x : Desc) (data : Option (List Byte)) (s : State) : s.Upholds (s.fwLoad x data) :=
  State.upholds_onDev _ s

/-- The state that a firmware switch leaves is kept with its cause. -/
theorem Island.upholds_back (i : Island) : i.Upholds { i with back := some i.st } := by
  refine ⟨id, fun h => ?_⟩
  obtain ⟨hsp, hhwl, hfault, -⟩ := h
  exact ⟨hsp, hhwl, hfault, fun hb => hfault (Option.some.inj hb)⟩

theorem State.Upholds.markBack {s t : State} (h : s.Upholds t) :
    s.Upholds (t.onIsl fun i => { i with back := some t.isl.st }) := h.onIsl (Island.upholds_back _)

theorem State.upholds_fwVerified (s : State) : s.Upholds s.fwVerified := by
  unfold State.fwVerified
  split
  next => exact .refl s
  next =>
    have hdev := fun f => State.upholds_onDev f s
    have hacc := fun f g => (hdev f).onDev g
    have hback := fun f g h => ((hacc f g).onDev h).markBack
    have hrun := fun f g h => ((hacc f g).onDev h).onIslShape (f := fun i => { i with fwRun := true }) rfl
    dsimp only
    refine .ite ((hdev _).onDev _) (.ite ?_ ?_)
    · split
      next => exact hback _ _ _
      next hne => exact (hback _ _ _).setIsl (fun hi => absurd hi hne) nofun
    · split
      next hw => exact (hrun _ _ _).setIsl (fun hi => absurd (hw.symm.trans hi) (by decide)) nofun
      next => exact hrun _ _ _

/-- An island that takes over the hard-wired logic's states has nothing left to go back to. -/
theorem State.upholds_fwHanded (s : State) : s.Upholds s.fwHanded := by
  refine ⟨rfl, .refl _, ⟨id, fun h => ?_⟩⟩
  obtain ⟨-, hhwl, hfault, -⟩ := h
  exact ⟨hhwl, hhwl, hfault, nofun⟩

/-- An island that goes back to LOCKOUT after a firmware switch has kept its cause. -/
theorem State.upholds_fwHandedTo {s : State} {x : IslSt} (hw : s.isl.st = .wait) (hx : x = .lockout → s.isl.back = some .lockout) :
    s.Upholds (s.fwHanded.setIsl x) := by
  refine ⟨State.setIsl_pending x _, State.setIsl_fuses x s.fwHanded ▸ .refl _, ?_⟩
  rw [State.setIsl_isl]
  refine ⟨fun hi => absurd (hw.symm.trans hi) (by decide), fun h => ?_⟩
  obtain ⟨-, hhwl, -, hback⟩ := h
  exact ⟨hhwl, hhwl, fun hl => hback (hx hl), nofun⟩

theorem State.upholds_fwSwitched (s : State) : s.Upholds s.fwSwitched := by
  cases h : s.dev.sec.fwSwitch with
  | none => rw [State.fwSwitched_none h]
  | some j =>
    rw [State.fwSwitched_some h]
    refine State.Upholds.onDev ?_ _
    split
    next hw =>
      refine State.upholds_fwHandedTo hw ?_
      cases s.isl.back with
      | none => exact nofun
      | some x => exact congrArg some
    next => exact State.upholds_fwHanded s

theorem State.upholds_dbgCtl (port : Bool) (level : Nat) (s : State) : s.Upholds (s.dbgCtl port level) :=
  .ite (.refl s) (.ite (State.upholds_onDev _ s) (.ite (State.upholds_onDev _ s) (.ite (State.upholds_onDev _ s)
    (State.upholds_onDev _ s))))

theorem State.upholds_halt (s : State) : s.Upholds s.halt :=
  .ite (State.upholds_onDev _ s) (.ite (State.upholds_onDev _ s)
    ((State.upholds_onDev _ s).trans (State.upholds_internalFault 0x82 _)))

theorem State.upholds_resume (s : State) : s.Upholds s.resume := .ite (State.upholds_onDev _ s) (State.upholds_onDev _ s)

theorem State.upholds_step1 (s : State) : s.Upholds s.step1 := .ite (State.upholds_onDev _ s) (.refl s)

theorem State.upholds_dbgacc (level : Nat) (s : State) : s.Upholds (s.dbgacc level) :=
  (State.upholds_onDev _ s).trans (State.upholds_dbgCtl true level _)

/-! ## Register accesses (00 R5; 01 R23, R39; 15 R438; 17 R493) -/

theorem State.upholds_limitWrite (off : Nat) (v : Word) (s : State) : s.Upholds (s.limitWrite off v) := by
  have hdev := fun f => State.upholds_onDev f s
  exact .ite (hdev _) (.ite (hdev _) (hdev _))

theorem State.upholds_rwpWrite (off mask : Nat) (val : Word) (s : State) : s.Upholds (s.rwpWrite off mask val) :=
  .ite (State.upholds_limitWrite off val s) (.ite (State.upholds_onDev _ s) (State.upholds_onDev _ s))

theorem State.upholds_rwWrite (off base i mask : Nat) (val : Word) (s : State) : s.Upholds (s.rwWrite off base i mask val) := by
  have hdev := fun f => State.upholds_onDev f s
  unfold State.rwWrite
  dsimp only
  split
  next => exact hdev _
  next =>
    refine .ite (hdev _) (.ite (hdev _) (.ite (hdev _) (.ite (State.upholds_power _ s) (.ite (hdev _)
      (.ite (State.upholds_dbgCtl _ _ s) (.ite (.ite (hdev _) (.refl s)) ?_))))))
    split
    next => exact .ite (.refl s) (hdev _)
    next => exact hdev _

/-- The bits of a command register act one after the other. -/
theorem State.Upholds.thenIf {s t : State} (h : s.Upholds t) (c : Bool) {f : State → State} (hf : ∀ u : State, u.Upholds (f u)) :
    s.Upholds (if c then f t else t) := .ite (h.trans (hf t)) h

theorem State.upholds_secCmd (val : Word) (s : State) : s.Upholds (s.secCmd val) :=
  (((State.Upholds.refl s).thenIf (bit val 0) (State.upholds_onDev _)).thenIf (bit val 1)
    (State.upholds_keyProg (bit val 3))).thenIf (bit val 2) State.upholds_keyRevoke

theorem State.upholds_spCtl (val : Word) (s : State) : s.Upholds (s.spCtl val) :=
  (((State.Upholds.refl s).thenIf (bit val 0) State.upholds_halt).thenIf (bit val 1) State.upholds_resume).thenIf (bit val 2)
    State.upholds_step1

theorem State.upholds_stallClear (mask : Nat) (s : State) : s.Upholds (s.stallClear mask) := (State.Upholds.refl s).onIslShape rfl

theorem State.upholds_woWrite (mgmt : Bool) (off base i : Nat) (val : Word) (s : State) :
    s.Upholds (s.woWrite mgmt off base i val) := by
  have hdev := fun f => State.upholds_onDev f s
  have hgo := fun c f => State.Upholds.thenIf (.refl s) c (State.upholds_onDev f)
  have hgo2 := fun c f d g => (hgo c f).thenIf d (State.upholds_onDev g)
  have hpw : s.Upholds (s.onIsl fun x => { x with pw := { x.pw with data := tabPut 0 x.pw.data i val } }) :=
    (State.Upholds.refl s).onIslShape rfl
  unfold State.woWrite
  dsimp only
  refine .ite ?axis <| .ite (hdev _) <| .ite (hgo _ _) <| .ite (hgo _ _) <| .ite (hgo _ _) <| .ite (hgo2 _ _ _ _) <|
    .ite (hgo _ _) <| .ite (hdev _) <| .ite (State.upholds_stallClear _ s) <| .ite hpw <| .ite ?pwCtl <| .ite (hdev _) <|
    .ite (hgo2 _ _ _ _) <| .ite (hdev _) <| .ite (State.upholds_power _ s) <| .ite ?mgmt <| .ite (hgo _ _) <| .ite (hdev _) <|
    .ite (hgo _ _) <| .ite (State.upholds_secCmd val s) <| .ite (hdev _) <| .ite (State.upholds_spCtl val s) (.refl s)
  case axis =>
    split
    next => exact hdev _
    next => exact .refl s
  case pwCtl =>
    exact ((State.Upholds.refl s).thenIf _ (State.upholds_pwPresent _)).thenIf _ fun u => (State.Upholds.refl u).pwClose
  case mgmt => exact (State.Upholds.refl s).thenIf _ (State.upholds_power _)

theorem State.upholds_regWrite (mgmt : Bool) (off : Nat) (val : Word) (s : State) : s.Upholds (s.regWrite mgmt off val) := by
  unfold State.regWrite
  split
  next => exact .refl s
  next =>
    dsimp only
    split
    next => exact .refl s
    next => exact .ite (.refl s) (State.upholds_onDev _ s)
    next => exact State.upholds_rwpWrite _ _ _ s
    next => exact State.upholds_onDev _ s
    next => exact State.upholds_rwWrite _ _ _ _ _ s
    next => exact State.upholds_woWrite _ _ _ _ _ s

theorem State.upholds_readEffect (p : Path) (off : Nat) (s : State) : s.Upholds (s.readEffect p off) := by
  have hlo := fun c f => State.Upholds.thenIf (.refl s) c (State.upholds_onDev f)
  unfold State.readEffect
  dsimp only
  split
  next => exact .ite ((hlo _ _).onDev _) (hlo _ _)
  next => exact hlo _ _

theorem State.upholds_dbgRead (a : Word) (s : State) : s.Upholds (s.dbgRead a).2 := by
  unfold State.dbgRead
  dsimp only
  split
  next =>
    split
    next => exact State.upholds_readEffect .debug _ s
    next => exact .refl s
  next =>
    dsimp only
    exact State.upholds_onDev _ s

theorem State.upholds_dbgAccess (write : Bool) (a val : Word) (s : State) : s.Upholds (s.dbgAccess write a val) :=
  .ite (State.upholds_onDev _ s) (.ite (State.upholds_regWrite false _ val s) (State.upholds_dbgRead a s))

theorem State.upholds_pathWrite (mgmt : Bool) (off : Nat) (val : Word) (s : State) : s.Upholds (s.pathWrite mgmt off val) :=
  .ite (State.upholds_dbgAccess true _ val s) (State.upholds_regWrite mgmt off val s)

theorem State.upholds_hosted {f : State → State} (h : ∀ s : State, s.Upholds (f s)) (s : State) : s.Upholds (s.hosted f) :=
  .ite ((State.upholds_onDev _ s).thenIf _ h) (.refl s)

theorem State.upholds_mgmtArrive (s : State) : s.Upholds s.mgmtArrive.2 := by
  unfold State.mgmtArrive
  split
  next => exact State.upholds_power _ s
  next => exact .refl s

theorem State.upholds_mgmtWrite (off : Nat) (val : Word) (late : Bool) (s : State) : s.Upholds (s.mgmtWrite off val late) := by
  have harrive := State.upholds_mgmtArrive s
  exact .ite (harrive.onDev _) (.ite (harrive.onDev _) ((harrive.trans (State.upholds_pathWrite true off val _)).onDev _))

theorem State.upholds_mgmtRefuse (st : Nat) (s : State) : s.Upholds (s.mgmtRefuse st) := (State.upholds_onDev _ s).onDev _

theorem State.upholds_mgmtRead (off : Nat) (s : State) : s.Upholds (s.mgmtRead off) := by
  have harrive := State.upholds_mgmtArrive s
  exact .ite (harrive.trans (State.upholds_mgmtRefuse _ _)) (.ite (harrive.trans (State.upholds_mgmtRefuse _ _))
    ((harrive.trans (State.upholds_readEffect .mgmt off _)).onDev _))

theorem State.upholds_hostRead (off tag : Nat) (s : State) : s.Upholds (s.hostRead off tag) := by
  have hrx := State.upholds_onDev (fun d => (d.rxAccept .nonPosted).answering) s
  unfold State.hostRead
  dsimp only
  refine .ite (.refl s) (.ite (hrx.onDev _) (.ite (.ite (hrx.onDev _) ?_) (.ite (hrx.onDev _) ?_)))
  · exact (hrx.trans (State.upholds_dbgRead _ _)).onDev _
  · exact (hrx.trans (State.upholds_readEffect .host off _)).onDev _

theorem State.upholds_pathRead (path : Path) (off tag : Nat) (s : State) : s.Upholds (s.pathRead path off tag) := by
  cases path with
  | host => exact State.upholds_hostRead off tag s
  | mgmt => exact State.upholds_mgmtRead off s
  | debug => exact .ite (State.upholds_onDev _ s) (State.upholds_dbgRead _ s)

/-! ## Ticks and shots (01 R11-R25; 02 R60; 05 R132) -/

theorem State.upholds_pllUnlock (s : State) : s.Upholds s.pllUnlock :=
  .ite (.refl s) ((State.upholds_onDev _ s).trans (State.upholds_fault 0x0C 0 _))

theorem State.upholds_refLoss (s : State) : s.Upholds s.refLoss := by
  have hdev := fun f => State.upholds_onDev f s
  exact .ite (.refl s) (.ite ((hdev _).onDev _) ((hdev _).trans (State.upholds_pllUnlock _)))

theorem State.upholds_pulseOut (e k : Nat) (t : Time) (second : Bool) (s : State) : s.Upholds (s.pulseOut e k t second) := by
  have hdev := fun f => State.upholds_onDev f s
  exact .ite (.ite (hdev _) ((hdev _).onDev _)) (hdev _)

theorem State.upholds_shotFire (e : Nat) (o : FireObs) (s : State) : s.Upholds (s.shotFire e o) := by
  have hmove : ∀ (c : Bool) f g, s.Upholds (if c then (s.onDev f).onDev g else s.onDev f) := fun c f g =>
    (State.upholds_onDev f s).thenIf c (State.upholds_onDev g)
  have hcount := State.upholds_hwlCount e o.pulses o.gate o.lq
  unfold State.shotFire
  dsimp only
  exact .ite (hcount s) ((State.Upholds.ite ((hmove _ _ _).onDev _) (.ite ((hmove _ _ _).trans (State.upholds_pulseOut _ _ _ _ _))
    ((hmove _ _ _).onDev _))).trans (hcount _))

/-- An image's value takes effect by the rules of a register write. -/
theorem State.upholds_imageVal (off : Nat) (val : Word) (s : State) : s.Upholds (s.imageVal off val).2 := by
  have hdev := fun f => State.upholds_onDev f s
  have hlim := State.upholds_limitWrite off val s
  unfold State.imageVal
  split
  next => exact .refl s
  next =>
    dsimp only
    split
    next =>
      split
      next => exact (State.Upholds.refl s).thenIf _ (State.upholds_onDev _)
      next => split <;> dsimp only <;> exact hdev _
    next =>
      split
      next =>
        dsimp only
        exact State.upholds_onDev _ s
      next =>
        split
        next =>
          split <;> dsimp only
          · exact hlim
          · exact hlim.onDev _
        next => split <;> dsimp only <;> exact hdev _
    next => exact State.upholds_rwWrite _ _ _ _ _ s
    next => exact .refl s

theorem State.upholds_imageVals (vs : List (Nat × Word)) (l : List Nat) (s : State) : s.Upholds (State.imageVals vs l s).2 := by
  induction vs generalizing l s with
  | nil => exact .refl s
  | cons v vs ih => exact (State.upholds_imageVal v.1 v.2 s).trans (ih _ _)

/-- The settings of a tick change the island by an image's values alone. -/
theorem State.upholds_settings (casc : Bool) (s : State) : s.Upholds (s.settings casc).2.2.2 := by
  have himage : ∀ (img : Option Image) (u : State), u.Upholds (match img with
      | some x => State.imageVals x.vals [] u
      | none => (([] : List Nat), u)).2 := fun img u => by
    cases img with
    | none => exact .refl u
    | some x => exact State.upholds_imageVals x.vals [] u
  unfold State.settings
  refine State.Upholds.setDev (State.Upholds.onDev (State.Upholds.thenIf (State.Upholds.ite ?plain (State.Upholds.onDev ?recorded _))
    _ (State.upholds_onDev _)) _) _
  all_goals
    refine State.Upholds.onDev (State.Upholds.onDev (State.Upholds.thenIf (State.Upholds.onDev ?_ _) _ (State.upholds_onDev _)) _) _
    exact ((State.Upholds.refl s).setDev _).trans (himage _ _)

/-- A tick's tail: the island at the tick, the settings, and what the blocks do with them. -/
theorem State.upholds_tickTail (casc : Bool) (o : TickObs) (e : List (List Byte) × Dev) (s : State) :
    s.Upholds (State.tickTail casc o e s) := by
  have hisl := ((State.Upholds.refl s).setDev e.2).trans (State.upholds_islandTick o.gap _)
  have hset := fun d => (hisl.setDev d).trans (State.upholds_settings casc _)
  unfold State.tickTail
  dsimp only
  refine State.Upholds.trans (State.Upholds.onDev ?_ _) (State.upholds_settle s.dev _)
  exact ((hset _).onDev _).onDev _

theorem State.upholds_tick (k : TickKind) (t : Time) (fr : Option Word) (o : TickObs) (s : State) :
    s.Upholds (s.tick k t fr o) := .ite (State.upholds_tickTail _ o _ s) (.refl s)

theorem State.upholds_sourceTick (k : TickKind) (t : Time) (o : TickObs) (s : State) : s.Upholds (s.sourceTick k t o) :=
  .ite (.refl s) (.ite (State.upholds_onDev _ s) (State.upholds_tick k t none o s))

theorem State.upholds_externalTick (k : TickKind) (t : Time) (o : TickObs) (s : State) : s.Upholds (s.externalTick k t o) :=
  .ite (.refl s) (.ite (State.upholds_onDev _ s) (State.upholds_sourceTick k t o s))

theorem State.upholds_internalTick (o : TickObs) (s : State) : s.Upholds (s.internalTick o) := by
  have hsource := fun t => State.upholds_sourceTick .internal t o s
  unfold State.internalTick
  dsimp only
  refine .ite (hsource _) (.ite (.refl s) ?_)
  split <;> exact hsource _

theorem State.upholds_encoderTick (o : TickObs) (t : Time) (s : State) : s.Upholds (s.encoderTick o t) :=
  .ite (.refl s) ((State.upholds_onDev _ s).trans (State.upholds_externalTick .encoder t o _))

theorem State.upholds_tickInEdge (falling : Bool) (t : Time) (o : TickObs) (s : State) : s.Upholds (s.tickInEdge falling t o) :=
  .ite (.refl s) (State.upholds_externalTick .tickIn _ o s)

theorem State.upholds_deferredTick (o : TickObs) (s : State) : s.Upholds (s.deferredTick o) := by
  unfold State.deferredTick
  split
  next => exact .refl s
  next =>
    split
    next => exact State.upholds_tick .deferred _ _ o s
    next => exact State.upholds_sourceTick .deferred _ o s

theorem State.upholds_substituteTick (o : TickObs) (s : State) : s.Upholds (s.substituteTick o) :=
  .ite (.refl s) (State.upholds_sourceTick .substitute _ o s)

theorem State.upholds_cascadeTick (o : TickObs) (s : State) : s.Upholds (s.cascadeTick o) := by
  have hdev := fun f => State.upholds_onDev f s
  unfold State.cascadeTick
  split
  next => exact .refl s
  next => exact .ite (.refl s) (.ite (.ite (hdev _) (.ite ((hdev _).onDev _) ((hdev _).trans (State.upholds_tick _ _ _ o _))))
    ((hdev _).trans (State.upholds_tick _ _ _ o _)))

/-! ## Housekeeping, pairs, SHUT and resets (10 R297; 11 R320; 13 R368, R371; 16 R476) -/

theorem State.upholds_loopFault (l : Nat) (dev : Bool) (t : Time) (xs : Vector (Nat × Bool) 4) (s : State) :
    s.Upholds (s.loopFault l dev t xs) := by
  unfold State.loopFault
  dsimp only
  split
  next => exact .refl s
  next => exact .ite (.refl s) ((State.Upholds.refl s).setDev _)

theorem State.upholds_loopFaultCleared (l : Nat) (dev : Bool) (t : Time) (xs : Vector (Nat × Bool) 4) (s : State) :
    s.Upholds (s.loopFaultCleared l dev t xs) := by
  unfold State.loopFaultCleared
  dsimp only
  split
  next => exact .refl s
  next => exact .ite (.refl s) ((State.Upholds.refl s).setDev _)

theorem State.upholds_claimRound (t : Time) (other : Option Nat) (s : State) : s.Upholds (s.claimRound t other) :=
  .ite (.refl s) (State.upholds_onDev _ s)

theorem State.upholds_selfCheckFail (n : Nat) (s : State) : s.Upholds (s.selfCheckFail n) := by
  have hdigest := fun c f => State.Upholds.thenIf (.refl s) c (State.upholds_onDev f)
  exact .ite (hdigest _ _) ((hdigest _ _).onDev _)

theorem State.upholds_shutTrip (k : Nat) (s : State) : s.Upholds (s.shutTrip k) :=
  ((State.upholds_onDev _ s).trans (State.upholds_fault 0x0D k _)).trans (State.upholds_settle s.dev _)

/-- A cold reset leaves INTERNAL and the latched cause as they are (12 R344, R345; 16 R479). -/
theorem Island.upholds_cold (i : Island) : i.Upholds i.cold := by
  refine ⟨fun h => if_pos h, fun _ => ⟨rfl, rfl, fun h => ?_, nofun⟩⟩
  change (if i.st = .internal then IslSt.internal else IslSt.start) = .lockout at h
  split at h <;> cases h

theorem State.upholds_cold (x : Straps) (s : State) : s.Upholds (s.cold x) := ⟨rfl, .refl _, s.isl.upholds_cold⟩

theorem State.upholds_hot (wdog : Bool) (s : State) : s.Upholds (s.hot wdog) :=
  .ite (.refl s) ((State.upholds_onDev _ s).onIslShape rfl)

theorem State.upholds_coreWatchdog (s : State) : s.Upholds s.coreWatchdog := .ite (State.upholds_hot true s) (.refl s)

theorem State.upholds_hotReset (s : State) : s.Upholds s.hotReset := .ite (.refl s) (State.upholds_hot false s)

theorem State.upholds_guardStep (w i ch : Nat) (s : State) (x : Bool × Bool) : s.Upholds (s.guardStep w i ch x) :=
  .ite ((State.upholds_guardSample w i ch s x).trans (State.upholds_power _ _)) (State.upholds_guardSample w i ch s x)

/-! ## Every command -/

/-- A command goes on and upholds the block. -/
def State.GoesOnUpheld (s : State) (r : Res) : Prop := ∃ t, r = .next t ∧ s.Upholds t

theorem exec_upholds {c : Instr} (hon : ∀ x, c ≠ .powerOnReset x) (hoff : c ≠ .powerOff) (s : State) : s.GoesOnUpheld (exec c s) := by
  have live {f : State → State} (h : ∀ u : State, u.Upholds (f u)) : s.Upholds (s.live f) := State.upholds_live h s
  have powered (f : Dev → Dev) : s.Upholds (s.live (State.power f)) := live (State.upholds_power f)
  have tidied (f : Dev → Dev) : s.Upholds (s.live (State.tidied f)) := live (State.upholds_tidied f)
  have inWave (f : Dev → Dev) : s.Upholds (s.live fun s => if s.dev.on domWAVE then s.tidied f else s) :=
    live fun u => .ite (State.upholds_tidied f u) (.refl u)
  have inCore {f : State → State} (h : ∀ u : State, u.Upholds (f u)) :
      s.Upholds (s.live (State.revoted fun s => if s.dev.on domCORE then f s else s)) :=
    live (State.upholds_revoted fun u => .ite (h u) (.refl u))
  have supplied {f : State → State} (h : ∀ u : State, u.Upholds (f u)) : s.Upholds (if s.dev.pwr.off then s else f s) :=
    .ite (.refl s) (h s)
  cases c with
  | powerOnReset x => exact absurd rfl (hon x)
  | powerOff => exact absurd rfl hoff
  | registerWrite off val => exact ⟨_, rfl, live (State.upholds_hosted (State.upholds_revoted (State.upholds_pathWrite false off val)))⟩
  | internalTick o => exact ⟨_, rfl, live (State.upholds_internalTick o)⟩
  | encoderTick o t => exact ⟨_, rfl, live (State.upholds_encoderTick o t)⟩
  | tickInEdge falling t o => exact ⟨_, rfl, live (State.upholds_tickInEdge falling t o)⟩
  | deferredTick o => exact ⟨_, rfl, live (State.upholds_deferredTick o)⟩
  | substituteTick o => exact ⟨_, rfl, live (State.upholds_substituteTick o)⟩
  | cascadeTick o => exact ⟨_, rfl, live (State.upholds_cascadeTick o)⟩
  | shotFire e o => exact ⟨_, rfl, live (State.upholds_shotFire e.val o)⟩
  | brnLimitWrite off val => exact ⟨_, rfl, live fun u => .ite (State.upholds_limitWrite off val u) (.refl u)⟩
  | timRefLoss => exact ⟨_, rfl, live State.upholds_refLoss⟩
  | timPllUnlock => exact ⟨_, rfl, live State.upholds_pllUnlock⟩
  | iuResRead u path tag => exact ⟨_, rfl, live (State.upholds_pathRead path _ tag)⟩
  | loRegisterRead path off tag => exact ⟨_, rfl, live (State.upholds_pathRead path off tag)⟩
  | triggerEvent p x =>
    cases x with
    | edge pin t r => exact ⟨_, rfl, State.upholds_atPin _ _ s⟩
    | samples | own => exact ⟨_, rfl, State.upholds_inDom _ _ s⟩
  | calMeasurementDone tgt v => exact ⟨_, rfl, State.upholds_revoted (State.upholds_inDom _ _) s⟩
  | critClr => exact ⟨_, rfl, State.upholds_revoted (State.upholds_liveDev _) s⟩
  | loopFault l dev t xs => exact ⟨_, rfl, live fun u => .ite (State.upholds_loopFault l.val dev t xs u) (.refl u)⟩
  | loopFaultCleared l dev t xs => exact ⟨_, rfl, live fun u => .ite (State.upholds_loopFaultCleared l.val dev t xs u) (.refl u)⟩
  | elCtlWrite val => exact ⟨_, rfl, live (State.upholds_regWrite false _ val)⟩
  | shutComparatorTrip x => exact ⟨_, rfl, supplied (State.upholds_shutTrip x.val)⟩
  | shutComparatorClear => exact ⟨_, rfl, supplied (State.upholds_onDev _)⟩
  | guardInputAccepted w i ch xs =>
    exact ⟨_, rfl, live (State.upholds_foldl (fun u x => State.upholds_guardStep w.val i.val ch.val u x) xs)⟩
  | discrepancy w i => exact ⟨_, rfl, live fun u => State.upholds_faultIf 0x01 i.val u⟩
  | testPulse k xs => exact ⟨_, rfl, live (State.upholds_testPulse k.val xs)⟩
  | tpReadback k differ => exact ⟨_, rfl, live (State.upholds_tpReadback k.val differ)⟩
  | soReadback k w level => exact ⟨_, rfl, live (State.upholds_soReadback k.val w.val level)⟩
  | lenReadback h w level => exact ⟨_, rfl, live (State.upholds_lenReadback h.val w.val level)⟩
  | soOfftestStart k w low high => exact ⟨_, rfl, live (State.upholds_offtestStart k.val w.val low high)⟩
  | scanStall h a t xs => exact ⟨_, rfl, live (State.upholds_scanStall h.val a.val t xs)⟩
  | stallClr mask => exact ⟨_, rfl, live (State.upholds_stallClear mask.toNat)⟩
  | safetyExchange => exact ⟨_, rfl, live State.upholds_safetyExchange⟩
  | heartbeat => exact ⟨_, rfl, live fun u => .ite (.refl u) (State.upholds_internalFault 0x82 u)⟩
  | disagree => exact ⟨_, rfl, live fun u => State.upholds_internalFaultIf 0x81 u⟩
  | osc => exact ⟨_, rfl, live fun u => State.upholds_internalFaultIf 0x83 u⟩
  | ramUe => exact ⟨_, rfl, live fun u => State.upholds_internalFaultIf 0x84 u⟩
  | fwTrap => exact ⟨_, rfl, live fun u => State.upholds_internalFaultIf 0x87 u⟩
  | spbCrc => exact ⟨_, rfl, live State.upholds_spbCrcBad⟩
  | lockoutReset width => exact ⟨_, rfl, live (State.upholds_srstPulse width)⟩
  | safOscReady => exact ⟨_, rfl, live State.upholds_oscReady⟩
  | safSelftestDone pass => exact ⟨_, rfl, live (State.upholds_selftestDone pass)⟩
  | pwPresent len => exact ⟨_, rfl, live (State.upholds_pwPresent len)⟩
  | pwClose => exact ⟨_, rfl, live fun u => (State.Upholds.refl u).pwClose⟩
  | pwDerivationDone => exact ⟨_, rfl, live State.upholds_pwDone⟩
  | pwSessionTimeout => exact ⟨_, rfl, live State.upholds_pwTimeout⟩
  | pwRefusalEnd => exact ⟨_, rfl, live State.upholds_pwRefusalEnd⟩
  | spbLoad d data => exact ⟨_, rfl, State.upholds_engine _ (fun x u => State.upholds_spbLoad x data u) d s⟩
  | fwLoad d data => exact ⟨_, rfl, State.upholds_engine _ (fun x u => State.upholds_fwLoad x data u) d s⟩
  | claimRound t other => exact ⟨_, rfl, inCore (State.upholds_claimRound t other)⟩
  | selfCheckFail n => exact ⟨_, rfl, inCore (State.upholds_selfCheckFail n)⟩
  | mgmtWrite off val late => exact ⟨_, rfl, live (State.upholds_mgmtWrite off val late)⟩
  | hotReset => exact ⟨_, rfl, live State.upholds_hotReset⟩
  | coldReset x | supplyDroop x => exact ⟨_, rfl, supplied (State.upholds_cold x)⟩
  | coreWatchdog => exact ⟨_, rfl, live State.upholds_coreWatchdog⟩
  | tokenVerifyDone => exact ⟨_, rfl, live State.upholds_tokenDone⟩
  | keyProg unlock => exact ⟨_, rfl, live (State.upholds_keyProg unlock)⟩
  | keyRevoke => exact ⟨_, rfl, live State.upholds_keyRevoke⟩
  | keyBurnDone => exact ⟨_, rfl, live State.upholds_burnDone⟩
  | fwVerifyDone => exact ⟨_, rfl, live State.upholds_fwVerified⟩
  | fwSwitchDone => exact ⟨_, rfl, live State.upholds_fwSwitched⟩
  | dbgCtlWrite val => exact ⟨_, rfl, live (State.upholds_dbgCtl false _)⟩
  | debugBusAccess write off val =>
    exact ⟨_, rfl, live fun u => (State.upholds_onDev _ u).trans (State.upholds_dbgAccess write _ val _)⟩
  | halt => exact ⟨_, rfl, live State.upholds_halt⟩
  | resume => exact ⟨_, rfl, live State.upholds_resume⟩
  | step => exact ⟨_, rfl, live State.upholds_step1⟩
  | dbgacc level => exact ⟨_, rfl, live (State.upholds_dbgacc level.val)⟩
  | encEdgeAccepted | tiEdge | syncNEdge => exact ⟨_, rfl, State.upholds_atPin _ _ s⟩
  | gainSet | listenWindowOpen | listenWindowClose | lowComparatorTurnOn | highComparatorTurnOn | lowComparatorTurnOff
  | eventTimeLimit | iuArm | iuWindowExpiry | iuGateEnd | zoomSplit | engageComplete | hchFbLoss | hchFreeze | hchTrackErr
  | hchTableSwap | crosslinkDriveWord | holdoffEnd | autoTrigger | plateSetupDone | plateFillDone | rearmDone
  | streamSegmentSkip | auxAutorange | cascTrigMessage | swGo | fltFadeDone | syncCmd | cascSyncMessage | syncInstant
  | hkRoundStart | hkSlotEnd | hkOpen | hkOpenCleared | loopWdog | thmSensorFail | echoCompare | epochReceived
  | stateImageReceived | suspectClr | requal | tickAnnouncement | cascTickMessage | cascSeedMessage | cascAlign
  | cascMasterLost | cascPeerWaitExpiry => exact ⟨_, rfl, State.upholds_inDom _ _ s⟩
  | hkRoundPublish | handover | claimWatchdogExpiry | pairHeartbeatLoss | driveDetection | echoDetection | pairLinkUp | yield
  | cascCtlWrite => exact ⟨_, rfl, State.upholds_inDomVoted _ _ s⟩
  | engage | park | disable | clear | pllLock | pllNoReference | timRefRestored | memTrain | memTrainFail | applyGo
  | applyDiscard | sensorClr | laneAligned | badPacketReceived | ackSend | flowSend | replayTimer | lnkRecovery | retrain
  | lnkLaneDrop | lnkDown | retune | lchReceived | lnkRetuneDone | lnkRetuneFail | adaptFreeze | doorbell | attnSend
  | eventRecordWrite | ringCtlWrite | padRelease | aoTimerWrite | pgLost | chalNew | tokenSubmit | tokenRefusalEnd | lock
  | extest | clamp | highz | samplePreload | idcode | bypass => exact ⟨_, rfl, State.upholds_liveDev _ s⟩
  | servoSample | parkTimeout | eidleExit | voteWrite | entryWindowEnd | wakeSequenceComplete | wakeAttemptTimeout
  | wakeRetryTimer | wakeRetry | drst | aoTimerExpiry | wakeNLow | cascadeActivityWake => exact ⟨_, rfl, powered _⟩
  | memTrainDone | lnkUp | cplReceived | flowReceived | ackReceived | nakReceived | lnkCplTimeout | doorbellPageReadDone
  | descriptorFetchDone => exact ⟨_, rfl, tidied _⟩
  | captureComplete | segmentCommit => exact ⟨_, rfl, inWave _⟩
  | nop | acqStart | acqStop | configApply | streamEcho | histDump | plateArm | plateDrain | calRun | tableLoad
  | powerVote => exact ⟨_, rfl, State.upholds_engineDev _ _ _ s⟩

/-! ## The obligations -/

/-- Without supplies, and after a power-on reset, the island stands as after reset. -/
theorem Island.shaped_reset : ({} : Island).Shaped := ⟨rfl, rfl, nofun, nofun⟩

/-- Settles O58: the two commands that set the island afresh keep queue and fuses; every other one upholds the block
(`exec_upholds`). -/
theorem whatNoCommandUndoes : Obligations.WhatNoCommandUndoes := by
  unfold Obligations.WhatNoCommandUndoes
  intro s t c h
  by_cases hon : ∃ x, c = .powerOnReset x
  · obtain ⟨x, rfl⟩ := hon
    cases h
    exact ⟨rfl, .refl _, fun _ hno => absurd rfl (hno x)⟩
  by_cases hoff : c = .powerOff
  · subst hoff
    cases h
    exact ⟨rfl, .refl _, fun _ _ hno => absurd rfl hno⟩
  obtain ⟨u, hu, hup⟩ := exec_upholds (fun x hx => hon ⟨x, hx⟩) hoff s
  cases hu.symm.trans h
  exact ⟨hup.pending, hup.fuses, fun hi _ _ => hup.isl.internal hi⟩

/-- Settles O57: an empty queue changes nothing, a power-on reset and the loss of supplies leave the island as after reset, and
every other command upholds it (`exec_upholds`). -/
theorem everyStepKeepsTheIslandInShape : Obligations.EveryStepKeepsTheIslandInShape := by
  unfold Obligations.EveryStepKeepsTheIslandInShape
  intro s t hs h
  unfold step at h
  split at h
  next => cases h; exact hs
  next c rest _ =>
    by_cases hon : ∃ x, c = .powerOnReset x
    · obtain ⟨x, rfl⟩ := hon
      cases h
      exact Island.shaped_reset
    by_cases hoff : c = .powerOff
    · subst hoff
      cases h
      exact Island.shaped_reset
    obtain ⟨u, hu, hup⟩ := exec_upholds (fun x hx => hon ⟨x, hx⟩) hoff { s with pending := rest }
    cases hu.symm.trans h
    exact hup.isl.shaped hs

end Sys2Proof.Machine
end

section
/-! The block as a whole: the step and its queue (95), the state right after a power-on reset (16 R476), and LPDDR4X memory (07
R220, R222). -/
namespace Sys2Proof.Machine

/-! ## The step -/

/-- Settles O1: the step looks at the queue alone, by the queue's two cases. -/
theorem stepCarriesOutTheFrontCommand : Obligations.StepCarriesOutTheFrontCommand := by
  unfold Obligations.StepCarriesOutTheFrontCommand
  exact fun s c l => ⟨rfl, rfl⟩

/-! ## Right after reset -/

/-- Without a stored register every offset reads its default. -/
theorem Dev.rd_of_regs_nil {d : Dev} (h : d.regs = []) (off : Nat) : d.rd off = regDflt d.straps.eqSel off := by
  rw [Dev.rd, h]
  rfl

/-- Empty memory holds 0 in every byte. -/
theorem Memory.read_nil (a : Nat) : Memory.read [] a = 0 := rfl

/-- Settles O59: the island as `Island.shaped_reset` says, and every part that the reset state leaves at its default. That memory
holds 0 and that a register without a stated default reads 0 are the model's choices (log 2, 4). -/
theorem resetStartsEverythingAfresh : Obligations.ResetStartsEverythingAfresh := by
  unfold Obligations.ResetStartsEverythingAfresh
  refine ⟨rfl, rfl, rfl, rfl, Island.shaped_reset, rfl, rfl, rfl, rfl, rfl, rfl, rfl, rfl, rfl, rfl, rfl, rfl, rfl, rfl, rfl,
    fun _ => rfl, fun _ => rfl, rfl, State.reset_mem_wf, Memory.read_nil, Dev.rd_of_regs_nil rfl⟩

/-! ## Memory -/

/-- A byte outside those written keeps its value. -/
theorem Memory.read_writeBytes_out (bs : List Byte) (m : List Host.Cell) (a : Nat) {c : Nat} (h : c < a ∨ a + bs.length ≤ c) :
    Memory.read (Memory.writeBytes m a bs) c = Memory.read m c := by
  induction bs generalizing m a with
  | nil => rfl
  | cons b bs ih =>
    rw [List.length_cons] at h
    rw [Memory.writeBytes, ih _ _ (by omega), Memory.read_write, if_neg (by omega)]

/-- A byte written is read back. -/
theorem Memory.read_writeBytes_in (bs : List Byte) (m : List Host.Cell) (a : Nat) {i : Nat} (h : i < bs.length) :
    Memory.read (Memory.writeBytes m a bs) (a + i) = bs.getD i 0 := by
  induction bs generalizing m a i with
  | nil => exact absurd h (Nat.not_lt_zero i)
  | cons b bs ih =>
    rw [Memory.writeBytes]
    cases i with
    | zero => rw [Memory.read_writeBytes_out _ _ _ (.inl (by omega)), Memory.read_write, if_pos (by omega)]; rfl
    | succ i => rw [← Nat.add_assoc, Nat.add_right_comm, ih _ _ (Nat.lt_of_succ_lt_succ h)]; rfl

theorem Memory.readBytes_writeBytes (bs : List Byte) (m : List Host.Cell) (a : Nat) :
    Memory.readBytes (Memory.writeBytes m a bs) a bs.length = bs := by
  refine List.ext_getElem (by simp [Memory.readBytes]) (fun i hi hi' => ?_)
  simp only [Memory.readBytes, List.getElem_map, List.getElem_range]
  rw [Memory.read_writeBytes_in _ _ _ hi', List.getD_eq_getElem _ _ hi']

/-- Settles O60: the canonical form by `Memory.writeBytes_wf`, the bytes by `Memory.read_writeBytes_in` and
`Memory.read_writeBytes_out`. The error mark is per burst by log 100. -/
theorem memoryKeepsItsBytesAndItsForm : Obligations.MemoryKeepsItsBytesAndItsForm := by
  unfold Obligations.MemoryKeepsItsBytesAndItsForm
  exact fun d a bs => ⟨Memory.writeBytes_wf bs a, fun i => Memory.read_writeBytes_in bs _ a,
    fun b => Memory.read_writeBytes_out bs _ a, Memory.readBytes_writeBytes bs _ a, rfl, rfl⟩

end Sys2Proof.Machine
end

section
/-! The island's faults: the first one locks out (12 R343-R345), and each check of the inputs, of the outputs and of the island
itself takes its own (12 R327, R328, R332, R335, R337, R339-R341, R343, R356). -/
namespace Sys2Proof.Machine

/-- An event leaves the domains as they are. -/
theorem Dev.Noted.on {n : Nat} {d e : Dev} (h : d.Noted n e) (k : Nat) : e.on k = d.on k := by
  obtain ⟨honly, -⟩ := h
  unfold Dev.OnlyNotes at honly
  rw [honly]
  rfl

/-! ## The first fault (R343-R345) -/

theorem State.setIsl_of_ne {s : State} {x : IslSt} (h : s.isl.st ≠ x) :
    s.setIsl x = { s with dev := s.dev.raise Ev.SAF_STATE, isl := { s.isl with st := x } } := by
  rw [State.setIsl_eq, decide_eq_true h]
  rfl

/-- Outside RUN no half grants a head. -/
theorem Island.grant_of_st_ne {i : Island} (h : i.st ≠ .run) (w k : Nat) : i.grant w k = false := by
  simp [Island.grant, h]

theorem State.faultNoted_eq (code idx : Nat) (s : State) : s.faultNoted code idx = { s with
    dev := s.dev.raise Ev.SAF_LOCKOUT, isl := (s.isl.latch ⟨code, idx, s.dev.now⟩).countLockout } := rfl

/-- The device after a fault of a running or waiting island: the lock-out and the change of state are noted. -/
def Dev.lockedOut (d : Dev) : Dev := (d.raise Ev.SAF_LOCKOUT).raise Ev.SAF_STATE

/-- A fault of a running or waiting island, in one equation. -/
theorem State.fault_active_eq {s : State} (code idx : Nat) (h : s.isl.st = .run ∨ s.isl.st = .wait) :
    s.fault code idx = { s with dev := s.dev.lockedOut,
                                isl := { (s.isl.latch ⟨code, idx, s.dev.now⟩).countLockout with st := .lockout } } := by
  rw [State.fault_active code idx h, State.setIsl_of_ne]
  · rfl
  · show (s.isl.latch _).st ≠ .lockout
    rw [Island.latch_st]
    rcases h with h | h <;> rw [h] <;> decide

theorem State.internalFault_internal {s : State} (code : Nat) (h : s.isl.st = .internal) : s.internalFault code = s := if_pos h

/-- An internal fault of an island that is not in INTERNAL, in one equation. -/
theorem State.internalFault_eq {s : State} (code : Nat) (h : s.isl.st ≠ .internal) : s.internalFault code = { s with
    dev := (s.dev.raise Ev.SAF_STATE).raise Ev.SAF_INTERNAL,
    isl := { s.isl with st := .internal, intCode := if s.isl.intCode = 0 then code else s.isl.intCode } } := by
  rw [State.internalFault, if_neg h, State.setIsl_of_ne]
  · rfl
  · exact h

/-- Settles O32: the cases of a fault by the state it meets (`State.fault_active_eq`, `State.fault_lockout`,
`State.fault_starting`), and an internal fault by `State.internalFault_eq`. That a fault in START or SELFTEST leaves the state
until the end of the self-test, and that INTERNAL keeps the old cause, are the model's reading (log 67). -/
theorem theFirstFaultLocksOut : Obligations.TheFirstFaultLocksOut := by
  unfold Obligations.TheFirstFaultLocksOut
  intro s code idx hc
  refine ⟨fun hst hf => ?active, fun hst => State.fault_lockout code idx hst, fun hst hf => ?starting, fun hst hf => ?later,
    fun hst => ?internal, fun hst => State.internalFault_internal code hst⟩
  case active =>
    have hlock : s.dev.Noted Ev.SAF_LOCKOUT (s.dev.raise Ev.SAF_LOCKOUT) := Dev.raise_noted hc (by decide)
    rw [State.fault_active_eq code idx hst, Island.latch_none _ hf]
    exact ⟨_, _, rfl, hlock, Dev.raise_noted ((hlock.on domCORE).trans hc) (by decide), rfl, rfl, rfl, rfl, rfl,
      fun k w => Island.grant_of_st_ne IslSt.noConfusion w k⟩
  case starting =>
    rw [State.fault_starting code idx hst, hf, State.faultNoted_eq, Island.latch_none _ hf]
    exact ⟨_, rfl, Dev.raise_noted hc (by decide), rfl, rfl⟩
  case later => rw [State.fault_starting code idx hst, if_pos (Option.isSome_iff_ne_none.mpr hf)]
  case internal =>
    have hstate : s.dev.Noted Ev.SAF_STATE (s.dev.raise Ev.SAF_STATE) := Dev.raise_noted hc (by decide)
    rw [State.internalFault_eq code hst]
    exact ⟨_, _, rfl, hstate, Dev.raise_noted ((hstate.on domCORE).trans hc) (by decide), rfl⟩

/-! ## The checks of the inputs and outputs (R332-R341) -/

/-- Without a fault that is latched a test pulse leaves what was seen of one alone, and the first channel that fails a check
takes the fault. -/
theorem State.testPulse_eq {s : State} {k : Nat} (xs : List (Nat × Nat)) (hf : s.isl.fault = none)
    (hc : s.isl.checking = true) (hk : (tpEnabled s.isl.spb).testBit k = true) :
    s.testPulse k xs = ((List.range 16).find? (s.isl.tpForeign k xs)).elim
      (((List.range 16).find? (s.isl.tpStuck k xs)).elim s (fun c => s.fault 0x02 c))
      (fun c => (((List.range 16).find? (s.isl.tpStuck k xs)).elim s (fun c => s.fault 0x02 c)).fault 0x03 c) := by
  unfold State.testPulse State.onIsl
  rw [if_neg (by simp [hk, hc])]
  simp only [hf]
  cases (List.range 16).find? (s.isl.tpStuck k xs) <;> cases (List.range 16).find? (s.isl.tpForeign k xs) <;> rfl

/-- A search in a range finds nothing where nothing below its bound passes. -/
theorem find?_range_none {n : Nat} {p : Nat → Bool} (h : ∀ i < n, p i = false) : (List.range n).find? p = none :=
  List.find?_eq_none.mpr fun i hi => by simp [h i (List.mem_range.mp hi)]

/-- Bit i of a mask is cleared, and no other. -/
theorem testBit_clrBit (m i j : Nat) : (clrBit m i).testBit j = (m.testBit j && decide (i ≠ j)) := by
  unfold clrBit
  split
  next h =>
    have hodd : m / 2 ^ i % 2 = 1 := by rwa [Nat.testBit_eq_decide_div_mod_eq, decide_eq_true_eq] at h
    have hr : m % 2 ^ i < 2 ^ i := Nat.mod_lt _ (Nat.two_pow_pos i)
    have hm : m = 2 ^ i * (2 * (m / 2 ^ i / 2) + 1) + m % 2 ^ i := by
      rw [show 2 * (m / 2 ^ i / 2) + 1 = m / 2 ^ i by omega, Nat.div_add_mod]
    generalize m / 2 ^ i / 2 = q at hm
    generalize m % 2 ^ i = r at hm hr
    have hsub : m - 1 <<< i = 2 ^ i * (2 * q) + r := by
      rw [hm, Nat.one_shiftLeft, Nat.mul_succ]
      omega
    rw [hsub, hm, Nat.testBit_two_pow_mul_add _ hr, Nat.testBit_two_pow_mul_add _ hr]
    split
    next hlt => simp [Nat.ne_of_gt hlt]
    next hge =>
      obtain ⟨k, hk⟩ := Nat.exists_eq_add_of_le (Nat.le_of_not_lt hge)
      rw [hk, Nat.add_sub_cancel_left]
      cases k with
      | zero => simp
      | succ k => simp [Nat.testBit_succ, Nat.mul_add_div]
  next h =>
    by_cases hij : i = j
    · subst hij
      simp [h]
    · simp [hij]

/-- Clearing bits one after the other, each where a test passes, leaves the others alone. -/
theorem testBit_foldl_clrBit (p : Nat → Bool) (l : List Nat) (m i : Nat) :
    (l.foldl (fun m h => if p h then clrBit m h else m) m).testBit i = (m.testBit i && !(decide (i ∈ l) && p i)) := by
  induction l generalizing m with
  | nil => simp
  | cons h l ih =>
    rw [List.foldl_cons, ih]
    by_cases hp : p h
    · by_cases hi : i = h
      · subst hi
        simp [hp, testBit_clrBit]
      · simp [hp, testBit_clrBit, hi, Ne.symm hi]
    · by_cases hi : i = h
      · subst hi
        simp [hp]
      · simp [hp, hi]

/-- STALL_CLR clears the stalls of the heads of its mask that move. -/
theorem State.stallClear_testBit (mask : Word) (s : State) (h : Fin 4) : (s.stallClear mask.toNat).isl.stall.testBit h
    = (s.isl.stall.testBit h && !(bit mask h && s.headMoves h)) := by
  show ((List.range 4).foldl (fun m h => if mask.toNat.testBit h && s.headMoves h then clrBit m h else m) s.isl.stall).testBit h = _
  rw [testBit_foldl_clrBit (fun h => mask.toNat.testBit h && s.headMoves h)]
  simp [bit]

/-- The monitor's samples kept, at their instant. -/
def State.monitored (h a : Nat) (t : Time) (m : Mon) (s : State) : State :=
  { s with dev := s.dev.at t, isl := { s.isl with mon := tabPut {} s.isl.mon (2 * h + a) m } }

/-- The samples of a monitored axis; a stall among them is latched. -/
theorem State.scanStall_monitored {s : State} {h a : Nat} (t : Time) (xs : List (List Int × Bool))
    (hm : axisMonitored s.isl.spb h a = true) :
    let r := Mon.run (monCarrier s.isl.spb h) (scanDelta s.isl.spb h) (scanWin s.isl.spb h) (t - 10 * us * (xs.length - 1)) xs
      (tabGet {} s.isl.mon (2 * h + a))
    s.scanStall h a t xs = if r.1 then (s.monitored h a t r.2).stallLatch h else s.monitored h a t r.2 := by
  unfold State.scanStall
  dsimp only
  rw [if_neg (by simp [hm])]
  rfl

/-- The stall of a head that is latched now. -/
theorem State.stallLatch_new {s : State} {h : Nat} (hs : s.isl.stall.testBit h = false) : s.stallLatch h =
    (let n := { s with dev := s.dev.raise (Ev.SAF_STALL h), isl := { s.isl with stall := setBit s.isl.stall h } }
     if stallAction s.isl.spb then n.fault 0x08 h else n) := by
  rw [State.stallLatch, if_neg (by simp [hs])]
  rfl

/-- What a sample does to the monitor, whether it is a motion or not (`Mon.sample_motion`, `Mon.sample_still`). -/
theorem Mon.sample_cases (carrier : Bool) (delta : Nat) (t : Time) (vs : List Int) (fired : Bool) (x : Mon) :
    let y := x.sample carrier delta t vs fired
    (65536 * delta < (y.m - x.ref).natAbs → y.ref = y.m ∧ y.timer = 0 ∧ y.moved = t + 1)
    ∧ ((y.m - x.ref).natAbs ≤ 65536 * delta →
        y.ref = x.ref ∧ y.moved = x.moved ∧ y.timer = (if fired then x.timer + 10 else 0))
    ∧ y.m = monValue carrier x.m vs := by
  intro y
  have hm : y.m = monValue carrier x.m vs := rfl
  refine ⟨fun h => ?motion, fun h => ?still, hm⟩
  case motion =>
    have hy : y = _ := Mon.sample_motion (hm ▸ h)
    rw [hy]
    exact ⟨rfl, rfl, rfl⟩
  case still =>
    have hy : y = _ := Mon.sample_still (hm ▸ Nat.not_lt_of_le h)
    rw [hy]
    exact ⟨rfl, rfl, rfl⟩

/-- Settles O33: each check by its own function, the test pulse by `State.testPulse_eq`, the scan monitor by
`State.scanStall_monitored`, `State.stallLatch_new` and `Mon.sample_cases`, STALL_CLR by `State.stallClear_testBit`. That the
discrepancy is taken one millisecond early is log 64, m and the judgement of STALL_CLR are log 65, the read-backs' timing log 103. -/
theorem inputAndOutputChecksTakeTheirFaults : Obligations.InputAndOutputChecksTakeTheirFaults := by
  unfold Obligations.InputAndOutputChecksTakeTheirFaults
  intro s ha
  have live (f : State → State) : (Host.Outcome.next (s.live f) : Res) = .next (f s) := congrArg _ (State.live_pos ha f)
  refine ⟨fun w p => ?disc, fun k xs hf hc hk => ?pulse, fun k xs h => ?noPulse, fun k differ hc hd => ?tp,
    fun k w level hc ht => ?so, fun h w level hc => ?len, fun k w low high hon hoff hd => ?offtest,
    fun h a t xs hm => ?scan, fun h a t xs hm => ?noScan, fun mask => ?clear, fun carrier delta t vs fired x => ?sample⟩
  case disc =>
    refine (live _).trans ?_
    simp only [State.discrepancy, Bool.and_eq_true, decide_eq_true_eq]
  case pulse =>
    have hexec : exec (.testPulse k xs) s = .next (s.testPulse k xs) := live _
    rw [hexec, State.testPulse_eq xs hf hc hk]
    refine ⟨fun c hst hfo => ?_, fun c hst hfo => ?_, fun hno => ?_⟩
    · rw [show (List.range 16).find? (s.isl.tpStuck k xs) = some c from hst,
        show (List.range 16).find? (s.isl.tpForeign k xs) = none from find?_range_none hfo]
      rfl
    · rw [show (List.range 16).find? (s.isl.tpStuck k xs) = none from find?_range_none hst,
        show (List.range 16).find? (s.isl.tpForeign k xs) = some c from hfo]
      rfl
    · rw [show (List.range 16).find? (s.isl.tpStuck k xs) = none from find?_range_none fun n hn => (hno n hn).1,
        show (List.range 16).find? (s.isl.tpForeign k xs) = none from find?_range_none fun n hn => (hno n hn).2]
      rfl
  case noPulse =>
    refine (live _).trans (congrArg _ (if_pos ?_))
    rcases h with h | h <;> simp [h]
  case tp =>
    refine (live _).trans (congrArg _ (if_neg ?_))
    simp [hc, hd]
  case so =>
    refine (live _).trans (congrArg _ ((if_neg ?_).trans (if_congr ?_ rfl rfl)))
    · simp [hc, ht]
    · simp
  case len =>
    refine (live _).trans (congrArg _ ((if_neg ?_).trans (if_congr ?_ rfl rfl)))
    · simp [hc]
    · simp
  case offtest =>
    refine (live _).trans (congrArg _ ((if_neg ?_).trans (if_congr ?_ rfl rfl)))
    · simp [hon, hoff, hd]
    · simp
  case scan =>
    have hexec : exec (.scanStall h a t xs) s = .next (s.scanStall h a t xs) := live _
    rw [hexec, State.scanStall_monitored t xs hm]
    dsimp only
    generalize Mon.run (monCarrier s.isl.spb h) (scanDelta s.isl.spb h) (scanWin s.isl.spb h) (t - 10 * us * (xs.length - 1)) xs
      (tabGet {} s.isl.mon (2 * h + a)) = r
    refine ⟨fun hno => ?_, fun hr hst hcore => ?_⟩
    · cases hr : r.1 with
      | false => rfl
      | true => exact congrArg _ (if_pos (hno.resolve_left (by simp [hr])))
    · refine ⟨_, Dev.raise_noted ((Dev.at_on s.dev t domCORE).trans hcore) ?_, ?_⟩
      · unfold Ev.SAF_STALL
        omega
      · rw [if_pos hr, State.stallLatch_new (s := s.monitored h a t r.2) hst]
        rfl
  case noScan => exact (live _).trans (congrArg _ (if_pos (by simp [hm])))
  case clear => exact ⟨_, live _, s.stallClear_testBit mask⟩
  case sample =>
    obtain ⟨hmotion, hstill, hm⟩ := Mon.sample_cases carrier delta t vs fired x
    refine ⟨hmotion, hstill, fun v hv hcarrier => ?_⟩
    rw [hm, hcarrier]
    simp [monValue, hv]

/-! ## The island's checks of itself (R327, R328, R343, R356) -/

/-- A half reads the half that was stored. -/
@[simp] theorem Island.half_setHalf (i : Island) (w : Nat) (x : Half) : (i.setHalf w x).half w = x := by
  unfold Island.setHalf Island.half
  split <;> rfl

/-- Storing a half leaves the other one alone. -/
theorem Island.half_setHalf_ne (i : Island) {v w : Nat} (x : Half) (hv : v < 2) (hw : w < 2) (h : v ≠ w) :
    (i.setHalf w x).half v = i.half v := by
  unfold Island.setHalf Island.half
  by_cases hw0 : w = 0
  · rw [if_pos hw0, if_neg (by omega), if_neg (by omega)]
  · rw [if_neg hw0, if_pos (by omega), if_pos (by omega)]

/-- Of the island, nothing but a half differs. -/
theorem Island.setHalf_eq (i : Island) (w : Nat) (x : Half) :
    i.setHalf w x = { i with sp := (i.setHalf w x).sp, hwl := (i.setHalf w x).hwl } := by
  unfold Island.setHalf
  split <;> rfl

/-- Discrepancy looks at the block in force and at the readings alone. -/
theorem Island.discRuns_congr {i j : Island} {w p : Nat} (hspb : j.spb = i.spb) (ha : ((j.half w).guard p).a = ((i.half w).guard p).a)
    (hb : ((j.half w).guard p).b = ((i.half w).guard p).b) : j.discRuns w p = i.discRuns w p := by
  simp only [Island.discRuns, hspb, ha, hb]

/-- Each half watches its eight pairs. -/
theorem Island.Shaped.guards_length {i : Island} (h : i.Shaped) (w : Nat) : (i.half w).guards.length = 8 := by
  obtain ⟨hsp, hhwl, -, -⟩ := h
  unfold Island.half
  split
  · exact hsp
  · exact hhwl

/-- One millisecond of a guard: its discrepancy counts or starts again. -/
theorem Island.guard_stepDisc {i : Island} {w p : Nat} (hp : p < (i.half w).guards.length) : ((i.stepDisc w).half w).guard p
    = { (i.half w).guard p with discMs := if i.discRuns w p then ((i.half w).guard p).discMs + 1 else 0 } := by
  simp [Island.stepDisc, Half.guard, List.getD_eq_getElem?_getD, hp]

/-- A millisecond of one half leaves the other one alone. -/
theorem Island.half_stepDisc_ne (i : Island) {v w : Nat} (hv : v < 2) (hw : w < 2) (h : v ≠ w) :
    (i.stepDisc w).half v = i.half v :=
  i.half_setHalf_ne _ hv hw h

theorem Island.stepDisc_eq (i : Island) (w : Nat) :
    i.stepDisc w = { i with sp := (i.stepDisc w).sp, hwl := (i.stepDisc w).hwl } := i.setHalf_eq w _

/-- The island a millisecond later, `n` exchanges in a row having shown a difference. -/
def Island.exchanged (n : Nat) (i : Island) : Island := { (i.stepDisc 0).stepDisc 1 with differ := n }

/-- In a millisecond without a discrepancy every counter of a half starts again. -/
theorem Island.exchanged_guard {i : Island} (n : Nat) (hs : i.Shaped) (hno : ∀ (w : Fin 2) (p : Fin 8), i.discRuns w p = false)
    (w : Fin 2) (p : Fin 8) : ((i.exchanged n).half w).guard p = { (i.half w).guard p with discMs := 0 } := by
  have hlen : ∀ v, p.val < (i.half v).guards.length := fun v => by rw [hs.guards_length v]; exact p.isLt
  show ((((i.stepDisc 0).stepDisc 1).half w).guard p) = _
  match w with
  | 0 =>
    show ((((i.stepDisc 0).stepDisc 1).half 0).guard p) = _
    rw [Island.half_stepDisc_ne _ (by decide) (by decide) (by decide), Island.guard_stepDisc (hlen 0),
      show i.discRuns 0 p = false from hno 0 p]
    rfl
  | 1 =>
    have hsame : (i.stepDisc 0).half 1 = i.half 1 := i.half_stepDisc_ne (by decide) (by decide) (by decide)
    have hrun : (i.stepDisc 0).discRuns 1 p = false :=
      (Island.discRuns_congr (by rw [Island.stepDisc_eq]) (by rw [hsame]) (by rw [hsame])).trans (hno 1 p)
    show ((((i.stepDisc 0).stepDisc 1).half 1).guard p) = _
    rw [Island.guard_stepDisc (by rw [hsame]; exact hlen 1), hrun, hsame]
    rfl

theorem Island.exchanged_eq (n : Nat) (i : Island) :
    i.exchanged n = { i with sp := (i.exchanged n).sp, hwl := (i.exchanged n).hwl, differ := n } := by
  unfold Island.exchanged
  rw [Island.stepDisc_eq (i.stepDisc 0) 1, Island.stepDisc_eq i 0]

/-- An exchange without a discrepancy counts differences and steps the counters, and nothing else. -/
theorem State.safetyExchange_calm {s : State} (hs : s.isl.Shaped) (hno : ∀ (w : Fin 2) (p : Fin 8), s.isl.discRuns w p = false) :
    s.safetyExchange = { s with isl := s.isl.exchanged (if s.halvesDiffer then s.isl.differ + 1 else 0) } := by
  unfold State.safetyExchange
  refine List.foldlRecOn (motive := fun t => t = { s with isl := s.isl.exchanged (if s.halvesDiffer then s.isl.differ + 1 else 0) })
    (List.range 8) _ rfl (fun t ht p hp => ?_)
  have hlt : p < 8 := List.mem_range.mp hp
  rw [if_neg]
  · exact ht
  · rw [ht]
    simp only [List.any_eq_true, List.mem_range, Bool.and_eq_true, not_exists, not_and]
    intro w hw hrun
    have hguard := Island.exchanged_guard (if s.halvesDiffer then s.isl.differ + 1 else 0) hs hno ⟨w, hw⟩ ⟨p, hlt⟩
    have hcalm : (s.isl.exchanged (if s.halvesDiffer then s.isl.differ + 1 else 0)).discRuns w p = s.isl.discRuns w p :=
      Island.discRuns_congr (by rw [Island.exchanged_eq]) (by rw [hguard]) (by rw [hguard])
    rw [hcalm, hno ⟨w, hw⟩ ⟨p, hlt⟩] at hrun
    exact absurd hrun Bool.false_ne_true

/-- Settles O34: each check is its internal fault or nothing; the self-test by the state it ends in, and the exchange by
`State.safetyExchange_calm`. That a disagreement is taken at five exchanges is log 61, and that SPB_CRC is idle under the
defaults log 72. -/
theorem islandChecksOfItself : Obligations.IslandChecksOfItself := by
  unfold Obligations.IslandChecksOfItself
  intro s ha
  have live (f : State → State) : (Host.Outcome.next (s.live f) : Res) = .next (f s) := congrArg _ (State.live_pos ha f)
  refine ⟨fun hup hh hhb hfw => ?beat, fun h => ?noBeat, ?disagree, ?osc, ?ram, live _, fun hd hup => ?crc, fun h => ?noCrc,
    fun hst hc => ?oscReady, fun hst => ?notStart, fun hst hc => ?passed, fun hst => ?failed, fun pass hst => ?noTest,
    fun hs hno => ?exchange⟩
  case beat =>
    refine (live _).trans (congrArg _ (if_neg ?_))
    simp [hup, hh, hfw, Nat.not_lt_of_le hhb]
  case noBeat =>
    refine (live _).trans (congrArg _ (if_pos ?_))
    rcases h with h | h | h | h
    · simp [h]
    · simp [h]
    · simp [h]
    · simp [Option.isSome_iff_ne_none.mpr h]
  case disagree => exact (live _).trans (congrArg _ (if_congr (by simp) rfl rfl))
  case osc => exact (live _).trans (congrArg _ (ite_not _ _ _))
  case ram => exact (live _).trans (congrArg _ (ite_not _ _ _))
  case crc => exact (live _).trans (congrArg _ (if_neg (by simp [hd, hup])))
  case noCrc =>
    refine (live _).trans (congrArg _ (if_pos ?_))
    rcases h with h | h <;> simp [h]
  case oscReady =>
    have hhold : s.dev.pwr.shutHold = false := by simp [State.alive] at ha; exact ha.2
    have hexec : exec .safOscReady s = .next s.oscReady := live _
    rw [hexec, State.oscReady, if_pos (by simp [hst, hhold]), State.setIsl_of_ne (by rw [hst]; decide)]
    exact ⟨_, rfl, Dev.raise_noted hc (by decide)⟩
  case notStart => exact (live _).trans (congrArg _ (if_neg (by simp [hst])))
  case passed =>
    have hexec : exec (.safSelftestDone true) s = .next (s.selftestDone true) := live _
    have hne : s.isl.st ≠ (if s.isl.fault.isSome then IslSt.lockout else .wait) := by rw [hst]; split <;> decide
    have hpass : s.selftestDone true = (s.onDev fun d => { d with answered := true }).setIsl
        (if s.isl.fault.isSome then .lockout else .wait) := (if_neg (not_not.mpr hst)).trans (if_neg (by decide))
    rw [hexec, hpass, State.setIsl_of_ne (s := s.onDev fun d => { d with answered := true }) hne]
    exact ⟨_, rfl, Dev.raise_noted hc (by decide)⟩
  case failed => exact (live _).trans (congrArg _ ((if_neg (not_not.mpr hst)).trans (if_pos rfl)))
  case noTest => exact (live _).trans (congrArg _ (if_pos hst))
  case exchange =>
    have hexec : exec .safetyExchange s = .next s.safetyExchange := live _
    rw [hexec, State.safetyExchange_calm hs hno]
    refine ⟨_, rfl, ?_, ?_, ?_, ?_, Island.exchanged_guard _ hs hno⟩ <;> rw [Island.exchanged_eq]

end Sys2Proof.Machine
end

section
/-! What noting an event leaves alone, whether CORE is powered or not (15 R452, R459; 16 R478), and shared steps on the state. -/
namespace Sys2Proof.Machine

/-- An occurrence changes registers, pending records and the events that wait for CORE, and nothing else. -/
theorem Dev.raise_changes (d : Dev) (n : Nat) : d.raise n = { d with
    regs := (d.raise n).regs, evt := { d.evt with pend := (d.raise n).evt.pend }, pwr := { d.pwr with lateEv := (d.raise n).pwr.lateEv } } := by
  unfold Dev.raise
  dsimp only
  split
  · rfl
  · split <;> rfl

@[simp] theorem Dev.raise_bite (d : Dev) (n : Nat) : (d.raise n).bite = d.bite := by rw [Dev.raise_changes]
@[simp] theorem Dev.raise_lnk (d : Dev) (n : Nat) : (d.raise n).lnk = d.lnk := by rw [Dev.raise_changes]
@[simp] theorem Dev.raise_dsc (d : Dev) (n : Nat) : (d.raise n).dsc = d.dsc := by rw [Dev.raise_changes]
@[simp] theorem Dev.raise_brn (d : Dev) (n : Nat) : (d.raise n).brn = d.brn := by rw [Dev.raise_changes]
@[simp] theorem Dev.raise_hch (d : Dev) (n : Nat) : (d.raise n).hch = d.hch := by rw [Dev.raise_changes]
@[simp] theorem Dev.raise_afe (d : Dev) (n : Nat) : (d.raise n).afe = d.afe := by rw [Dev.raise_changes]
@[simp] theorem Dev.raise_tim (d : Dev) (n : Nat) : (d.raise n).tim = d.tim := by rw [Dev.raise_changes]
@[simp] theorem Dev.raise_stp (d : Dev) (n : Nat) : (d.raise n).stp = d.stp := by rw [Dev.raise_changes]
@[simp] theorem Dev.raise_wave (d : Dev) (n : Nat) : (d.raise n).wave = d.wave := by rw [Dev.raise_changes]
@[simp] theorem Dev.raise_hkp (d : Dev) (n : Nat) : (d.raise n).hkp = d.hkp := by rw [Dev.raise_changes]
@[simp] theorem Dev.raise_thm (d : Dev) (n : Nat) : (d.raise n).thm = d.thm := by rw [Dev.raise_changes]
@[simp] theorem Dev.raise_mdv (d : Dev) (n : Nat) : (d.raise n).mdv = d.mdv := by rw [Dev.raise_changes]
@[simp] theorem Dev.raise_prf (d : Dev) (n : Nat) : (d.raise n).prf = d.prf := by rw [Dev.raise_changes]
@[simp] theorem Dev.raise_straps (d : Dev) (n : Nat) : (d.raise n).straps = d.straps := by rw [Dev.raise_changes]
@[simp] theorem Dev.raise_free (d : Dev) (n : Nat) : (d.raise n).free = d.free := by rw [Dev.raise_changes]
@[simp] theorem Dev.raise_answered (d : Dev) (n : Nat) : (d.raise n).answered = d.answered := by rw [Dev.raise_changes]
@[simp] theorem Dev.raise_on (d : Dev) (n k : Nat) : (d.raise n).on k = d.on k := by rw [Dev.raise_changes]; rfl
@[simp] theorem Dev.raise_now (d : Dev) (n : Nat) : (d.raise n).now = d.now := by rw [Dev.raise_changes]; rfl
@[simp] theorem Dev.raise_domains (d : Dev) (n : Nat) : (d.raise n).pwr.domains = d.pwr.domains := by rw [Dev.raise_changes]

@[simp] theorem Dev.raiseIf_on (d : Dev) (c : Bool) (n k : Nat) : (d.raiseIf c n).on k = d.on k := by
  cases c with
  | false => rfl
  | true => exact d.raise_on n k

/-- A change that leaves the device as it was leaves the block as it was. -/
theorem State.onDev_id {f : Dev → Dev} {s : State} (h : f s.dev = s.dev) : s.onDev f = s := by
  rw [State.onDev, h]

/-- Entering an island state leaves the domains powered. -/
@[simp] theorem State.setIsl_on (x : IslSt) (s : State) (k : Nat) : (s.setIsl x).dev.on k = s.dev.on k := by
  rw [State.setIsl_eq]
  exact Dev.raiseIf_on _ _ _ _

end Sys2Proof.Machine
end

section
/-! Guard readings and restart pulses (12 R330, R331, R333, R334, R346): what re-evaluating a pair in one half changes, and with it
a sample of a guard input and a pulse at SRST_N. -/
namespace Sys2Proof.Machine

/-! ## Guards of a half -/

theorem setAt_getD_same {α : Type} (l : List α) {i : Nat} (h : i < l.length) (v d : α) : (setAt l i v).getD i d = v := by
  induction l generalizing i with
  | nil => exact absurd h (Nat.not_lt_zero i)
  | cons x l ih =>
    cases i with
    | zero => rfl
    | succ i => exact ih (Nat.lt_of_succ_lt_succ h)

theorem setAt_getD_ne {α : Type} (l : List α) {i j : Nat} (h : j ≠ i) (v d : α) : (setAt l i v).getD j d = l.getD j d := by
  induction l generalizing i j with
  | nil => rfl
  | cons x l ih =>
    cases i <;> cases j
    · exact absurd rfl h
    · rfl
    · rfl
    · exact ih (fun hj => h (congrArg Nat.succ hj))

theorem Half.guard_put_same {x : Half} {p : Nat} (h : p < x.guards.length) (g : Guard) : (x.put p g).guard p = g :=
  setAt_getD_same _ h _ _

theorem Half.guard_put_ne (x : Half) {p q : Nat} (h : q ≠ p) (g : Guard) : (x.put p g).guard q = x.guard q :=
  setAt_getD_ne _ h _ _

/-- Storing a guard leaves the guards of the other pairs and of the other half alone. -/
theorem Island.guard_put_ne (i : Island) {v w p q : Nat} (hv : v < 2) (hw : w < 2) (h : v ≠ w ∨ q ≠ p) (g : Guard) :
    ((i.setHalf w ((i.half w).put p g)).half v).guard q = (i.half v).guard q := by
  by_cases hvw : v = w
  · rw [hvw, Island.half_setHalf, Half.guard_put_ne _ (h.resolve_left (not_not.mpr hvw))]
  · rw [Island.half_setHalf_ne _ _ hv hw hvw]

theorem Island.guard_put_same {i : Island} {w p : Nat} (h : p < (i.half w).guards.length) (g : Guard) :
    ((i.setHalf w ((i.half w).put p g)).half w).guard p = g := by
  rw [Island.half_setHalf, Half.guard_put_same h]

/-! ## Re-evaluating a pair -/

/-- The guard of a pair after it was re-evaluated with readings changed by `f`. -/
def State.evaluated (w i : Nat) (f : Guard → Guard) (s : State) : Guard :=
  (f ((s.isl.half w).guard i)).eval (pairEn s.isl.spb i) (pairAnti s.isl.spb i) (pairRestart s.isl.spb i)

/-- Re-evaluating a pair stores its guard and counts a demand that begins. -/
theorem State.guardEval_isl (w i : Nat) (f : Guard → Guard) (s : State) : ∃ c, (s.guardEval w i f).isl
    = { s.isl.setHalf w ((s.isl.half w).put i (s.evaluated w i f)) with demandCnt := c } := by
  unfold State.guardEval
  dsimp only
  split
  · exact ⟨_, rfl⟩
  · split <;> exact ⟨_, rfl⟩

@[simp] theorem State.guardEval_fuses (w i : Nat) (f : Guard → Guard) (s : State) : (s.guardEval w i f).fuses = s.fuses := by
  unfold State.guardEval
  dsimp only
  split
  · rfl
  · split <;> rfl

/-- What re-evaluating pair `i` of half `w` leaves of an island. -/
structure Island.Reevaluated (w i : Nat) (s t : Island) : Prop where
  st : t.st = s.st
  spb : t.spb = s.spb
  fault : t.fault = s.fault
  guards : ∀ v, (t.half v).guards.length = (s.half v).guards.length
  others : ∀ {v j : Nat}, v < 2 → w < 2 → v ≠ w ∨ j ≠ i → (t.half v).guard j = (s.half v).guard j

theorem Island.reevaluated_put (s : Island) (w i : Nat) (g : Guard) :
    Island.Reevaluated w i s (s.setHalf w ((s.half w).put i g)) := by
  have hlen : ((s.half w).put i g).guards.length = (s.half w).guards.length := setAt_length _ _ _
  refine ⟨?_, ?_, ?_, fun v => ?_, fun hv hw h => Island.guard_put_ne s hv hw h g⟩
  iterate 3 rw [Island.setHalf_eq]
  unfold Island.setHalf Island.half at *
  split <;> split <;> simp_all

theorem State.guardEval_reevaluated (w i : Nat) (f : Guard → Guard) (s : State) :
    Island.Reevaluated w i s.isl (s.guardEval w i f).isl := by
  obtain ⟨c, hc⟩ := s.guardEval_isl w i f
  have hput := Island.reevaluated_put s.isl w i (s.evaluated w i f)
  rw [hc]
  exact ⟨hput.st, hput.spb, hput.fault, hput.guards, hput.others⟩

theorem State.guardEval_guard {w i : Nat} (f : Guard → Guard) {s : State} (h : i < (s.isl.half w).guards.length) :
    ((s.guardEval w i f).isl.half w).guard i = s.evaluated w i f := by
  obtain ⟨c, hc⟩ := s.guardEval_isl w i f
  rw [hc]
  exact Island.guard_put_same h _

/-! ## A sample of a guard input (R330, R334) -/

/-- The sample is masked by the test output that the channel is assigned to. -/
def InFilter.masked (assigned tp : Bool) (x : InFilter) : Bool := assigned && (!tp || decide (0 < x.mask))

/-- The samples left of the mask after a sample. -/
def InFilter.maskNext (assigned tp : Bool) (x : InFilter) : Nat := if assigned && !tp then 10 else x.mask - 1

/-- Unless the channel's reading changes, a sample changes its filter alone. -/
theorem InFilter.sample_keeps {f : Nat} {assigned acc closed tp : Bool} {x : InFilter}
    (h : closed = acc ∨ 10 * x.run < max f 10 ∨ x.masked assigned tp = true) :
    ∃ n, InFilter.sample f assigned acc closed tp x = (false, { run := n, mask := x.maskNext assigned tp })
      ∧ (x.masked assigned tp = false → n = if closed = acc then 0 else x.run + 1) := by
  unfold InFilter.sample
  dsimp only
  split
  next hm => exact ⟨_, rfl, fun hn => absurd (hm.symm.trans hn) (by decide)⟩
  next hm =>
    split
    next hc => exact ⟨_, rfl, fun _ => rfl⟩
    next hc =>
      have hrun : ¬ max f 10 ≤ 10 * x.run := not_le.mpr ((h.resolve_left hc).resolve_right hm)
      exact ⟨_, by rw [decide_eq_false hrun]; rfl, fun _ => rfl⟩

/-- A new level that has lasted, read by a sample that is not masked, is accepted. -/
theorem InFilter.sample_changes {f : Nat} {assigned acc closed tp : Bool} {x : InFilter} (hc : closed ≠ acc)
    (hrun : max f 10 ≤ 10 * x.run) (hm : x.masked assigned tp = false) :
    (InFilter.sample f assigned acc closed tp x).1 = true := by
  unfold InFilter.masked at hm
  simp [InFilter.sample, hm, hc, hrun]

/-- Whether a sample of a channel of pair `i` is masked, by the pair's class. -/
theorem masked_eq_false {t : Tab Word} {i : Nat} {tp : Bool} {x : InFilter}
    (h : pairClass t i < 2 ∨ (tp = true ∧ x.mask = 0)) : x.masked (pairTested t i) tp = false := by
  unfold InFilter.masked pairTested
  rcases h with h | ⟨htp, hmask⟩
  · simp [show ¬ 2 ≤ pairClass t i by omega]
  · simp [htp, hmask]

theorem masked_eq_true {t : Tab Word} {i : Nat} {tp : Bool} {x : InFilter}
    (hc : 2 ≤ pairClass t i) (h : tp = false ∨ 0 < x.mask) : x.masked (pairTested t i) tp = true := by
  unfold InFilter.masked pairTested
  rcases h with h | h <;> simp [hc, h]

/-- The filter of a channel (0 A, 1 B) of a guard. -/
def Guard.filter (ch : Nat) (g : Guard) : InFilter := if ch = 0 then g.fa else g.fb

/-- The accepted reading of a channel of a guard. -/
def Guard.reading (ch : Nat) (g : Guard) : Bool := if ch = 0 then g.a else g.b

/-- A guard with another filter of a channel. -/
def Guard.withFilter (ch : Nat) (y : InFilter) (g : Guard) : Guard := if ch = 0 then { g with fa := y } else { g with fb := y }

/-- A guard whose channel is accepted with a new reading. -/
def Guard.accept (ch : Nat) (closed : Bool) (g : Guard) : Guard :=
  if ch = 0 then { g with a := closed, fa := { g.fa with run := 0 } } else { g with b := closed, fb := { g.fb with run := 0 } }

@[simp] theorem Guard.reading_withFilter (ch : Nat) (y : InFilter) (g : Guard) : (g.withFilter ch y).reading ch = g.reading ch := by
  unfold Guard.withFilter Guard.reading
  split <;> rfl

/-- The state with another filter of a channel. -/
def State.filtered (w i ch : Nat) (y : InFilter) (s : State) : State :=
  s.onIsl fun isl => isl.setHalf w ((isl.half w).put i (((isl.half w).guard i).withFilter ch y))

/-- The sample that pair `i` of half `w` takes at a channel. -/
def State.sampled (w i ch : Nat) (s : State) (x : Bool × Bool) : Bool × InFilter :=
  InFilter.sample (pairFilter s.isl.spb i) (pairTested s.isl.spb i) (((s.isl.half w).guard i).reading ch) x.1 x.2
    (((s.isl.half w).guard i).filter ch)

theorem State.guardSample_eq (w i ch : Nat) (s : State) (x : Bool × Bool) : s.guardSample w i ch x =
    if (s.sampled w i ch x).1 then (s.filtered w i ch (s.sampled w i ch x).2).guardInput w i ch x.1
    else s.filtered w i ch (s.sampled w i ch x).2 := rfl

/-- A sample that accepts no change stores the channel's filter and nothing else. -/
theorem State.guardStep_keeps {w i ch : Nat} {s : State} {x : Bool × Bool} {y : InFilter}
    (hi : i < (s.isl.half w).guards.length) (h : s.sampled w i ch x = (false, y)) :
    s.guardStep w i ch x = s.filtered w i ch y := by
  have ht : s.guardSample w i ch x = s.filtered w i ch y := by rw [State.guardSample_eq, h]; rfl
  have hread : (s.filtered w i ch y).guardRead w i ch = s.guardRead w i ch := by
    show (((s.filtered w i ch y).isl.half w).guard i).reading ch = ((s.isl.half w).guard i).reading ch
    rw [show ((s.filtered w i ch y).isl.half w).guard i = ((s.isl.half w).guard i).withFilter ch y from
      Island.guard_put_same hi _, Guard.reading_withFilter]
  unfold State.guardStep
  dsimp only
  rw [ht, hread, if_neg (by simp)]

/-- A command of the power controller changes the island's sessions alone. -/
theorem State.power_isl (f : Dev → Dev) (s : State) : ∃ p, (s.power f).isl = { s.isl with pw := p } := by
  unfold State.power State.settle
  dsimp only
  split <;> split <;> split <;> exact ⟨_, rfl⟩

@[simp] theorem State.power_fuses (f : Dev → Dev) (s : State) : (s.power f).fuses = s.fuses := by
  unfold State.power State.settle
  dsimp only
  split <;> split <;> split <;> rfl

/-- A sample that accepts a change re-evaluates the pair with the new reading, which may be a wake. -/
theorem State.guardStep_changes {w i ch : Nat} {s : State} {x : Bool × Bool} (h : (s.sampled w i ch x).1 = true) :
    let t := (s.filtered w i ch (s.sampled w i ch x).2).guardInput w i ch x.1
    ∃ p, (s.guardStep w i ch x).isl = { t.isl with pw := p } ∧ (s.guardStep w i ch x).fuses = t.fuses := by
  intro t
  have ht : s.guardSample w i ch x = t := by rw [State.guardSample_eq, if_pos h]
  unfold State.guardStep
  dsimp only
  rw [ht]
  split
  · obtain ⟨p, hp⟩ := t.power_isl fun d => d.edgeWake 5 d.wakeSet
    exact ⟨p, hp, t.power_fuses _⟩
  · exact ⟨_, rfl, rfl⟩

/-! ## What evaluation makes of a pair's readings (R331) -/

@[simp] theorem Guard.eval_a (en anti r : Bool) (g : Guard) : (g.eval en anti r).a = g.a := by
  unfold Guard.eval
  split <;> rfl

@[simp] theorem Guard.eval_b (en anti r : Bool) (g : Guard) : (g.eval en anti r).b = g.b := by
  unfold Guard.eval
  split <;> rfl

/-- An open channel puts an enabled pair in demand. -/
theorem Guard.eval_open {g : Guard} (r : Bool) (h : g.a = false ∨ g.b = false) :
    (g.eval true false r).demand = true ∧ (g.eval true false r).wait = false := by
  rcases h with h | h <;> simp [Guard.eval, h]

/-- With both channels closed a demand ends, or waits for the restart pulse, once both have shown it. -/
theorem Guard.eval_closed {g : Guard} (r : Bool) (ha : g.a = true) (hb : g.b = true) (hd : g.demand = true) :
    (g.eval true false r).demand = (r || !g.both) ∧ (g.eval true false r).wait = (r && g.both) := by
  cases r <;> cases hboth : g.both <;> simp [Guard.eval, ha, hb, hd, hboth]

/-- With both channels closed a pair out of demand stays out of it. -/
theorem Guard.eval_released {g : Guard} (r : Bool) (ha : g.a = true) (hb : g.b = true) (hd : g.demand = false) :
    (g.eval true false r).demand = false ∧ (g.eval true false r).wait = false := by
  simp [Guard.eval, ha, hb, hd]

/-- What an accepted reading makes of a guard: the channel's reading changes, and what the pair has shown stays. -/
theorem Guard.accept_withFilter (ch : Nat) (closed : Bool) (y : InFilter) (g : Guard) :
    ((g.withFilter ch y).accept ch closed).a = (if ch = 0 then closed else g.a)
    ∧ ((g.withFilter ch y).accept ch closed).b = (if ch = 0 then g.b else closed)
    ∧ ((g.withFilter ch y).accept ch closed).demand = g.demand ∧ ((g.withFilter ch y).accept ch closed).both = g.both := by
  unfold Guard.withFilter Guard.accept
  split <;> exact ⟨rfl, rfl, rfl, rfl⟩

/-- Settles O31: a refused sample by `InFilter.sample_keeps` and `State.guardStep_keeps`, an accepted one by
`InFilter.sample_changes`, `State.guardStep_changes` and what `Guard.eval` makes of the readings. That masks are for the classes T
and S+T is log 64. -/
theorem guardReadingsMakeAndEndDemand : Obligations.GuardReadingsMakeAndEndDemand := by
  unfold Obligations.GuardReadingsMakeAndEndDemand
  intro s w i ch ha hs hen hanti
  have hlen : (i : Nat) < (s.isl.half w).guards.length := (hs.guards_length w).symm ▸ i.isLt
  refine ⟨fun xs => congrArg _ (State.live_pos ha _), fun closed tp hkeep => ?keeps, fun closed tp hc hrun hm => ?changes⟩
  case keeps =>
    have hkeep' : closed = ((s.isl.half w).guard i).reading ch
        ∨ 10 * (((s.isl.half w).guard i).filter ch).run < max (pairFilter s.isl.spb i) 10
        ∨ (((s.isl.half w).guard i).filter ch).masked (pairTested s.isl.spb i) tp = true :=
      hkeep.imp_right (Or.imp_right fun ⟨h1, h2⟩ => masked_eq_true h1 h2)
    obtain ⟨n, hsample, hn⟩ := InFilter.sample_keeps hkeep'
    refine ⟨_, State.guardStep_keeps hlen hsample, fun he hm => ?_, fun he hm => ?_, fun h2 htp => ?_⟩
    · exact (hn (masked_eq_false hm)).trans (if_pos he)
    · exact (hn (masked_eq_false hm)).trans (if_neg he)
    · simp [InFilter.maskNext, pairTested, h2, htp]
  case changes =>
    set g := (s.isl.half w).guard i with hg
    have hsample : (s.sampled w i ch (closed, tp)).1 = true := InFilter.sample_changes hc hrun (masked_eq_false hm)
    set y := (s.sampled w i ch (closed, tp)).2
    set u := s.filtered w i ch y
    obtain ⟨p, hisl, hfuses⟩ := State.guardStep_changes hsample
    set t := s.guardStep w i ch (closed, tp)
    have hput : Island.Reevaluated w i s.isl u.isl := Island.reevaluated_put _ _ _ _
    have heval : Island.Reevaluated w i u.isl (u.guardInput w i ch closed).isl := State.guardEval_reevaluated _ _ _ _
    have hhalf : ∀ v, t.isl.half v = (u.guardInput w i ch closed).isl.half v := fun v => by rw [hisl]; rfl
    have hguard : (t.isl.half w).guard i = ((g.withFilter ch y).accept ch closed).eval true false (pairRestart s.isl.spb i) := by
      have hu : (u.isl.half w).guard i = g.withFilter ch y := Island.guard_put_same hlen _
      rw [hhalf, State.guardInput, State.guardEval_guard _ ((hput.guards w).symm ▸ hlen), State.evaluated, hput.spb, hen, hanti, hu]
      rfl
    obtain ⟨ha', hb', hdem, hboth⟩ := Guard.accept_withFilter ch closed y g
    refine ⟨hfuses.trans (State.guardEval_fuses _ _ _ _), ?_, ?_, ?_, ?_, ?_, fun v j hv h => ?_, fun ho => ?_,
      fun ho hother hd hb => ?_, fun ho hother hd hb => ?_⟩
    · rw [hisl]; exact heval.spb.trans hput.spb
    · rw [hisl]; exact heval.st.trans hput.st
    · rw [hisl]; exact heval.fault.trans hput.fault
    · rw [hguard, Guard.eval_a, ha']
    · rw [hguard, Guard.eval_b, hb']
    · rw [hhalf, heval.others hv w.isLt h, hput.others hv w.isLt h]
    · rw [hguard]
      refine Guard.eval_open _ ?_
      rw [ha', hb']
      split
      · exact .inl ho
      · exact .inr ho
    all_goals
      have hab : (if ch.val = 0 then closed else g.a) = true ∧ (if ch.val = 0 then g.b else closed) = true := by
        split <;> simp_all
      rw [hguard]
      have hclosed := Guard.eval_closed (pairRestart s.isl.spb i) (ha'.trans hab.1) (hb'.trans hab.2) (hdem.trans hd)
      rw [hboth, hb] at hclosed
      simpa using hclosed

/-! ## Restart pulses (R331, R333, R346) -/

/-- A fold reaches what one of its items brings about, if every item keeps the invariant and what was reached. -/
theorem foldl_reaches {σ β : Type} {f : σ → β → σ} {I Q : σ → Prop} {l : List β} {b : β} (hb : b ∈ l)
    (hI : ∀ s, ∀ x ∈ l, I s → I (f s x)) (hQ : ∀ s, ∀ x ∈ l, I s → Q s → Q (f s x)) (hbQ : ∀ s, I s → Q (f s b))
    {s : σ} (hs : I s) : I (l.foldl f s) ∧ Q (l.foldl f s) := by
  have hkeep : ∀ m : List β, (∀ x ∈ m, x ∈ l) → ∀ s, I s ∧ Q s → I (m.foldl f s) ∧ Q (m.foldl f s) := by
    intro m
    induction m with
    | nil => exact fun _ _ h => h
    | cons x m ih =>
      exact fun hm s h => ih (fun y hy => hm y (.tail _ hy)) _
        ⟨hI _ _ (hm x (.head _)) h.1, hQ _ _ (hm x (.head _)) h.1 h.2⟩
  obtain ⟨m, n, rfl⟩ := List.append_of_mem hb
  have hfirst : I (m.foldl f s) :=
    List.foldlRecOn m f hs fun t ht x hx => hI t x (List.mem_append_left _ hx) ht
  rw [List.foldl_append]
  exact hkeep n (fun x hx => List.mem_append_right _ (.tail _ hx)) _ ⟨hI _ _ hb hfirst, hbQ _ hfirst⟩

/-- The restart pulse releases pair `i` of half `w` if it waits. -/
def State.waitReleased (i : Nat) (s : State) (w : Nat) : State :=
  if ((s.isl.half w).guard i).wait then s.guardEval w i (fun g => { g with wait := false, demand := false }) else s

theorem State.waitReleased_reevaluated (i : Nat) (s : State) (w : Nat) :
    Island.Reevaluated w i s.isl (s.waitReleased i w).isl := by
  unfold State.waitReleased
  split
  · exact State.guardEval_reevaluated _ _ _ _
  · exact ⟨rfl, rfl, rfl, fun _ => rfl, fun _ _ _ => rfl⟩

/-- The pair is out of demand and waits for nothing. -/
def Guard.released (g : Guard) : Prop := g.demand = false ∧ g.wait = false

/-- A pair of an island with shape `i` that waits with both channels closed, or is released already. -/
structure State.Waits (i : Island) (w p : Nat) (t : State) : Prop where
  st : t.isl.st = i.st
  spb : t.isl.spb = i.spb
  guards : ((t.isl.half w).guards.length) = 8
  guard : (t.isl.half w).guard p = (i.half w).guard p ∨ ((t.isl.half w).guard p).released

/-- Releasing the pair, which waits with both channels closed or is released already, leaves it released. -/
theorem State.Waits.released {i : Island} {w p : Nat} {t : State} (h : State.Waits i w p t) (hp : p < 8)
    (hen : pairEn i.spb p = true) (hanti : pairAnti i.spb p = false) (ha : ((i.half w).guard p).a = true)
    (hb : ((i.half w).guard p).b = true) (hw : ((i.half w).guard p).wait = true) :
    (((t.waitReleased p w).isl.half w).guard p).released := by
  unfold State.waitReleased
  split
  next hwait =>
    have hg := h.guard.resolve_right fun hr => absurd (hwait.symm.trans hr.2) (by decide)
    rw [State.guardEval_guard _ (h.guards.symm ▸ hp), State.evaluated, h.spb, hen, hanti, hg]
    exact Guard.eval_released _ ha hb rfl
  next hwait => exact h.guard.resolve_left fun hg => hwait (hg ▸ hw)

/-- Releasing any pair keeps what is known of pair `p`. -/
theorem State.Waits.step {i : Island} {w p : Nat} {t : State} (h : State.Waits i w p t) (hp : p < 8) (hw2 : w < 2)
    (hen : pairEn i.spb p = true) (hanti : pairAnti i.spb p = false) (ha : ((i.half w).guard p).a = true)
    (hb : ((i.half w).guard p).b = true) (hw : ((i.half w).guard p).wait = true) {q v : Nat} (hv : v < 2) :
    State.Waits i w p (t.waitReleased q v) := by
  have hr := State.waitReleased_reevaluated q t v
  refine ⟨hr.st.trans h.st, hr.spb.trans h.spb, (hr.guards w).trans h.guards, ?_⟩
  by_cases hwv : w = v ∧ p = q
  · obtain ⟨rfl, rfl⟩ := hwv
    exact .inr (h.released hp hen hanti ha hb hw)
  · rw [hr.others hw2 hv (not_and_or.mp hwv)]
    exact h.guard

/-- A released pair stays released. -/
theorem State.waitReleased_keeps {w p q v : Nat} {t : State} (hw : w < 2) (hv : v < 2) (h : ((t.isl.half w).guard p).released) :
    (((t.waitReleased q v).isl.half w).guard p).released := by
  by_cases hwv : w = v ∧ p = q
  · obtain ⟨rfl, rfl⟩ := hwv
    unfold State.waitReleased
    rw [if_neg (by rw [h.2]; decide)]
    exact h
  · rw [(State.waitReleased_reevaluated q t v).others hw hv (not_and_or.mp hwv)]
    exact h

/-- The pairs of `l` that wait are released in the halves of `ws`. -/
def State.released (l ws : List Nat) (s : State) : State := l.foldl (fun t q => ws.foldl (State.waitReleased q) t) s

theorem State.waitsReleased_eq (s : State) : s.waitsReleased = s.released (List.range 8) (List.range 2) := rfl

/-- After the pulse the pair that waited with both channels closed is released. -/
theorem State.released_guard {l ws : List Nat} (hws : ∀ v ∈ ws, v < 2) {s : State} {w p : Nat} (hw2 : w ∈ ws) (hpl : p ∈ l)
    (hp : p < 8) (hlen : (s.isl.half w).guards.length = 8) (hen : pairEn s.isl.spb p = true)
    (hanti : pairAnti s.isl.spb p = false) (hw : ((s.isl.half w).guard p).wait = true)
    (ha : ((s.isl.half w).guard p).a = true) (hb : ((s.isl.half w).guard p).b = true) :
    (((s.released l ws).isl.half w).guard p).released := by
  have hstep : ∀ (q : Nat) (u : State), ∀ v ∈ ws, State.Waits s.isl w p u → State.Waits s.isl w p (u.waitReleased q v) :=
    fun q u v hv hu => hu.step hp (hws w hw2) hen hanti ha hb hw (hws v hv)
  have hkeeps : ∀ (q : Nat) (u : State), ∀ v ∈ ws, ((u.isl.half w).guard p).released →
      (((u.waitReleased q v).isl.half w).guard p).released :=
    fun q u v hv hu => State.waitReleased_keeps (hws w hw2) (hws v hv) hu
  refine (foldl_reaches (I := State.Waits s.isl w p) (Q := fun t => ((t.isl.half w).guard p).released) hpl
    (fun t q _ ht => List.foldlRecOn ws _ ht fun u hu v hv => hstep q u v hv hu)
    (fun t q _ _ ht => List.foldlRecOn ws (State.waitReleased q) ht fun u hu v hv => hkeeps q u v hv hu)
    (fun t ht => ?_) ⟨rfl, rfl, hlen, .inl rfl⟩).2
  exact (foldl_reaches (I := State.Waits s.isl w p) (Q := fun u => ((u.isl.half w).guard p).released) hw2 (hstep p)
    (fun u v hv _ hu => hkeeps p u v hv hu) (fun u hu => hu.released hp hen hanti ha hb hw) ht).2

theorem State.released_st (l ws : List Nat) (s : State) : (s.released l ws).isl.st = s.isl.st :=
  List.foldlRecOn (motive := fun t : State => t.isl.st = s.isl.st) l _ rfl fun _ ht q _ =>
    List.foldlRecOn (motive := fun u : State => u.isl.st = s.isl.st) ws (State.waitReleased q) ht fun u hu v _ =>
      (State.waitReleased_reevaluated q u v).st.trans hu

/-- Every enabled class S pair is start-up pending in the half, and its demand stays. -/
theorem pendS_guard {t : Tab Word} {x : Half} {p : Nat} (hp : p < x.guards.length) (hen : pairEn t p = true)
    (hc : pairClass t p % 2 = 1) : (pendS t x).guard p = { x.guard p with pending := true, pendBoth := false } := by
  simp [pendS, Half.guard, hp, hen, hc]

theorem Island.cleared_half (i : Island) (w : Nat) : i.cleared.half w = pendS i.spb (i.half w) := by
  unfold Island.half
  split <;> rfl

/-- A pulse between 200 ms and 2 s is accepted by both halves. -/
theorem State.srstPulse_accepted {s : State} {width : Nat} (h1 : 200000 ≤ width) (h2 : width ≤ 2000000)
    (hh : s.dev.sec.halted = false) : s.srstPulse width = s.restarted := by
  have hedge : srstEdge width = false := by simp [srstEdge, h1, h2]
  have hin : ¬ (decide (width < 190000) || decide (2010000 < width) || s.dev.sec.halted) = true := by
    simp [hh]
    omega
  rw [State.srstPulse_eq, if_neg hin, if_neg (by simp [hedge]), State.srstDrawn, if_neg (by simp [hedge])]

/-- Settles O35: an accepted pulse by what `State.restarted` does in each state of the island, the release of the waiting pairs by
`State.waitsReleased_guard`. That a cleared lock-out without firmware leads to WAIT is log 68. -/
theorem restartPulsesClearAFault : Obligations.RestartPulsesClearAFault := by
  unfold Obligations.RestartPulsesClearAFault
  intro s width ha hcore hs
  have hexec : exec (.lockoutReset width) s = .next (s.srstPulse width) := congrArg _ (State.live_pos ha _)
  rw [hexec]
  refine ⟨fun h1 h2 hh => ?_, fun h => congrArg _ ?_⟩
  · rw [State.srstPulse_accepted h1 h2 hh]
    refine ⟨fun c hst hf hcc => ?cleared, fun c hst hf hcc => ?refused, fun hst => ?running, fun hst => congrArg _ ?elsewhere⟩
    case cleared =>
      have hrestarted : s.restarted = s.lockoutCleared := by
        rw [State.restarted, if_neg (by rw [hst]; decide), if_pos hst, hf, Option.elim_some, if_pos hcc]
      rw [hrestarted]
      have hisl := State.lockoutCleared_isl s
      refine ⟨_, rfl, congrArg Island.fault hisl, congrArg Island.st hisl, congrArg (·.pw.openAt) hisl, (congrArg Island.spb hisl).trans rfl,
        ?_, fun w p hen hc => ?_⟩
      · have hon : (((s.onIsl Island.cleared).setIsl (if s.isl.fwRun then .run else .wait)).dev.dropRegs .l fun _ => true).on
            domCORE = true := by
          refine .trans ?_ hcore
          exact State.setIsl_on _ _ _
        obtain ⟨-, hraw, -⟩ := Dev.raise_noted hon (n := Ev.SAF_LOCKOUT_CLEARED) (by decide)
        exact hraw
      · have hguard : (s.lockoutCleared.isl.half w).guard p
            = { (s.isl.half w).guard p with pending := true, pendBoth := false } := by
          rw [State.lockoutCleared_isl]
          refine .trans (congrArg (Half.guard · p) (Island.cleared_half s.isl w)) (pendS_guard ?_ hen hc)
          exact (hs.guards_length w).symm ▸ p.isLt
        rw [hguard]
        exact ⟨rfl, rfl⟩
    case refused =>
      rw [State.restarted, if_neg (by rw [hst]; decide), if_pos hst, hf, Option.elim_some, if_neg (by rw [hcc]; decide)]
      exact ⟨_, rfl, Dev.raise_noted hcore (by decide)⟩
    case running =>
      rw [State.restarted, if_pos hst, State.waitsReleased_eq]
      exact ⟨_, rfl, (State.released_st _ _ s).trans hst, fun w p hen hanti hw hga hgb =>
        State.released_guard (fun v hv => List.mem_range.mp hv) (List.mem_range.mpr w.isLt) (List.mem_range.mpr p.isLt) p.isLt
          (hs.guards_length w) hen hanti hw hga hgb⟩
    case elsewhere =>
      rcases hst with hst | hst | hst | hst <;>
        rw [State.restarted, if_neg (by rw [hst]; decide), if_neg (by rw [hst]; decide)]
  · rw [State.srstPulse_eq, if_pos]
    rcases h with h | h | h <;> simp [h]

end Sys2Proof.Machine
end

section
/-! Password sessions and parameter blocks (12 R353, R354, R358, R359). -/
namespace Sys2Proof.Machine

/-! ## Password sessions -/

/-- The verifier of the block in force accepts a presentation. -/
def State.verifies (s : State) (pw : List Byte) : Prop := s.isl.defaulted = false ∧ pw.length ≠ 0
  ∧ pbkdf2 pw (((spbBytes s.isl.spb).drop 16).take 16) (leAt (spbBytes s.isl.spb) 12 4) = ((spbBytes s.isl.spb).drop 32).take 32

/-- A derivation that the verifier accepts opens the session. -/
theorem State.pwDone_verified {s : State} {pw : List Byte} (hb : s.isl.pw.busy = some pw) (h : s.verifies pw) :
    s.pwDone = { s with isl := { s.isl with pw := { s.isl.pw with busy := none, data := [], openAt := some s.dev.now, fails := 0 } } } := by
  obtain ⟨hdef, hlen, hver⟩ := h
  unfold State.pwDone
  rw [hb]
  dsimp only
  rw [if_pos (by simp [hdef, hlen, hver])]
  rfl

/-- Any other derivation counts a failure. -/
theorem State.pwDone_failed {s : State} {pw : List Byte} (hb : s.isl.pw.busy = some pw) (h : ¬ s.verifies pw) :
    s.pwDone = { s with dev := s.dev.raise Ev.SAF_PW_FAIL, isl := { s.isl with pw := { s.isl.pw with
      busy := none, data := [], fails := min 15 (s.isl.pw.fails + 1),
      refusing := if 5 ≤ s.isl.pw.fails + 1 then some s.dev.now else s.isl.pw.refusing } } } := by
  unfold State.verifies at h
  unfold State.pwDone
  rw [hb]
  dsimp only
  rw [if_neg (fun hc => h (by simpa [and_assoc] using hc))]
  rfl

/-- Settles O36: a presentation by whether one is under way or refused, its end by the verifier (`State.pwDone_verified`,
`State.pwDone_failed`), and the two times as they are. That the count of failures stops at 15 and starts again at 0 with the end
of the refusal is log 71. -/
theorem passwordSessionsOpenAndClose : Obligations.PasswordSessionsOpenAndClose := by
  unfold Obligations.PasswordSessionsOpenAndClose
  intro s ha hcore
  have live (f : State → State) : (Host.Outcome.next (s.live f) : Res) = .next (f s) := congrArg _ (State.live_pos ha f)
  refine ⟨fun len hb hr => (live _).trans (congrArg _ (if_neg (by simp [hb, hr]))),
    fun len h => (live _).trans (congrArg _ (if_pos ?_)), live _,
    fun pw hb => ⟨fun h => (live _).trans (congrArg _ (State.pwDone_verified hb h)),
      fun h => ⟨_, Dev.raise_noted hcore (by decide), (live _).trans (congrArg _ (State.pwDone_failed hb h))⟩⟩,
    fun hb => (live _).trans (congrArg _ ?_), fun t ht => (live _).trans (congrArg _ ?_),
    fun t ht => (live _).trans (congrArg _ ?_)⟩
  · rcases h with h | h
    · simp [Option.isSome_iff_ne_none.mpr h]
    · simp [h]
  · rw [State.pwDone, hb]
  · rw [State.pwTimeout, ht]
    rfl
  · rw [State.pwRefusalEnd, ht]
    rfl

/-! ## Parameter blocks -/

/-- A descriptor that is known and dispatched is out. -/
theorem Dev.taken_isOut (d : Dev) (x : Desc) : (d.taken x).isOut x = true := by
  have hknown : ∃ f ∈ (d.known x).dsc.flights, f.desc.ring = x.ring ∧ f.desc.slot = x.slot := by
    unfold Dev.known
    split
    next h => simpa using h
    next h => exact ⟨_, List.mem_append_right _ (.head _), rfl, rfl⟩
  obtain ⟨f, hf, hr, hs⟩ := hknown
  simp only [Dev.taken, Dev.markOut, Dev.isOut, List.any_map, List.any_eq_true, Function.comp_apply]
  exact ⟨f, hf, by simp [hr, hs]⟩

/-- What was not known was not dispatched. -/
theorem Dev.isOut_of_known {d : Dev} {x : Desc} (h : (d.known x).isOut x = false) : d.isOut x = false := by
  unfold Dev.known at h
  split at h
  · exact h
  · simp only [Dev.isOut, List.any_append, Bool.or_eq_false_iff] at h
    exact h.1

@[simp] theorem Dev.known_on (d : Dev) (x : Desc) (k : Nat) : (d.known x).on k = d.on k := by
  unfold Dev.known
  split <;> rfl

@[simp] theorem Dev.taken_on (d : Dev) (x : Desc) (k : Nat) : (d.taken x).on k = d.on k := d.known_on x k

/-- What SPB_LOAD does with the block it has read. -/
def State.spbTaken (x : Desc) (bs : List Byte) (s : State) : State :=
  let end_ := fun (status bytes : Nat) (s : State) => s.onDev (fun d => d.done x status bytes (leBytes 4 (spbSeq s.isl.spb)))
  if s.isl.accepted && s.isl.pw.openAt.isNone then end_ stDENIED 0 (s.onDev (fun d => d.raise Ev.SAF_SPB_REJECT))
  else
    let r := s.spbOffer (bs.take 4096)
    if !r.1 then end_ stREJECTED 0 r.2.2
    else if r.2.1 = [] then end_ stOK 0 r.2.2
    else end_ stOK 4176 (r.2.2.onDev (fun d => d.memWrite (some actDESC) x.addrB r.2.1))

/-- A well-formed SPB_LOAD that is dispatched looks at the block it has read. -/
theorem State.spbLoad_taken {s : State} {x : Desc} {data : Option (List Byte)} {bs : List Byte} (ht : s.dev.takes x)
    (hal : descAligned x = true) (hu : descUnusedZero x [] = true) (hA : 4096 ≤ x.lenA) (hB : 4176 ≤ x.lenB)
    (hup : s.isl.up = true) (hdata : readA x data = some bs) :
    s.spbLoad x data = { s with dev := s.dev.taken x }.spbTaken x bs := by
  have hpre : Dev.dispatch x (decide (4096 ≤ x.lenA) && decide (4176 ≤ x.lenB) && descUnusedZero x []) (fun _ => s.isl.up) id s.dev
      = s.dev.taken x := Dev.dispatch_takes id ht (by simp [hA, hB, hu]) hal hup
  obtain ⟨-, hout, -⟩ := ht
  unfold State.spbLoad
  dsimp only
  rw [hpre, Dev.taken_isOut, Dev.isOut_of_known hout, hdata]
  rfl

/-- Settles O37: the descriptor reaches its engine (`State.spbLoad_taken`), which takes or refuses the block by its validity
before the first one is accepted, and by the session afterwards. -/
theorem parameterBlocksAreTakenOrRefused : Obligations.ParameterBlocksAreTakenOrRefused := by
  unfold Obligations.ParameterBlocksAreTakenOrRefused
  intro s x bs ha hcore htyp ht hal hu hA hB hup hdata
  have hexec : exec (.spbLoad x (some bs)) s = .next (s.engineLeaves ({ s with dev := s.dev.taken x }.spbTaken x bs)) := by
    rw [← State.spbLoad_taken ht hal hu hA hB hup hdata]
    exact congrArg _ (State.engine_pos (fun x s => s.spbLoad x (some bs)) ha hcore htyp)
  rw [hexec]
  have hon : (s.dev.taken x).on domCORE = true := (Dev.taken_on _ _ _).trans hcore
  refine ⟨fun hacc hv => ⟨_, Dev.raise_noted hon (by decide), ?_⟩, fun hacc hv => ⟨_, Dev.raise_noted hon (by decide), ?_⟩,
    fun hacc hopen => ⟨_, Dev.raise_noted hon (by decide), ?_⟩⟩
  · simp [State.spbTaken, State.spbOffer, hacc, hv, State.onDev, State.onIsl]
  · simp [State.spbTaken, State.spbOffer, hacc, hv, State.onDev]
  · simp [State.spbTaken, hacc, hopen, State.onDev]

end Sys2Proof.Machine
end

section
/-! Register writes by the access code of the register (00 R5; 01 R39), and the limit registers (02 R65; 12 R358). -/
namespace Sys2Proof.Machine

/-! ## What a write of each access code does -/

theorem State.regWrite_unmapped {mgmt : Bool} {off : Nat} {val : Word} {s : State} (h : rowOf off = none) :
    s.regWrite mgmt off val = s := by simp only [State.regWrite, h]

/-- A write of a mapped register goes by its access code. -/
theorem State.regWrite_row {mgmt : Bool} {off : Nat} {val : Word} {s : State} {r : Row} {ix : List Nat}
    (h : rowOf off = some (r, ix)) : s.regWrite mgmt off val = match r.acc with
    | .ro => s
    | .rwt => if (r.base = Reg.HKP_SLOT_CFG 0 || r.base = Reg.HKP_SLOT_AUX 0) && ix.headD 0 < 24 then s
        else s.onDev (Dev.rwtWrite off r.mask val)
    | .rwp => s.rwpWrite off r.mask val
    | .w1c => s.onDev (Dev.w1cWrite off val)
    | .rw => s.rwWrite off r.base (ix.headD 0) r.mask val
    | .wo => s.woWrite mgmt off r.base (ix.headD 0) val := by
  simp only [State.regWrite, h] <;> rfl

/-- An RW register without an effect of its own takes its writable bits. -/
theorem State.rwWrite_plain {off base i mask : Nat} {val : Word} {s : State} (hring : ringOf off = none)
    (hguard : baseGuard off = none)
    (hoff : off ∉ [Reg.MDV_CASC_CTL, Reg.MDV_TICK_LEAD, Reg.GLB_MEM_CFG, Reg.PWR_TIMER, Reg.SEC_DBG_CTL])
    (hbase : base ∉ [Reg.PWR_VOTE 0, Reg.DSC_EVT_CFG 0]) :
    s.rwWrite off base i mask val = s.onDev (fun d => d.wr off (word (val.toNat &&& mask))) := by
  simp only [List.mem_cons, List.not_mem_nil, or_false, not_or] at hoff hbase
  obtain ⟨h1, h2, h3, h4, h5⟩ := hoff
  obtain ⟨h6, h7⟩ := hbase
  simp only [State.rwWrite, hring, hguard, h1, h2, h3, h4, h5, h6, h7, if_false]

/-- An RWT register without a rule of its own waits for the tick with its writable bits. -/
theorem Dev.rwtWrite_plain {off mask : Nat} {val : Word} {d : Dev}
    (hoff : off ∉ [Reg.GLB_FRAME_LEN, Reg.GLB_FRAME_MIN, Reg.GLB_FRAME_MAX, Reg.BRN_CODE_SEED, Reg.BRN_CODE_CTL]) :
    d.rwtWrite off mask val = d.stageWr off (word (val.toNat &&& mask)) := by
  simp only [List.mem_cons, List.not_mem_nil, or_false, not_or] at hoff
  obtain ⟨h1, h2, h3, h4, h5⟩ := hoff
  simp [Dev.rwtWrite, h1, h2, h3, h4, h5]

/-- An RWP register that is no limit waits for the tick in a session. -/
theorem State.rwpWrite_staged {off mask : Nat} {val : Word} {s : State} (hlim : isBrnLimit off = false) (hok : s.isl.rwpOk = true) :
    s.rwpWrite off mask val = s.onDev (Dev.stageWr off (word (val.toNat &&& mask))) := by
  simp [State.rwpWrite, hlim, hok]

/-- A register stored at one offset leaves the other registers and everything else alone. -/
theorem Dev.wr_onlyRegs (d : Dev) (off : Nat) (v : Word) : d.OnlyRegs [off] (d.wr off v) :=
  ⟨rfl, fun _ ho => Dev.rd_wr_ne _ _ fun h => ho (h ▸ .head _)⟩

/-- A stored register that is not CASC_CTL moves no vote. -/
theorem Dev.target_wr (d : Dev) {off : Nat} (v : Word) (h : off ≠ Reg.MDV_CASC_CTL) : (d.wr off v).target = d.target :=
  Dev.target_congr rfl rfl rfl rfl rfl (Dev.rd_wr_ne _ _ h)

/-- A write that waits for the tick moves no vote. -/
theorem Dev.target_stageWr (d : Dev) (off : Nat) (v : Word) : (d.stageWr off v).target = d.target :=
  Dev.target_congr rfl rfl rfl rfl rfl rfl

/-- A host write that moves no vote does what its register says, on the device that has accepted its packet. -/
theorem exec_registerWrite {s : State} {off : Nat} {val : Word} {e : Dev} (hs : s.answers) (hoff : off ≠ Reg.SEC_DBG_DATA)
    (hwrite : ∀ u : State, u.dev = s.dev.rxAccept (.posted 1) → u.isl = s.isl → u.regWrite false off val = { u with dev := e })
    (htarget : e.target = (s.dev.rxAccept (.posted 1)).target) :
    exec (.registerWrite off val) s = .next { s with dev := e } := by
  have hpath : State.pathWrite false off val { s with dev := s.dev.rxAccept (.posted 1) } = { s with dev := e } := by
    exact (if_neg hoff).trans (hwrite { s with dev := s.dev.rxAccept (.posted 1) } rfl rfl)
  rw [exec_registerWrite_of_answers off val hs, State.revoted_id, hpath]
  rw [hpath]
  exact htarget

@[simp] theorem Dev.rxAccept_rd (k : RxClass) (d : Dev) (o : Nat) : (d.rxAccept k).rd o = d.rd o := by
  obtain ⟨l, hl⟩ := Dev.rxAccept_eq k d
  rw [hl]
  rfl

@[simp] theorem Dev.rxAccept_glb (k : RxClass) (d : Dev) : (d.rxAccept k).glb = d.glb := by
  obtain ⟨l, hl⟩ := Dev.rxAccept_eq k d
  rw [hl]

@[simp] theorem Dev.rxAccept_on (k : RxClass) (d : Dev) (n : Nat) : (d.rxAccept k).on n = d.on n := by
  obtain ⟨l, hl⟩ := Dev.rxAccept_eq k d
  rw [hl]
  rfl

/-- Settles O2: the access code chooses what `State.regWrite_row` does, and no vote moves (`exec_registerWrite`). That a register
takes writes whether its domain is powered or not is log 10. -/
theorem registerWritesFollowTheAccessCode : Obligations.RegisterWritesFollowTheAccessCode := by
  unfold Obligations.RegisterWritesFollowTheAccessCode
  intro s off val hs hoff
  refine ⟨fun hrow => ?unmapped, fun r ix hrow => ⟨fun hacc => ?ro, fun hacc hring hguard hself hbase => ?rw, fun hacc hcasc => ?w1c,
    fun hacc hself hbase => ?rwt, fun hacc hlim hopen hdef => ?rwp, fun hacc hlim hno hcore => ?denied⟩⟩
  case unmapped =>
    exact exec_registerWrite hs hoff (fun u hu _ => by rw [State.regWrite_unmapped hrow, ← hu]) rfl
  case ro =>
    exact exec_registerWrite hs hoff (fun u hu _ => by rw [State.regWrite_row hrow, hacc, ← hu]) rfl
  case rw =>
    have hcasc : off ≠ Reg.MDV_CASC_CTL := fun h => hself (h ▸ .head _)
    refine ⟨_, exec_registerWrite hs hoff (fun u hu _ => ?_) (Dev.target_wr _ _ hcasc), Dev.wr_onlyRegs _ _ _, Dev.rd_wr_same _ _ _⟩
    rw [State.regWrite_row hrow, hacc, ← hu]
    exact State.rwWrite_plain hring hguard hself hbase
  case w1c =>
    refine ⟨_, exec_registerWrite hs hoff (fun u hu _ => ?_) (Dev.target_wr _ _ hcasc), Dev.wr_onlyRegs _ _ _, Dev.rd_wr_same _ _ _⟩
    rw [State.regWrite_row hrow, hacc, ← Dev.rxAccept_rd (.posted 1), ← hu]
    rfl
  case rwt =>
    rw [exec_registerWrite hs hoff (e := (s.dev.rxAccept (.posted 1)).stageWr off (word (val.toNat &&& r.mask)))
      (fun u hu _ => ?_) (Dev.target_stageWr _ _ _), Dev.stageWr, Dev.rxAccept_glb]
    simp only [List.mem_cons, List.not_mem_nil, or_false, not_or] at hbase
    obtain ⟨hcfg, haux⟩ := hbase
    rw [State.regWrite_row hrow, hacc, ← hu]
    simp only [hcfg, haux, decide_false, Bool.or_false, Bool.false_and, Bool.false_eq_true, if_false]
    rw [State.onDev, Dev.rwtWrite_plain hself]
  case rwp =>
    have hok : s.isl.rwpOk = true := by simp [Island.rwpOk, hopen, hdef]
    rw [exec_registerWrite hs hoff (e := (s.dev.rxAccept (.posted 1)).stageWr off (word (val.toNat &&& r.mask)))
      (fun u hu hi => ?_) (Dev.target_stageWr _ _ _), Dev.stageWr, Dev.rxAccept_glb]
    rw [State.regWrite_row hrow, hacc, ← hu]
    exact State.rwpWrite_staged hlim (hi ▸ hok)
  case denied =>
    have hok : s.isl.rwpOk = false := by rcases hno with h | h <;> simp [Island.rwpOk, h]
    have hnoted := Dev.raise_noted (d := s.dev.rxAccept (.posted 1)) (n := Ev.SAF_RWP_DENIED) ((Dev.rxAccept_on _ _ _).trans hcore)
      (by decide)
    refine ⟨_, exec_registerWrite hs hoff (fun u hu hi => ?_) (hnoted.target (by decide)), hnoted⟩
    have hdenied := State.pathWrite_rwp_denied (s := u) false val hoff hrow hacc hlim (hi ▸ hok)
    rw [State.pathWrite, if_neg hoff] at hdenied
    rw [hdenied, hu]

/-! ## Limit registers (02 R65) -/

/-- What a write of `val` to a limit register does, `lim` the value of the safety parameter and `cap` that of the energy-limited
profile. -/
def State.limited (off val lim cap : Nat) (s : State) : State :=
  if !s.isl.rwpOk then s.rwpDenied
  else if lim < val || (s.dev.elOn && cap < val) then s.onDev (fun d => d.raise Ev.BRN_LIMIT_REJECT)
  else s.onDev (Dev.stageWr off (word val))

theorem State.limitWrite_charge (s : State) (e : Fin 16) (v : Word) : s.limitWrite (Reg.BRN_LIM_CHARGE e) v
    = s.limited (Reg.BRN_LIM_CHARGE e) (fld v 11 0) (spbCharge s.isl.spb e) (s.dev.f (Reg.HKP_EL_CHARGE e) 11 0) := by
  have hi : (Reg.BRN_LIM_CHARGE e - 0x100200) / 4 = e := by unfold Reg.BRN_LIM_CHARGE; omega
  simp only [State.limitWrite, hi, show (e : Nat) / 16 = 0 by omega, show (e : Nat) % 16 = e by omega, if_true]
  rfl

theorem State.limitWrite_pulse (s : State) (e : Fin 16) (v : Word) : s.limitWrite (Reg.BRN_LIM_PULSE e) v
    = s.limited (Reg.BRN_LIM_PULSE e) (fld v 12 0) (spbPulse s.isl.spb e) (s.dev.f (Reg.HKP_EL_PULSE e) 12 0) := by
  have hi : (Reg.BRN_LIM_PULSE e - 0x100200) / 4 = 16 + e := by unfold Reg.BRN_LIM_PULSE; omega
  simp only [State.limitWrite, hi, show (16 + (e : Nat)) / 16 = 1 by omega, show (16 + (e : Nat)) % 16 = e by omega]
  rfl

theorem State.limitWrite_gate (s : State) (e : Fin 16) (v : Word) : s.limitWrite (Reg.BRN_LIM_GATE e) v
    = s.limited (Reg.BRN_LIM_GATE e) (fld v 23 0) (spbGate s.isl.spb e) (s.dev.f (Reg.HKP_EL_GATE e) 23 0) := by
  have hi : (Reg.BRN_LIM_GATE e - 0x100200) / 4 = 32 + e := by unfold Reg.BRN_LIM_GATE; omega
  simp only [State.limitWrite, hi, show (32 + (e : Nat)) / 16 = 2 by omega, show (32 + (e : Nat)) % 16 = e by omega]
  rfl

theorem exec_brnLimitWrite {s : State} (off : Nat) (val : Word) (ha : s.alive = true) :
    exec (.brnLimitWrite off val) s = .next (if isBrnLimit off then s.limitWrite off val else s) := by
  have hlive : exec (.brnLimitWrite off val) s = .next (s.live fun s => if isBrnLimit off then s.limitWrite off val else s) := rfl
  rw [hlive, State.live_pos ha]

/-- A value within both bounds waits for the tick in a session. -/
theorem State.limited_staged {off val lim cap : Nat} {s : State} (hok : s.isl.rwpOk = true) (hlim : val ≤ lim)
    (hcap : s.dev.elOn = true → val ≤ cap) : s.limited off val lim cap = s.onDev (Dev.stageWr off (word val)) := by
  unfold State.limited
  rw [if_neg (by simp [hok]), if_neg]
  cases hel : s.dev.elOn with
  | false => simpa using hlim
  | true => simpa [hlim] using hcap hel

theorem isBrnLimit_of {off : Nat} (h : 0x100200 ≤ off) (h2 : off < 0x1002C0) : isBrnLimit off = true := by
  unfold isBrnLimit Reg.BRN_LIM_CHARGE Reg.BRN_LIM_GATE
  simp only [Bool.and_eq_true, decide_eq_true_eq]
  omega

/-- Settles O8: each limit register by its own bounds (`State.limitWrite_charge`, `State.limitWrite_pulse`,
`State.limitWrite_gate`), the session and the bounds by the branches of `State.limited`. -/
theorem limitWritesNeedASession : Obligations.LimitWritesNeedASession := by
  unfold Obligations.LimitWritesNeedASession
  intro s e val off ha hcore
  have hcharge : isBrnLimit (Reg.BRN_LIM_CHARGE e) = true := by unfold Reg.BRN_LIM_CHARGE; exact isBrnLimit_of (by omega) (by omega)
  have hpulse : isBrnLimit (Reg.BRN_LIM_PULSE e) = true := by unfold Reg.BRN_LIM_PULSE; exact isBrnLimit_of (by omega) (by omega)
  have hgate : isBrnLimit (Reg.BRN_LIM_GATE e) = true := by unfold Reg.BRN_LIM_GATE; exact isBrnLimit_of (by omega) (by omega)
  refine ⟨fun hok hlim hcap => ?_, fun hok hlim hcap => ?_, fun hok hlim hcap => ?_, fun hok hlim => ⟨_, ?_, Dev.raise_noted hcore (by decide)⟩,
    fun hok => ⟨_, ?_, Dev.raise_noted hcore (by decide)⟩, fun h => ?_⟩
  · rw [exec_brnLimitWrite _ val ha, if_pos hcharge, State.limitWrite_charge, State.limited_staged hok hlim hcap]
    rfl
  · rw [exec_brnLimitWrite _ val ha, if_pos hpulse, State.limitWrite_pulse, State.limited_staged hok hlim hcap]
    rfl
  · rw [exec_brnLimitWrite _ val ha, if_pos hgate, State.limitWrite_gate, State.limited_staged hok hlim hcap]
    rfl
  · rw [exec_brnLimitWrite _ val ha, if_pos hpulse, State.limitWrite_pulse, State.limited, if_neg (by simp [hok]), if_pos (by simp [hlim])]
    rfl
  · rw [exec_brnLimitWrite _ val ha, if_pos hpulse, State.limitWrite_pulse, State.limited, if_pos (by simp [hok])]
    rfl
  · rw [exec_brnLimitWrite off val ha, h, if_neg (by decide)]

end Sys2Proof.Machine
end

section
/-! Which command makes a tick and at which instant, and external ticks that come too early (01 R11 to R18; 13 R389). -/
namespace Sys2Proof.Machine

/-! ## Ticks -/

/-- A tick while ticks are issued ends the frame and begins the next one. -/
theorem State.tick_pos {k : TickKind} {t : Time} {fr : Option Word} {o : TickObs} {s : State} (h : s.dev.ticking = true) :
    s.tick k t fr o = State.tickTail fr.isSome o (Dev.frameEnd k t fr o s.dev) s := if_pos h

/-- A block that is no enabled master takes the ticks of its source itself. -/
theorem State.sourceTick_pos {k : TickKind} {t : Time} {o : TickObs} {s : State} (h : s.dev.ticking = true)
    (hm : s.dev.cascMaster = false) : s.sourceTick k t o = State.tickTail false o (Dev.frameEnd k t none o s.dev) s := by
  unfold State.sourceTick
  rw [if_neg (by simp [h]), if_neg (by simp [hm]), State.tick_pos h]
  rfl

theorem Dev.tickBase_eq {d : Dev} (hm : d.cascMaster = false) : d.tickBase = d.glb.start := by
  simp [Dev.tickBase, hm]

theorem State.externalTick_pos {k : TickKind} {t : Time} {o : TickObs} {s : State} (h : s.dev.ticking = true)
    (hm : s.dev.cascMaster = false) (ht : s.dev.glb.start + s.dev.frameMin ≤ t) :
    s.externalTick k t o = State.tickTail false o (Dev.frameEnd k t none o s.dev) s := by
  unfold State.externalTick
  rw [if_neg (by simp [h]), Dev.tickBase_eq hm, if_neg (Nat.not_lt.mpr ht), State.sourceTick_pos h hm]

theorem State.externalTick_early {k : TickKind} {t : Time} {o : TickObs} {s : State} (h : s.dev.ticking = true)
    (hm : s.dev.cascMaster = false) (ht : t < s.dev.glb.start + s.dev.frameMin) :
    s.externalTick k t o = s.onDev (Dev.deferTick t none) := by
  unfold State.externalTick
  rw [if_neg (by simp [h]), Dev.tickBase_eq hm, if_pos ht]

/-- The selected edge of TICK_IN is an external tick 40 ns after its rounded time. -/
theorem State.tickInEdge_selected {t : Time} {o : TickObs} {s : State} (hsrc : s.dev.glb.src = .tickIn)
    (hscan : s.dev.sec.bscan = false) : s.tickInEdge (s.dev.b Reg.GLB_TICK_CTL 2) t o
      = s.externalTick .tickIn (t / 8 * 8 + 40 * 1024) o := by
  unfold State.tickInEdge
  rw [if_neg (by simp [hsrc, hscan])]

theorem Dev.ticking_on {d : Dev} (h : d.ticking = true) : d.on domCORE = true := by
  simp only [Dev.ticking, Bool.and_eq_true] at h
  exact h.1.2

/-! ## Early ticks (R13) -/

/-- A counter that is incremented changes alone. -/
theorem Dev.inc_onlyRegs (d : Dev) (o : Nat) : d.OnlyRegs [o] (d.inc o) := d.wr_onlyRegs o _

theorem Dev.rd_inc_same (d : Dev) (o : Nat) : (d.inc o).rd o = satInc (d.rd o) := Dev.rd_wr_same _ _ _

/-- The device with a tick deferred at `t`, which carries the frame number `fr`. -/
def Dev.deferring (t : Time) (fr : Option Word) (d : Dev) : Dev := { d.at t with glb := { d.glb with deferred := true, deferFr := fr } }

/-- The first early tick is deferred. -/
theorem Dev.deferTick_first {t : Time} {fr : Option Word} {d : Dev} (h : d.glb.deferred = false) :
    d.deferTick t fr = ((d.deferring t fr).inc Reg.GLB_TICK_DEFER_CNT).raise Ev.TICK_DEFERRED := by
  unfold Dev.deferTick Dev.deferring
  dsimp only
  rw [Dev.at_glb, if_neg (by simp [h])]

/-- A further one is dropped. -/
theorem Dev.deferTick_further {t : Time} {fr : Option Word} {d : Dev} (h : d.glb.deferred = true) :
    d.deferTick t fr = ((d.at t).inc Reg.GLB_TICK_DROP_CNT).raise Ev.TICK_DROPPED := by
  unfold Dev.deferTick
  dsimp only
  rw [Dev.at_glb, if_pos h]

theorem Dev.deferring_rd (t : Time) (fr : Option Word) (d : Dev) (o : Nat) : (d.deferring t fr).rd o = d.rd o := Dev.at_rd d t o

/-- Settles O5: a TICK_IN edge before FRAME_MIN by `Dev.deferTick_first` or `Dev.deferTick_further`. -/
theorem earlyTicksAreDeferredOnce : Obligations.EarlyTicksAreDeferredOnce := by
  unfold Obligations.EarlyTicksAreDeferredOnce
  intro s o t ha htick hm hsrc hscan
  dsimp only
  intro hearly
  have hcore := Dev.ticking_on htick
  have hexec : exec (.tickInEdge (s.dev.b Reg.GLB_TICK_CTL 2) t o) s
      = .next (s.onDev (Dev.deferTick (t / 8 * 8 + 40 * 1024) none)) :=
    congrArg _ ((State.live_pos ha _).trans ((State.tickInEdge_selected hsrc hscan).trans (State.externalTick_early htick hm hearly)))
  rw [hexec]
  refine ⟨fun hd => ?_, fun hd => ?_⟩
  · rw [State.onDev, Dev.deferTick_first hd]
    refine ⟨_, _, rfl, Dev.raise_noted ((Dev.at_on s.dev _ _).trans hcore) (by decide), Dev.inc_onlyRegs _ _, ?_⟩
    rw [Dev.rd_inc_same, Dev.deferring_rd]
  · rw [State.onDev, Dev.deferTick_further hd]
    refine ⟨_, _, rfl, Dev.raise_noted ((Dev.at_on s.dev _ _).trans hcore) (by decide), Dev.inc_onlyRegs _ _, ?_⟩
    rw [Dev.rd_inc_same, Dev.at_rd]

/-! ## Sources (R11, R14, R16, R18; 13 R389) -/

/-- The cascade tick of a member whose source the cascade is. -/
theorem State.cascadeTick_member {o : TickObs} {s : State} {x : CascTick} {l : List CascTick} (hx : s.dev.mdv.ticks = x :: l)
    (htick : s.dev.ticking = true) (hmem : s.dev.cascMember = true) (hsel : s.dev.f Reg.GLB_TICK_CTL 1 0 = 3) :
    let d := s.dev.modMdv (fun m => { m with ticks := l })
    s.cascadeTick o = if s.dev.glb.src = .cascade ∧ x.dt < s.dev.glb.start + s.dev.frameMin
      then { s with dev := d.deferTick x.dt (some x.fr) }
      else State.tickTail true o (Dev.frameEnd .cascade x.dt (some x.fr) o d) { s with dev := d } := by
  intro d
  unfold State.cascadeTick
  rw [hx]
  dsimp only
  refine (if_neg (by simp [htick])).trans ((if_pos hmem).trans ((if_neg (not_not.mpr hsel)).trans (if_congr ?_ rfl (State.tick_pos htick))))
  simp only [Bool.and_eq_true, decide_eq_true_eq]
  rfl

/-- Settles O3: each source by the branch of its command, a tick of the block's own by `State.sourceTick_pos`, an external one by
`State.externalTick_pos`, and a member's by `State.cascadeTick_member`. -/
theorem ticksFallWhenTheSourceSays : Obligations.TicksFallWhenTheSourceSays := by
  unfold Obligations.TicksFallWhenTheSourceSays
  intro s o t ha htick hm
  have live (f : State → State) : (Host.Outcome.next (s.live f) : Res) = .next (f s) := congrArg _ (State.live_pos ha f)
  refine ⟨fun hsrc hstd => (live _).trans (congrArg _ ?internal), fun hsrc hen hdist hacc hmin => (live _).trans (congrArg _ ?encoder),
    fun hsrc hscan hmin => (live _).trans (congrArg _ ?tickIn), fun hd => (live _).trans (congrArg _ ?deferred),
    fun hsrc hd hsub => (live _).trans (congrArg _ ?substitute), fun x l hx hmem hsel => ?cascade,
    fun hsrc => ⟨(live _).trans (congrArg _ (if_pos (by simp [hsrc]))), (live _).trans (congrArg _ (if_pos (by simp [hsrc])))⟩,
    fun hsrc => (live _).trans (congrArg _ (if_pos (by simp [hsrc]))),
    fun hd => (live _).trans (congrArg _ (if_pos (by simp [hd]))), fun hx => (live _).trans (congrArg _ ?noTick)⟩
  case internal =>
    have hbase := Dev.tickBase_eq hm
    unfold State.internalTick
    dsimp only
    rw [if_neg (by simp [hsrc]), if_neg (not_not.mpr hsrc), if_neg (by simp [hstd]), hbase]
    exact State.sourceTick_pos htick hm
  case encoder =>
    unfold State.encoderTick
    dsimp only
    rw [if_neg]
    · exact State.externalTick_pos (s := s.onDev _) htick hm hmin
    · have h0 : ((256 * s.dev.f Reg.GLB_ENC_TICK_DIST 23 0 : Nat) : Int) ≠ 0 := by omega
      simp only [hsrc, hen, htick, h0, Int.not_lt.mpr hacc, decide_false, Bool.not_true, Bool.or_false, ne_eq, not_true_eq_false,
        Bool.false_eq_true, not_false_eq_true]
  case tickIn => exact (State.tickInEdge_selected hsrc hscan).trans (State.externalTick_pos htick hm hmin)
  case deferred =>
    refine (if_neg (by simp [hd])).trans ?_
    cases hfr : s.dev.glb.deferFr with
    | none => exact (State.sourceTick_pos htick hm).trans (by rw [Dev.tickBase_eq hm]; rfl)
    | some fr => exact State.tick_pos htick
  case substitute =>
    refine (if_neg (by simp [hsrc, hd, hsub])).trans ((State.sourceTick_pos htick hm).trans ?_)
    rw [Dev.tickBase_eq hm]
    rfl
  case cascade =>
    have hexec : exec (.cascadeTick o) s = .next (s.cascadeTick o) := live _
    have hmember := State.cascadeTick_member (o := o) hx htick hmem hsel
    refine ⟨fun h => hexec.trans (congrArg _ (hmember.trans (if_neg h))), fun h hd => ?_⟩
    rw [hexec, hmember.trans (if_pos h), Dev.deferTick_first (d := s.dev.modMdv _) hd]
    exact ⟨_, _, rfl, Dev.raise_noted ((Dev.at_on (s.dev.modMdv _) _ _).trans (Dev.ticking_on htick)) (by decide), Dev.inc_onlyRegs _ _⟩
  case noTick => rw [State.cascadeTick, hx]

end Sys2Proof.Machine
end

section
/-! The next pulse of a planned shot (02 R60, R66; 01 R45; 12 R342). -/
namespace Sys2Proof.Machine

/-! ## What a shot leaves alone -/

/-- A loop in which every turn changes the receive front end alone does so as a whole. -/
theorem forN_afe {n : Nat} {f : Nat → Dev → Dev} (h : ∀ i d, f i d = { d with afe := (f i d).afe }) (d : Dev) :
    forN n f d = { d with afe := (forN n f d).afe } := by
  refine forN_rel (fun d e : Dev => e = { d with afe := e.afe }) (fun _ => rfl) (fun h k => ?_) (fun i d _ => h i d) d
  rw [k, h]

/-- The reference of a shot goes to the banks of the receive front end, and nowhere else. -/
theorem Dev.shotRef_changes (e k : Nat) (t : Time) (d : Dev) : d.shotRef e k t = { d with afe := (d.shotRef e k t).afe } :=
  forN_afe (fun b d => by dsimp only; split <;> rfl) d

theorem Dev.shotMissed_changes (e : Nat) (t : Time) (d : Dev) : d.shotMissed e t = { d with afe := (d.shotMissed e t).afe } :=
  forN_afe (fun b d => by dsimp only; split <;> rfl) d

@[simp] theorem Dev.shotRef_brn (e k : Nat) (t : Time) (d : Dev) : (d.shotRef e k t).brn = d.brn := by rw [Dev.shotRef_changes]
@[simp] theorem Dev.shotRef_regs (e k : Nat) (t : Time) (d : Dev) : (d.shotRef e k t).regs = d.regs := by rw [Dev.shotRef_changes]

@[simp] theorem Dev.pulseMissed_brn (e : Nat) (t : Time) (second : Bool) (d : Dev) : (d.pulseMissed e t second).brn = d.brn := by
  unfold Dev.pulseMissed
  split
  · rfl
  · rw [Dev.shotMissed_changes]

@[simp] theorem Dev.pulseMissed_regs (e : Nat) (t : Time) (second : Bool) (d : Dev) : (d.pulseMissed e t second).regs = d.regs := by
  unfold Dev.pulseMissed
  split
  · rfl
  · rw [Dev.shotMissed_changes]

/-- A first pulse is the shot's reference; a second one passes none. -/
theorem Dev.passRef_brn (e k : Nat) (t : Time) (second : Bool) (d : Dev) : (d.passRef e k t second).brn
    = { d.brn with last := if second then d.brn.last else tabPut 0 d.brn.last e (t + 1) } := by
  unfold Dev.passRef
  split
  · rfl
  · rw [Dev.shotRef_brn]

@[simp] theorem Dev.passRef_regs (e k : Nat) (t : Time) (second : Bool) (d : Dev) : (d.passRef e k t second).regs = d.regs := by
  unfold Dev.passRef
  split
  · rfl
  · rw [Dev.shotRef_regs]

/-! ## The train of pulses -/

/-- The train as it stands once the time of a pulse of shot `k` has come: at the second pulse of a pair, or at the next shot. -/
def Brn.MovedOn (e k : Nat) (pair second : Bool) (b : Brn) : Prop :=
  if pair = true ∧ second = false then tabGet 0 b.next e = k ∧ b.second.testBit e = true
  else tabGet 0 b.next e = k + 1 ∧ b.second.testBit e = false

/-- The train looks at its two fields alone. -/
theorem Brn.MovedOn.congr {e k : Nat} {pair second : Bool} {b c : Brn} (h : b.MovedOn e k pair second) (hn : c.next = b.next)
    (hs : c.second = b.second) : c.MovedOn e k pair second := by
  unfold Brn.MovedOn at *
  rw [hn, hs]
  exact h

/-- The train of emitter `e` after the time of a pulse of shot `k`. -/
def Dev.train (e k : Nat) (second : Bool) (d : Dev) : Brn :=
  if d.emPair e && !second then { d.brn with second := setBit d.brn.second e }
  else { d.brn with next := tabPut 0 d.brn.next e (k + 1), second := clrBit d.brn.second e }

theorem Dev.pulsePast_eq (e k : Nat) (second : Bool) (d : Dev) : d.pulsePast e k second = { d with brn := d.train e k second } := by
  unfold Dev.pulsePast Dev.train
  split <;> rfl

/-- Nothing but the train's two fields moves. -/
theorem Dev.train_eq (e k : Nat) (second : Bool) (d : Dev) : d.train e k second
    = { d.brn with next := (d.train e k second).next, second := (d.train e k second).second } := by
  unfold Dev.train
  split <;> rfl

theorem Dev.train_movedOn (e k : Nat) (second : Bool) (d : Dev) (hk : tabGet 0 d.brn.next e = k) :
    (d.train e k second).MovedOn e k (d.emPair e) second := by
  unfold Dev.train Brn.MovedOn
  cases hp : d.emPair e <;> cases second
  case true.false => exact ⟨hk, by simp [testBit_setBit]⟩
  all_goals exact ⟨by simp, by simp [testBit_clrBit]⟩

/-! ## One pulse -/

/-- The device once device time has come to the pulse and the train has moved on. -/
def Dev.atPulse (e : Nat) (d : Dev) : Dev :=
  let k := tabGet 0 d.brn.next e
  let second := d.brn.second.testBit e
  { d with tim := (d.at (d.pulseDt e k second)).tim, brn := d.train e k second }

/-- What a pulse of shot `k` at `t` does at the outputs of the emitters. -/
def State.pulse (e k n : Nat) (t : Time) (second : Bool) (u : State) : State :=
  if !u.dev.drives then u.onDev (Dev.pulseSeen e k n t second)
  else if u.dev.planFires e k && u.mayEmit e then u.pulseOut e k t second
  else u.onDev (Dev.pulseMissed e t second)

/-- The block once the time of the next pulse has come, its outputs done. -/
def State.shot (e n : Nat) (s : State) : State :=
  let k := tabGet 0 s.dev.brn.next e
  let second := s.dev.brn.second.testBit e
  { s with dev := s.dev.atPulse e }.pulse e k n (s.dev.pulseDt e k second) second

@[simp] theorem Dev.at_lock (d : Dev) (t : Time) : (d.at t).tim.lock = d.tim.lock := by unfold Dev.at; split <;> rfl

/-- Neither device time nor the train has a say in the permission to emit. -/
theorem State.mayEmit_atPulse (s : State) (e : Nat) : ({ s with dev := s.dev.atPulse e } : State).mayEmit e = s.mayEmit e := by
  unfold State.mayEmit
  rw [show (s.dev.atPulse e).tim.lock = s.dev.tim.lock from Dev.at_lock _ _]
  unfold Dev.atPulse
  dsimp only
  rw [Dev.train_eq]
  rfl

theorem Dev.planFires_atPulse (d : Dev) (e k : Nat) : (d.atPulse e).planFires e k = d.planFires e k := by
  unfold Dev.atPulse
  dsimp only
  rw [Dev.train_eq]
  rfl

theorem Dev.counterRoom_atPulse (d : Dev) (t : Tab Word) (e n : Nat) : (d.atPulse e).counterRoom t e n = d.counterRoom t e n := by
  unfold Dev.atPulse
  dsimp only
  rw [Dev.train_eq]
  rfl

/-- Device time comes to the pulse, and the train moves on. -/
theorem Dev.pulsePast_at (d : Dev) (e : Nat) : (d.at (d.pulseDt e (tabGet 0 d.brn.next e) (d.brn.second.testBit e))).pulsePast e
    (tabGet 0 d.brn.next e) (d.brn.second.testBit e) = d.atPulse e := by
  rw [Dev.pulsePast_eq, Dev.at_eq]
  rfl

theorem Dev.recharged_atPulse (d : Dev) (e : Nat) : (d.atPulse e).brn.recharged = d.brn.recharged := by
  unfold Dev.atPulse
  dsimp only
  rw [Dev.train_eq]

/-- A planned shot without a new charge code: its pulse, and then the count of the hard-wired logic. -/
theorem State.shotFire_planned {e : Nat} {o : FireObs} {s : State} (hon : s.dev.on domACQ = true)
    (hk : tabGet 0 s.dev.brn.next e < s.dev.planned e) (hc : s.dev.brn.recharged.testBit e = false) :
    s.shotFire e o = (s.shot e o.pulses).hwlCount e o.pulses o.gate o.lq := by
  unfold State.shotFire State.shot State.pulse
  dsimp only
  rw [if_neg (by simp [hon, hk]), State.onDev, Dev.pulsePast_at, Dev.recharged_atPulse, hc, Bool.false_and,
    if_neg Bool.false_ne_true]

/-! ## The count of the hard-wired logic -/

theorem State.hwlCount_none (e gate lq : Nat) (s : State) : s.hwlCount e 0 gate lq = s := if_pos rfl

/-- The island once the hard-wired logic has counted `n` pulses of emitter `e`. -/
def Island.counted (e n gate : Nat) (i : Island) : Island :=
  { i with count := tabPut 0 i.count e (tabGet 0 i.count e + n), gate := tabPut 0 i.gate e (tabGet 0 i.gate e + gate) }

/-- What the hard-wired logic does with the pulses that it sees. -/
theorem State.hwlCount_seen {e n gate lq : Nat} {s : State} (h0 : 0 < n) : s.hwlCount e n gate lq =
    let u := s.onIsl (Island.counted e n gate)
    let excess := decide (spbPulse s.isl.spb e < tabGet 0 s.isl.count e + n)
      || decide (spbGate s.isl.spb e + 2 * (tabGet 0 s.isl.count e + n) < tabGet 0 s.isl.gate e + gate)
    let v := if excess then u.fault 0x09 e else u
    if spbCharge v.isl.spb e + 64 < lq then v.fault 0x0A e else v := by
  unfold State.hwlCount
  rw [if_neg (Nat.ne_of_gt h0)]
  rfl

/-- Within its limits the hard-wired logic counts what it sees, without a fault. -/
theorem State.hwlCount_within {e n gate lq : Nat} {s : State} (h0 : 0 < n)
    (hp : tabGet 0 s.isl.count e + n ≤ spbPulse s.isl.spb e)
    (hg : tabGet 0 s.isl.gate e + gate ≤ spbGate s.isl.spb e + 2 * (tabGet 0 s.isl.count e + n))
    (hl : lq ≤ spbCharge s.isl.spb e + 64) : s.hwlCount e n gate lq = s.onIsl (Island.counted e n gate) := by
  have hin : (decide (spbPulse s.isl.spb e < tabGet 0 s.isl.count e + n)
      || decide (spbGate s.isl.spb e + 2 * (tabGet 0 s.isl.count e + n) < tabGet 0 s.isl.gate e + gate)) = false := by
    simp [hp, hg]
  rw [State.hwlCount_seen h0, hin]
  exact if_neg (Nat.not_lt.mpr hl)

/-! ## The obligation -/

@[simp] theorem State.pulseOut_isl (e k : Nat) (t : Time) (second : Bool) (s : State) : (s.pulseOut e k t second).isl = s.isl := by
  unfold State.pulseOut
  split
  · dsimp only
    split <;> simp only [State.onDev_isl]
  · rw [State.onDev_isl]

@[simp] theorem State.pulseOut_fuses (e k : Nat) (t : Time) (second : Bool) (s : State) :
    (s.pulseOut e k t second).fuses = s.fuses := by
  unfold State.pulseOut
  split
  · dsimp only
    split <;> simp only [State.onDev_fuses]
  · rw [State.onDev_fuses]

/-- Pulses at the outputs leave the island and the fuses alone. -/
theorem State.shot_isl (e n : Nat) (s : State) : (s.shot e n).isl = s.isl ∧ (s.shot e n).fuses = s.fuses := by
  unfold State.shot State.pulse
  dsimp only
  split
  · exact ⟨State.onDev_isl _ _, State.onDev_fuses _ _⟩
  · split
    · exact ⟨State.pulseOut_isl _ _ _ _ _, State.pulseOut_fuses _ _ _ _ _⟩
    · exact ⟨State.onDev_isl _ _, State.onDev_fuses _ _⟩

theorem Dev.drives_atPulse (d : Dev) (e : Nat) : (d.atPulse e).drives = d.drives := rfl

/-- A pulse that is permitted, and for which the counter has room, fires. -/
theorem State.shot_fires {e n : Nat} {s : State} (hf : s.dev.planFires e (tabGet 0 s.dev.brn.next e) = true)
    (hm : s.mayEmit e = true) (hroom : s.dev.counterRoom s.isl.spb e 1 = 1) :
    let k := tabGet 0 s.dev.brn.next e
    let second := s.dev.brn.second.testBit e
    s.shot e n = { s with dev := ((s.dev.atPulse e).fireOut e).passRef e k (s.dev.pulseDt e k second) second } := by
  intro k second
  have hdrives : s.dev.drives = true := by
    simp only [State.mayEmit, Bool.and_eq_true] at hm
    exact hm.1.2
  unfold State.shot State.pulse State.pulseOut
  dsimp only
  rw [Dev.drives_atPulse, hdrives, if_neg (by decide), Dev.planFires_atPulse, hf, State.mayEmit_atPulse, hm, if_pos (by decide),
    Dev.counterRoom_atPulse, hroom, if_neg (by decide)]
  rfl

/-- Without permission a unit with the claim misses the pulse, and so does one without it that sees none. -/
theorem State.shot_missed {e n : Nat} {s : State} (hm : s.mayEmit e = false) (h : s.dev.drives = true ∨ n = 0) :
    let second := s.dev.brn.second.testBit e
    s.shot e n = { s with dev := (s.dev.atPulse e).pulseMissed e (s.dev.pulseDt e (tabGet 0 s.dev.brn.next e) second) second } := by
  intro second
  unfold State.shot State.pulse
  dsimp only
  rw [Dev.drives_atPulse, State.mayEmit_atPulse, hm, Bool.and_false, if_neg Bool.false_ne_true]
  split
  next hd =>
    have hn : n = 0 := h.resolve_left fun ht => by simp [ht] at hd
    rw [State.onDev, Dev.pulseSeen, if_pos hn]
  next => rfl

/-- A unit without the claim observes the pulse of its partner. -/
theorem State.shot_seen {e n : Nat} {s : State} (hd : s.dev.drives = false) :
    let k := tabGet 0 s.dev.brn.next e
    let second := s.dev.brn.second.testBit e
    s.shot e n = { s with dev := (s.dev.atPulse e).pulseSeen e k n (s.dev.pulseDt e k second) second } := by
  intro k second
  unfold State.shot State.pulse
  dsimp only
  rw [Dev.drives_atPulse, if_pos (by simp [hd])]
  rfl

/-- A seen pulse counts as seen, and as a first pulse it is the shot's reference. -/
theorem Dev.pulseSeen_brn {e k n : Nat} {t : Time} {second : Bool} {d : Dev} (hn : n ≠ 0) : (d.pulseSeen e k n t second).brn
    = { d.brn with seen := tabMod 0 d.brn.seen e (· + 1), last := if second then d.brn.last else tabPut 0 d.brn.last e (t + 1) } := by
  rw [Dev.pulseSeen, if_neg hn, Dev.passRef_brn]

/-- The counts stay when the train moves on. -/
theorem Dev.train_counts (e k : Nat) (second : Bool) (d : Dev) : (d.train e k second).fired = d.brn.fired
    ∧ (d.train e k second).gate = d.brn.gate ∧ (d.train e k second).last = d.brn.last := by
  rw [Dev.train_eq]
  exact ⟨rfl, rfl, rfl⟩

/-- The reference of emitter `e` once a pulse of shot `k` has passed one, a second pulse none. -/
theorem tabGet_last (m : Tab Nat) (e t : Nat) (second : Bool) :
    tabGet 0 (if second then m else tabPut 0 m e t) e = if second then tabGet 0 m e else t := by
  cases second with
  | true => rfl
  | false => exact tabGet_put_same _ _ _ _

/-- The first pulse of a shot comes at its planned instant. -/
theorem Dev.pulseDt_of_first {d : Dev} {e k : Nat} {second : Bool} (h : second = false) : d.pulseDt e k second = d.fireDt e k := by
  rw [h]
  rfl

/-- Pulses seen at the pins without permission are not counted as fired, and only a unit without the claim takes the reference of a
first pulse. -/
theorem State.shot_unpermitted {e n : Nat} {s : State} (hm : s.mayEmit e = false) (hn : n ≠ 0) :
    let k := tabGet 0 s.dev.brn.next e
    let second := s.dev.brn.second.testBit e
    (s.shot e n).dev.brn.fired = s.dev.brn.fired
    ∧ (s.shot e n).dev.brn.MovedOn e k (s.dev.emPair e) second
    ∧ tabGet 0 (s.shot e n).dev.brn.last e
        = if s.dev.drives = false ∧ second = false then s.dev.fireDt e k + 1 else tabGet 0 s.dev.brn.last e := by
  intro k second
  obtain ⟨hfired, -, hlast⟩ := s.dev.train_counts e k second
  have hmoved : (s.dev.train e k second).MovedOn e k (s.dev.emPair e) second := Dev.train_movedOn e k second s.dev rfl
  by_cases hd : s.dev.drives = true
  · have hbrn : (s.shot e n).dev.brn = s.dev.train e k second := by
      rw [State.shot_missed hm (.inl hd), Dev.pulseMissed_brn]
      rfl
    rw [hbrn, hfired, hlast, if_neg (by simp [hd])]
    exact ⟨rfl, hmoved, rfl⟩
  · have hd : s.dev.drives = false := by simpa using hd
    have hbrn : (s.shot e n).dev.brn = { s.dev.train e k second with
        seen := tabMod 0 (s.dev.train e k second).seen e (· + 1),
        last := if second then s.dev.brn.last else tabPut 0 s.dev.brn.last e (s.dev.pulseDt e k second + 1) } := by
      rw [State.shot_seen hd, ← hlast]
      exact Dev.pulseSeen_brn hn
    rw [hbrn]
    refine ⟨hfired, hmoved.congr rfl rfl, (tabGet_last _ _ _ _).trans ?_⟩
    cases hs : second with
    | true => rw [if_pos rfl, if_neg (by simp)]
    | false => rw [if_neg (by simp), if_pos ⟨hd, rfl⟩, Dev.pulseDt_of_first rfl]

/-- Settles O7: what the pulse of a planned shot does (`State.shotFire_planned`) by whether it is permitted (`State.shot_fires`),
withheld (`State.shot_missed`) or seen without permission (`State.shot_unpermitted`). That a pair of which the second pulse alone
fires has no reference is log 106. -/
theorem shotsFireOnlyWhenPermitted : Obligations.ShotsFireOnlyWhenPermitted := by
  unfold Obligations.ShotsFireOnlyWhenPermitted
  intro s e o ha hon d k pair second moved hk hc
  have hexec : exec (.shotFire e o) s = .next ((s.shot e o.pulses).hwlCount e o.pulses o.gate o.lq) :=
    congrArg _ ((State.live_pos ha _).trans (State.shotFire_planned hon hk hc))
  have hnone (h0 : o.pulses = 0) : exec (.shotFire e o) s = .next (s.shot e o.pulses) :=
    hexec.trans (congrArg _ (if_pos h0))
  have hmoved : moved (d.train e k second) := Dev.train_movedOn e k second d rfl
  obtain ⟨hfired, hgate, hlast⟩ := d.train_counts e k second
  obtain ⟨hisl, hfuses⟩ := s.shot_isl e o.pulses
  refine ⟨fun hst => ?notRunning, fun h0 hf hm hroom => ?fires, fun h0 hm => ?withheld, fun hm hn hp hg hl => ?seen⟩
  case notRunning => simp [State.mayEmit, State.headMay, State.permits, State.grants, Island.grant, hst]
  case fires =>
    have hshot := State.shot_fires (n := o.pulses) hf hm hroom
    have hbrn : (s.shot e o.pulses).dev.brn = { ((d.atPulse e).fireOut e).brn with
        last := if second then d.brn.last else tabPut 0 d.brn.last e (d.pulseDt e k second + 1) } := by
      rw [hshot, ← hlast]
      exact Dev.passRef_brn _ _ _ _ _
    have hfiredOut : (s.shot e o.pulses).dev.brn.fired = tabPut 0 d.brn.fired e (tabGet 0 d.brn.fired e + 1) := by
      rw [hbrn, ← hfired]
      rfl
    have hgateOut : (s.shot e o.pulses).dev.brn.gate = tabPut 0 d.brn.gate e (tabGet 0 d.brn.gate e + d.emGate e) := by
      rw [hbrn, ← hgate]
      rfl
    refine ⟨_, hnone h0, hisl, hfuses, ?_, ?_, ?_, ?_, fun f hne => ?_, ?_⟩
    · rw [hbrn]
      exact Brn.MovedOn.congr hmoved rfl rfl
    · rw [hfiredOut, tabGet_put_same]
    · rw [hgateOut, tabGet_put_same]
    · rw [hbrn]
      refine (tabGet_last _ _ _ _).trans ?_
      split
      next => rfl
      next hs => rw [Dev.pulseDt_of_first (Bool.eq_false_of_not_eq_true hs)]
    · rw [hfiredOut, tabGet_put_ne _ _ _ hne.symm]
    · rw [hshot]
      exact Dev.passRef_regs _ _ _ _ _
  case withheld =>
    have hshot := State.shot_missed (n := o.pulses) hm (.inr h0)
    have hbrn : (s.shot e o.pulses).dev.brn = d.train e k second := by
      rw [hshot]
      exact Dev.pulseMissed_brn _ _ _ _
    refine ⟨_, hnone h0, hisl, hbrn ▸ hfired, hbrn ▸ hgate, hbrn ▸ hlast, hbrn ▸ hmoved, ?_⟩
    rw [hshot]
    exact Dev.pulseMissed_regs _ _ _ _
  case seen =>
    obtain ⟨hf, hmv, hl'⟩ := State.shot_unpermitted hm (Nat.ne_of_gt hn)
    rw [hexec, State.hwlCount_within hn (by rwa [hisl]) (by rwa [hisl]) (by rwa [hisl])]
    exact ⟨_, rfl, hf, hmv, hl', congrArg (Island.counted e o.pulses o.gate) hisl⟩

end Sys2Proof.Machine
end

section
/-! What a servo sample does to one axis and leaves of everything else (03 R73, R75, R82, R90, R96). -/
namespace Sys2Proof.Machine

/-! ## Registers within bounds -/

/-- Registers alone differ, and of them only those from `lo` below `hi`. -/
def Dev.WritesIn (lo hi : Nat) (d e : Dev) : Prop := e = { d with regs := e.regs } ∧ ∀ o, o < lo ∨ hi ≤ o → e.rd o = d.rd o

theorem Dev.WritesIn.refl (lo hi : Nat) (d : Dev) : d.WritesIn lo hi d := ⟨rfl, fun _ _ => rfl⟩

theorem Dev.WritesIn.trans {lo hi : Nat} {d e g : Dev} (h : d.WritesIn lo hi e) (k : e.WritesIn lo hi g) : d.WritesIn lo hi g := by
  obtain ⟨he, hrd⟩ := h
  obtain ⟨ke, krd⟩ := k
  exact ⟨by rw [ke, he], fun o ho => (krd o ho).trans (hrd o ho)⟩

theorem Dev.WritesIn.wr {lo hi o : Nat} (d : Dev) (v : Word) (h : lo ≤ o) (h2 : o < hi) : d.WritesIn lo hi (d.wr o v) :=
  ⟨rfl, fun _ hp => Dev.rd_wr_ne _ _ (by omega)⟩

theorem Dev.WritesIn.loop {lo hi n : Nat} {f : Nat → Dev → Dev} (h : ∀ (i : Nat) (d : Dev), i < n → d.WritesIn lo hi (f i d)) (d : Dev) :
    d.WritesIn lo hi (forN n f d) :=
  forN_rel (Dev.WritesIn lo hi) (Dev.WritesIn.refl lo hi) (fun h k => Dev.WritesIn.trans h k) h d

/-- The gain tables of a servo table. -/
theorem Dev.gainTables_writesIn (a : Nat) (v w : Nat → Nat) (d : Dev) : d.WritesIn (0x201400 + 4096 * a) (0x202000 + 4096 * a)
    (forN 33 (fun i d => (d.wrN (Reg.HCH_GT0 a i) (v i)).wrN (Reg.HCH_GT1 a i) (w i)) d) := by
  refine .loop (fun i d hi => .trans (.wr _ _ ?_ ?_) (.wr _ _ ?_ ?_)) _
  all_goals
    simp only [Reg.HCH_GT0, Reg.HCH_GT1]
    omega

/-- A servo table put in force changes registers of its coefficients alone. -/
theorem Dev.putServo_writesIn (a : Nat) (bs : List Byte) (d : Dev) :
    d.WritesIn (0x201200 + 4096 * a) (0x202000 + 4096 * a) (Dev.putServo a bs d) := by
  dsimp only [Dev.putServo]
  refine .trans (.trans (.trans (.loop (fun i d hi => .loop (fun j d hj => .wr _ _ ?_ ?_) _) _)
    (.loop (fun i d hi => .loop (fun j d hj => .wr _ _ ?_ ?_) _) _)) (.wr _ _ ?_ ?_))
    (.loop (fun i d hi => .trans (.wr _ _ ?_ ?_) (.wr _ _ ?_ ?_)) _)
  all_goals
    simp only [Reg.HCH_REGION, Reg.HCH_BIQ, Reg.HCH_I_LIM, Reg.HCH_GT0, Reg.HCH_GT1]
    omega

/-- A servo table put in force sets I_LIM. -/
theorem Dev.putServo_iLim (a : Nat) (bs : List Byte) (d : Dev) :
    (Dev.putServo a bs d).rd (Reg.HCH_I_LIM a) = word (leAt bs 324 4) := by
  dsimp only [Dev.putServo]
  obtain ⟨-, hrd⟩ := Dev.gainTables_writesIn a (fun i => leAt bs (328 + 2 * i) 2) (fun i => leAt bs (394 + 2 * i) 2)
    (Dev.wrN (forN 3 (fun q d => forN 5 (fun c d => d.wrN (Reg.HCH_BIQ a q c) (leAt bs (264 + 20 * q + 4 * c) 4)) d)
      (forN 8 (fun r d => forN 5 (fun w d =>
        d.wrN (Reg.HCH_REGION a r w) (if w = 4 then leAt bs (8 + 32 * r + 16) 1 else leAt bs (8 + 32 * r + 4 * w) 4)) d) d))
      (Reg.HCH_I_LIM a) (leAt bs 324 4))
  rw [hrd _ (.inl (by simp only [Reg.HCH_I_LIM]; omega))]
  exact Dev.rd_wr_same _ _ _

/-! ## What a sample keeps of an axis -/

/-- What the steps between the boundary and the drive word of a sample leave alone. -/
def Axis.gist (x : Axis) : Axis :=
  { st := x.st, drive := x.drive, cmds := x.cmds, trip := x.trip, ramp := x.ramp, exOn := x.exOn, fbRun := x.fbRun, fbLoss := x.fbLoss,
    freeze := x.freeze, trackErr := x.trackErr, parkTimeout := x.parkTimeout, cmdIgn := x.cmdIgn, tracked := x.tracked,
    activeDrive := x.activeDrive }

theorem advanceGen_gist (l : Limits) (p : Prof) (run : Bool) (t : Time) (fuel : Nat) (x : Axis) :
    (advanceGen l p run t fuel x).gist = x.gist := by
  induction fuel generalizing x with
  | zero => rfl
  | succ n ih =>
    unfold advanceGen
    split
    · rfl
    · dsimp only
      split
      · rfl
      · split
        · rfl
        · split
          · exact ih _
          · split
            · exact ih _
            · split
              · rfl
              · split
                · exact ih _
                · split
                  · exact ih _
                  · rfl

theorem Dev.spClamp_gist (a : Nat) (t : Time) (r0 : Int) (d : Dev) (x : Axis) : (d.spClamp a t r0 x).1.gist = x.gist := by
  unfold Dev.spClamp
  dsimp only
  split <;> rfl

theorem Dev.takeUp_gist (a r : Nat) (x : Axis) (d : Dev) : (d.takeUp a r x).1.gist = x.gist := by
  unfold Dev.takeUp
  dsimp only
  split <;> split <;> rfl

theorem Dev.setRegion_gist (a r : Nat) (x : Axis) (d : Dev) : (d.setRegion a r x).1.gist = x.gist :=
  Dev.takeUp_gist a r _ d

/-- The drive word of a sample changes the drive alone. -/
theorem Dev.axisDrive_gist (a : Nat) (d : Dev) (x : Axis) :
    (d.axisDrive a x).gist = { x.gist with drive := (d.axisDrive a x).drive } := by
  unfold Dev.axisDrive
  dsimp only
  split
  · rfl
  · split
    · rfl
    · split
      · rfl
      · split <;> rfl

/-- The checks of a sample change its counts alone. -/
theorem Dev.axisChecks_gist (a : Nat) (d : Dev) (p : PfIn) (x : Axis) :
    (d.axisChecks a p x).gist = { x.gist with fbRun := (d.axisChecks a p x).fbRun } := by
  unfold Dev.axisChecks
  split <;> rfl

/-- A value clamped to ± `lim` lies there. -/
theorem clampI_natAbs (lim : Nat) (v : Int) : (clampI (-(lim : Int)) lim v).natAbs ≤ lim := by
  unfold clampI
  split
  · omega
  · split <;> omega

theorem Dev.control_drive (d : Dev) (a : Nat) (x : Axis) : (d.control a x).drive.natAbs ≤ d.f (Reg.HCH_DRV_LIM a) 14 0 :=
  clampI_natAbs _ _

/-! ## What one axis's turn leaves of the device -/

/-- Registers, axes and pending records alone differ; of the axes only axis `a`, and of the servo's registers only those of its
window. -/
structure Dev.AxisTurn (a : Nat) (d e : Dev) : Prop where
  frame : e = { d with regs := e.regs, evt := { d.evt with pend := e.evt.pend }, hch := { d.hch with axes := e.hch.axes } }
  others : ∀ b, b ≠ a → e.ax b = d.ax b
  regs : ∀ o, 0x200000 ≤ o → o < 0x210000 → (o < 0x201000 + 4096 * a ∨ 0x202000 + 4096 * a ≤ o) → e.rd o = d.rd o

theorem Dev.AxisTurn.refl (a : Nat) (d : Dev) : d.AxisTurn a d := ⟨rfl, fun _ _ => rfl, fun _ _ _ _ => rfl⟩

theorem Dev.AxisTurn.trans {a : Nat} {d e g : Dev} (h : d.AxisTurn a e) (k : e.AxisTurn a g) : d.AxisTurn a g := by
  refine ⟨?_, fun b hb => (k.others b hb).trans (h.others b hb), fun o h1 h2 h3 => (k.regs o h1 h2 h3).trans (h.regs o h1 h2 h3)⟩
  rw [k.frame, h.frame]

theorem Dev.AxisTurn.on {a : Nat} {d e : Dev} (h : d.AxisTurn a e) (k : Nat) : e.on k = d.on k := by
  rw [h.frame]
  rfl

theorem Dev.WritesIn.axisTurn {a lo hi : Nat} {d e : Dev} (h : d.WritesIn lo hi e) (hlo : 0x201000 + 4096 * a ≤ lo)
    (hhi : hi ≤ 0x202000 + 4096 * a) : d.AxisTurn a e := by
  obtain ⟨hframe, hrd⟩ := h
  refine ⟨by rw [hframe], fun b _ => by rw [hframe]; rfl, fun o _ _ ho => hrd o (by omega)⟩

theorem Dev.AxisTurn.wr (a : Nat) {o : Nat} (d : Dev) (v : Word) (h : 0x201000 + 4096 * a ≤ o) (h2 : o < 0x202000 + 4096 * a) :
    d.AxisTurn a (d.wr o v) :=
  Dev.WritesIn.axisTurn (.wr d v h h2) (le_refl _) (le_refl _)

theorem Dev.AxisTurn.setAx (a : Nat) (d : Dev) (x : Axis) : d.AxisTurn a (d.setAx a x) :=
  ⟨rfl, fun _ hb => d.ax_setAx_ne x hb.symm, fun _ _ _ _ => rfl⟩

/-- The registers of the servo hold no raw bits of events. -/
theorem evtRaw_ne_servo {n o : Nat} (h2 : o < 0x210000) : o ≠ evtRawOff n := by
  unfold evtRawOff Reg.DSC_EVT_RAW
  omega

theorem Dev.AxisTurn.raise (a : Nat) {d : Dev} (hc : d.on domCORE = true) {n : Nat} (hn : n < 512) : d.AxisTurn a (d.raise n) := by
  obtain ⟨honly, -, hrd, -⟩ := Dev.raise_noted hc hn
  unfold Dev.OnlyNotes at honly
  exact ⟨by rw [honly], fun b _ => by rw [honly]; rfl, fun o _ h2 _ => hrd o (evtRaw_ne_servo h2)⟩

/-- What a step of the control of axis `a` leaves: a turn of the axis, and every register below its coefficients. -/
def Dev.CoefTurn (a : Nat) (d e : Dev) : Prop :=
  d.AxisTurn a e ∧ ∀ o, 0x200000 ≤ o → o < 0x201200 + 4096 * a → a < 8 → e.rd o = d.rd o

theorem Dev.CoefTurn.refl (a : Nat) (d : Dev) : d.CoefTurn a d := ⟨.refl a d, fun _ _ _ _ => rfl⟩

theorem Dev.CoefTurn.trans {a : Nat} {d e g : Dev} (h : d.CoefTurn a e) (k : e.CoefTurn a g) : d.CoefTurn a g :=
  ⟨h.1.trans k.1, fun o h1 h2 h3 => (k.2 o h1 h2 h3).trans (h.2 o h1 h2 h3)⟩

theorem Dev.CoefTurn.raise (a : Nat) {d : Dev} (hc : d.on domCORE = true) {n : Nat} (hn : n < 512) : d.CoefTurn a (d.raise n) := by
  obtain ⟨-, -, hrd, -⟩ := Dev.raise_noted hc hn
  exact ⟨.raise a hc hn, fun o _ h2 h3 => hrd o (evtRaw_ne_servo (by omega))⟩

theorem Dev.CoefTurn.raiseIf (a : Nat) {d : Dev} (hc : d.on domCORE = true) (c : Bool) {n : Nat} (hn : n < 512) :
    d.CoefTurn a (d.raiseIf c n) := by
  cases c with
  | false => exact .refl a d
  | true => exact .raise a hc hn

theorem Dev.takeUp_coefTurn (a r : Nat) (x : Axis) {d : Dev} (hc : d.on domCORE = true) : d.CoefTurn a (d.takeUp a r x).2 := by
  unfold Dev.takeUp
  dsimp only
  split
  next bs _ =>
    have hput := Dev.putServo_writesIn a bs d
    have hturn : d.CoefTurn a (Dev.putServo a bs d) :=
      ⟨hput.axisTurn (by omega) (le_refl _), fun o _ h2 _ => hput.2 o (.inl h2)⟩
    exact hturn.trans (.raise a ((hturn.1.on _).trans hc) (by decide))
  next => exact .refl a d

theorem Dev.setRegion_coefTurn (a r : Nat) (x : Axis) {d : Dev} (hc : d.on domCORE = true) : d.CoefTurn a (d.setRegion a r x).2 :=
  Dev.takeUp_coefTurn a r _ hc

/-! ## The parts of one axis's turn -/

/-- The drive of the sample before takes effect, and the excitation read is shown. -/
def Dev.axisApplied (a : Nat) (p : PfIn) (d : Dev) : Dev :=
  (d.wr (Reg.HCH_DRIVE a) (wordI (d.ax a).drive)).wrN (Reg.HCH_EX_READ a) p.exRead

/-- The axis at the sample: past its changes of state, and measured. -/
def Dev.axisMeasured (a : Nat) (p : PfIn) (d : Dev) : Axis :=
  let x := d.axisBoundary a (d.ax a)
  { x with y := d.measure a p, samples := x.samples + 1, regionHeld := x.regionHeld + 1 }

/-- The setpoint of an axis under control moves on. -/
def Dev.axisMoved (a : Nat) (t : Time) (d : Dev) (x : Axis) : Axis :=
  if x.closed then advanceGen (d.limits a) (d.prof a) (x.st = .run) t 4 x else x

/-- The region that is wanted is taken up, and a due table with it. -/
def Dev.axisRegion (a : Nat) (x : Axis) (d : Dev) : Axis × Dev :=
  if x.closed && d.regionWanted a x ≠ x.region && 4 ≤ x.regionHeld then d.setRegion a (d.regionWanted a x) x
  else d.takeUp a x.region x

/-- The setpoint moves on within its limits, and region and table are taken up. -/
def Dev.axisSteered (a : Nat) (t : Time) (x : Axis) (d : Dev) : Axis × Dev :=
  let c := d.spClamp a t x.r (d.axisMoved a t x)
  (d.raiseIf c.2 Ev.HCH_SP_CLAMP).axisRegion a c.1

/-- The drive word, the checks, and the arrival at PARK_POS. -/
def Dev.axisDriven (a : Nat) (p : PfIn) (d : Dev) (x : Axis) : Axis :=
  let x := d.axisDrive a x
  let x := if 0 < x.tracked then x else d.axisChecks a p x
  let x := { x with tracked := x.tracked - 1, hist := (x.y :: x.hist).take 255 }
  let errMax := d.f (Reg.HCH_ERR_CTL a) 15 0
  if x.st = .parking && x.pieces.isEmpty && decide (x.e.natAbs ≤ errMax) then
    { x with st := .parked, samples := 0, joining := false } else x

/-- The axis is stored and its registers show it. -/
def Dev.axisShown (a : Nat) (x : Axis) (d : Dev) : Dev :=
  (((((d.setAx a x).wr (Reg.HCH_POS a) (wordI x.y)).wr (Reg.HCH_SETPOINT a) (wordI x.r)).wr (Reg.HCH_ERR a) (wordI x.e)).wr
    (Reg.HCH_INTEG a) (wordI x.integ)).wrN (Reg.HCH_V_LIN a) ((d.setAx a x).vlin a)

theorem Dev.axisSample_eq (a : Nat) (p : PfIn) (t : Time) (d : Dev) : d.axisSample a p t =
    let m := d.axisApplied a p
    let u := m.axisSteered a t (m.axisMeasured a p)
    u.2.axisShown a (u.2.axisDriven a p u.1) := by
  unfold Dev.axisSample Dev.axisShown Dev.axisDriven Dev.axisSteered Dev.axisRegion Dev.axisMoved Dev.axisMeasured Dev.axisApplied
  rfl

theorem Dev.axisMoved_gist (a : Nat) (t : Time) (d : Dev) (x : Axis) : (d.axisMoved a t x).gist = x.gist := by
  unfold Dev.axisMoved
  split
  · exact advanceGen_gist _ _ _ _ _ _
  · rfl

theorem Dev.axisRegion_gist (a : Nat) (x : Axis) (d : Dev) : (d.axisRegion a x).1.gist = x.gist := by
  unfold Dev.axisRegion
  split
  · exact Dev.setRegion_gist _ _ _ _
  · exact Dev.takeUp_gist _ _ _ _

theorem Dev.axisSteered_gist (a : Nat) (t : Time) (x : Axis) (d : Dev) : (d.axisSteered a t x).1.gist = x.gist :=
  (Dev.axisRegion_gist _ _ _).trans ((Dev.spClamp_gist _ _ _ _ _).trans (Dev.axisMoved_gist _ _ _ _))

theorem Dev.axisRegion_coefTurn (a : Nat) (x : Axis) {d : Dev} (hc : d.on domCORE = true) :
    d.CoefTurn a (d.axisRegion a x).2 := by
  unfold Dev.axisRegion
  split
  · exact Dev.setRegion_coefTurn _ _ _ hc
  · exact Dev.takeUp_coefTurn _ _ _ hc

theorem Dev.axisSteered_coefTurn (a : Nat) (t : Time) (x : Axis) {d : Dev} (hc : d.on domCORE = true) :
    d.CoefTurn a (d.axisSteered a t x).2 := by
  have hclamp := Dev.CoefTurn.raiseIf a hc (d.spClamp a t x.r (d.axisMoved a t x)).2 (n := Ev.HCH_SP_CLAMP) (by decide)
  exact hclamp.trans (Dev.axisRegion_coefTurn _ _ ((hclamp.1.on domCORE).trans hc))

/-- What a sample makes of an axis that stands at its boundary as `b`: slew, park drive and drive limit are those of its registers. -/
structure Axis.Sampled (slew lim : Nat) (park : Int) (b x : Axis) : Prop where
  st : x.st = b.st ∨ (b.st = .parking ∧ x.st = .parked)
  cmds : x.cmds = b.cmds
  trip : x.trip = b.trip
  exOn : x.exOn = b.exOn
  cmdIgn : x.cmdIgn = b.cmdIgn
  latched : x.latched = b.latched
  parkTimeout : x.parkTimeout = b.parkTimeout
  tracked : x.tracked = b.tracked - 1
  fbRun : 0 < b.tracked → x.fbRun = b.fbRun
  disabled : b.st = .disabled → x.drive = 0
  tracking : b.st ≠ .disabled → 0 < b.tracked → x.drive = b.activeDrive
  openPark : b.tracked = 0 → b.st = .openPark → x.drive = slewTo b.drive (if b.ramp then 0 else park) slew
  engaging : b.tracked = 0 → b.st = .engaging → x.drive = 0
  closed : b.tracked = 0 → b.closed = true → x.drive.natAbs ≤ lim

/-- The drive word by the state in which the axis stands. -/
theorem Dev.axisDrive_drive (a : Nat) (d : Dev) (x : Axis) :
    (x.st = .disabled → (d.axisDrive a x).drive = 0)
    ∧ (x.st ≠ .disabled → 0 < x.tracked → (d.axisDrive a x).drive = x.activeDrive)
    ∧ (x.tracked = 0 → x.st = .openPark → (d.axisDrive a x).drive
        = slewTo x.drive (if x.ramp then 0 else sfld (d.rd (Reg.HCH_PARK a)) 31 16) (d.f (Reg.HCH_PARK_SLEW a) 14 0))
    ∧ (x.tracked = 0 → x.st = .engaging → (d.axisDrive a x).drive = 0)
    ∧ (x.tracked = 0 → x.closed = true → (d.axisDrive a x).drive.natAbs ≤ d.f (Reg.HCH_DRV_LIM a) 14 0) := by
  unfold Dev.axisDrive
  refine ⟨fun h => ?_, fun h ht => ?_, fun ht h => ?_, fun ht h => ?_, fun ht h => ?_⟩
  · rw [if_pos h]
  · rw [if_neg h, if_pos ht]
  · rw [if_neg (by simp [h]), if_neg (by omega), if_neg (by simp [Axis.closed, h]), if_pos h]
  · rw [if_neg (by simp [h]), if_neg (by omega), if_neg (by simp [Axis.closed, h]), if_neg (by simp [h])]
  · have hne : x.st ≠ .disabled := fun hd => by simp [Axis.closed, hd] at h
    rw [if_neg hne, if_neg (by omega), if_pos h]
    exact Dev.control_drive _ _ _

/-- The drive word and the checks of a sample; the samples after a handover are not checked. -/
def Dev.axisChecked (a : Nat) (p : PfIn) (d : Dev) (x : Axis) : Axis :=
  if 0 < (d.axisDrive a x).tracked then d.axisDrive a x else d.axisChecks a p (d.axisDrive a x)

/-- What the drive word and the checks leave of an axis. -/
theorem Dev.axisChecked_gist (a : Nat) (p : PfIn) (d : Dev) (x : Axis) : (d.axisChecked a p x).gist
    = { x.gist with drive := (d.axisDrive a x).drive, fbRun := (d.axisChecked a p x).fbRun } := by
  have hdrive := d.axisDrive_gist a x
  have hfb : (d.axisDrive a x).fbRun = x.fbRun := (congrArg Axis.fbRun hdrive :)
  unfold Dev.axisChecked
  split
  · rw [hdrive, hfb]
    rfl
  · rw [Dev.axisChecks_gist, hdrive]

theorem Dev.axisChecked_fbRun {a : Nat} {p : PfIn} {d : Dev} {x : Axis} (h : 0 < x.tracked) :
    (d.axisChecked a p x).fbRun = x.fbRun := by
  have hdrive := d.axisDrive_gist a x
  have htracked : (d.axisDrive a x).tracked = x.tracked := (congrArg Axis.tracked hdrive :)
  rw [Dev.axisChecked, htracked, if_pos h]
  exact (congrArg Axis.fbRun hdrive :)

/-- An axis at the end of its sample: the samples of the tracked drive count down, and one in PARKING may have arrived. -/
def Dev.axisArrived (a : Nat) (d : Dev) (x : Axis) : Axis :=
  if x.st = .parking && x.pieces.isEmpty && decide (x.e.natAbs ≤ d.f (Reg.HCH_ERR_CTL a) 15 0) then
    { x with tracked := x.tracked - 1, hist := (x.y :: x.hist).take 255, st := .parked, samples := 0, joining := false }
  else { x with tracked := x.tracked - 1, hist := (x.y :: x.hist).take 255 }

theorem Dev.axisDriven_eq (a : Nat) (p : PfIn) (d : Dev) (x : Axis) :
    d.axisDriven a p x = d.axisArrived a (d.axisChecked a p x) := rfl

/-- An arrival at PARK_POS changes the state alone. -/
theorem Dev.axisArrived_gist (a : Nat) (d : Dev) (x : Axis) : (d.axisArrived a x).gist
      = { x.gist with tracked := x.tracked - 1, st := (d.axisArrived a x).st }
    ∧ ((d.axisArrived a x).st = x.st ∨ (x.st = .parking ∧ (d.axisArrived a x).st = .parked)) := by
  unfold Dev.axisArrived
  split
  next h =>
    simp only [Bool.and_eq_true, decide_eq_true_eq] at h
    exact ⟨rfl, .inr ⟨h.1.1, rfl⟩⟩
  next => exact ⟨rfl, .inl rfl⟩

/-- Drive word and checks of an axis make of it what a sample makes. -/
theorem Dev.axisDriven_sampled (a : Nat) (p : PfIn) (d : Dev) (x : Axis) :
    Axis.Sampled (d.f (Reg.HCH_PARK_SLEW a) 14 0) (d.f (Reg.HCH_DRV_LIM a) 14 0) (sfld (d.rd (Reg.HCH_PARK a)) 31 16) x
      (d.axisDriven a p x) := by
  obtain ⟨harrived, hst⟩ := d.axisArrived_gist a (d.axisChecked a p x)
  have hchecked := d.axisChecked_gist a p x
  rw [hchecked, ← Dev.axisDriven_eq] at harrived
  rw [← Dev.axisDriven_eq, show (d.axisChecked a p x).st = x.st from (congrArg Axis.st hchecked :)] at hst
  have hdrive : (d.axisDriven a p x).drive = (d.axisDrive a x).drive := (congrArg Axis.drive harrived :)
  obtain ⟨hdisabled, htracking, hopen, hengaging, hclosed⟩ := d.axisDrive_drive a x
  refine ⟨hst, (congrArg Axis.cmds harrived :), (congrArg Axis.trip harrived :), (congrArg Axis.exOn harrived :), (congrArg Axis.cmdIgn harrived :),
    (congrArg Axis.latched harrived :), (congrArg Axis.parkTimeout harrived :), ?_,
    fun h => (congrArg Axis.fbRun harrived :).trans (Dev.axisChecked_fbRun h), fun h => hdrive.trans (hdisabled h),
    fun h ht => hdrive.trans (htracking h ht), fun ht h => hdrive.trans (hopen ht h), fun ht h => hdrive.trans (hengaging ht h),
    fun ht h => hdrive ▸ hclosed ht h⟩
  exact (congrArg Axis.tracked harrived :).trans (congrArg (·.tracked - 1) hchecked :)

/-- What a sample makes of an axis looks at the steered axis alone. -/
theorem Axis.Sampled.of_gist {slew lim : Nat} {park : Int} {b x y : Axis} (h : Axis.Sampled slew lim park x y) (hx : x.gist = b.gist) :
    Axis.Sampled slew lim park b y := by
  have hst : x.st = b.st := (congrArg Axis.st hx :)
  have htracked : x.tracked = b.tracked := (congrArg Axis.tracked hx :)
  have hdrive : x.drive = b.drive := (congrArg Axis.drive hx :)
  have hramp : x.ramp = b.ramp := (congrArg Axis.ramp hx :)
  have hclosed : x.closed = b.closed := (congrArg Axis.closed hx :)
  refine ⟨hst ▸ h.st, h.cmds.trans (congrArg Axis.cmds hx :), h.trip.trans (congrArg Axis.trip hx :), h.exOn.trans (congrArg Axis.exOn hx :),
    h.cmdIgn.trans (congrArg Axis.cmdIgn hx :), h.latched.trans (congrArg Axis.latched hx :),
    h.parkTimeout.trans (congrArg Axis.parkTimeout hx :), htracked ▸ h.tracked,
    fun ht => (h.fbRun (htracked ▸ ht)).trans (congrArg Axis.fbRun hx :), fun hs => h.disabled (hst ▸ hs),
    fun hs ht => (h.tracking (hst ▸ hs) (htracked ▸ ht)).trans (congrArg Axis.activeDrive hx :), fun ht hs => ?_,
    fun ht hs => h.engaging (htracked ▸ ht) (hst ▸ hs), fun ht hc => h.closed (htracked ▸ ht) (hclosed ▸ hc)⟩
  rw [h.openPark (htracked ▸ ht) (hst ▸ hs), hdrive, hramp]

/-! ## One axis's turn -/

/-- The axis after its turn in a servo sample. -/
def Dev.axisAfter (a : Nat) (p : PfIn) (t : Time) (d : Dev) : Axis :=
  let m := d.axisApplied a p
  let u := m.axisSteered a t (m.axisMeasured a p)
  u.2.axisDriven a p u.1

theorem Dev.axisApplied_turn (a : Nat) (p : PfIn) (d : Dev) : d.AxisTurn a (d.axisApplied a p) := by
  refine .trans (.wr a d _ ?_ ?_) (.wr a _ _ ?_ ?_)
  all_goals
    simp only [Reg.HCH_DRIVE, Reg.HCH_EX_READ]
    omega

theorem Dev.axisShown_turn (a : Nat) (x : Axis) (d : Dev) : d.AxisTurn a (d.axisShown a x) := by
  refine .trans (.trans (.trans (.trans (.trans (.setAx a d x) (.wr a _ _ ?_ ?_)) (.wr a _ _ ?_ ?_)) (.wr a _ _ ?_ ?_))
    (.wr a _ _ ?_ ?_)) (.wr a _ _ ?_ ?_)
  all_goals
    simp only [Reg.HCH_POS, Reg.HCH_SETPOINT, Reg.HCH_ERR, Reg.HCH_INTEG, Reg.HCH_V_LIN]
    omega

theorem Dev.axisSample_turn (a : Nat) (p : PfIn) (t : Time) {d : Dev} (hc : d.on domCORE = true) :
    d.AxisTurn a (d.axisSample a p t) := by
  have happ := d.axisApplied_turn a p
  rw [Dev.axisSample_eq]
  exact happ.trans ((Dev.axisSteered_coefTurn a t _ ((happ.on _).trans hc)).1.trans (Dev.axisShown_turn a _ _))

theorem Dev.axisShown_ax (a : Nat) (x : Axis) (d : Dev) : (d.axisShown a x).ax a = x := by
  unfold Dev.axisShown
  exact Dev.ax_setAx d a x

theorem Dev.axisSample_ax (a : Nat) (p : PfIn) (t : Time) (d : Dev) : (d.axisSample a p t).ax a = d.axisAfter a p t := by
  rw [Dev.axisSample_eq, Dev.axisAfter]
  exact Dev.axisShown_ax _ _ _

/-- The registers in which a sample shows an axis. -/
def axisShowRegs (a : Nat) : List Nat := [Reg.HCH_POS a, Reg.HCH_SETPOINT a, Reg.HCH_ERR a, Reg.HCH_INTEG a, Reg.HCH_V_LIN a]

theorem Dev.axisShown_rd {a o : Nat} (x : Axis) (d : Dev) (h : o ∉ axisShowRegs a) : (d.axisShown a x).rd o = d.rd o := by
  simp only [axisShowRegs, List.mem_cons, List.not_mem_nil, or_false, not_or] at h
  obtain ⟨hpos, hset, herr, hinteg, hvlin⟩ := h
  unfold Dev.axisShown Dev.wrN
  rw [Dev.rd_wr_ne _ _ (Ne.symm hvlin), Dev.rd_wr_ne _ _ (Ne.symm hinteg), Dev.rd_wr_ne _ _ (Ne.symm herr),
    Dev.rd_wr_ne _ _ (Ne.symm hset), Dev.rd_wr_ne _ _ (Ne.symm hpos), Dev.rd_setAx]

/-- A register of the servo below the coefficients that the turn does not show keeps its value from the boundary on. -/
theorem Dev.axisSample_rd {a o : Nat} (ha : a < 8) (p : PfIn) (t : Time) {d : Dev} (hc : d.on domCORE = true) (h1 : 0x200000 ≤ o)
    (h2 : o < 0x201200 + 4096 * a) (h3 : o ∉ axisShowRegs a) : (d.axisSample a p t).rd o = (d.axisApplied a p).rd o := by
  have hcoef := Dev.axisSteered_coefTurn a t ((d.axisApplied a p).axisMeasured a p) (((d.axisApplied_turn a p).on _).trans hc)
  rw [Dev.axisSample_eq]
  exact (Dev.axisShown_rd _ _ h3).trans (hcoef.2 o h1 h2 ha)

/-- The registers of a turn show the drive of the sample before and the excitation read. -/
theorem Dev.axisSample_shows {a : Nat} (ha : a < 8) (p : PfIn) (t : Time) {d : Dev} (hc : d.on domCORE = true) :
    (d.axisSample a p t).rd (Reg.HCH_DRIVE a) = wordI (d.ax a).drive
    ∧ (d.axisSample a p t).rd (Reg.HCH_EX_READ a) = word p.exRead := by
  have hne : Reg.HCH_EX_READ a ≠ Reg.HCH_DRIVE a := by
    unfold Reg.HCH_EX_READ Reg.HCH_DRIVE
    omega
  constructor
  · rw [Dev.axisSample_rd ha p t hc]
    · exact (Dev.rd_wr_ne _ _ hne).trans (Dev.rd_wr_same _ _ _)
    all_goals simp only [axisShowRegs, Reg.HCH_DRIVE, Reg.HCH_POS, Reg.HCH_SETPOINT, Reg.HCH_ERR, Reg.HCH_INTEG, Reg.HCH_V_LIN,
        List.mem_cons, List.not_mem_nil, or_false]
    all_goals omega
  · rw [Dev.axisSample_rd ha p t hc]
    · exact Dev.rd_wr_same _ _ _
    all_goals simp only [axisShowRegs, Reg.HCH_EX_READ, Reg.HCH_POS, Reg.HCH_SETPOINT, Reg.HCH_ERR, Reg.HCH_INTEG, Reg.HCH_V_LIN,
        List.mem_cons, List.not_mem_nil, or_false]
    all_goals omega

/-- An axis past its changes of state, as its sample finds it. -/
def Dev.axisAt (a : Nat) (p : PfIn) (d : Dev) : Axis := (d.axisApplied a p).axisBoundary a (d.ax a)

/-- The turn of an axis makes of it what a sample makes, under its registers before the turn. -/
theorem Dev.axisAfter_sampled {a : Nat} (ha : a < 8) (p : PfIn) (t : Time) {d : Dev} (hc : d.on domCORE = true) :
    Axis.Sampled (d.f (Reg.HCH_PARK_SLEW a) 14 0) (d.f (Reg.HCH_DRV_LIM a) 14 0) (sfld (d.rd (Reg.HCH_PARK a)) 31 16)
      (d.axisAt a p) (d.axisAfter a p t) := by
  set m := d.axisApplied a p
  have hcoef := Dev.axisSteered_coefTurn a t (m.axisMeasured a p) (((d.axisApplied_turn a p).on _).trans hc)
  have hrd : ∀ o, 0x201030 + 4096 * a ≤ o → o < 0x201040 + 4096 * a →
      (m.axisSteered a t (m.axisMeasured a p)).2.rd o = d.rd o := fun o h1 h2 => by
    refine (hcoef.2 o (by omega) (by omega) ha).trans ((Dev.rd_wr_ne _ _ ?_).trans (Dev.rd_wr_ne _ _ ?_))
    · unfold Reg.HCH_EX_READ
      omega
    · unfold Reg.HCH_DRIVE
      omega
  have hdriven := Dev.axisDriven_sampled a p (m.axisSteered a t (m.axisMeasured a p)).2 (m.axisSteered a t (m.axisMeasured a p)).1
  unfold Dev.f at hdriven ⊢
  rw [hrd _ (by unfold Reg.HCH_PARK_SLEW; omega) (by unfold Reg.HCH_PARK_SLEW; omega),
    hrd _ (by unfold Reg.HCH_DRV_LIM; omega) (by unfold Reg.HCH_DRV_LIM; omega),
    hrd _ (by unfold Reg.HCH_PARK; omega) (by unfold Reg.HCH_PARK; omega)] at hdriven
  exact hdriven.of_gist (Dev.axisSteered_gist a t _ m)

end Sys2Proof.Machine
end

section
/-! Servo samples, the commands and the detections of an axis, and servo tables (03 R73, R80, R90 to R92, R95 to R97). -/
namespace Sys2Proof.Machine

/-! ## A servo sample -/

/-- Axis `a` and the registers of its window stay while other axes take their turn. -/
structure Dev.Spares (a : Nat) (d e : Dev) : Prop where
  frame : e = { d with regs := e.regs, evt := { d.evt with pend := e.evt.pend }, hch := { d.hch with axes := e.hch.axes } }
  axis : e.ax a = d.ax a
  window : ∀ o, 0x201000 + 4096 * a ≤ o → o < 0x202000 + 4096 * a → e.rd o = d.rd o

theorem Dev.Spares.refl (a : Nat) (d : Dev) : d.Spares a d := ⟨rfl, rfl, fun _ _ _ => rfl⟩

theorem Dev.Spares.trans {a : Nat} {d e g : Dev} (h : d.Spares a e) (k : e.Spares a g) : d.Spares a g := by
  refine ⟨?_, k.axis.trans h.axis, fun o h1 h2 => (k.window o h1 h2).trans (h.window o h1 h2)⟩
  rw [k.frame, h.frame]

theorem Dev.AxisTurn.spares {a b : Nat} {d e : Dev} (h : d.AxisTurn b e) (ha : a < 8) (hne : a ≠ b) : d.Spares a e :=
  ⟨h.frame, h.others a hne, fun o h1 h2 => h.regs o (by omega) (by omega) (by omega)⟩

theorem Dev.Spares.on {a : Nat} {d e : Dev} (h : d.Spares a e) (k : Nat) : e.on k = d.on k := by
  rw [h.frame]
  rfl

/-- The turns of the axes of a sample, in the order of its readings. -/
def Dev.servoTurns (t : Time) (l : List (PfIn × Nat)) (d : Dev) : Dev :=
  l.foldl (fun d p => if p.2 < 8 then d.axisSample p.2 p.1 t else d) d

/-- An axis stays while others take their turn. -/
theorem Dev.servoTurns_spares {a : Nat} (ha : a < 8) (t : Time) {l : List (PfIn × Nat)} (hl : ∀ q ∈ l, q.2 ≠ a) {d : Dev}
    (hc : d.on domCORE = true) : d.Spares a (d.servoTurns t l) := by
  induction l generalizing d with
  | nil => exact .refl a d
  | cons q l ih =>
    have hturn : d.Spares a (if q.2 < 8 then d.axisSample q.2 q.1 t else d) := by
      split
      · exact (Dev.axisSample_turn q.2 q.1 t hc).spares ha (hl q (.head _)).symm
      · exact .refl a d
    exact hturn.trans (ih (fun r hr => hl r (.tail _ hr)) ((hturn.on _).trans hc))

/-- Turns change registers, axes and pending records alone. -/
theorem Dev.servoTurns_frame (t : Time) (l : List (PfIn × Nat)) {d : Dev} (hc : d.on domCORE = true) :
    d.servoTurns t l = { d with regs := (d.servoTurns t l).regs, evt := { d.evt with pend := (d.servoTurns t l).evt.pend },
                                hch := { d.hch with axes := (d.servoTurns t l).hch.axes } } := by
  induction l generalizing d with
  | nil => rfl
  | cons q l ih =>
    have hturn : ∃ b, d.AxisTurn b (if q.2 < 8 then d.axisSample q.2 q.1 t else d) := by
      split
      · exact ⟨_, Dev.axisSample_turn q.2 q.1 t hc⟩
      · exact ⟨0, .refl 0 d⟩
    obtain ⟨b, hturn⟩ := hturn
    have hrest := ih ((hturn.on domCORE).trans hc)
    have hcons : d.servoTurns t (q :: l) = (if q.2 < 8 then d.axisSample q.2 q.1 t else d).servoTurns t l := rfl
    rw [hcons, hrest, hturn.frame]

/-- The readings of a sample are those before axis `a`, its own, and those after. -/
theorem zipIdx_split {α : Type} {xs : List α} {a : Nat} {p : α} (h : xs[a]? = some p) :
    ∃ l r : List (α × Nat), xs.zipIdx = l ++ (p, a) :: r ∧ (∀ q ∈ l, q.2 ≠ a) ∧ ∀ q ∈ r, q.2 ≠ a := by
  obtain ⟨hlt, hp⟩ := List.getElem?_eq_some_iff.mp h
  have hlen : (xs.take a).length = a := by
    rw [List.length_take]
    omega
  refine ⟨(xs.take a).zipIdx, (xs.drop (a + 1)).zipIdx (a + 1), ?_, fun q hq => ?_, fun q hq => ?_⟩
  · conv_lhs => rw [← List.take_append_drop a xs, List.drop_eq_getElem_cons hlt, hp]
    rw [List.zipIdx_append, hlen, List.zipIdx_cons, Nat.zero_add]
  · have := List.snd_lt_of_mem_zipIdx hq
    omega
  · have := List.le_snd_of_mem_zipIdx hq
    omega

/-- The device at the instant of sample `n`, before the turns of its axes. -/
def Dev.servoStart (n : Nat) (d : Dev) : Dev :=
  { d.at (n * 2560000) with hch := { d.hch with sample := n } }.wrN Reg.HCH_SAMPLE_NUM n

theorem Dev.servoSample_eq {n : Nat} {xs : List PfIn} {d : Dev} (hon : d.on domSERVO = true) (hs : d.tim.started = true)
    (hf : d.pwr.dtFrozen = false) : d.servoSample n xs = (d.servoStart n).servoTurns (n * 2560000) xs.zipIdx := by
  unfold Dev.servoSample Dev.servoStart
  rw [if_neg (by simp [hon, hs, hf]), ← Dev.at_hch d (n * 2560000)]
  rfl

theorem Dev.servoStart_frame (n : Nat) (d : Dev) : d.servoStart n = { d with
    regs := (d.servoStart n).regs, tim := (d.at (n * 2560000)).tim, hch := { d.hch with sample := n } } := by
  unfold Dev.servoStart
  rw [Dev.at_eq]
  rfl

theorem Dev.servoStart_on (n : Nat) (d : Dev) (k : Nat) : (d.servoStart n).on k = d.on k := Dev.at_on d _ k

/-- Numbering a sample leaves the window of every axis alone. -/
theorem Dev.servoStart_window (n : Nat) (d : Dev) (o : Nat) (h : 0x201000 ≤ o) : (d.servoStart n).rd o = d.rd o := by
  refine (Dev.rd_wr_ne _ _ ?_).trans (Dev.at_rd d _ o)
  unfold Reg.HCH_SAMPLE_NUM
  omega

/-- What a sample leaves of the device around the turn of axis `a`: the axis takes its turn at a device `m` in which it and the
registers of its window stand as before the sample. -/
structure Dev.Served (n a : Nat) (p : PfIn) (d e : Dev) : Prop where
  turn : ∃ m : Dev, m.ax a = d.ax a ∧ m.on domCORE = true ∧ m.pwr = d.pwr
    ∧ (∀ o, 0x201000 + 4096 * a ≤ o → o < 0x202000 + 4096 * a → m.rd o = d.rd o)
    ∧ e.ax a = m.axisAfter a p (n * 2560000)
  drive : e.rd (Reg.HCH_DRIVE a) = wordI (d.ax a).drive
  exRead : e.rd (Reg.HCH_EX_READ a) = word p.exRead

theorem Dev.servoSample_served {n a : Nat} {xs : List PfIn} {p : PfIn} {d : Dev} (ha : a < 8) (hp : xs[a]? = some p)
    (hon : d.on domSERVO = true) (hc : d.on domCORE = true) (hs : d.tim.started = true) (hf : d.pwr.dtFrozen = false) :
    Dev.Served n a p d (d.servoSample n xs) := by
  obtain ⟨l, r, hxs, hl, hr⟩ := zipIdx_split hp
  have hc0 : (d.servoStart n).on domCORE = true := (d.servoStart_on n _).trans hc
  have hbefore := Dev.servoTurns_spares ha (n * 2560000) hl hc0
  set m := (d.servoStart n).servoTurns (n * 2560000) l
  have hcm : m.on domCORE = true := (hbefore.on _).trans hc0
  have hturn := Dev.axisSample_turn a p (n * 2560000) hcm
  have hafter := Dev.servoTurns_spares ha (n * 2560000) hr ((hturn.on domCORE).trans hcm)
  have hend : d.servoSample n xs = (m.axisSample a p (n * 2560000)).servoTurns (n * 2560000) r := by
    rw [Dev.servoSample_eq hon hs hf, hxs, Dev.servoTurns, List.foldl_append, List.foldl_cons, if_pos ha]
    rfl
  have hax : m.ax a = d.ax a := by
    rw [hbefore.axis, Dev.servoStart_frame]
    rfl
  obtain ⟨hdrive, hex⟩ := Dev.axisSample_shows ha p (n * 2560000) hcm
  rw [hax] at hdrive
  refine ⟨⟨m, hax, hcm, ?_, fun o h1 h2 => ?_, ?_⟩, ?_, ?_⟩
  · rw [hbefore.frame, Dev.servoStart_frame]
  · exact (hbefore.window o h1 h2).trans (Dev.servoStart_window n d o (by omega))
  · rw [hend, hafter.axis, Dev.axisSample_ax]
  · rw [hend, hafter.window _ (by unfold Reg.HCH_DRIVE; omega) (by unfold Reg.HCH_DRIVE; omega), hdrive]
  · rw [hend, hafter.window _ (by unfold Reg.HCH_EX_READ; omega) (by unfold Reg.HCH_EX_READ; omega), hex]

/-- A sample changes registers, device time, the axes, the sample number and pending records alone. -/
theorem Dev.servoSample_frame {n : Nat} {xs : List PfIn} {d : Dev} (hon : d.on domSERVO = true) (hc : d.on domCORE = true)
    (hs : d.tim.started = true) (hf : d.pwr.dtFrozen = false) : d.servoSample n xs = { d with
      regs := (d.servoSample n xs).regs, tim := (d.at (n * 2560000)).tim, evt := (d.servoSample n xs).evt,
      hch := { d.hch with sample := n, axes := (d.servoSample n xs).hch.axes } } := by
  have hturns := Dev.servoTurns_frame (n * 2560000) xs.zipIdx ((d.servoStart_on n domCORE).trans hc)
  rw [← Dev.servoSample_eq hon hs hf] at hturns
  conv_lhs => rw [hturns, Dev.servoStart_frame]
  conv_rhs => rw [hturns, Dev.servoStart_frame]

/-- A servo sample of a powered SERVO that is not leaving, and the claim watchdog refreshed. -/
theorem exec_servoSample {n : Nat} {xs : List PfIn} {s : State} (ha : s.alive = true) (hon : s.dev.on domSERVO = true)
    (hc : s.dev.on domCORE = true) (hs : s.dev.tim.started = true) (hf : s.dev.pwr.dtFrozen = false)
    (hleave : s.dev.servoLeaving = false) : exec (.servoSample n xs) s = .next { s with
      dev := (s.dev.servoSample n xs).modMdv (fun m => { m with wdog := false }) } := by
  have hframe := Dev.servoSample_frame (n := n) (xs := xs) hon hc hs hf
  have hpwr : (s.dev.servoSample n xs).pwr = s.dev.pwr := by rw [hframe]
  have hgo : ((s.dev.servoSample n xs).refreshClaim).servoGo
      = (s.dev.servoSample n xs).modMdv (fun m => { m with wdog := false }) := by
    have hclaim : (s.dev.servoSample n xs).refreshClaim = (s.dev.servoSample n xs).modMdv (fun m => { m with wdog := false }) :=
      if_pos ((Dev.on_congr (by rw [hpwr]) _).trans hon)
    rw [hclaim, Dev.servoGo, if_neg]
    unfold Dev.servoLeaving Dev.leaving at hleave ⊢
    rw [Dev.modMdv_pwr, hpwr, hleave]
    decide
  refine congrArg _ ((State.live_pos ha _).trans ((State.power_pos ?_ ?_ ?_ ?_).trans ?_))
  all_goals rw [hgo]
  · rw [Dev.modMdv_pwr, hpwr]
  · rw [Dev.modMdv_brn, hframe]
  · rw [Dev.modMdv_wave, hframe]
  · rw [Dev.modMdv_pwr, hpwr]

/-! ## The boundary of a sample -/

/-- Without a ramp at its end nothing happens. -/
theorem Axis.offDone_of_ramp {x : Axis} (h : x.ramp = true → x.drive ≠ 0) : x.offDone = x := by
  unfold Axis.offDone
  refine if_pos ?_
  cases hr : x.ramp with
  | false => rfl
  | true => simp [h hr]

theorem Axis.offDone_of_noRamp {x : Axis} (h : x.ramp = false) : x.offDone = x :=
  Axis.offDone_of_ramp fun hr => absurd (h.symm.trans hr) Bool.false_ne_true

/-- At the end of the ramp the axis is disabled. -/
theorem Axis.offDone_of_zero {x : Axis} (hr : x.ramp = true) (hd : x.drive = 0) : x.offDone = { x with
    st := .disabled, samples := 0, exOn := false, ramp := false, rampClr := false, fbLoss := x.fbLoss && !x.rampClr,
    freeze := x.freeze && !x.rampClr, trackErr := x.trackErr && !x.rampClr, parkTimeout := x.parkTimeout && !x.rampClr } := by
  unfold Axis.offDone
  rw [if_neg (by simp [hr, hd])]

/-- Without a command or a detection that waits only the end of a ramp happens at the boundary. -/
theorem Dev.axisBoundary_idle {a : Nat} {d : Dev} {x : Axis} (hl : d.servoLeaving = false) (hc : x.cmds = []) (ht : x.trip = none) :
    d.axisBoundary a x = x.offDone := by
  have htrip : d.axisTrip a x = { x with trip := none } := by rw [Dev.axisTrip, ht]
  have hx : ({ x with trip := none, cmds := [] } : Axis) = x := by
    rw [← hc, ← ht]
  unfold Dev.axisBoundary
  dsimp only
  rw [htrip, hl, if_neg Bool.false_ne_true, hc]
  exact congrArg Axis.offDone hx

/-- A command that waits acts at the boundary. -/
theorem Dev.axisBoundary_command {a : Nat} {d : Dev} {x : Axis} {c : AxCmd} (hl : d.servoLeaving = false) (hc : x.cmds = [c])
    (ht : x.trip = none) : d.axisBoundary a x = (d.axisDo a { x with cmds := [] } c).offDone := by
  have htrip : d.axisTrip a x = { x with trip := none } := by rw [Dev.axisTrip, ht]
  have hx : ({ x with trip := none, cmds := [] } : Axis) = { x with cmds := [] } := by
    rw [← ht]
  unfold Dev.axisBoundary
  dsimp only
  rw [htrip, hl, if_neg Bool.false_ne_true, hc]
  exact congrArg (fun y => (d.axisDo a y c).offDone) hx

/-- A detection that waits acts at the boundary. -/
theorem Dev.axisBoundary_trip {a : Nat} {d : Dev} {x : Axis} (hl : d.servoLeaving = false) (hc : x.cmds = []) (hr : x.ramp = false) :
    d.axisBoundary a x = { d.axisTrip a x with cmds := [] } ∧ (d.axisTrip a x).cmds = [] ∧ (d.axisTrip a x).trip = none := by
  have hparking : ∀ y : Axis, (d.toParking a y).cmds = y.cmds ∧ (d.toParking a y).ramp = y.ramp ∧ (d.toParking a y).trip = y.trip :=
    fun _ => ⟨rfl, rfl, rfl⟩
  have htrip : (d.axisTrip a x).cmds = [] ∧ (d.axisTrip a x).ramp = false ∧ (d.axisTrip a x).trip = none := by
    unfold Dev.axisTrip
    dsimp only
    split
    · split <;> exact ⟨hc, hr, rfl⟩
    · split <;> exact ⟨hc, hr, rfl⟩
    · exact ⟨hc, hr, rfl⟩
  obtain ⟨hcmds, hramp, htrip⟩ := htrip
  refine ⟨?_, hcmds, htrip⟩
  unfold Dev.axisBoundary
  dsimp only
  rw [hl, if_neg Bool.false_ne_true, hcmds]
  exact Axis.offDone_of_noRamp hramp

/-- The turn of an axis in a sample of a block whose SERVO is not leaving: a device `m` with the axis and its window as before, at
whose boundary the axis stands, and what the sample makes of it there. -/
theorem Dev.servoSample_axis {n a : Nat} {xs : List PfIn} {p : PfIn} {d : Dev} (ha : a < 8) (hp : xs[a]? = some p)
    (hon : d.on domSERVO = true) (hc : d.on domCORE = true) (hs : d.tim.started = true) (hf : d.pwr.dtFrozen = false)
    (hleave : d.servoLeaving = false) : ∃ m : Dev, m.servoLeaving = false
      ∧ Axis.Sampled (d.f (Reg.HCH_PARK_SLEW a) 14 0) (d.f (Reg.HCH_DRV_LIM a) 14 0) (sfld (d.rd (Reg.HCH_PARK a)) 31 16)
          (m.axisBoundary a (d.ax a)) ((d.servoSample n xs).ax a) := by
  obtain ⟨m, hax, hcm, hpwr, hwin, hafter⟩ := (Dev.servoSample_served (n := n) ha hp hon hc hs hf).turn
  have hsampled := Dev.axisAfter_sampled ha p (n * 2560000) hcm
  unfold Dev.axisAt Dev.f at hsampled
  rw [hax, hwin _ (by unfold Reg.HCH_PARK_SLEW; omega) (by unfold Reg.HCH_PARK_SLEW; omega),
    hwin _ (by unfold Reg.HCH_DRV_LIM; omega) (by unfold Reg.HCH_DRV_LIM; omega),
    hwin _ (by unfold Reg.HCH_PARK; omega) (by unfold Reg.HCH_PARK; omega), ← hafter] at hsampled
  refine ⟨m.axisApplied a p, ?_, hsampled⟩
  unfold Dev.servoLeaving Dev.leaving at hleave ⊢
  rw [show (m.axisApplied a p).pwr = m.pwr from rfl, hpwr]
  exact hleave

/-- Settles O12: the frame of a sample by `Dev.servoSample_frame`, and each axis by `Dev.servoSample_axis` at the boundary where it
stands (`Dev.axisBoundary_idle`). That an axis on its way to DISABLED stands in OPEN_PARK, and that the tracked word is applied in
any state but DISABLED, are log 108. -/
theorem servoSamplesDriveEveryAxis : Obligations.ServoSamplesDriveEveryAxis := by
  unfold Obligations.ServoSamplesDriveEveryAxis
  intro s n xs ha hon hc hs hf hleave
  have hframe := Dev.servoSample_frame (n := n) (xs := xs) hon hc hs hf
  set e := s.dev.servoSample n xs with he
  refine ⟨e.modMdv (fun m => { m with wdog := false }), exec_servoSample ha hon hc hs hf hleave, ?_, ?_, ?_, ?_, fun a p hp => ?_⟩
  · rw [Dev.modMdv_hch, hframe]
  · rw [Dev.modMdv_mdv, hframe]
  · rw [Dev.modMdv_tim, hframe]
  · rw [hframe]
    rfl
  · have hserved := Dev.servoSample_served (n := n) a.isLt hp hon hc hs hf
    refine ⟨hserved.drive, hserved.exRead, fun hcmds htrip => ?_⟩
    obtain ⟨m, hm, hsampled⟩ := Dev.servoSample_axis (n := n) a.isLt hp hon hc hs hf hleave
    rw [Dev.axisBoundary_idle hm hcmds htrip] at hsampled
    have hax : (e.modMdv (fun m => { m with wdog := false })).ax a = e.ax a := rfl
    rw [hax]
    refine ⟨fun ht hst hr => ?_, fun ht hst hr => ?_, fun ht hst hr => ?_, fun ht hst hr hd => ?_, fun ht hr hd => ?_,
      fun ht hr hst => ?_⟩
    · rw [Axis.offDone_of_ramp hr] at hsampled
      exact ⟨hsampled.tracking hst ht, hsampled.tracked, hsampled.fbRun ht⟩
    · rw [Axis.offDone_of_noRamp hr] at hsampled
      exact ⟨(hsampled.st.resolve_right (by simp [hst])).trans hst, hsampled.disabled hst⟩
    · rw [Axis.offDone_of_noRamp hr] at hsampled
      exact ⟨(hsampled.st.resolve_right (by simp [hst])).trans hst, (hsampled.openPark ht hst).trans (by rw [hr]; rfl)⟩
    · rw [Axis.offDone_of_ramp fun _ => hd] at hsampled
      exact ⟨(hsampled.st.resolve_right (by simp [hst])).trans hst, (hsampled.openPark ht hst).trans (by rw [hr]; rfl)⟩
    · rw [Axis.offDone_of_zero hr hd] at hsampled
      exact ⟨hsampled.st.resolve_right (by simp), hsampled.exOn, hsampled.disabled rfl⟩
    · rw [Axis.offDone_of_noRamp hr] at hsampled
      refine hsampled.closed ht ?_
      rcases hst with hst | hst | hst <;> simp [Axis.closed, hst]

/-! ## Commands of an axis (R90, R97) -/

theorem Dev.axisDo_cmds (a : Nat) (d : Dev) (x : Axis) (c : AxCmd) : (d.axisDo a x c).cmds = x.cmds := by
  cases c with
  | engage =>
    unfold Dev.axisDo
    dsimp only
    split
    · rfl
    · split <;> rfl
  | park =>
    unfold Dev.axisDo
    dsimp only
    split <;> rfl
  | disable => rfl
  | clear =>
    unfold Dev.axisDo
    dsimp only
    split <;> rfl

theorem Axis.offDone_cmds (x : Axis) : x.offDone.cmds = x.cmds := by
  unfold Axis.offDone
  split <;> rfl

/-- ENGAGE is taken when a table is in force, the profile check has passed and no fault is latched. -/
theorem Axis.mayEngage_iff (x : Axis) : x.mayEngage = true ↔ x.tblOk = true ∧ x.profOk = true ∧ x.latched = false := by
  simp [Axis.mayEngage, and_assoc]

theorem Dev.axisDo_engage_ignored {a : Nat} {d : Dev} {x : Axis} (h : ¬ x.mayEngage = true) :
    d.axisDo a x .engage = { x with cmdIgn := true } := if_pos (by simp [h])

theorem Dev.axisDo_engage_disabled {a : Nat} {d : Dev} {x : Axis} (h : x.mayEngage = true) (hst : x.st = .disabled) :
    d.axisDo a x .engage = { x with st := .engaging, samples := 0, exOn := true, drive := 0, fbRun := 0, cmdIgn := false } := by
  unfold Dev.axisDo
  dsimp only
  rw [h, hst, if_neg (by decide)]

theorem Dev.axisDo_engage_parked {a : Nat} {d : Dev} {x : Axis} (h : x.mayEngage = true) (hst : x.st = .parked) :
    d.axisDo a x .engage = { (d.toRun a x) with cmdIgn := false } := by
  unfold Dev.axisDo
  dsimp only
  rw [h, hst, if_neg (by decide)]

theorem Dev.axisDo_engage_other {a : Nat} {d : Dev} {x : Axis} (h : x.mayEngage = true) (h1 : x.st ≠ .disabled) (h2 : x.st ≠ .parked) :
    d.axisDo a x .engage = x := by
  unfold Dev.axisDo
  dsimp only
  rw [h, if_neg (by decide)]
  split
  next hst => exact absurd hst h1
  next hst => exact absurd hst h2
  next => rfl

/-- An axis turned off whose drive is at 0 is disabled, without latched faults. -/
theorem Axis.off_zero {x : Axis} (hd : x.drive = 0) : (x.off true).offDone.st = .disabled ∧ (x.off true).offDone.exOn = false
    ∧ (x.off true).offDone.latched = false ∧ (x.off true).offDone.parkTimeout = false := by
  rw [Axis.offDone_of_zero (show (x.off true).ramp = true from rfl) hd]
  simp [Axis.latched, Axis.off]

/-- What a sample leaves of an axis that is turned off. -/
theorem Axis.Sampled.off {slew lim : Nat} {park : Int} {x y : Axis} (h : Axis.Sampled slew lim park (x.off true).offDone y)
    (ht : x.tracked = 0) :
    (x.drive = 0 → y.st = .disabled ∧ y.exOn = false ∧ y.latched = false ∧ y.parkTimeout = false ∧ y.drive = 0)
    ∧ (x.drive ≠ 0 → y.st = .openPark ∧ y.exOn = x.exOn ∧ y.cmdIgn = false ∧ y.drive = slewTo x.drive 0 slew) := by
  refine ⟨fun hd => ?_, fun hd => ?_⟩
  · obtain ⟨hst, hex, hlat, hpt⟩ := Axis.off_zero hd
    exact ⟨(h.st.resolve_right (by simp [hst])).trans hst, h.exOn.trans hex, h.latched.trans hlat, h.parkTimeout.trans hpt,
      h.disabled hst⟩
  · rw [Axis.offDone_of_ramp (show (x.off true).ramp = true → (x.off true).drive ≠ 0 from fun _ => hd)] at h
    exact ⟨h.st.resolve_right (by simp [Axis.off, Axis.openPark]), h.exOn, h.cmdIgn, h.openPark ht rfl⟩

/-- A command that leaves the axis as it stands, but for its flag. -/
theorem Axis.Sampled.stays {slew lim : Nat} {park : Int} {b y : Axis} (h : Axis.Sampled slew lim park b y) :
    y.exOn = b.exOn ∧ (b.st ≠ .parking → y.st = b.st) :=
  ⟨h.exOn, fun hne => h.st.resolve_right fun hp => hne hp.1⟩

/-- A command of an axis waits for its next sample. -/
theorem Dev.axCmd_waits {a : Nat} {d : Dev} (c : AxCmd) (hon : d.on domSERVO = true) :
    d.OnlyAxis a (d.axCmd a c) ∧ (d.axCmd a c).ax a = { d.ax a with cmds := (d.ax a).cmds ++ [c] } := by
  rw [Dev.axCmd, if_pos hon]
  exact ⟨d.setAx_only a _, Dev.ax_setAx _ _ _⟩

/-- Settles O9: a command waits (`Dev.axCmd_waits`) and acts at the boundary of the next sample (`Dev.axisBoundary_command`), after
which the sample leaves what `Axis.Sampled` says. The ramp in OPEN_PARK is log 108, the commands that change nothing log 109. -/
theorem axisCommandsMoveOneAxis : Obligations.AxisCommandsMoveOneAxis := by
  unfold Obligations.AxisCommandsMoveOneAxis
  intro s a ha hon x waits
  have wait (c : AxCmd) {i : Instr} (hi : exec i s = .next (s.live (State.onDev (Dev.axCmd a c)))) : waits i c :=
    ⟨_, hi.trans (congrArg _ (State.live_pos ha _)), Dev.axCmd_waits c hon⟩
  refine ⟨⟨wait .engage rfl, wait .park rfl, wait .disable rfl, wait .clear rfl⟩,
    fun n xs c hc hs hf hleave hlen hcmds htrip hramp htr => ?_⟩
  obtain ⟨m, hm, hsampled⟩ := Dev.servoSample_axis (n := n) a.isLt (List.getElem?_eq_getElem hlen) hon hc hs hf hleave
  rw [Dev.axisBoundary_command hm hcmds htrip] at hsampled
  refine ⟨_, exec_servoSample ha hon hc hs hf hleave, ?_⟩
  rw [show ((s.dev.servoSample n xs).modMdv fun m => { m with wdog := false }).ax a = (s.dev.servoSample n xs).ax a from rfl]
  set y := (s.dev.servoSample n xs).ax a
  have hclear : y.cmds = [] := hsampled.cmds.trans ((Axis.offDone_cmds _).trans (Dev.axisDo_cmds _ _ _ _))
  have still (h : m.axisDo a { x with cmds := [] } c = { x with cmds := [] }) : y.cmdIgn = x.cmdIgn ∧ y.exOn = x.exOn
      ∧ (x.st ≠ .parking → y.st = x.st) := by
    rw [h, Axis.offDone_of_noRamp (by exact hramp)] at hsampled
    exact ⟨hsampled.cmdIgn, hsampled.stays⟩
  have hready : ∀ h : x.tblOk = true ∧ x.profOk = true ∧ x.latched = false, ({ x with cmds := [] } : Axis).mayEngage = true :=
    fun h => (Axis.mayEngage_iff x).mpr h
  dsimp only
  refine ⟨hclear, fun he hno => ?_, fun he hr hst => ?_, fun he hr hst => ?_, fun he hr h1 h2 => ?_, fun he hst => ?_, fun he hst => ?_,
    fun he => ?_, fun he hst => ?_, fun he hst => ?_⟩
  · subst he
    rw [Dev.axisDo_engage_ignored (by exact fun h => hno ((Axis.mayEngage_iff x).mp h)), Axis.offDone_of_noRamp (by exact hramp)] at hsampled
    exact ⟨hsampled.cmdIgn, hsampled.stays⟩
  · subst he
    rw [Dev.axisDo_engage_disabled (hready hr) hst, Axis.offDone_of_noRamp (by exact hramp)] at hsampled
    exact ⟨hsampled.st.resolve_right (by simp), hsampled.exOn, hsampled.engaging htr rfl, hsampled.cmdIgn⟩
  · subst he
    rw [Dev.axisDo_engage_parked (hready hr) hst, Axis.offDone_of_noRamp (by exact hramp)] at hsampled
    exact ⟨hsampled.st.resolve_right (by simp [Dev.toRun]), hsampled.exOn, hsampled.cmdIgn⟩
  · subst he
    exact still (Dev.axisDo_engage_other (hready hr) h1 h2)
  · subst he
    have hdo : m.axisDo a { x with cmds := [] } .park = { (m.toParking a { x with cmds := [] }) with cmdIgn := false } := if_pos hst
    rw [hdo, Axis.offDone_of_noRamp (by exact hramp)] at hsampled
    exact ⟨hsampled.st.imp id And.right, hsampled.exOn, hsampled.cmdIgn⟩
  · subst he
    exact still (if_neg hst)
  · subst he
    exact hsampled.off htr
  · subst he
    rw [show m.axisDo a { x with cmds := [] } .clear = Axis.off true { x with cmds := [] } from if_pos hst] at hsampled
    exact hsampled.off htr
  · subst he
    exact still (if_neg hst)

/-! ## Times and detections of an axis (R90 to R92) -/

/-- A time of an axis that has come changes that axis alone, and SERVO goes on as it was. -/
theorem exec_parkTimeout {s : State} {a : Fin 8} (ha : s.alive = true) (hon : s.dev.on domSERVO = true)
    (hleave : s.dev.servoLeaving = false) : exec (.parkTimeout a) s = .next { s with dev := Dev.parkTimeout a s.dev } := by
  have hgo : (Dev.parkTimeout a s.dev).servoGo = Dev.parkTimeout a s.dev := by
    unfold Dev.servoGo
    refine if_neg ?_
    unfold Dev.parkTimeout
    dsimp only
    split <;> exact Bool.eq_false_iff.mp hleave
  have hone : (if s.dev.on domSERVO then (Dev.parkTimeout a s.dev).servoGo else s.dev) = Dev.parkTimeout a s.dev := by
    rw [if_pos hon, hgo]
  refine congrArg _ ((State.live_pos ha _).trans ((State.power_pos ?_ ?_ ?_ ?_).trans ?_))
  all_goals rw [hone]
  all_goals
    unfold Dev.parkTimeout
    dsimp only
    split <;> rfl

/-- A detection of an axis waits for its next sample, and is noted. -/
theorem Dev.detected {a n : Nat} {d : Dev} (hc : d.on domCORE = true) (hn : n < 512) (x : Axis) :
    d.OnlyAxis a (d.setAx a x) ∧ (d.setAx a x).Noted n ((d.setAx a x).raise n) ∧ (d.setAx a x).ax a = x :=
  ⟨d.setAx_only a x, Dev.raise_noted hc hn, Dev.ax_setAx _ _ _⟩

/-- Settles O10: the times by the branches of `Dev.engageComplete` and `Dev.parkTimeout`, the detections by `Dev.detected`, and what
they make of the axis by the boundary of its next sample (`Dev.axisBoundary_trip`). What counts as passing checks is log 109. -/
theorem axesMoveOnByTimeAndByFault : Obligations.AxesMoveOnByTimeAndByFault := by
  unfold Obligations.AxesMoveOnByTimeAndByFault
  refine ⟨fun s a ha hon hleave => ?_, fun s a ha hon hc => ?_⟩
  · have engage : exec (.engageComplete a) s = .next (s.onDev (Dev.engageComplete a)) := congrArg _ (State.inDom_pos ha hon _)
    rw [engage, exec_parkTimeout ha hon hleave]
    dsimp only
    refine ⟨fun hst hn hfb hloss => ?_, fun hst hn hbad => ?_, fun hno => ?_, fun hst hn => ?_, fun hno => ?_⟩
    · rw [State.onDev, Dev.engageComplete, if_pos (by simp [hst, hn]), if_pos (by simp [hfb, hloss])]
      refine ⟨_, rfl, s.dev.setAx_only a _, ?_⟩
      rw [Dev.ax_setAx]
      exact ⟨rfl, rfl, rfl, rfl, rfl, rfl⟩
    · rw [State.onDev, Dev.engageComplete, if_pos (by simp [hst, hn]), if_neg (by rcases hbad with h | h <;> simp [h])]
      refine ⟨_, rfl, s.dev.setAx_only a _, ?_⟩
      rw [Dev.ax_setAx]
      exact ⟨rfl, rfl, rfl⟩
    · rw [State.onDev, Dev.engageComplete, if_neg]
      rcases hno with h | h <;> simp [h]
    · rw [Dev.parkTimeout, if_pos (by simp [hst, hn])]
      refine ⟨_, rfl, s.dev.setAx_only a _, ?_⟩
      rw [Dev.ax_setAx]
      exact ⟨rfl, rfl, rfl⟩
    · rw [Dev.parkTimeout, if_neg]
      rcases hno with h | h <;> simp [h]
  · have inDom (f : Dev → Dev) : (Host.Outcome.next (s.inDom domSERVO f) : Res) = .next (s.onDev f) :=
      congrArg _ (State.inDom_pos ha hon f)
    have loss : exec (.hchFbLoss a) s = .next (s.onDev (Dev.fbLoss a)) := inDom _
    have freeze : exec (.hchFreeze a) s = .next (s.onDev (Dev.freezeAxis a)) := inDom _
    have track : exec (.hchTrackErr a) s = .next (s.onDev (Dev.trackErr a)) := inDom _
    rw [loss, freeze, track]
    dsimp only
    have hlt := a.isLt
    refine ⟨fun hex h0 hn => ?_, fun hst h0 hn => ?_, fun hst h0 hn => ?_, fun hex => ?_, fun hst => ⟨?_, ?_⟩,
      fun n xs hs hf hleave hlen hcmds hramp => ?_⟩
    · rw [State.onDev, Dev.fbLoss, if_pos (by simp [hex, h0, hn])]
      obtain ⟨honly, hnoted, hax⟩ := Dev.detected (a := a) hc (show 480 + a.val < 512 by omega)
        { s.dev.ax a with fbLoss := true, fbRun := 0, trip := some .toOpen }
      exact ⟨_, _, rfl, honly, hnoted, hax⟩
    · rw [State.onDev, Dev.freezeAxis, if_pos (by simp [hst, h0, hn])]
      obtain ⟨honly, hnoted, hax⟩ := Dev.detected (a := a) hc (show 488 + a.val < 512 by omega)
        { (s.dev.ax a).tripPark with freeze := true, frzRun := 0 }
      exact ⟨_, _, rfl, honly, hnoted, hax⟩
    · rw [State.onDev, Dev.trackErr, if_pos (by simp [hst, h0, hn])]
      obtain ⟨honly, hnoted, hax⟩ := Dev.detected (a := a) hc (show 496 + a.val < 512 by omega)
        { (s.dev.ax a).tripPark with trackErr := true, errRun := 0 }
      exact ⟨_, _, rfl, honly, hnoted, hax⟩
    · rw [State.onDev, Dev.fbLoss, if_neg (by simp [hex])]
    · rw [State.onDev, Dev.freezeAxis, if_neg (by simp [hst])]
    · rw [State.onDev, Dev.trackErr, if_neg (by simp [hst])]
    · obtain ⟨m, hm, hsampled⟩ := Dev.servoSample_axis (n := n) a.isLt (List.getElem?_eq_getElem hlen) hon hc hs hf hleave
      obtain ⟨hb, -, htrip⟩ := Dev.axisBoundary_trip (a := a.val) hm hcmds hramp
      rw [hb] at hsampled
      refine ⟨_, exec_servoSample ha hon hc hs hf hleave, hsampled.trip.trans htrip, fun ht hex => ?_, fun ht hst => ?_⟩
      · have hopen : m.axisTrip a (s.dev.ax a) = ({ s.dev.ax a with trip := none } : Axis).openPark := by
          rw [Dev.axisTrip, ht]
          exact if_pos hex
        rw [hopen] at hsampled
        exact ⟨hsampled.st.resolve_right (by simp [Axis.openPark]), hsampled.exOn.trans hex⟩
      · have hpark : m.axisTrip a (s.dev.ax a) = m.toParking a ({ s.dev.ax a with trip := none } : Axis) := by
          rw [Dev.axisTrip, ht]
          exact if_pos hst
        rw [hpark] at hsampled
        exact hsampled.st.imp id And.right

/-! ## Servo tables and the tracked drive (R80, R95) -/

/-- Storing an axis and noting an event do not look at each other. -/
theorem Dev.raise_setAx {d : Dev} {n : Nat} (hc : d.on domCORE = true) (hn : n < 512) (a : Nat) (x : Axis) :
    (d.raise n).setAx a x = (d.setAx a x).raise n := by
  rw [Dev.raise_eq hc hn, Dev.raise_eq (d := d.setAx a x) hc hn]
  rfl

/-- What taking up a due table makes of the axis. -/
theorem Dev.takeUp_due {a r : Nat} {x : Axis} {d : Dev} {bs : List Byte} (hdue : x.swapDue = true) (hbs : x.shadow = some bs) :
    (d.takeUp a r x).2 = (d.putServo a bs).raise Ev.HCH_TABLE_SWAP ∧ (d.takeUp a r x).1.shadow = none
    ∧ (d.takeUp a r x).1.swapDue = false ∧ (d.takeUp a r x).1.tblOk = true := by
  unfold Dev.takeUp
  dsimp only
  rw [hdue, if_pos rfl, hbs]
  exact ⟨rfl, rfl, rfl, rfl⟩

/-- The integrator that a tracked drive word aligns leaves the axis's state, drive and histories alone. -/
theorem alignSigma_keeps (ki contrib : Int) (x : Axis) : (alignSigma ki contrib x).st = x.st
    ∧ (alignSigma ki contrib x).drive = x.drive ∧ (alignSigma ki contrib x).biq = x.biq := by
  unfold alignSigma
  split <;> exact ⟨rfl, rfl, rfl⟩

/-- Settles O11: the swap by `Dev.takeUp_due`, its registers by `Dev.putServo_writesIn` and `Dev.putServo_iLim`, and the drive word by
the branch of `Dev.driveWord` for a standby. -/
theorem servoTableSwapAndTrackedDrive : Obligations.ServoTableSwapAndTrackedDrive := by
  unfold Obligations.ServoTableSwapAndTrackedDrive
  intro s a ha hc
  refine ⟨fun hon hdue bs hbs => ?swap, fun hon hno => ?none, fun w c run hstd hx => ?standby, fun w c run hstd => ?active⟩
  case swap =>
    have hexec : exec (.hchTableSwap a) s = .next (s.onDev (Dev.tableSwap a)) := congrArg _ (State.inDom_pos ha hon _)
    obtain ⟨htake, hshadow, hswap, htbl⟩ := Dev.takeUp_due (a := a.val) (r := (s.dev.ax a).region) (d := s.dev) hdue hbs
    have hst : (s.dev.takeUp a (s.dev.ax a).region (s.dev.ax a)).1.st = (s.dev.ax a).st :=
      (congrArg Axis.st (s.dev.takeUp_gist a (s.dev.ax a).region (s.dev.ax a)) :)
    have hput := Dev.putServo_writesIn a bs s.dev
    have hm := hput.1
    set m := (s.dev.putServo a bs).setAx a (s.dev.takeUp a (s.dev.ax a).region (s.dev.ax a)).1 with hdef
    have hon : (s.dev.putServo a bs).on domCORE = true := by
      rw [hm]
      exact hc
    have hmon : m.on domCORE = true := by rw [hdef, Dev.on_setAx, hon]
    rw [hexec, State.onDev, Dev.tableSwap, if_pos (by simp [hdue, hbs])]
    dsimp only
    rw [htake, Dev.raise_setAx hon (by decide)]
    refine ⟨m, _, rfl, Dev.raise_noted hmon (by decide), ?_, ?_, ?_, ?_, fun b hb => ?_, ?_, ?_, fun o ho => ?_⟩
    · rw [hdef, Dev.ax_setAx, hshadow]
    · rw [hdef, Dev.ax_setAx, hswap]
    · rw [hdef, Dev.ax_setAx, htbl]
    · rw [hdef, Dev.ax_setAx, hst]
    · rw [hdef, Dev.ax_setAx_ne _ _ hb.symm, hm]
      rfl
    · rw [hdef, Dev.rd_setAx, Dev.putServo_iLim]
    · rw [hdef, hm]
      rfl
    · rw [hdef, Dev.rd_setAx, (s.dev.putServo_window a bs).2 o ho]
  case none =>
    refine (congrArg _ (State.inDom_pos ha hon _)).trans (congrArg _ (State.onDev_id (if_neg ?_)))
    rcases hno with h | h <;> simp [h]
  case standby =>
    have hexec : exec (.crosslinkDriveWord a w c run) s = .next (s.onDev (Dev.driveWord a w c run)) :=
      congrArg _ (State.inDom_pos ha hc _)
    rw [hexec, State.onDev, Dev.driveWord, if_neg (by simp [hstd, hx])]
    refine ⟨_, rfl, ?_⟩
    rw [Dev.ax_setAx]
    obtain ⟨hst, hdrive, hbiq⟩ := alignSigma_keeps ((s.dev.coef a (s.dev.ax a).region).2.1) c (s.dev.ax a)
    refine ⟨rfl, rfl, hst, hdrive, fun hlen => ?_, fun b hb => Dev.ax_setAx_ne _ _ hb.symm, rfl, rfl⟩
    exact congrArg Biq.y1 (setAt_getD_same _ (Nat.lt_of_lt_of_eq hlen (congrArg List.length hbiq).symm) _ _)
  case active =>
    refine (congrArg _ (State.inDom_pos ha hc _)).trans (congrArg _ (State.onDev_id (if_pos ?_)))
    simp [hstd]

end Sys2Proof.Machine
end

section
/-! The receive front end (04 R101, R104 to R107, R114, R115; 05 R132; 06 R156, R158): gain ranges, listen windows and comparator
edges. -/
namespace Sys2Proof.Machine

/-! ## Loops -/

/-- A relation that is reflexive and transitive holds over a fold when it holds over each turn. -/
theorem foldl_rel {σ β : Type} {f : σ → β → σ} (P : σ → σ → Prop) (hr : ∀ d, P d d) (ht : ∀ {d e g}, P d e → P e g → P d g)
    {l : List β} (h : ∀ d, ∀ x ∈ l, P d (f d x)) (d : σ) : P d (l.foldl f d) := by
  induction l generalizing d with
  | nil => exact hr d
  | cons x l ih => exact ht (h d x List.mem_cons_self) (ih (fun d y hy => h d y (List.mem_cons_of_mem _ hy)) _)

/-! ## Channels and banks -/

theorem Dev.chan_setChan_ne (d : Dev) {c k : Nat} (x : Chan) (h : k ≠ c) : (d.setChan c x).chan k = d.chan k :=
  tabGet_put_ne _ _ _ h.symm
theorem Dev.bank_setBank_ne (d : Dev) {b j : Nat} (x : Bank) (h : j ≠ b) : (d.setBank b x).bank j = d.bank j :=
  tabGet_put_ne _ _ _ h.symm
@[simp] theorem Dev.chan_setBank (d : Dev) (b k : Nat) (x : Bank) : (d.setBank b x).chan k = d.chan k := rfl
@[simp] theorem Dev.bank_setChan (d : Dev) (c j : Nat) (x : Chan) : (d.setChan c x).bank j = d.bank j := rfl
@[simp] theorem Dev.stpBank_setStpBank (d : Dev) (b : Nat) (x : StpBank) : (d.setStpBank b x).stpBank b = x :=
  tabGet_put_same _ _ _ _
theorem Dev.stpBank_setStpBank_ne (d : Dev) {b j : Nat} (x : StpBank) (h : j ≠ b) : (d.setStpBank b x).stpBank j = d.stpBank j :=
  tabGet_put_ne _ _ _ h.symm
@[simp] theorem Dev.at_chan (d : Dev) (t : Time) (c : Nat) : (d.at t).chan c = d.chan c := by simp only [Dev.chan, Dev.at_afe]
@[simp] theorem Dev.at_bank (d : Dev) (t : Time) (b : Nat) : (d.at t).bank b = d.bank b := by simp only [Dev.bank, Dev.at_afe]
@[simp] theorem Dev.at_stpBank (d : Dev) (t : Time) (b : Nat) : (d.at t).stpBank b = d.stpBank b := by
  simp only [Dev.stpBank, Dev.at_stp]
@[simp] theorem Dev.at_prf (d : Dev) (t : Time) : (d.at t).prf = d.prf := by rw [Dev.at_eq]
@[simp] theorem Dev.at_lnk (d : Dev) (t : Time) : (d.at t).lnk = d.lnk := by rw [Dev.at_eq]

/-- A bank's channels are those that name it. -/
theorem mem_bankChans {b c : Nat} : c ∈ bankChans b ↔ bankOf c = b := by
  simp only [bankChans, bankOf, List.mem_map, List.mem_range]
  constructor
  · rintro ⟨i, hi, rfl⟩
    omega
  · exact fun h => ⟨c % 16, Nat.mod_lt _ (by decide), by omega⟩

/-! ## Gain ranges (R105, R106) -/

/-- Only the channels of the front end differ. -/
def Dev.OnlyChans (d e : Dev) : Prop := e = { d with afe := { d.afe with chans := e.afe.chans } }

theorem Dev.OnlyChans.trans {d e g : Dev} (h : d.OnlyChans e) (k : e.OnlyChans g) : d.OnlyChans g := by
  unfold Dev.OnlyChans at *
  rw [k, h]

theorem Dev.OnlyChans.bank {d e : Dev} (h : d.OnlyChans e) (b : Nat) : e.bank b = d.bank b := by
  rw [show e = _ from h]
  rfl

theorem Dev.OnlyChans.stpBank {d e : Dev} (h : d.OnlyChans e) (b : Nat) : e.stpBank b = d.stpBank b := by
  rw [show e = _ from h]
  rfl

theorem Dev.OnlyChans.regs {d e : Dev} (h : d.OnlyChans e) : e.regs = d.regs := by rw [show e = _ from h]
theorem Dev.OnlyChans.evt {d e : Dev} (h : d.OnlyChans e) : e.evt = d.evt := by rw [show e = _ from h]
theorem Dev.OnlyChans.tim {d e : Dev} (h : d.OnlyChans e) : e.tim = d.tim := by rw [show e = _ from h]

theorem Dev.setChan_onlyChans (d : Dev) (c : Nat) (x : Chan) : d.OnlyChans (d.setChan c x) := rfl

theorem foldl_onlyChans {f : Dev → Nat → Dev} {l : List Nat} (h : ∀ d c, Dev.OnlyChans d (f d c)) (d : Dev) :
    d.OnlyChans (l.foldl f d) :=
  foldl_rel Dev.OnlyChans (fun _ => rfl) Dev.OnlyChans.trans (fun d c _ => h d c) d

/-- A command waits at every channel of a list. -/
def Dev.gainWaits (r : Nat) (l : List Nat) (d : Dev) : Dev :=
  l.foldl (fun d c => d.setChan c { d.chan c with cmd := some r }) d

theorem Dev.gainWaits_chan (r : Nat) (l : List Nat) (d : Dev) (k : Nat) :
    (d.gainWaits r l).chan k = if k ∈ l then { d.chan k with cmd := some r } else d.chan k := by
  induction l generalizing d with
  | nil => rfl
  | cons c l ih =>
    refine (ih _).trans ?_
    by_cases hk : k = c
    · subst hk
      simp
    · simp [Dev.chan_setChan_ne _ _ hk, hk]

/-- With listen windows in the frame the range of GAIN_SET waits. -/
theorem Dev.gainSet_waits {c r : Nat} {all : Bool} {d : Dev} (h : d.noWin (bankOf c) = false) :
    d.gainSet c r all = d.gainWaits r (if all then bankChans (bankOf c) else [c]) := by
  have hl : ∀ k ∈ (if all then bankChans (bankOf c) else [c]), bankOf k = bankOf c := by
    intro k hk
    cases all with
    | false => rw [List.mem_singleton.mp hk]
    | true => exact mem_bankChans.mp hk
  unfold Dev.gainSet Dev.gainWaits
  generalize (if all then bankChans (bankOf c) else [c]) = l at hl ⊢
  dsimp only
  induction l generalizing d with
  | nil => rfl
  | cons k l ih =>
    rw [List.foldl_cons, List.foldl_cons, hl k List.mem_cons_self, if_neg (by simp [h])]
    exact ih (d := d.setChan k { d.chan k with cmd := some r }) h (fun j hj => hl j (List.mem_cons_of_mem _ hj))

/-- What the plates keep of a range change touches the plates alone. -/
theorem Dev.tapRange_changes (src old new : Nat) (tap : Bool) (t : Time) (d : Dev) :
    d.tapRange src old new tap t = { d with wave := (d.tapRange src old new tap t).wave } := by
  refine foldl_rel (fun d e : Dev => e = { d with wave := e.wave }) (fun _ => rfl) (fun h k => by rw [k, h]) (fun d x _ => ?_) d
  unfold Dev.pltMark
  dsimp only
  split <;> rfl

/-- A range that is set is the channel's, and leaves the other channels alone. -/
theorem Dev.setRange_gain (c r : Nat) (tick : Bool) (t : Time) (d : Dev) : ((d.setRange c r tick t).chan c).gain = r
    ∧ ((d.setRange c r tick t).chan c).cmd = (d.chan c).cmd ∧ ∀ k, k ≠ c → (d.setRange c r tick t).chan k = d.chan k := by
  unfold Dev.setRange
  dsimp only
  split
  · exact ⟨‹_›, rfl, fun _ _ => rfl⟩
  · have hsame : ∀ (e : Dev) k, (e.tapRange c (d.chan c).gain r true t).chan k = e.chan k := fun e k => by
      rw [Dev.tapRange_changes]
      rfl
    simp only [hsame]
    split
    · exact ⟨by rw [Dev.chan_setChan], by rw [Dev.chan_setChan], fun k hk => Dev.chan_setChan_ne _ _ hk⟩
    · simp only [Dev.chan_setBank]
      exact ⟨by rw [Dev.chan_setChan], by rw [Dev.chan_setChan], fun k hk => Dev.chan_setChan_ne _ _ hk⟩

/-- A range that is set touches the front end and the plates alone. -/
theorem Dev.setRange_changes (c r : Nat) (tick : Bool) (t : Time) (d : Dev) : d.setRange c r tick t = { d with
    afe := (d.setRange c r tick t).afe, wave := (d.setRange c r tick t).wave } := by
  unfold Dev.setRange
  dsimp only
  split
  · rfl
  · rw [Dev.tapRange_changes]
    split <;> rfl

/-- Settles O13: the waiting ranges by `Dev.gainSet_waits`, the one applied at once by `Dev.setRange_gain`. -/
theorem gainWaitsForTheShotBoundary : Obligations.GainWaitsForTheShotBoundary := by
  unfold Obligations.GainWaitsForTheShotBoundary
  intro s c r ha hon
  dsimp only
  have hexec (all : Bool) : exec (.gainSet c r all) s = .next { s with dev := s.dev.gainSet c.val r.val all } :=
    congrArg _ (State.inDom_pos ha hon _)
  refine ⟨fun hw => ⟨⟨_, hexec _, ?_⟩, _, hexec _, ?_⟩, fun hw => ⟨_, hexec _, ?_⟩⟩
  · rw [Dev.gainSet_waits hw]
    refine ⟨foldl_onlyChans (fun d c => d.setChan_onlyChans c _) _, ?_, fun k hk => ?_⟩ <;> rw [Dev.gainWaits_chan]
    · exact if_pos (List.mem_singleton.mpr rfl)
    · exact if_neg (fun h => hk (List.mem_singleton.mp h))
  · rw [Dev.gainSet_waits hw]
    refine ⟨foldl_onlyChans (fun d c => d.setChan_onlyChans c _) _, fun k hk => ?_, fun k hk => ?_⟩ <;> rw [Dev.gainWaits_chan]
    · exact if_pos (mem_bankChans.mpr hk)
    · exact if_neg (fun h => hk (mem_bankChans.mp h))
  · have happlied : s.dev.gainSet c.val r.val false
        = (s.dev.setChan c.val { s.dev.chan c.val with cmd := none }).setRange c.val r.val false s.dev.now := if_pos hw
    obtain ⟨hgain, hcmd, hother⟩ := Dev.setRange_gain c.val r.val false s.dev.now
      (s.dev.setChan c.val { s.dev.chan c.val with cmd := none })
    rw [happlied]
    refine ⟨hgain, hcmd.trans (by rw [Dev.chan_setChan]), fun k hk => (hother k hk).trans (Dev.chan_setChan_ne _ _ hk), ?_, ?_⟩
      <;> rw [Dev.setRange_changes] <;> rfl

/-! ## A listen window opens (R101, R104; 06 R156) -/

/-- The window of a shot of emitter `em` at a bank whose mode settles at `settle`. -/
def Dev.shotWindow (b k : Nat) (fire : Time) (em : Nat) (settle : Time) (d : Dev) : Win :=
  let opened := fire + 8 * d.winOfs (b / 8)
  { e := em, k := k, fire := fire, opened := opened, close := fire + 8 * (d.pairExtent em + d.listenEnd (b / 8)),
    counted := decide (settle ≤ opened) }

/-- The counts of a bank after a shot whose window opens at `t`. -/
def StpBank.counted (k : Nat) (n : Bool) (t : Time) (x : StpBank) : StpBank :=
  { x with g0 := x.g0 + b2n (n && decide (k % 4 = 0)), g1 := x.g1 + b2n (n && decide (k % 4 = 1)),
           g2 := x.g2 + b2n (n && decide (k % 4 = 2)), g3 := x.g3 + b2n (n && decide (k % 4 = 3)),
           late := x.late + b2n (n && x.split ≠ 0 && decide (x.split - 1 + 250 * ns ≤ t)) }

/-- The window that opens, with the shot counted. -/
def Dev.windowHeld (b : Nat) (w : Win) (rest : List (Nat × Time)) (d : Dev) : Dev :=
  let e := (d.at w.opened).setBank b { d.bank b with refs := rest, win := some w }
  if w.counted then e.setStpBank b ((e.stpBank b).counted w.k w.counted w.opened) else e

theorem Dev.windowOpen_eq {b k em : Nat} {fire : Time} {rest : List (Nat × Time)} {d : Dev} (hon : d.on domACQ = true)
    (hr : (d.bank b).refs = (k, fire) :: rest) (hw : (d.bank b).win = none) (he : d.bankEmitter b = some em) :
    d.windowOpen b = (bankChans b).foldl (fun d c => if d.borrowed c then d else
        d.setChan c { d.chan c with winCode := some (d.gainByte c), evCount := 0 })
      (d.windowHeld b (d.shotWindow b k fire em (d.bank b).settle) rest) := by
  unfold Dev.windowOpen
  dsimp only
  rw [hr, hw, he]
  exact if_neg (by simp [hon])

theorem StpBank.counted_sums (k : Nat) (n : Bool) (t : Time) (x : StpBank) :
    let y := if n then x.counted k n t else x
    y.g0 = x.g0 + b2n (n && decide (k % 4 = 0)) ∧ y.g1 = x.g1 + b2n (n && decide (k % 4 = 1))
      ∧ y.g2 = x.g2 + b2n (n && decide (k % 4 = 2)) ∧ y.g3 = x.g3 + b2n (n && decide (k % 4 = 3)) := by
  cases n with
  | true => exact ⟨rfl, rfl, rfl, rfl⟩
  | false => exact ⟨rfl, rfl, rfl, rfl⟩

/-- What the window that opens leaves. -/
theorem Dev.windowHeld_facts (b : Nat) (w : Win) (rest : List (Nat × Time)) (d : Dev) :
    let e := d.windowHeld b w rest
    e.tim = (d.at w.opened).tim ∧ e.bank b = { d.bank b with refs := rest, win := some w }
      ∧ e.stpBank b = (if w.counted then (d.stpBank b).counted w.k w.counted w.opened else d.stpBank b)
      ∧ (∀ j, j ≠ b → e.bank j = d.bank j ∧ e.stpBank j = d.stpBank j) ∧ e.regs = d.regs ∧ e.evt = d.evt := by
  have hs (j : Nat) (x : Bank) : ((d.at w.opened).setBank b x).stpBank j = d.stpBank j := d.at_stpBank w.opened j
  have hb (j : Nat) (hj : j ≠ b) (x : Bank) : ((d.at w.opened).setBank b x).bank j = d.bank j :=
    (Dev.bank_setBank_ne _ x hj).trans (d.at_bank _ _)
  unfold Dev.windowHeld
  dsimp only
  split
  · rw [Dev.stpBank_setStpBank, hs]
    exact ⟨rfl, Dev.bank_setBank _ _ _, rfl, fun j hj => ⟨hb j hj _, (Dev.stpBank_setStpBank_ne _ _ hj).trans (hs _ _)⟩,
      d.at_regs _, d.at_evt _⟩
  · exact ⟨rfl, Dev.bank_setBank _ _ _, hs _ _, fun j hj => ⟨hb j hj _, hs _ _⟩, d.at_regs _, d.at_evt _⟩

/-! ## What the end of an event leaves alone (R114, R115; 06 R157, R158) -/

/-- Only Stipple differs. -/
def Dev.OnlyStp (d e : Dev) : Prop := e = { d with stp := e.stp }

theorem Dev.OnlyStp.trans {d e g : Dev} (h : d.OnlyStp e) (k : e.OnlyStp g) : d.OnlyStp g := by
  unfold Dev.OnlyStp at *
  rw [k, h]

theorem Dev.OnlyStp.chan {d e : Dev} (h : d.OnlyStp e) (c : Nat) : e.chan c = d.chan c := by
  rw [show e = _ from h]
  rfl

theorem Dev.OnlyStp.regs {d e : Dev} (h : d.OnlyStp e) : e.regs = d.regs := by rw [show e = _ from h]

theorem Dev.countHit_onlyStp (c g : Nat) (fine : Bool) (x : Hit) (d : Dev) : d.OnlyStp (d.countHit c g fine x) := by
  unfold Dev.countHit
  dsimp only
  split
  · rfl
  split
  · exact Dev.OnlyStp.trans (e := d.setStp1 c _) rfl
      (foldl_rel Dev.OnlyStp (fun _ => rfl) Dev.OnlyStp.trans (fun _ _ _ => show _ = _ from rfl) _)
  · rfl

theorem Dev.takeHit_onlyStp (c : Nat) (w : Win) (on : Time) (hi : Option Time) (tot : Option Nat) (clip : Bool) (d : Dev) :
    d.OnlyStp (d.takeHit c w on hi tot clip) := by
  unfold Dev.takeHit
  dsimp only
  split
  · rfl
  · exact d.countHit_onlyStp _ _ _ _

/-- An end with no event running does nothing; the end of an event leaves its instant, and its hit to Stipple. -/
theorem Dev.endEvent_none {c : Nat} {d : Dev} (w : Win) (stop : Time) (tot : Option Nat) (clip : Bool) (h : (d.chan c).ev = none) :
    d.endEvent c w stop tot clip = d := by
  unfold Dev.endEvent
  dsimp only
  rw [h]

theorem Dev.endEvent_some {c : Nat} {ev : EvtRun} {d : Dev} (w : Win) (stop : Time) (tot : Option Nat) (clip : Bool)
    (h : (d.chan c).ev = some ev) :
    (d.setChan c { d.chan c with ev := none, lastEnd := stop + 1 }).OnlyStp (d.endEvent c w stop tot clip) := by
  unfold Dev.endEvent
  dsimp only
  rw [h]
  exact Dev.takeHit_onlyStp _ _ _ _ _ _ _

/-- What the running events and held hits of a channel that end leave alone: the other channels, and all but the channels,
Stipple and the registers. -/
structure Dev.EventEnded (c : Nat) (d e : Dev) : Prop where
  ev : (e.chan c).ev = none
  others : ∀ k, k ≠ c → e.chan k = d.chan k
  frame : e = { d with regs := e.regs, stp := e.stp, afe := { d.afe with chans := e.afe.chans } }

theorem Dev.closeHits_frame (c : Nat) (w : Win) (d : Dev) : d.closeHits c w = { d with
    regs := (d.closeHits c w).regs, stp := (d.closeHits c w).stp } := by
  unfold Dev.closeHits
  dsimp only
  split
  · rfl
  · generalize hf : List.foldl _ _ _ = e
    have he : (d.setStp1 c { d.stp1 c with hits := [] }).OnlyStp e :=
      hf ▸ foldl_rel Dev.OnlyStp (fun _ => rfl) Dev.OnlyStp.trans (fun d x _ => d.countHit_onlyStp _ _ _ x) _
    rw [show e = _ from he]
    rfl

theorem Dev.endEvent_ended (c : Nat) (w : Win) (stop : Time) (tot : Option Nat) (clip : Bool) (d : Dev) :
    d.EventEnded c ((d.endEvent c w stop tot clip).closeHits c w) := by
  have hclose (e : Dev) (k : Nat) : (e.closeHits c w).chan k = e.chan k := by
    rw [Dev.closeHits_frame]
    rfl
  cases hev : (d.chan c).ev with
  | none =>
    rw [Dev.endEvent_none w stop tot clip hev]
    exact ⟨by rw [hclose, hev], fun k _ => hclose d k, by rw [Dev.closeHits_frame]⟩
  | some ev =>
    have h := Dev.endEvent_some w stop tot clip hev
    refine ⟨by rw [hclose, h.chan, Dev.chan_setChan], fun k hk => ?_, ?_⟩
    · rw [hclose, h.chan, Dev.chan_setChan_ne _ _ hk]
    · rw [Dev.closeHits_frame, show d.endEvent c w stop tot clip = _ from h]
      rfl

/-! ## Shot boundaries (R105 to R107) -/

/-- What a shot boundary of a channel of bank `b` leaves alone: the running events, the windows, and all but the front end, the
plates and the events. -/
structure Dev.BoundaryOf (b : Nat) (d e : Dev) : Prop where
  ev : ∀ k, (e.chan k).ev = (d.chan k).ev
  bank : ∃ n, e.bank b = { d.bank b with gchg := n }
  others : ∀ j, j ≠ b → e.bank j = d.bank j
  tim : e.tim = d.tim
  brn : e.brn = d.brn
  glb : e.glb = d.glb
  domains : e.pwr.domains = d.pwr.domains

theorem Dev.BoundaryOf.refl (b : Nat) (d : Dev) : d.BoundaryOf b d := ⟨fun _ => rfl, ⟨_, rfl⟩, fun _ _ => rfl, rfl, rfl, rfl, rfl⟩

theorem Dev.BoundaryOf.trans {b : Nat} {d e g : Dev} (h : d.BoundaryOf b e) (k : e.BoundaryOf b g) : d.BoundaryOf b g := by
  obtain ⟨n, hn⟩ := h.bank
  obtain ⟨m, hm⟩ := k.bank
  exact ⟨fun i => (k.ev i).trans (h.ev i), ⟨m, by rw [hm, hn]⟩, fun j hj => (k.others j hj).trans (h.others j hj), k.tim.trans h.tim,
    k.brn.trans h.brn, k.glb.trans h.glb, k.domains.trans h.domains⟩

/-- Storing a channel whose event is the one that ran. -/
theorem Dev.setChan_boundaryOf (b : Nat) {c : Nat} {x : Chan} (d : Dev) (h : x.ev = (d.chan c).ev) : d.BoundaryOf b (d.setChan c x) := by
  refine ⟨fun k => ?_, ⟨_, rfl⟩, fun _ _ => rfl, rfl, rfl, rfl, rfl⟩
  by_cases hk : k = c
  · rw [hk, Dev.chan_setChan, h]
  · rw [Dev.chan_setChan_ne _ _ hk]

theorem Dev.raiseOnce_boundaryOf (b n : Nat) (d : Dev) : d.BoundaryOf b (d.raiseOnce n) := by
  unfold Dev.raiseOnce
  split
  · exact .refl b d
  · rw [Dev.raise_changes]
    exact ⟨fun _ => rfl, ⟨_, rfl⟩, fun _ _ => rfl, rfl, rfl, rfl, rfl⟩

theorem Dev.agcDecide_boundaryOf (b c : Nat) (clip seen : Bool) (d : Dev) : d.BoundaryOf b (d.agcDecide c clip seen).2 := by
  have keeps (x : Chan) (h : x.ev = (d.chan c).ev) := d.setChan_boundaryOf b h
  have limited (x : Chan) (h : x.ev = (d.chan c).ev) := (keeps x h).trans (Dev.raiseOnce_boundaryOf b Ev.AFE_AGC_LIMIT _)
  unfold Dev.agcDecide
  split
  · exact .refl b d
  dsimp only
  generalize (if clip = true then (d.chan c).clipRun + 1 else 0) = clips
  generalize (if seen = true then 0 else (d.chan c).quietRun + 1) = quiets
  split
  · exact keeps _ rfl
  split
  · split
    · exact keeps _ rfl
    · exact limited _ rfl
  split
  · split
    · exact keeps _ rfl
    · exact limited _ rfl
  · exact keeps _ rfl

theorem Dev.tapRange_boundaryOf (b src old new : Nat) (tap : Bool) (t : Time) (d : Dev) :
    d.BoundaryOf b (d.tapRange src old new tap t) := by
  rw [Dev.tapRange_changes]
  exact ⟨fun _ => rfl, ⟨_, rfl⟩, fun _ _ => rfl, rfl, rfl, rfl, rfl⟩

theorem Dev.countChange_boundaryOf (b : Nat) (d : Dev) : d.BoundaryOf b (d.setBank b { d.bank b with gchg := (d.bank b).gchg + 1 }) :=
  ⟨fun _ => rfl, ⟨_, d.bank_setBank b _⟩, fun _ hj => d.bank_setBank_ne _ hj, rfl, rfl, rfl, rfl⟩

theorem Dev.setRange_boundaryOf {b c : Nat} (r : Nat) (t : Time) (d : Dev) (h : bankOf c = b) :
    d.BoundaryOf b (d.setRange c r false t) := by
  subst h
  unfold Dev.setRange
  dsimp only
  split
  · exact .refl _ d
  · rw [if_neg Bool.false_ne_true]
    refine Dev.BoundaryOf.trans ?_ (Dev.tapRange_boundaryOf _ _ _ _ _ _ _)
    refine Dev.BoundaryOf.trans ?_ (Dev.countChange_boundaryOf _ _)
    exact d.setChan_boundaryOf _ rfl

theorem Dev.boundary_boundaryOf {b c : Nat} (dec : Option Nat) (t : Time) (d : Dev) (h : bankOf c = b) :
    d.BoundaryOf b (d.boundary c dec t) := by
  have cleared : d.BoundaryOf b (d.setChan c { d.chan c with cmd := none, deferred := none }) := d.setChan_boundaryOf b rfl
  unfold Dev.boundary
  dsimp only
  generalize (match dec with | some r => some r | none => (d.chan c).deferred) = o
  split
  · split
    · exact d.setChan_boundaryOf b rfl
    · split
      · exact cleared.trans (Dev.setRange_boundaryOf _ _ _ h)
      · exact cleared.trans (Dev.setRange_boundaryOf _ _ _ h)
      · exact cleared
  · split
    · exact d.setChan_boundaryOf b rfl
    · split
      · exact cleared.trans (Dev.setRange_boundaryOf _ _ _ h)
      · exact cleared.trans (Dev.setRange_boundaryOf _ _ _ h)
      · exact cleared

/-- A boundary with no auto-ranging decision notes no event, so the power controller stays as it was. -/
theorem Dev.boundary_pwr (c : Nat) (dec : Option Nat) (t : Time) (d : Dev) : (d.boundary c dec t).pwr = d.pwr := by
  have ranged (e : Dev) (r : Nat) : (e.setRange c r false t).pwr = e.pwr := by rw [Dev.setRange_changes]
  unfold Dev.boundary
  dsimp only
  generalize (match dec with | some r => some r | none => (d.chan c).deferred) = o
  split
  · split
    · rfl
    · split
      · exact ranged _ _
      · exact ranged _ _
      · rfl
  · split
    · rfl
    · split
      · exact ranged _ _
      · exact ranged _ _
      · rfl

/-! ## A listen window closes (R105, R115) -/

/-- The running events and held hits of the channels of a bank end. -/
def Dev.eventsEnded (l : List Nat) (w : Win) (d : Dev) : Dev :=
  l.foldl (fun d c => (d.endEvent c w w.close none true).closeHits c w) d

/-- The channels of a bank come to their shot boundary, those of an open window with auto-ranging decided. -/
def Dev.boundaries (l clip seen : List Nat) (t : Time) (d : Dev) : Dev :=
  l.foldl (fun d c =>
    let r := d.agcDecide c (clip.contains c) (seen.contains c)
    r.2.boundary c r.1 t) d

theorem Dev.windowClose_open {b : Nat} {clip seen : List Nat} {w : Win} {d : Dev} (h : (d.bank b).win = some w) :
    let e := (d.at w.close).eventsEnded (bankChans b) w
    d.windowClose b clip seen = (e.setBank b { e.bank b with win := none }).boundaries (bankChans b) clip seen w.close := by
  unfold Dev.windowClose
  rw [h]
  rfl

theorem Dev.windowClose_missed {b em : Nat} {clip seen : List Nat} {fire : Time} {rest : List Time} {d : Dev}
    (hon : d.on domACQ = true) (hw : (d.bank b).win = none) (hm : (d.bank b).missed = fire :: rest) (he : d.bankEmitter b = some em) :
    let t := fire + 8 * (d.pairExtent em + d.listenEnd (b / 8))
    d.windowClose b clip seen
      = (bankChans b).foldl (fun d c => d.boundary c none t) ((d.at t).setBank b { d.bank b with missed := rest }) := by
  unfold Dev.windowClose
  rw [hw]
  dsimp only
  rw [hm, he]
  exact if_neg (by simp [hon])

theorem Dev.windowClose_idle {b : Nat} {clip seen : List Nat} {d : Dev} (hw : (d.bank b).win = none) (hm : (d.bank b).missed = []) :
    d.windowClose b clip seen = d := by
  unfold Dev.windowClose
  rw [hw]
  dsimp only
  rw [hm]

/-- Once the channels of a list have ended their events, none of them runs on, and none has begun elsewhere. -/
theorem Dev.eventsEnded_ev (l : List Nat) (w : Win) (d : Dev) (c : Nat) (h : c ∈ l ∨ (d.chan c).ev = none) :
    ((d.eventsEnded l w).chan c).ev = none := by
  induction l generalizing d with
  | nil => exact h.resolve_left List.not_mem_nil
  | cons k l ih =>
    have hk := d.endEvent_ended k w w.close none true
    refine ih _ ((eq_or_ne c k).elim (fun hc => .inr (by rw [hc]; exact hk.ev)) (fun hc => ?_))
    exact h.imp (fun hm => (List.mem_cons.mp hm).resolve_left hc) (fun hn => (congrArg _ (hk.others c hc)).trans hn)

/-- Windows and the rest of the part stay. -/
theorem Dev.eventsEnded_frame (l : List Nat) (w : Win) (d : Dev) : d.eventsEnded l w = { d with
    regs := (d.eventsEnded l w).regs, stp := (d.eventsEnded l w).stp,
    afe := { d.afe with chans := (d.eventsEnded l w).afe.chans } } :=
  foldl_rel (fun d e : Dev => e = { d with regs := e.regs, stp := e.stp, afe := { d.afe with chans := e.afe.chans } })
    (fun _ => rfl) (fun h k => by rw [k, h]) (fun d c _ => (d.endEvent_ended c w w.close none true).frame) d

/-- The shot boundaries of the channels of a bank. -/
theorem Dev.boundaries_boundaryOf (b : Nat) (clip seen : List Nat) (t : Time) (d : Dev) :
    d.BoundaryOf b (d.boundaries (bankChans b) clip seen t) :=
  foldl_rel (Dev.BoundaryOf b) (Dev.BoundaryOf.refl b) Dev.BoundaryOf.trans
    (fun d c hc => (d.agcDecide_boundaryOf b c _ _).trans (Dev.boundary_boundaryOf _ _ _ (mem_bankChans.mp hc))) d

/-- A boundary with no auto-ranging decision notes no event, so the power controller stays too. -/
theorem Dev.missedBoundaries_pwr (l : List Nat) (t : Time) (d : Dev) : (l.foldl (fun d c => d.boundary c none t) d).pwr = d.pwr :=
  foldl_rel (fun d e : Dev => e.pwr = d.pwr) (fun _ => rfl) (fun h k => k.trans h) (fun d c _ => d.boundary_pwr c none t) d

/-- Settles O14. The shot of a window that opens before its mode change has settled goes uncounted (log 29), and with no window
open LISTEN_WINDOW_CLOSE is the boundary of a shot that did not fire (log 110). The opening by `Dev.windowHeld_facts`, the
closing by `Dev.eventsEnded_ev` and `Dev.boundaries_boundaryOf`. -/
theorem listenWindowsOpenAndClose : Obligations.ListenWindowsOpenAndClose := by
  unfold Obligations.ListenWindowsOpenAndClose
  refine ⟨fun s b ha hon => ?_, fun s b clip seen ha hon => ?_⟩
  · dsimp only
    have hexec : exec (.listenWindowOpen b) s = .next { s with dev := s.dev.windowOpen b.val } :=
      congrArg _ (State.inDom_pos ha hon _)
    refine ⟨fun k fire rest em hr hw he => ⟨_, hexec, ?_⟩, fun hr => ?_⟩
    · rw [Dev.windowOpen_eq hon hr hw he]
      obtain ⟨htim, hbank, hstp, hother, hregs, hevt⟩ :=
        Dev.windowHeld_facts b.val (s.dev.shotWindow b.val k fire em (s.dev.bank b.val).settle) rest s.dev
      generalize s.dev.windowHeld b.val (s.dev.shotWindow b.val k fire em (s.dev.bank b.val).settle) rest = e at *
      have hc : e.OnlyChans ((bankChans b.val).foldl (fun d c => if d.borrowed c then d else
          d.setChan c { d.chan c with winCode := some (d.gainByte c), evCount := 0 }) e) := by
        refine foldl_onlyChans (fun d c => ?_) e
        split <;> rfl
      obtain ⟨h0, h1, h2, h3⟩ := StpBank.counted_sums k (decide ((s.dev.bank b.val).settle ≤ fire + 8 * s.dev.winOfs (b.val / 8)))
        (fire + 8 * s.dev.winOfs (b.val / 8)) (s.dev.stpBank b.val)
      rw [hc.bank, hc.stpBank, hbank, hstp, hc.tim, hc.regs, hc.evt]
      refine ⟨htim, rfl, rfl, h0, h1, h2, h3, fun j hj => ?_, hregs, hevt⟩
      rw [hc.bank, hc.stpBank]
      exact hother j hj
    · refine hexec.trans (congrArg _ (State.onDev_id (f := Dev.windowOpen b.val) ?_))
      unfold Dev.windowOpen
      dsimp only
      rw [hr]
  · have hexec : exec (.listenWindowClose b clip seen) s = .next { s with dev := s.dev.windowClose b.val clip seen } :=
      congrArg _ (State.inDom_pos ha hon _)
    refine ⟨fun w hw => ⟨_, hexec, ?_⟩, fun fire rest em hw hm he => ⟨_, hexec, ?_⟩, fun hw hm => ?_⟩
    · rw [Dev.windowClose_open hw]
      have hend := Dev.eventsEnded_frame (bankChans b.val) w (s.dev.at w.close)
      have hev := fun c hc => Dev.eventsEnded_ev (bankChans b.val) w (s.dev.at w.close) c (.inl (mem_bankChans.mpr hc))
      generalize (s.dev.at w.close).eventsEnded (bankChans b.val) w = e at hend hev
      have hbd := Dev.boundaries_boundaryOf b.val clip seen w.close (e.setBank b.val { e.bank b.val with win := none })
      obtain ⟨n, hbank⟩ := hbd.bank
      refine ⟨by rw [hbank, Dev.bank_setBank], fun c hc => (hbd.ev c).trans (hev c hc), fun j hj => ?_, ?_, ?_, ?_⟩
      · rw [hbd.others j hj, Dev.bank_setBank_ne _ _ hj, hend]
        exact congrArg Bank.win (s.dev.at_bank _ _)
      · exact hbd.brn.trans (by rw [hend]; exact s.dev.at_brn _)
      · exact hbd.domains.trans (by rw [hend]; exact congrArg Pwr.domains (s.dev.at_pwr _))
      · exact hbd.glb.trans (by rw [hend]; exact s.dev.at_glb _)
    · rw [Dev.windowClose_missed hon hw hm he]
      generalize fire + 8 * (s.dev.pairExtent em + s.dev.listenEnd (b.val / 8)) = t
      generalize hd : (s.dev.at t).setBank b.val { s.dev.bank b.val with missed := rest } = d
      have hbd : d.BoundaryOf b.val ((bankChans b.val).foldl (fun d c => d.boundary c none t) d) :=
        foldl_rel (Dev.BoundaryOf b.val) (Dev.BoundaryOf.refl _) Dev.BoundaryOf.trans
          (fun d c hc => Dev.boundary_boundaryOf none t d (mem_bankChans.mp hc)) d
      obtain ⟨n, hbank⟩ := hbd.bank
      rw [hbank, hbd.tim, hbd.brn, hbd.glb, Dev.missedBoundaries_pwr]
      subst hd
      refine ⟨rfl, by rw [Dev.bank_setBank], by rw [Dev.bank_setBank]; exact hw, fun j hj => ?_, s.dev.at_brn t, s.dev.at_pwr t,
        s.dev.at_glb t⟩
      exact (hbd.others j hj).trans ((Dev.bank_setBank_ne _ _ hj).trans (s.dev.at_bank t j))
    · exact hexec.trans (congrArg _ (State.onDev_id (f := Dev.windowClose b.val clip seen) (Dev.windowClose_idle hw hm)))

/-! ## Comparator edges (R114, R115; 05 R132) -/

/-- The corrected time of an edge looks at the register file. -/
@[simp] theorem Dev.at_edgeTime (d : Dev) (t : Time) (w : Nat → Nat) (x : Edge) : (d.at t).edgeTime w x = d.edgeTime w x := by
  unfold Dev.at
  split <;> rfl

@[simp] theorem Dev.raiseOnce_afe (d : Dev) (n : Nat) : (d.raiseOnce n).afe = d.afe := by
  unfold Dev.raiseOnce
  split
  · rfl
  · exact Dev.raise_afe _ _

/-- A turn-on at `t` is timed: the channel takes events, the PLL holds its lock, the shot counts, its window is open at `t`, and no
settling of Proof keeps the channel out. -/
def Dev.timed (c : Nat) (w : Win) (t : Time) (d : Dev) : Prop :=
  d.on domACQ = true ∧ d.chEn c = true ∧ d.borrowed c = false ∧ d.tim.lock = true ∧ w.counted = true ∧ w.opened ≤ t ∧ t ≤ w.close
    ∧ d.prf.settle.testBit c = false

@[simp] theorem Dev.setChan_on (d : Dev) (c k : Nat) (x : Chan) : (d.setChan c x).on k = d.on k := rfl
@[simp] theorem Dev.setChan_chEn (d : Dev) (c k : Nat) (x : Chan) : (d.setChan c x).chEn k = d.chEn k := rfl
@[simp] theorem Dev.setChan_borrowed (d : Dev) (c k : Nat) (x : Chan) : (d.setChan c x).borrowed k = d.borrowed k := rfl

theorem Dev.at_chEn (d : Dev) (t : Time) (c : Nat) : (d.at t).chEn c = d.chEn c := by
  unfold Dev.at
  split <;> rfl

theorem Dev.at_borrowed (d : Dev) (t : Time) (c : Nat) : (d.at t).borrowed c = d.borrowed c := by
  unfold Dev.at
  split <;> rfl

theorem Dev.at_deadTime (d : Dev) (t : Time) (b : Nat) : (d.at t).deadTime b = d.deadTime b := by
  unfold Dev.at
  split <;> rfl

/-- The channel with its low comparator on. -/
def Dev.lowSet (c : Nat) (t : Time) (d : Dev) : Dev := (d.at t).setChan c { d.chan c with low := true }

theorem Dev.lowOn_timed {c : Nat} {x : Edge} {w : Win} {d : Dev} (hl : (d.chan c).low = false) (hw : (d.bank (bankOf c)).win = some w)
    (h : d.timed c w (d.edgeTime (Reg.TIM_TBL c 0) x)) :
    let t := d.edgeTime (Reg.TIM_TBL c 0) x
    let e := d.lowSet c t
    d.lowOn c x = if (d.chan c).lastEnd ≠ 0 ∧ t < (d.chan c).lastEnd - 1 + d.deadTime (bankOf c) then e
      else if 4 ≤ (d.chan c).evCount then
        (e.setBank (bankOf c) { d.bank (bankOf c) with ovf := (d.bank (bankOf c)).ovf + 1 }).raiseOnce Ev.AFE_EVT_OVF
      else e.setChan c { d.chan c with low := true, ev := some { on := t, hi := none, clip := false },
                                       evCount := (d.chan c).evCount + 1 } := by
  obtain ⟨hon, hen, hb, hlock, hc, ho, hcl, hs⟩ := h
  unfold Dev.lowOn Dev.lowSet
  dsimp only
  rw [if_neg (by simp [hl])]
  generalize d.edgeTime (Reg.TIM_TBL c 0) x = t at ho hcl ⊢
  rw [Dev.chan_setChan, Dev.bank_setChan, Dev.at_bank, hw]
  dsimp only
  rw [if_neg]
  · refine if_congr ?_ rfl rfl
    rw [Bool.and_eq_true, decide_eq_true_eq, decide_eq_true_eq]
    exact Iff.of_eq (congrArg (fun n => _ ∧ t < (d.chan c).lastEnd - 1 + n) (d.at_deadTime t _))
  · simp only [Dev.setChan_on, Dev.setChan_chEn, Dev.setChan_borrowed, Dev.setChan_tim, Dev.setChan_prf, Dev.at_on, Dev.at_chEn,
      Dev.at_borrowed, Dev.at_lock, Dev.at_prf, hon, hen, hb, hlock, hs, hc]
    simp [ho, hcl]

theorem tabInsert_insert {α : Type} (m : Tab α) (k : Nat) (v w : α) : tabInsert (tabInsert m k v) k w = tabInsert m k w := by
  induction m with
  | nil => simp [tabInsert]
  | cons e m ih =>
    rw [tabInsert.eq_def (e :: m), tabInsert.eq_def (e :: m)]
    dsimp only
    by_cases hk : e.1 = k
    · simp [hk, tabInsert]
    · by_cases hlt : k < e.1
      · simp [hk, hlt, tabInsert]
      · simp [hk, hlt, tabInsert, ih]

/-- The second of two stores of a channel that are no defaults prevails. -/
theorem Dev.setChan_setChan (d : Dev) (c : Nat) {x y : Chan} (hx : x ≠ {}) (hy : y ≠ {}) :
    (d.setChan c x).setChan c y = d.setChan c y := by
  unfold Dev.setChan tabPut
  simp only [if_neg hx, if_neg hy, tabInsert_insert]

theorem Chan.low_ne_default {x : Chan} (h : x.low = true) : x ≠ {} := fun e => absurd (h.symm.trans (congrArg Chan.low e)) (by decide)

/-- What the end of an event leaves. -/
theorem Dev.endEvent_facts {c : Nat} {ev : EvtRun} {d : Dev} (w : Win) (stop : Time) (tot : Option Nat) (clip : Bool)
    (h : (d.chan c).ev = some ev) :
    (d.endEvent c w stop tot clip).chan c = { d.chan c with ev := none, lastEnd := stop + 1 }
      ∧ (∀ k, k ≠ c → (d.endEvent c w stop tot clip).chan k = d.chan k) ∧ (d.endEvent c w stop tot clip).regs = d.regs := by
  have hs := Dev.endEvent_some w stop tot clip h
  exact ⟨(hs.chan c).trans (d.chan_setChan _ _), fun k hk => (hs.chan k).trans (Dev.chan_setChan_ne _ _ hk), hs.regs⟩

/-- A turn-off of a running event ends it then, or at its 16 ns. -/
theorem Dev.lowOff_ends {c : Nat} {x : Edge} {clip : Bool} {ev : EvtRun} {w : Win} {d : Dev} (hl : (d.chan c).low = true)
    (hev : (d.chan c).ev = some ev) (hw : (d.bank (bankOf c)).win = some w) (hlock : d.tim.lock = true) :
    let t := d.edgeTime (Reg.TIM_TBL c 1) x
    ∃ tot cl, d.lowOff c x clip
      = ((d.at t).setChan c { d.chan c with low := false }).endEvent c w (min t (ev.on + 16 * 1024)) tot cl := by
  unfold Dev.lowOff
  dsimp only
  rw [if_neg (by simp [hl]), if_neg (by simp [hlock]), hev, Dev.bank_setChan, Dev.at_bank, hw]
  dsimp only
  generalize d.edgeTime (Reg.TIM_TBL c 1) x = t
  by_cases h : ev.on + 16 * ns < t
  · rw [if_pos h, Nat.min_eq_right (Nat.le_of_lt h)]
    exact ⟨_, _, rfl⟩
  · rw [if_neg h, Nat.min_eq_left (Nat.not_lt.mp h)]
    exact ⟨_, _, rfl⟩

/-- Settles O15: the turn-on by `Dev.lowOn_timed`, and the ends of an event by `Dev.endEvent_some`. -/
theorem comparatorEdgesMakeEvents : Obligations.ComparatorEdgesMakeEvents := by
  unfold Obligations.ComparatorEdgesMakeEvents
  intro s c x clip ha hon hcore
  have inDom (f : Dev → Dev) : (Host.Outcome.next (s.inDom domACQ f) : Res) = .next { s with dev := f s.dev } :=
    congrArg _ (State.inDom_pos ha hon _)
  have same {f : Dev → Dev} (h : f s.dev = s.dev) : (Host.Outcome.next (s.inDom domACQ f) : Res) = .next s :=
    (inDom f).trans (congrArg _ (State.onDev_id h))
  dsimp only
  refine ⟨fun w hl hw hen hb hlock hc ho hcl hset => ?_, fun hl => same (if_pos hl), fun ev hev hhi hlock => ?_, fun hev => same ?_,
    fun hl hlock => ⟨_, inDom _, ?_⟩, fun ev w hl hev hw hlock => ⟨_, inDom _, ?_⟩, fun hl => same (if_pos (by simp [hl])),
    fun ev w hev hw => ⟨_, inDom _, ?_⟩, fun hev => same ?_⟩
  · have hexec : exec (.lowComparatorTurnOn c x) s = .next { s with dev := s.dev.lowOn c.val x } := inDom _
    rw [hexec, Dev.lowOn_timed hl hw ⟨hon, hen, hb, hlock, hc, ho, hcl, hset⟩]
    refine ⟨fun hn hd => ?_, fun hn hd => ?_, fun hne hlt => by rw [if_pos ⟨hne, hlt⟩]; rfl⟩
    · rw [if_neg (fun h => hd.elim h.1 (Nat.not_le.mpr h.2)), if_neg (Nat.not_le.mpr hn)]
      refine ⟨_, rfl, ?_⟩
      unfold Dev.lowSet
      exact Dev.setChan_setChan _ _ (Chan.low_ne_default rfl) (Chan.low_ne_default rfl)
    · rw [if_neg (fun h => hd.elim h.1 (Nat.not_le.mpr h.2)), if_pos hn]
      refine ⟨_, rfl, ?_, ?_⟩
      · unfold Dev.chan
        rw [Dev.raiseOnce_afe]
        exact Dev.chan_setChan _ _ _
      · unfold Dev.bank
        rw [Dev.raiseOnce_afe]
        exact congrArg Bank.ovf (Dev.bank_setBank _ _ _)
  · refine (inDom _).trans (congrArg _ ?_)
    unfold Dev.highOn
    dsimp only
    rw [if_neg (by simp [hlock]), hev]
    dsimp only
    rw [if_pos (by simp [hhi])]
  · unfold Dev.highOn
    dsimp only
    rw [hev]
    exact ite_self _
  · unfold Dev.lowOff
    dsimp only
    rw [if_neg (by simp [hl]), if_pos (by simp [hlock])]
  · obtain ⟨tot, cl, h⟩ := Dev.lowOff_ends (x := x) (clip := clip) hl hev hw hlock
    generalize s.dev.edgeTime (Reg.TIM_TBL c.val 1) x = t at h ⊢
    obtain ⟨hc, hk, hr⟩ := Dev.endEvent_facts (d := (s.dev.at t).setChan c.val { s.dev.chan c.val with low := false }) w
      (min t (ev.on + 16 * 1024)) tot cl (by rw [Dev.chan_setChan]; exact hev)
    rw [h]
    refine ⟨by rw [hc, Dev.chan_setChan], fun k hne => ?_, hr.trans (s.dev.at_regs t)⟩
    exact (hk k hne).trans ((Dev.chan_setChan_ne _ _ hne).trans (s.dev.at_chan t k))
  · have hlim : s.dev.eventLimit c.val = (s.dev.at (ev.on + 16 * ns)).endEvent c.val w (ev.on + 16 * ns) none true := by
      unfold Dev.eventLimit
      rw [hev, hw]
    obtain ⟨hc, hk, hr⟩ := Dev.endEvent_facts (d := s.dev.at (ev.on + 16 * ns)) w (ev.on + 16 * ns) none true
      ((congrArg Chan.ev (s.dev.at_chan _ _)).trans hev)
    rw [hlim]
    exact ⟨by rw [hc, Dev.at_chan]; rfl, fun k hne => (hk k hne).trans (s.dev.at_chan _ k), hr.trans (s.dev.at_regs _)⟩
  · unfold Dev.eventLimit
    rw [hev]

end Sys2Proof.Machine
end

section
/-! The timebase (05 R129 to R132; 01 R21, R22): the first lock, losses of the reference and of the lock. -/
namespace Sys2Proof.Machine

/-! ## Frame 0 (01 R21, R36) -/

/-- Only the budgets differ, and what a derating notes. -/
def Dev.Budgeted (d e : Dev) : Prop := e = { d with bite := e.bite, regs := e.regs, evt := e.evt }

theorem Dev.Budgeted.trans {d e g : Dev} (h : d.Budgeted e) (k : e.Budgeted g) : d.Budgeted g := by
  unfold Dev.Budgeted at *
  rw [k, h]

theorem Dev.Budgeted.on {d e : Dev} (h : d.Budgeted e) (k : Nat) : e.on k = d.on k := by
  rw [show e = _ from h]
  rfl

theorem Dev.raiseIf_budgeted {d : Dev} (c : Bool) {n : Nat} (hc : d.on domCORE = true) (hn : n < 512) : d.Budgeted (d.raiseIf c n) := by
  cases c with
  | false => exact rfl
  | true =>
    change d.Budgeted (d.raise n)
    rw [Dev.raise_eq hc hn]
    exact rfl

/-- The budgets that come into force with a frame change budgets alone; a derating is an event. -/
theorem Dev.biteFrame_budgeted (passed : Bool) {d : Dev} (hc : d.on domCORE = true) : d.Budgeted (d.biteFrame passed) := by
  have hset (p : Prop) [Decidable p] : d.Budgeted (if p then d.convertSet else d) := by split <;> exact rfl
  have hcasc (e : Dev) : e.Budgeted e.convertCasc := by
    unfold Dev.convertCasc
    split <;> exact rfl
  have hall (e : Dev) (b : Bite) (h : d.Budgeted e) : d.Budgeted ({ e with bite := b } : Dev) := h.trans rfl
  have hbase (p : Prop) [Decidable p] (b : Bite) := hall (if p then d.convertSet else d).convertCasc b ((hset p).trans (hcasc _))
  unfold Dev.biteFrame
  exact (hbase _ _).trans (Dev.raiseIf_budgeted _ (((hbase _ _).on _).trans hc) (by decide))

/-! ## Events that run when the lock is lost (R132) -/

/-- The channels of `m` whose keys are listed run no event. -/
def chansDropped (l m : Tab Chan) : Tab Chan := l.foldl (fun m e => tabMod {} m e.1 (fun x => { x with ev := none })) m

theorem chansDropped_get (l m : Tab Chan) (c : Nat) : tabGet {} (chansDropped l m) c
    = if (tabFind l c).isSome then { tabGet {} m c with ev := none } else tabGet {} m c := by
  induction l generalizing m with
  | nil => rfl
  | cons e l ih =>
    obtain ⟨k, v⟩ := e
    refine (ih _).trans ?_
    by_cases h : k = c
    · subst h
      simp [tabFind, tabMod]
    · simp [tabFind, tabMod, tabGet_put_ne _ _ _ h, h]

theorem Dev.dropEdges_eq (d : Dev) : d.dropEdges = { d with afe := { d.afe with chans := chansDropped d.afe.chans d.afe.chans } } := rfl

/-- After a lock loss no event runs on. -/
theorem Dev.dropEdges_chan (d : Dev) (c : Nat) : d.dropEdges.chan c = { d.chan c with ev := none } := by
  refine (chansDropped_get _ _ c).trans ?_
  split
  · rfl
  · have h : tabFind d.afe.chans c = none := by rwa [Option.not_isSome_iff_eq_none] at *
    simp [Dev.chan, tabGet, h]

/-- The device with its lock lost. -/
def Dev.unlocked (d : Dev) : Dev := { d.dropEdges with tim := { d.tim with lock := false, lockLost := true, holdover := false } }

theorem State.pllUnlock_pos {s : State} (h : s.dev.tim.lock = true) :
    s.pllUnlock = (s.onDev fun d => d.unlocked.raise Ev.TIM_PLL_UNLOCK).fault 0x0C 0 := if_neg (by simp [h])

theorem State.pllUnlock_neg {s : State} (h : s.dev.tim.lock = false) : s.pllUnlock = s := if_pos (by simp [h])

/-! ## Losses of the reference (R130, R131) -/

/-- The device with a loss of its reference counted. -/
def Dev.refLost (d : Dev) : Dev := { d with tim := { d.tim with refOk := false } }.inc Reg.TIM_REF_LOSS_CNT

theorem State.refLoss_pos {s : State} (hl : s.dev.tim.lock = true) (hr : s.dev.tim.refOk = true) :
    s.refLoss = if s.dev.b Reg.TIM_REF_CTL 0 then
        s.onDev fun d => { d.refLost with tim := { d.refLost.tim with holdover := true } }.raise Ev.TIM_REF_LOSS
      else (s.onDev Dev.refLost).pllUnlock := by
  unfold State.refLoss
  rw [if_neg (by simp [hl, hr])]
  dsimp only
  have hb : (s.onDev Dev.refLost).dev.b Reg.TIM_REF_CTL 0 = s.dev.b Reg.TIM_REF_CTL 0 :=
    congrArg (bit · 0) (Dev.rd_wr_ne _ _ (by decide))
  exact if_congr (Iff.of_eq (congrArg (· = true) hb)) rfl rfl

/-- Settles O16: the first lock by `Dev.biteFrame_budgeted`, a loss by `State.refLoss_pos` and `State.pllUnlock_pos`. -/
theorem locksAndReferences : Obligations.LocksAndReferences := by
  unfold Obligations.LocksAndReferences
  refine ⟨fun s ha hlock => ?_, fun s ha hcore => ?_⟩ <;>
    have live (f : State → State) : (Host.Outcome.next (s.live f) : Res) = .next (f s) := congrArg _ (State.live_pos ha f)
  · refine ⟨fun hn hll hs hst hc => ?_, fun hst => ?_, fun hst => ?_⟩
    · have hfirst : exec .pllLock s = .next { s with dev := (({ s.dev with
          tim := { s.dev.tim with lock := true, refOk := true, started := true, dt := 0 } } : Dev).frame0) } := by
        refine (live _).trans (congrArg (fun d => Host.Outcome.next { s with dev := d }) ?_)
        dsimp only
        unfold Dev.pllRuns Dev.pllLock
        rw [if_pos (by simp [hc]), if_neg (by simp [hlock, hn, hll, hs])]
        dsimp only
        rw [if_pos (by simp [hst])]
      refine ⟨_, hfirst, ?_⟩
      unfold Dev.frame0
      dsimp only
      generalize hd : (Dev.mk _ _ _ _ _ _ _ _ _ _ _ _ _ _ _ _ _ _ _ _ _) = d
      have hb : d.Budgeted (d.biteFrame false) := Dev.biteFrame_budgeted false (by rw [← hd]; exact hc)
      rw [show d.biteFrame false = _ from hb, ← hd]
      exact ⟨rfl, rfl, rfl, rfl, rfl, rfl, rfl, rfl, rfl, rfl, rfl, rfl⟩
    · exact (live _).trans (congrArg (fun d => Host.Outcome.next { s with dev := d }) (if_neg (by simp [hlock, hst])))
    · exact (live _).trans (congrArg _ (State.onDev_id (if_pos (by simp [hst]))))
  · refine ⟨fun hl hr hh => ?_, fun hl hr hh => ?_, fun hl => ?_, fun hr hh => ?_, fun hl => ⟨?_, ?_⟩, fun hr hh => ?_, fun hr => ?_⟩
    · have hexec : exec .timRefLoss s = .next s.refLoss := live _
      rw [hexec, State.refLoss_pos hl hr, if_pos hh]
      refine ⟨_, _, rfl, Dev.raise_noted hcore (by decide), rfl, rfl, ?_, fun o ho => ?_⟩
      · exact Dev.rd_inc_same _ _
      · exact Dev.rd_wr_ne _ _ ho.symm
    · have hexec : exec .timRefLoss s = .next s.refLoss := live _
      rw [hexec, State.refLoss_pos hl hr, if_neg (by simp [hh]), State.pllUnlock_pos (by exact hl)]
      refine ⟨_, _, rfl, Dev.raise_noted hcore (by decide), rfl, fun c => ?_, ?_⟩
      · exact congrArg Chan.ev (Dev.dropEdges_chan _ c)
      · exact Dev.rd_inc_same _ _
    · have hexec : exec .timPllUnlock s = .next s.pllUnlock := live _
      rw [hexec, State.pllUnlock_pos hl]
      exact ⟨_, _, rfl, Dev.raise_noted hcore (by decide), rfl, fun c => Dev.dropEdges_chan _ c⟩
    · have hexec : exec .timRefRestored s = .next (s.onDev Dev.refRestored) := live _
      rw [hexec]
      unfold State.onDev Dev.refRestored
      rw [if_neg (by simp [hr]), if_pos hh]
      exact ⟨_, _, rfl, Dev.raise_noted hcore (by decide), rfl⟩
    · exact (live _).trans (congrArg _ (if_pos (by simp [hl])))
    · exact (live _).trans (congrArg _ (State.pllUnlock_neg hl))
    · refine (live _).trans (congrArg (fun d => Host.Outcome.next { s with dev := d }) ?_)
      unfold Dev.refRestored
      rw [if_neg (by simp [hr]), if_neg (by simp [hh]), ← hh]
    · exact (live _).trans (congrArg _ (State.onDev_id (if_pos hr)))

end Sys2Proof.Machine
end

section
/-! Interval units (05 R142 to R149): what an edge of a timing input does to each unit, and the results that units form. -/
namespace Sys2Proof.Machine

/-! ## Units -/

@[simp] theorem Dev.iu_setIu (d : Dev) (u : Nat) (x : Iu) : (d.setIu u x).iu u = x := tabGet_put_same _ _ _ _
theorem Dev.iu_setIu_ne (d : Dev) {u v : Nat} (x : Iu) (h : v ≠ u) : (d.setIu u x).iu v = d.iu v := tabGet_put_ne _ _ _ h.symm
@[simp] theorem Dev.at_iu (d : Dev) (t : Time) (u : Nat) : (d.at t).iu u = d.iu u := by
  unfold Dev.at
  split <;> rfl
@[simp] theorem Dev.at_lastEdge (d : Dev) (t : Time) : (d.at t).tim.lastEdge = d.tim.lastEdge := by
  unfold Dev.at
  split <;> rfl

/-- Units that arm themselves are the idle ones that are on; registers and the inputs' last edges stay. -/
structure Dev.SelfArmed (d e : Dev) : Prop where
  regs : e.regs = d.regs
  straps : e.straps = d.straps
  on : ∀ k, e.on k = d.on k
  lastEdge : e.tim.lastEdge = d.tim.lastEdge
  units : ∀ u, (d.iu u).st ≠ .idle ∨ d.iuOn u = false → e.iu u = d.iu u

theorem Dev.iuOn_congr {d e : Dev} {u : Nat} (hr : e.rd (Reg.TIM_IU_CTL u) = d.rd (Reg.TIM_IU_CTL u))
    (ho : e.on domACQ = d.on domACQ) : e.iuOn u = d.iuOn u := by
  unfold Dev.iuOn Dev.iuMode Dev.iuGmode Dev.f
  rw [hr, ho]

theorem Dev.SelfArmed.rd {d e : Dev} (h : d.SelfArmed e) (o : Nat) : e.rd o = d.rd o := Dev.rd_congr h.regs h.straps o

theorem Dev.SelfArmed.iuOn {d e : Dev} (h : d.SelfArmed e) (u : Nat) : e.iuOn u = d.iuOn u := Dev.iuOn_congr (h.rd _) (h.on _)

theorem Dev.SelfArmed.refl (d : Dev) : d.SelfArmed d := ⟨rfl, rfl, fun _ => rfl, rfl, fun _ _ => rfl⟩

theorem Dev.SelfArmed.trans {d e g : Dev} (h : d.SelfArmed e) (k : e.SelfArmed g) : d.SelfArmed g := by
  refine ⟨k.regs.trans h.regs, k.straps.trans h.straps, fun i => (k.on i).trans (h.on i), k.lastEdge.trans h.lastEdge, fun u hu => ?_⟩
  have he := h.units u hu
  rw [k.units u (by rw [he, h.iuOn]; exact hu), he]

theorem Dev.at_selfArmed (d : Dev) (t : Time) : d.SelfArmed (d.at t) :=
  ⟨d.at_regs t, by rw [Dev.at_eq], fun k => d.at_on t k, d.at_lastEdge t, fun u _ => d.at_iu t u⟩

theorem Dev.iuAutoArm_selfArmed (u : Nat) (t : Time) (d : Dev) : d.SelfArmed (d.iuAutoArm u t) := by
  unfold Dev.iuAutoArm
  dsimp only
  split
  · rename_i h
    simp only [Bool.and_eq_true, decide_eq_true_eq] at h
    obtain ⟨⟨⟨hon, hidle⟩, -⟩, -⟩ := h
    have ha := d.at_selfArmed (d.iu u).ready
    refine ⟨ha.regs, ha.straps, ha.on, ha.lastEdge, fun v hv => ?_⟩
    have hne : v ≠ u := fun e => hv.elim (fun h => h (e ▸ hidle)) (fun h => by rw [e, hon] at h; cases h)
    exact (Dev.iu_setIu_ne _ _ hne).trans (d.at_iu _ v)
  · exact .refl d

/-! ## Results (R148, R149) -/

/-- The record of a result. -/
def Dev.iuRecord (u : Nat) (ref : Time) (iv : Int) (n flags : Nat) (d : Dev) : List Byte :=
  leBytes 8 ref ++ (leBytes 8 (ofSigned 64 iv) ++ (leBytes 4 (min n 0xFFFFFFFF)
    ++ (leBytes 2 (flags + b2n (d.iuStale u) * 32 + b2n (d.iu u).lost * 64) ++ (leBytes 1 (u + d.iuMode u * 16) ++ (leBytes 1 0
    ++ (leBytes 4 d.glb.frameNum.toNat ++ leBytes 4 (d.iu u).seq))))))

/-- While a unit's store has room, the record goes to its end with the next sequence number. -/
theorem Dev.iuResult_stored {u : Nat} {d : Dev} (ref : Time) (iv : Int) (n flags : Nat) (h : (d.iu u).fifo.length < 64) :
    d.iuResult u ref iv n flags = d.setIu u { d.iu u with
      seq := ((d.iu u).seq + 1) % 2 ^ 32, lost := false, fifo := (d.iu u).fifo ++ [d.iuRecord u ref iv n flags] } := by
  unfold Dev.iuResult Dev.iuRecord
  dsimp only
  rw [if_neg (Nat.not_le.mpr h)]
  simp only [List.append_assoc]

theorem leBytes_length (n v : Nat) : (leBytes n v).length = n := by
  induction n generalizing v with
  | zero => rfl
  | succ n ih => exact congrArg (· + 1) (ih _)

theorem leNat_leBytes (n v : Nat) : leNat (leBytes n v) = v % 256 ^ n := by
  induction n generalizing v with
  | zero => exact (Nat.mod_one v).symm
  | succ n ih =>
    have hm : v % 256 ^ (n + 1) = v % 256 + 256 * (v / 256 % 256 ^ n) := by rw [Nat.pow_succ', Nat.mod_mul]
    rw [hm, ← ih]
    exact congrArg (· + 256 * leNat (leBytes n (v / 256))) (BitVec.toNat_ofNat v 8)

/-- A number at the head of a record. -/
theorem leAt_head (n v : Nat) (r : List Byte) : leAt (leBytes n v ++ r) 0 n = v % 256 ^ n := by
  rw [leAt, List.drop_zero, List.take_left' (leBytes_length n v), leNat_leBytes]

/-- What follows a number in a record. -/
theorem leAt_tail (n v lo m : Nat) (r : List Byte) : leAt (leBytes n v ++ r) (n + lo) m = leAt r lo m := by
  rw [leAt, leAt, List.drop_append, leBytes_length, List.drop_eq_nil_of_le (by rw [leBytes_length]; omega), List.nil_append]
  congr 3
  omega

/-- A record is 32 bytes: its reference, its interval and its count stand at 0, 8 and 16. -/
theorem Dev.iuRecord_words (u : Nat) (ref : Time) (iv : Int) (n flags : Nat) (d : Dev) :
    let r := d.iuRecord u ref iv n flags
    r.length = 32 ∧ leAt r 0 8 = ref % 2 ^ 64 ∧ leAt r 8 8 = ofSigned 64 iv % 2 ^ 64 ∧ leAt r 16 4 = min n 0xFFFFFFFF := by
  refine ⟨by simp [Dev.iuRecord, leBytes_length], leAt_head 8 ref _, ?_, ?_⟩
  · exact (leAt_tail 8 ref 0 8 _).trans (leAt_head 8 _ _)
  · refine (leAt_tail 8 ref 8 4 _).trans ((leAt_tail 8 _ 0 4 _).trans ((leAt_head 4 _ _).trans (Nat.mod_eq_of_lt ?_)))
    omega

/-! ## An edge at a timing input (R142 to R147) -/

/-- The turn of unit `u` leaves the other units, the control registers of all, and the inputs' last edges. -/
structure Dev.UnitTurn (u : Nat) (d e : Dev) : Prop where
  others : ∀ v, v ≠ u → e.iu v = d.iu v
  ctl : ∀ o, o < Reg.TIM_IU_LOST 0 → e.rd o = d.rd o
  on : ∀ k, e.on k = d.on k
  lastEdge : e.tim.lastEdge = d.tim.lastEdge

theorem Dev.UnitTurn.refl (u : Nat) (d : Dev) : d.UnitTurn u d := ⟨fun _ _ => rfl, fun _ _ => rfl, fun _ => rfl, rfl⟩

theorem Dev.UnitTurn.trans {u : Nat} {d e g : Dev} (h : d.UnitTurn u e) (k : e.UnitTurn u g) : d.UnitTurn u g :=
  ⟨fun v hv => (k.others v hv).trans (h.others v hv), fun o ho => (k.ctl o ho).trans (h.ctl o ho),
    fun i => (k.on i).trans (h.on i), k.lastEdge.trans h.lastEdge⟩

theorem Dev.setIu_turn (u : Nat) (x : Iu) (d : Dev) : d.UnitTurn u (d.setIu u x) :=
  ⟨fun _ hv => d.iu_setIu_ne x hv, fun _ _ => rfl, fun _ => rfl, rfl⟩

theorem Dev.incLost_turn (u : Nat) (d : Dev) : d.UnitTurn u (d.inc (Reg.TIM_IU_LOST u)) := by
  refine ⟨fun _ _ => rfl, fun o ho => Dev.rd_wr_ne _ _ ?_, fun _ => rfl, rfl⟩
  unfold Reg.TIM_IU_LOST at *
  omega

theorem Dev.raiseFull_turn {u : Nat} (hu : u < 4) (d : Dev) : d.UnitTurn u (d.raiseOnce (Ev.TI_FIFO_FULL u)) := by
  unfold Dev.raiseOnce
  split
  · exact .refl u d
  · refine ⟨fun v _ => ?_, fun o ho => Dev.rd_raise_ne _ (by unfold Ev.TI_FIFO_FULL; omega) ?_, fun k => Dev.raise_on _ _ k, ?_⟩
    · rw [Dev.raise_changes]
      rfl
    · unfold Reg.TIM_IU_LOST at ho
      unfold evtRawOff Reg.DSC_EVT_RAW
      omega
    · rw [Dev.raise_tim]

theorem Dev.iuResult_turn {u : Nat} (hu : u < 4) (ref : Time) (iv : Int) (n flags : Nat) (d : Dev) :
    d.UnitTurn u (d.iuResult u ref iv n flags) := by
  unfold Dev.iuResult
  dsimp only
  split
  · exact ((d.setIu_turn u _).trans (Dev.incLost_turn u _)).trans (Dev.raiseFull_turn hu _)
  · exact d.setIu_turn u _

theorem Dev.iuCountEnd_turn {u : Nat} (hu : u < 4) (t : Time) (d : Dev) : d.UnitTurn u (d.iuCountEnd u t) := by
  unfold Dev.iuCountEnd
  split
  · exact (Dev.iuResult_turn hu _ _ _ _ d).trans (Dev.setIu_turn _ _ _)
  · exact .refl u d

/-- Either way a choice turns out, it is a turn of the unit. -/
theorem Dev.UnitTurn.ite {u : Nat} {d a b : Dev} {p : Prop} [Decidable p] (ha : d.UnitTurn u a) (hb : d.UnitTurn u b) :
    d.UnitTurn u (if p then a else b) := by
  split
  · exact ha
  · exact hb

theorem Dev.iuTake_turn {u : Nat} (hu : u < 4) (isStart isStop : Bool) (t : Time) (d : Dev) :
    d.UnitTurn u (d.iuTake isStart isStop t u) := by
  have interval (a b : Time) : d.UnitTurn u (d.iuInterval u a b) := (Dev.iuResult_turn hu _ _ _ _ d).trans (Dev.setIu_turn _ _ _)
  unfold Dev.iuTake
  split
  · exact .ite (.refl u d) (.ite (d.setIu_turn u _) (.ite (d.setIu_turn u _) (.refl u d)))
  · exact .ite (.refl u d) (.ite (interval _ _) (.ite (interval _ _) (.refl u d)))
  · exact .ite (d.setIu_turn u _) (.refl u d)
  · exact .refl u d

theorem Dev.iuGateEdge_turn {u : Nat} (hu : u < 4) (active : Bool) (st : IuSt) (t : Time) (d : Dev) :
    d.UnitTurn u (d.iuGateEdge active st t u) := by
  unfold Dev.iuGateEdge
  dsimp only
  refine .ite (.ite (d.setIu_turn u _) (.refl u d)) (.ite (.refl u d) (.ite (.ite (d.setIu_turn u _) (.refl u d)) ?_))
  split
  · exact d.setIu_turn u _
  · exact Dev.iuCountEnd_turn hu _ _
  · exact .refl u d

theorem Dev.iuEdge_turn {u : Nat} (hu : u < 4) (i : Nat) (rising : Bool) (t : Time) (d : Dev) :
    d.UnitTurn u (d.iuEdge i rising t u) := by
  unfold Dev.iuEdge
  dsimp only
  split
  · exact .refl u d
  · split
    · exact (Dev.iuTake_turn hu _ _ _ d).trans (Dev.iuGateEdge_turn hu _ _ _ _)
    · exact Dev.iuTake_turn hu _ _ _ d

/-- A unit that is off takes no edge. -/
theorem Dev.iuEdge_off {i u : Nat} {rising : Bool} {t : Time} {d : Dev} (h : d.iuOn u = false) : d.iuEdge i rising t u = d :=
  if_pos (by simp [h])

/-- An armed unit whose start the edge is, and whose gate it is not, opens its window. -/
theorem Dev.iuEdge_start {i u : Nat} {rising : Bool} {t t0 : Time} {d : Dev} (hon : d.iuOn u = true) (hst : (d.iu u).st = .armed t0)
    (ht : t0 ≤ t) (hi : d.f (Reg.TIM_IU_CTL u) 6 4 = i) (hr : d.b (Reg.TIM_IU_CTL u) 7 ≠ rising)
    (hg : d.f (Reg.TIM_IU_CTL u) 14 12 ≠ i) :
    d.iuEdge i rising t u = d.iuSt u (.one true t (t + iuLen (d.f (Reg.TIM_IU_WIN u) 29 0))) := by
  have hstart : (decide (fld (d.rd (Reg.TIM_IU_CTL u)) 6 4 = i) && decide (bit (d.rd (Reg.TIM_IU_CTL u)) 7 ≠ rising)) = true := by
    rw [Bool.and_eq_true, decide_eq_true_eq, decide_eq_true_eq]
    exact ⟨hi, hr⟩
  unfold Dev.iuEdge Dev.iuTake
  dsimp only
  rw [if_neg (by simp [hon]), if_neg (by exact hg), hst]
  dsimp only
  rw [if_neg (Nat.not_lt.mpr ht), if_pos hstart]

/-- What the turns of all units leave. -/
structure Dev.UnitsTurned (d e : Dev) : Prop where
  ctl : ∀ o, o < Reg.TIM_IU_LOST 0 → e.rd o = d.rd o
  on : ∀ k, e.on k = d.on k
  lastEdge : e.tim.lastEdge = d.tim.lastEdge

/-- The edge at every unit. -/
def Dev.unitEdges (i : Nat) (rising : Bool) (t : Time) (l : List Nat) (d : Dev) : Dev := l.foldl (fun d u => d.iuEdge i rising t u) d

theorem Dev.UnitTurn.turned {u : Nat} {d e : Dev} (h : d.UnitTurn u e) : d.UnitsTurned e := ⟨h.ctl, h.on, h.lastEdge⟩

theorem Dev.UnitsTurned.trans {d e g : Dev} (h : d.UnitsTurned e) (k : e.UnitsTurned g) : d.UnitsTurned g :=
  ⟨fun o ho => (k.ctl o ho).trans (h.ctl o ho), fun i => (k.on i).trans (h.on i), k.lastEdge.trans h.lastEdge⟩

theorem Dev.UnitsTurned.iuOn {d e : Dev} (h : d.UnitsTurned e) {u : Nat} (hu : u < 4) : e.iuOn u = d.iuOn u :=
  Dev.iuOn_congr (h.ctl _ (by unfold Reg.TIM_IU_CTL Reg.TIM_IU_LOST; omega)) (h.on _)

theorem Dev.unitEdges_turned {i : Nat} {rising : Bool} {t : Time} {l : List Nat} (hl : ∀ u ∈ l, u < 4) (d : Dev) :
    d.UnitsTurned (d.unitEdges i rising t l) :=
  foldl_rel Dev.UnitsTurned (fun _ => ⟨fun _ _ => rfl, fun _ => rfl, rfl⟩) Dev.UnitsTurned.trans
    (fun d u hu => (Dev.iuEdge_turn (hl u hu) i rising t d).turned) d

/-- Units that are not listed keep what they hold. -/
theorem Dev.unitEdges_others {i : Nat} {rising : Bool} {t : Time} {l : List Nat} (hl : ∀ u ∈ l, u < 4) {u : Nat} (hu : u ∉ l) (d : Dev) :
    (d.unitEdges i rising t l).iu u = d.iu u :=
  foldl_rel (fun d e : Dev => e.iu u = d.iu u) (fun _ => rfl) (fun h k => k.trans h)
    (fun d v hv => (Dev.iuEdge_turn (hl v hv) i rising t d).others u (fun e => hu (e ▸ hv))) d

/-- Each unit is as its own turn leaves it: the turns of the others pass it by. -/
theorem Dev.unitEdges_unit {i : Nat} {rising : Bool} {t : Time} {l : List Nat} (hl : ∀ u ∈ l, u < 4) (hnd : l.Nodup) {u : Nat} (hu : u ∈ l)
    (d : Dev) : ∃ e, d.UnitsTurned e ∧ e.iu u = d.iu u ∧ (d.unitEdges i rising t l).iu u = (e.iuEdge i rising t u).iu u := by
  obtain ⟨m, n, rfl⟩ := List.append_of_mem hu
  have hm : u ∉ m := fun h => (List.disjoint_of_nodup_append hnd h) List.mem_cons_self
  have hn : u ∉ n := (List.nodup_cons.mp (List.nodup_append.mp hnd).2.1).1
  have hlm : ∀ v ∈ m, v < 4 := fun v hv => hl v (List.mem_append_left _ hv)
  refine ⟨d.unitEdges i rising t m, Dev.unitEdges_turned hlm d, Dev.unitEdges_others hlm hm d, ?_⟩
  unfold Dev.unitEdges
  rw [List.foldl_append]
  exact Dev.unitEdges_others (fun v hv => hl v (List.mem_append_right _ (.tail _ hv))) hn _

/-! ## The edge -/

/-- Units that arm by themselves before time `t'` do; then the level of the input follows the edge at `t`. -/
def Dev.tiLevel (i : Nat) (rising : Bool) (t t' : Time) (d : Dev) : Dev :=
  let e := ((List.range 4).foldl (fun d u => d.iuAutoArm u t') d).at t
  { e with tim := { e.tim with level := tabPut 0 e.tim.level i (b2n rising) } }

theorem Dev.tiLevel_selfArmed (i : Nat) (rising : Bool) (t t' : Time) (d : Dev) : d.SelfArmed (d.tiLevel i rising t t') := by
  have harm : d.SelfArmed ((List.range 4).foldl (fun d u => d.iuAutoArm u t') d) :=
    foldl_rel Dev.SelfArmed Dev.SelfArmed.refl Dev.SelfArmed.trans (fun d u _ => Dev.iuAutoArm_selfArmed u t' d) d
  have hat := harm.trans (Dev.at_selfArmed _ t)
  exact ⟨hat.regs, hat.straps, hat.on, hat.lastEdge, hat.units⟩

/-- The input's last accepted edge. -/
def Dev.tiAccept (i : Nat) (t : Time) (d : Dev) : Dev := { d with tim := { d.tim with lastEdge := tabPut 0 d.tim.lastEdge i (t + 1) } }

/-- An edge of an enabled input under a lock goes by the hold-off of its last accepted edge. -/
theorem Dev.tiEdge_eq {i : Nat} {rising : Bool} {x : Edge} {d : Dev} (hon : d.on domACQ = true)
    (hen : d.b (Reg.TIM_TI_IN i) 20 = true) (hlock : d.tim.lock = true) :
    let t := d.edgeTime (tiTable i rising) x
    let t' := ((t : Int) - sfld (d.rd (Reg.TIM_TI_OFS i)) 15 0).toNat
    let last := tabGet 0 d.tim.lastEdge i
    let e := d.tiLevel i rising t t'
    d.tiEdge i rising x = if last ≠ 0 ∧ t < last - 1 + max 1 (d.f (Reg.TIM_TI_IN i) 19 12) * 4 * ns then e.inc (Reg.TIM_TI_HOLD_CNT i)
      else (e.tiAccept i t).unitEdges i rising t' (List.range 4) := by
  dsimp only
  have he := d.tiLevel_selfArmed i rising (d.edgeTime (tiTable i rising) x)
    (((d.edgeTime (tiTable i rising) x : Nat) : Int) - sfld (d.rd (Reg.TIM_TI_OFS i)) 15 0).toNat
  have hf := congrArg (fld · 19 12) (he.rd (Reg.TIM_TI_IN i))
  rw [← he.lastEdge, Dev.f, ← hf]
  refine (if_neg (by simp [hon])).trans ((if_neg (by simp [hen, hlock])).trans ?_)
  unfold Dev.tiLevel Dev.tiAccept Dev.unitEdges Dev.f
  dsimp only
  refine if_congr ?_ ?_ ?_
  · simp only [Bool.and_eq_true, decide_eq_true_eq]
  · with_reducible rfl
  · with_reducible rfl

/-- Settles O17: an edge within the hold-off by `Dev.tiLevel_selfArmed`, an accepted one by `Dev.unitEdges_unit`. -/
theorem timingInputEdgesDriveIntervalUnits : Obligations.TimingInputEdgesDriveIntervalUnits := by
  unfold Obligations.TimingInputEdgesDriveIntervalUnits
  intro s i rising x ha hscan hon
  dsimp only
  intro hen hlock
  have hexec : exec (.tiEdge i rising x) s = .next { s with dev := s.dev.tiEdge i.val rising x } :=
    congrArg _ (State.atPin_pos ha hscan hon _)
  rw [hexec, Dev.tiEdge_eq hon hen hlock]
  generalize s.dev.edgeTime (tiTable i.val rising) x = t
  generalize ((t : Int) - sfld (s.dev.rd (Reg.TIM_TI_OFS i.val)) 15 0).toNat = t'
  have he := s.dev.tiLevel_selfArmed i.val rising t t'
  generalize s.dev.tiLevel i.val rising t t' = e at he ⊢
  refine ⟨fun hne hlt => ?_, fun hok => ?_⟩
  · rw [if_pos ⟨hne, hlt⟩]
    refine ⟨_, rfl, ?_, fun o ho => ?_, fun u hu => he.units u (.inl hu), he.lastEdge⟩
    · rw [Dev.rd_inc_same, he.rd]
    · exact (Dev.rd_wr_ne _ _ ho.symm).trans (he.rd o)
  · rw [if_neg (fun h => hok.elim h.1 (Nat.not_le.mpr h.2))]
    have hl : ∀ u ∈ List.range 4, u < 4 := fun u => List.mem_range.mp
    refine ⟨_, rfl, ?_, fun u t0 huon hst ht hi hr hg => ?_, fun u huoff => ?_⟩
    · rw [(Dev.unitEdges_turned hl _).lastEdge]
      exact tabGet_put_same 0 e.tim.lastEdge i.val (t + 1)
    · obtain ⟨g, hturned, hiu, hend⟩ := Dev.unitEdges_unit (i := i.val) (rising := rising) (t := t') hl List.nodup_range
        (List.mem_range.mpr u.isLt) (e.tiAccept i.val t)
      have hunit : g.iu u.val = s.dev.iu u.val := hiu.trans (he.units u.val (.inl (by rw [hst]; exact IuSt.noConfusion)))
      have hrd : ∀ o, o < Reg.TIM_IU_LOST 0 → g.rd o = s.dev.rd o := fun o ho => (hturned.ctl o ho).trans (he.rd o)
      have hctl : g.rd (Reg.TIM_IU_CTL u.val) = s.dev.rd (Reg.TIM_IU_CTL u.val) :=
        hrd _ (by unfold Reg.TIM_IU_CTL Reg.TIM_IU_LOST; omega)
      have hwin : g.rd (Reg.TIM_IU_WIN u.val) = s.dev.rd (Reg.TIM_IU_WIN u.val) :=
        hrd _ (by unfold Reg.TIM_IU_WIN Reg.TIM_IU_LOST; omega)
      have hgon : g.iuOn u.val = true := (hturned.iuOn u.isLt).trans ((he.iuOn _).trans huon)
      rw [hend, Dev.iuEdge_start hgon (by rw [hunit]; exact hst) ht (by rw [Dev.f, hctl]; exact hi) (by rw [Dev.b, hctl]; exact hr)
        (by rw [Dev.f, hctl]; exact hg), Dev.iuSt, Dev.iu_setIu, hunit, Dev.f, hwin]
      exact ⟨rfl, rfl⟩
    · obtain ⟨g, hturned, hiu, hend⟩ := Dev.unitEdges_unit (i := i.val) (rising := rising) (t := t') hl List.nodup_range
        (List.mem_range.mpr u.isLt) (e.tiAccept i.val t)
      rw [hend, Dev.iuEdge_off ((hturned.iuOn u.isLt).trans ((he.iuOn _).trans huoff)), hiu]
      exact he.units u.val (.inr huoff)

/-! ## Units that arm, time out and deliver results (R144 to R149) -/

/-- What the end of a measurement leaves of a unit whose store has room. -/
theorem Dev.iuEnd_result {u : Nat} {d : Dev} (ref : Time) (iv : Int) (n flags : Nat) (t : Time) (h : (d.iu u).fifo.length < 64) :
    let e := (d.iuResult u ref iv n flags).iuEnd u t
    e.iu u = { st := .idle, seq := ((d.iu u).seq + 1) % 2 ^ 32, fifo := (d.iu u).fifo ++ [d.iuRecord u ref iv n flags], lost := false,
               ready := t + 16 * ns }
      ∧ (∀ v, v ≠ u → e.iu v = d.iu v) ∧ e.regs = d.regs ∧ ∀ o, e.rd o = d.rd o := by
  rw [Dev.iuResult_stored ref iv n flags h]
  unfold Dev.iuEnd
  refine ⟨by rw [Dev.iu_setIu, Dev.iu_setIu], fun v hv => ?_, rfl, fun _ => rfl⟩
  exact (Dev.iu_setIu_ne _ _ hv).trans (Dev.iu_setIu_ne _ _ hv)

theorem Dev.iuExpire_eq {u : Nat} {first : Bool} {t1 stop : Time} {d : Dev} (h : (d.iu u).st = .one first t1 stop) :
    d.iuExpire u = ((d.at stop).iuResult u t1 0 0 (4 + b2n (!first) * 8)).iuEnd u stop := by
  unfold Dev.iuExpire
  rw [h]

theorem Dev.iuCountEnd_eq {u n : Nat} {t since first last : Time} {d : Dev} (h : (d.iu u).st = .count since n first last) :
    d.iuCountEnd u t = (d.iuResult u first (if n < 2 then 0 else (last - first : Nat)) n (if n < 2 then 16 else 0)).iuEnd u t := by
  unfold Dev.iuCountEnd
  rw [h]

theorem Dev.iuGateEnd_eq {u n : Nat} {since first last : Time} {d : Dev} (h : (d.iu u).st = .count since n first last)
    (hg : d.iuGmode u ≠ 2) :
    let stop := since + iuLen (d.f (Reg.TIM_IU_GLEN u) 29 0)
    let e := (d.at stop).iuCountEnd u stop
    d.iuGateEnd u = if e.iuGmode u = 0 then e.iuArmAt u stop else e := by
  unfold Dev.iuGateEnd
  rw [h]
  exact if_neg hg

/-- The read that takes the last word of a record by the host: the completion is sent and the record leaves the store. -/
theorem State.hostRead_answers {s : State} {off tag : Nat} (h : s.answers) (hoff : off ≠ Reg.SEC_DBG_DATA) (hrow : (rowOf off).isSome = true) :
    ∃ v : Word, s.hostRead off tag = ((State.readEffect .host off { s with dev := s.dev.rxAccept .nonPosted }).onDev
      fun d => d.complete tag 0 (leBytes 4 v.toNat)) := by
  obtain ⟨-, hup, hans, hhot⟩ := h
  have hacc : (s.dev.rxAccept .nonPosted).answered = true := by
    obtain ⟨l, hl⟩ := Dev.rxAccept_eq .nonPosted s.dev
    rw [hl]
    exact hans
  have hanswering : (s.dev.rxAccept .nonPosted).answering = s.dev.rxAccept .nonPosted := by
    rw [Dev.answering, if_pos hacc]
  refine ⟨State.readVal .host off { s with dev := s.dev.rxAccept .nonPosted }, ?_⟩
  unfold State.hostRead
  rw [if_neg (by simp [hup])]
  simp only [State.onDev, hanswering]
  rw [if_neg, if_neg hoff, if_neg]
  · exact fun h => by rw [Option.isNone_iff_eq_none.mp h] at hrow; cases hrow
  · simp [hacc, Dev.rxAccept_hotPending, hhot]

theorem rowOf_iuRes (u : Fin 4) : (rowOf (Reg.TIM_IU_RES u.val 7)).map (fun x => (x.1.base, x.2)) = some (Reg.TIM_IU_RES 0 0, [u.val, 7])
    ∧ isPairLo (Reg.TIM_IU_RES u.val 7) = false := by
  revert u
  decide +kernel

/-- Reading the last word of a record removes it. -/
theorem State.readEffect_iuRes (u : Fin 4) (s : State) :
    State.readEffect .host (Reg.TIM_IU_RES u.val 7) s = s.onDev (Dev.iuPop u.val) := by
  obtain ⟨hrow, hpair⟩ := rowOf_iuRes u
  obtain ⟨⟨r, ix⟩, hr, hx⟩ := Option.map_eq_some_iff.mp hrow
  obtain ⟨hb, hix⟩ := Prod.mk.inj hx
  unfold State.readEffect
  rw [hpair, hr]
  dsimp only at hb hix ⊢
  rw [if_neg Bool.false_ne_true, if_pos (by simp [hb, hix]), hix]
  rfl

theorem Dev.complete_tim (tag status : Nat) (bs : List Byte) (d : Dev) : (d.complete tag status bs).tim = d.tim := by
  have h : d.OnlyCompletes (d.complete tag status bs) := by
    unfold Dev.complete Dev.send Dev.pump
    split
    · exact (d.onlyCompletes_lnk _).trans (Dev.onlyCompletes_pumpGo _ _)
    · exact d.onlyCompletes_lnk _
  rw [show d.complete tag status bs = _ from h]

@[simp] theorem Dev.at_iuMode (d : Dev) (t : Time) (u : Nat) : (d.at t).iuMode u = d.iuMode u := by
  unfold Dev.at
  split <;> rfl

/-- A unit that is armed keeps its store and its number. -/
theorem Dev.iuArmAt_keeps (u : Nat) (t : Time) (d : Dev) : ((d.iuArmAt u t).iu u).fifo = (d.iu u).fifo
    ∧ ((d.iuArmAt u t).iu u).seq = (d.iu u).seq ∧ (∀ v, v ≠ u → (d.iuArmAt u t).iu v = d.iu v) ∧ (d.iuArmAt u t).regs = d.regs := by
  unfold Dev.iuArmAt Dev.iuSt
  exact ⟨by rw [Dev.iu_setIu], by rw [Dev.iu_setIu], fun v hv => Dev.iu_setIu_ne _ _ hv, rfl⟩

/-- Settles O18: arming by `Dev.iuAutoArm`'s condition, results by `Dev.iuEnd_result` and `Dev.iuRecord_words`, a read by
`State.hostRead_answers`. -/
theorem intervalUnitsFormResults : Obligations.IntervalUnitsFormResults := by
  unfold Obligations.IntervalUnitsFormResults
  intro s u t ha hon hcore
  have inDom (f : Dev → Dev) : (Host.Outcome.next (s.inDom domACQ f) : Res) = .next { s with dev := f s.dev } :=
    congrArg _ (State.inDom_pos ha hon _)
  have same {f : Dev → Dev} (h : f s.dev = s.dev) : (Host.Outcome.next (s.inDom domACQ f) : Res) = .next s :=
    (inDom f).trans (congrArg _ (State.onDev_id h))
  dsimp only
  refine ⟨fun huon hidle hg hr => ⟨_, inDom _, ?_⟩, fun hlt => same (if_neg ?_), fun hne => same (if_neg ?_),
    fun first t1 stop hst hlen => ⟨_, inDom _, ?_⟩, fun since n f l hst hlen hg => ⟨_, inDom _, ?_⟩,
    fun hidle => ⟨same ?_, same ?_⟩, fun tag r l hans hfifo => ?_⟩
  · have harm : s.dev.iuArm u.val t = (s.dev.at (s.dev.iu u.val).ready).iuArmAt u.val (s.dev.iu u.val).ready :=
      if_pos (by simp [huon, hidle, hg, hr])
    rw [harm, Dev.iuArmAt, Dev.iuSt, Dev.at_iu, Dev.at_iuMode]
  · simp [Nat.not_le.mpr hlt]
  · simp [hne]
  · have hlen' : ((s.dev.at stop).iu u.val).fifo.length < 64 := by rwa [Dev.at_iu]
    obtain ⟨hiu, hother, hregs, -⟩ := Dev.iuEnd_result t1 0 0 (4 + b2n (!first) * 8) stop hlen'
    obtain ⟨h32, href, hiv, -⟩ := (s.dev.at stop).iuRecord_words u.val t1 0 0 (4 + b2n (!first) * 8)
    rw [Dev.iuExpire_eq hst, hiu, Dev.at_iu]
    refine ⟨rfl, ⟨_, rfl, h32, href, hiv⟩, rfl, rfl, fun v hv => (hother v hv).trans (s.dev.at_iu stop v), hregs.trans (s.dev.at_regs stop)⟩
  · have hlen' (t : Time) : ((s.dev.at t).iu u.val).fifo.length < 64 := by rwa [Dev.at_iu]
    have hst' (t : Time) : ((s.dev.at t).iu u.val).st = .count since n f l := by rwa [Dev.at_iu]
    rw [Dev.iuGateEnd_eq hst hg, Dev.iuCountEnd_eq (hst' _)]
    generalize since + iuLen (s.dev.f (Reg.TIM_IU_GLEN u.val) 29 0) = stop
    generalize hiv : (if n < 2 then (0 : Int) else ((l - f : Nat) : Int)) = iv
    generalize (if n < 2 then 16 else 0) = flags
    obtain ⟨hiu, hother, hregs, hrd⟩ := Dev.iuEnd_result f iv n flags stop (hlen' stop)
    obtain ⟨-, href, -, hcount⟩ := (s.dev.at stop).iuRecord_words u.val f iv n flags
    generalize ((s.dev.at stop).iuResult u.val f iv n flags).iuEnd u.val stop = e at hiu hother hregs hrd ⊢
    have hgm : e.iuGmode u.val = s.dev.iuGmode u.val := congrArg (fld · 3 2) ((hrd _).trans (s.dev.at_rd _ _))
    rw [hgm]
    rw [Dev.at_iu] at hiu
    obtain ⟨hfifo, hseq, hunits, hregs'⟩ := e.iuArmAt_keeps u.val stop
    split
    · rename_i h0
      rw [hfifo, hseq, hiu]
      exact ⟨fun h => absurd h0 h, ⟨_, rfl, href, hcount⟩, rfl, fun v hv => (hunits v hv).trans ((hother v hv).trans (s.dev.at_iu _ v)),
        hregs'.trans (hregs.trans (s.dev.at_regs _))⟩
    · rw [hiu]
      exact ⟨fun _ => rfl, ⟨_, rfl, href, hcount⟩, rfl, fun v hv => (hother v hv).trans (s.dev.at_iu _ v), hregs.trans (s.dev.at_regs _)⟩
  · unfold Dev.iuExpire
    rw [hidle]
  · unfold Dev.iuGateEnd
    rw [hidle]
  · have hrow : (rowOf (Reg.TIM_IU_RES u.val 7)).isSome = true := by
      have h := congrArg Option.isSome (rowOf_iuRes u).1
      rwa [Option.isSome_map] at h
    obtain ⟨v, hread⟩ := State.hostRead_answers (tag := tag) hans
      (by unfold Reg.TIM_IU_RES Reg.SEC_DBG_DATA; omega) hrow
    have hexec : exec (.iuResRead u .host tag) s = .next (s.hostRead (Reg.TIM_IU_RES u.val 7) tag) := congrArg _ (State.live_pos ha _)
    obtain ⟨k, hk⟩ := Dev.rxAccept_eq .nonPosted s.dev
    have hiu (v : Nat) (d : Dev) (bs : List Byte) : (d.complete tag 0 bs).iu v = d.iu v := by
      unfold Dev.iu
      rw [Dev.complete_tim]
    have hacc (v : Nat) : (s.dev.rxAccept .nonPosted).iu v = s.dev.iu v := by
      rw [hk]
      rfl
    rw [hexec, hread, State.readEffect_iuRes]
    refine ⟨_, rfl, ?_, ?_, ?_, fun v hv => (hiu v _ _).trans ((Dev.iu_setIu_ne _ _ hv).trans (hacc v))⟩
    all_goals rw [hiu]; dsimp only [State.onDev, Dev.iuPop]; rw [Dev.iu_setIu, hacc]
    exact congrArg (List.drop 1) hfifo

end Sys2Proof.Machine
end

section
/-! Hits of a histogram and the split of its zoom windows (06 R156, R158, R161). -/
namespace Sys2Proof.Machine

/-! ## A hit in one coarse bin (R156, R158) -/

@[simp] theorem Dev.stp1_setStp1 (d : Dev) (c : Nat) (x : StpCh) : (d.setStp1 c x).stp1 c = x := tabGet_put_same _ _ _ _
theorem Dev.stp1_setStp1_ne (d : Dev) {c k : Nat} (x : StpCh) (h : k ≠ c) : (d.setStp1 c x).stp1 k = d.stp1 k :=
  tabGet_put_ne _ _ _ h.symm

/-- Stipple's state of a channel after a hit at span position `n`. -/
def StpCh.hit (n g : Nat) (fine : Bool) (x : Hit) (s : StpCh) : StpCh :=
  { s with coarse := tabMod {} s.coarse (n / 64) (fun b => b.addHit g x.clip x.amp),
           zooms := if fine then s.zooms.map (zoomAdd n g x.clip x.amp) else s.zooms }

/-- A hit outside the span or before the near-field gate counts nowhere. -/
theorem Dev.countHit_outside {c g : Nat} {fine : Bool} {x : Hit} {d : Dev}
    (h : x.tau - 8 * (d.winOfs (headOf c) : Int) < 8 * (d.nearGate (headOf c) : Int) ∨ 32768 ≤ x.tau - 8 * (d.winOfs (headOf c) : Int)) :
    d.countHit c g fine x = d := by
  unfold Dev.countHit
  exact if_pos (by simpa using h)

/-- A hit inside counts at its channel; strobes go to plates that tap it. -/
theorem Dev.countHit_inside {c g : Nat} {fine : Bool} {x : Hit} {d : Dev}
    (h1 : 8 * (d.nearGate (headOf c) : Int) ≤ x.tau - 8 * (d.winOfs (headOf c) : Int))
    (h2 : x.tau - 8 * (d.winOfs (headOf c) : Int) < 32768) : ∃ l, d.countHit c g fine x
      = let e := d.setStp1 c ((d.stp1 c).hit (x.tau - 8 * (d.winOfs (headOf c) : Int)).toNat g fine x)
        { e with stp := { e.stp with strobes := l } } := by
  have hstrobes : ∀ (l : List Nat) (e : Dev), ∃ m, l.foldl (fun d p => { d with stp := { d.stp with
      strobes := d.stp.strobes ++ [(p, c, x.tw)] } }) e = { e with stp := { e.stp with strobes := m } } := by
    intro l
    induction l with
    | nil => exact fun e => ⟨_, rfl⟩
    | cons p l ih =>
      intro e
      obtain ⟨m, hm⟩ := ih { e with stp := { e.stp with strobes := e.stp.strobes ++ [(p, c, x.tw)] } }
      exact ⟨m, hm⟩
  unfold Dev.countHit
  dsimp only
  rw [if_neg (by simp; omega)]
  split
  · exact hstrobes _ _
  · exact ⟨_, rfl⟩

/-! ## The split of the zoom windows (R161) -/

/-- Where every item of a list without repetition has a turn of its own, what concerns one item is as its own turn leaves it. -/
theorem foldl_own_turn {σ τ : Type} {f : σ → Nat → σ} (I : σ → σ → Prop) (hr : ∀ d, I d d) (ht : ∀ {d e g}, I d e → I e g → I d g)
    (part : σ → Nat → τ) {l : List Nat} (hI : ∀ d, ∀ x ∈ l, I d (f d x))
    (hpart : ∀ d, ∀ x ∈ l, ∀ y, y ≠ x → part (f d x) y = part d y) (hnd : l.Nodup) {b : Nat} (hb : b ∈ l) (d : σ) :
    ∃ e, I d e ∧ part e b = part d b ∧ part (l.foldl f d) b = part (f e b) b := by
  have hothers : ∀ m : List Nat, (∀ x ∈ m, x ∈ l) → b ∉ m → ∀ d, part (m.foldl f d) b = part d b := fun m hm hbm d =>
    foldl_rel (fun d e => part e b = part d b) (fun _ => rfl) (fun h k => k.trans h)
      (fun d x hx => hpart d x (hm x hx) b (fun e => hbm (e ▸ hx))) d
  obtain ⟨m, n, rfl⟩ := List.append_of_mem hb
  have hm : b ∉ m := fun h => (List.disjoint_of_nodup_append hnd h) List.mem_cons_self
  have hn : b ∉ n := (List.nodup_cons.mp (List.nodup_append.mp hnd).2.1).1
  refine ⟨m.foldl f d, foldl_rel I hr ht (fun d x hx => hI d x (List.mem_append_left _ hx)) d,
    hothers m (fun x => List.mem_append_left _) hm d, ?_⟩
  rw [List.foldl_append]
  exact hothers n (fun x hx => List.mem_append_right _ (.tail _ hx)) hn _

/-- A split changes Stipple, device time and the free values drawn. -/
def Dev.Splits (d e : Dev) : Prop := e = { d with tim := { d.tim with dt := e.tim.dt }, stp := e.stp, free := e.free }

theorem Dev.Splits.trans {d e g : Dev} (h : d.Splits e) (k : e.Splits g) : d.Splits g := by
  unfold Dev.Splits at *
  rw [k, h]

theorem Dev.splitChan_changes (c : Nat) (d : Dev) : d.splitChan c = { d with
    stp := { d.stp with chans := (d.splitChan c).stp.chans }, free := (d.splitChan c).free } := by
  unfold Dev.splitChan
  dsimp only
  split
  · rfl
  · split <;> rfl

/-- The split of a bank. -/
def Dev.splitBank (em b : Nat) (d : Dev) : Dev :=
  if d.bankEmitter b = some em && (d.stpBank b).split = 0 then
    let d := (d.at (d.splitInstant b em)).setStpBank b { d.stpBank b with split := d.splitInstant b em + 1 }
    ((bankChans b).filter d.chEn).foldl (fun d c => d.splitChan c) d
  else d

theorem Dev.at_splits (d : Dev) (t : Time) : d.Splits (d.at t) := by
  unfold Dev.at
  split <;> exact rfl

theorem Dev.splitChans_changes (l : List Nat) (d : Dev) : l.foldl (fun d c => d.splitChan c) d = { d with
    stp := { d.stp with chans := (l.foldl (fun d c => d.splitChan c) d).stp.chans },
    free := (l.foldl (fun d c => d.splitChan c) d).free } :=
  foldl_rel (fun d e : Dev => e = { d with stp := { d.stp with chans := e.stp.chans }, free := e.free }) (fun _ => rfl)
    (fun h k => by rw [k, h]) (fun d c _ => d.splitChan_changes c) d

theorem Dev.splitBank_pos {em b : Nat} {d : Dev} (h1 : d.bankEmitter b = some em) (h2 : (d.stpBank b).split = 0) :
    d.Splits (d.splitBank em b)
    ∧ (d.splitBank em b).stpBank b = { d.stpBank b with split := d.splitInstant b em + 1 }
    ∧ ∀ j, j ≠ b → (d.splitBank em b).stpBank j = d.stpBank j := by
  unfold Dev.splitBank
  rw [if_pos (by simp [h1, h2])]
  dsimp only
  generalize List.filter _ _ = l
  have hat := d.at_splits (d.splitInstant b em)
  have hs := d.at_stpBank (d.splitInstant b em)
  generalize hx : ({ d.stpBank b with split := d.splitInstant b em + 1 } : StpBank) = x
  generalize d.at (d.splitInstant b em) = e at hat hs ⊢
  have hset : d.Splits (e.setStpBank b x) := hat.trans rfl
  have hb := e.stpBank_setStpBank b x
  have hj : ∀ j, j ≠ b → (e.setStpBank b x).stpBank j = d.stpBank j := fun j hj => (e.stpBank_setStpBank_ne x hj).trans (hs j)
  generalize e.setStpBank b x = g at hset hb hj ⊢
  rw [Dev.splitChans_changes]
  exact ⟨hset.trans rfl, hb, hj⟩

theorem Dev.splitBank_neg {em b : Nat} {d : Dev} (h : d.bankEmitter b ≠ some em ∨ (d.stpBank b).split ≠ 0) : d.splitBank em b = d :=
  if_neg (by
    rw [Bool.and_eq_true, decide_eq_true_eq, decide_eq_true_eq]
    exact fun hh => h.elim (· hh.1) (· hh.2))

theorem Dev.splitBank_turn (em b : Nat) (d : Dev) : d.Splits (d.splitBank em b)
    ∧ ∀ j, j ≠ b → (d.splitBank em b).stpBank j = d.stpBank j := by
  by_cases h : d.bankEmitter b = some em ∧ (d.stpBank b).split = 0
  · obtain ⟨hs, -, hj⟩ := Dev.splitBank_pos h.1 h.2
    exact ⟨hs, hj⟩
  · rw [Dev.splitBank_neg (by tauto)]
    exact ⟨rfl, fun _ _ => rfl⟩

/-- What a split reads stays as it was. -/
theorem Dev.Splits.bankEmitter {d e : Dev} (h : d.Splits e) (b : Nat) : e.bankEmitter b = d.bankEmitter b := by
  rw [show e = _ from h]
  rfl

theorem Dev.Splits.splitInstant {d e : Dev} (h : d.Splits e) (b em : Nat) : e.splitInstant b em = d.splitInstant b em := by
  rw [show e = _ from h]
  rfl

theorem Dev.zoomSplit_eq {em : Nat} {d : Dev} (h1 : 8 ≤ d.planned em) (h2 : d.splitIndex em ≤ tabGet 0 d.brn.next em) :
    d.zoomSplit em = (List.range 32).foldl (fun d b => d.splitBank em b) d := by
  unfold Dev.zoomSplit
  exact if_neg (by simp [h1, h2])

/-- Settles O19: a hit by `Dev.countHit_inside`, the split bank by bank (`foldl_own_turn`). -/
theorem hitsCountAndZoomSplits : Obligations.HitsCountAndZoomSplits := by
  unfold Obligations.HitsCountAndZoomSplits
  refine ⟨fun d c g fine x => ?_, fun s em ha hon => ?_⟩
  · dsimp only
    refine ⟨Dev.countHit_outside, fun h1 h2 => ?_⟩
    obtain ⟨l, hl⟩ := Dev.countHit_inside (g := g) (fine := fine) h1 h2
    rw [hl]
    generalize (x.tau - 8 * (d.winOfs (headOf c) : Int)).toNat = n
    have hc : ∀ k, (let e := d.setStp1 c ((d.stp1 c).hit n g fine x)
        ({ e with stp := { e.stp with strobes := l } } : Dev)).stp1 k = (d.setStp1 c ((d.stp1 c).hit n g fine x)).stp1 k := fun k => rfl
    dsimp only at hc ⊢
    have hbin : tabGet {} ((d.stp1 c).hit n g fine x).coarse (n / 64) = (tabGet {} (d.stp1 c).coarse (n / 64)).addHit g x.clip x.amp :=
      tabGet_put_same _ _ _ _
    simp only [hc, Dev.stp1_setStp1, hbin]
    refine ⟨rfl, rfl, rfl, fun k hk => tabGet_put_ne _ _ _ hk.symm, fun k hk => Dev.stp1_setStp1_ne _ _ hk, rfl⟩
  · have hexec : exec (.zoomSplit em) s = .next { s with dev := s.dev.zoomSplit em.val } := congrArg _ (State.inDom_pos ha hon _)
    dsimp only
    refine ⟨fun h1 h2 => ⟨_, hexec, ?_⟩, fun h => hexec.trans (congrArg _ (State.onDev_id (f := Dev.zoomSplit em.val) (if_pos ?_)))⟩
    · rw [Dev.zoomSplit_eq h1 h2]
      have hall : s.dev.Splits ((List.range 32).foldl (fun d b => d.splitBank em.val b) s.dev) :=
        foldl_rel Dev.Splits (fun _ => rfl) Dev.Splits.trans (fun d b _ => (d.splitBank_turn em.val b).1) s.dev
      have hown (b : Fin 32) := foldl_own_turn Dev.Splits (fun _ => rfl) Dev.Splits.trans Dev.stpBank
        (fun d x _ => (d.splitBank_turn em.val x).1) (fun d x _ => (d.splitBank_turn em.val x).2) List.nodup_range
        (List.mem_range.mpr b.isLt) s.dev
      refine ⟨fun b hb hsp => ?_, fun b hb => ?_, ?_, ?_⟩
      · obtain ⟨e, he, hsame, hend⟩ := hown b
        rw [hend, (Dev.splitBank_pos ((he.bankEmitter _).trans hb) (by rw [hsame]; exact hsp)).2.1, hsame, he.splitInstant]
      · obtain ⟨e, he, hsame, hend⟩ := hown b
        rw [hend, Dev.splitBank_neg (by rw [he.bankEmitter, hsame]; exact hb), hsame]
      · rw [show _ = _ from hall]
      · rw [show _ = _ from hall]
    · simpa using h

end Sys2Proof.Machine
end

section
/-! The arming of the plates (07 R201, R202, R207, R208, R211, R225; 01 R16): trigger events and the times of a plate. -/
namespace Sys2Proof.Machine

/-! ## Plates and device time -/

@[simp] theorem Dev.at_ts (d : Dev) (t : Time) (p : Nat) : (d.at t).ts p = d.ts p := by
  unfold Dev.at
  split <;> rfl

@[simp] theorem Dev.at_isStream (d : Dev) (t : Time) (p : Nat) : (d.at t).isStream p = d.isStream p := by
  unfold Dev.at
  split <;> rfl

/-- A register of two words. -/
theorem Dev.wr64_rd_lo (d : Dev) (o v : Nat) : (d.wr64 o v).rd o = loW v := by
  unfold Dev.wr64
  rw [Dev.rd_wr_ne _ _ (by omega), Dev.rd_wr_same]

theorem Dev.wr64_rd_hi (d : Dev) (o v : Nat) : (d.wr64 o v).rd (o + 4) = hiW v := Dev.rd_wr_same _ _ _

theorem Dev.wr64_rd_ne (d : Dev) {o k : Nat} (v : Nat) (h1 : k ≠ o) (h2 : k ≠ o + 4) : (d.wr64 o v).rd k = d.rd k :=
  (Dev.rd_wr_ne _ _ h2.symm).trans (Dev.rd_wr_ne _ _ h1.symm)

/-! ## A trigger that is accepted (R201, R203, R208) -/

/-- The segment that an accepted trigger begins. -/
def Dev.segOf (t ref : Time) (frac : Nat) (forced short : Bool) (x : Plt) (d : Dev) : Seg :=
  { trig := t, frac := frac, ref := ref, src := fld x.cfg.trg 3 0, forced := forced, short := short,
    gap := false, throttled := decide (1 ≤ d.thm.step), half := x.half, fill := x.fill, cfg := x.cfg,
    heldEnd := x.holdEnd, heldN := x.holdN }

/-- The plate that has accepted a trigger. -/
def Dev.accepted (t ref : Time) (frac : Nat) (forced short : Bool) (x : Plt) (d : Dev) : Plt :=
  ({ x with
      seg := some (d.segOf t ref frac forced short x)
      holdEnd := if bit x.cfg.trg 13 then 0 else t + x.cfg.holdoff * ns
      holdN := if bit x.cfg.trg 13 then x.cfg.holdoff else 0
      bus := if bit x.cfg.trg 14 && !forced then (t + 64 * ns) :: keepSince t (fun b => b) x.bus else x.bus } : Plt).to .capturing t

/-- A trigger that goes to no cascade changes its plate and its last trigger time. -/
theorem Dev.pltAccept_eq {p : Nat} {t ref : Time} {frac : Nat} {forced short : Bool} {d : Dev}
    (h : bit (d.plt p).cfg.trg 15 = false ∨ forced = true) : d.pltAccept p t ref frac forced short
      = (d.setPlt p (d.accepted t ref frac forced short (d.plt p))).wr64 (Reg.PLT_LAST_TRIG_LO p) t := by
  unfold Dev.pltAccept
  exact if_neg (by rcases h with h | h <;> simp [h])

/-- What an accepted trigger leaves. -/
structure Dev.Accepts (p : Nat) (t ref : Time) (frac : Nat) (forced short : Bool) (d e : Dev) : Prop where
  plate : e.plt p = d.accepted t ref frac forced short (d.plt p)
  others : ∀ q, q ≠ p → e.plt q = d.plt q
  evt : e.evt = d.evt
  lo : e.rd (Reg.PLT_LAST_TRIG_LO p) = loW t
  hi : e.rd (Reg.PLT_LAST_TRIG_HI p) = hiW t
  rest : ∀ o, o ≠ Reg.PLT_LAST_TRIG_LO p → o ≠ Reg.PLT_LAST_TRIG_HI p → e.rd o = d.rd o

theorem Reg.PLT_LAST_TRIG_HI_eq (p : Nat) : Reg.PLT_LAST_TRIG_HI p = Reg.PLT_LAST_TRIG_LO p + 4 := by
  unfold Reg.PLT_LAST_TRIG_HI Reg.PLT_LAST_TRIG_LO
  omega

theorem Dev.pltAccept_accepts {p : Nat} {t ref : Time} {frac : Nat} {forced short : Bool} {d : Dev}
    (h : bit (d.plt p).cfg.trg 15 = false ∨ forced = true) :
    d.Accepts p t ref frac forced short (d.pltAccept p t ref frac forced short) := by
  rw [Dev.pltAccept_eq h]
  refine ⟨d.plt_setPlt p _, fun q hq => d.plt_setPlt_ne _ hq, rfl, Dev.wr64_rd_lo _ _ _, ?_, fun o h1 h2 => ?_⟩
  · rw [Reg.PLT_LAST_TRIG_HI_eq]
    exact Dev.wr64_rd_hi _ _ _
  · rw [Reg.PLT_LAST_TRIG_HI_eq] at h2
    exact Dev.wr64_rd_ne _ _ h1 h2

/-! ## Trigger events (R201, R202, R208) -/

theorem Dev.pltEvent_forced {p frac : Nat} {t ref : Time} {g : Seg} {d : Dev} (ha : (d.plt p).acquiring = true)
    (hs : d.isStream p = false) (hg : (d.plt p).seg = some g) (hf : g.forced = true) (hr : g.ref = ref) :
    d.pltEvent p t ref frac = d.pltReal p g t ref frac := by
  unfold Dev.pltEvent
  dsimp only
  rw [if_neg (by simp [ha, hs]), hg, Option.filter_some, if_pos (by simp [hf, hr])]

theorem Dev.pltEvent_free {p frac : Nat} {t ref : Time} {d : Dev} (ha : (d.plt p).acquiring = true) (hs : d.isStream p = false)
    (hg : ∀ g, (d.plt p).seg = some g → g.forced = true → g.ref ≠ ref) :
    d.pltEvent p t ref frac = if t < (d.plt p).holdEnd then d.inc (Reg.PLT_HOLD_IGN p)
      else if 0 < (d.plt p).holdN then (d.setPlt p { d.plt p with holdN := (d.plt p).holdN - 1 }).inc (Reg.PLT_HOLD_IGN p)
      else match (d.plt p).stAt t with
        | .armed => if (d.plt p).st = .armed then d.pltAccept p t ref frac false false else d.pltMissed p
        | .filling =>
          if bit (d.plt p).cfg.ctl 4 then d.pltMissed p
          else if (d.plt p).st = .filling || (d.plt p).st = .armed then d.pltAccept p t ref frac false true
          else d.pltMissed p
        | .capturing => d.pltMissed p
        | .rearm => d.pltMissed p
        | .setup => d.pltMissed p
        | .stopped => d
        | .suspended => d := by
  have hnone : (d.plt p).seg.filter (fun g => g.forced && g.ref = ref) = none := by
    cases h : (d.plt p).seg with
    | none => rfl
    | some g =>
      rw [Option.filter_some, if_neg]
      simp only [Bool.and_eq_true, decide_eq_true_eq]
      exact fun hh => hg g h hh.1 hh.2
  unfold Dev.pltEvent
  dsimp only
  rw [if_neg (by simp [ha, hs]), hnone] <;> rfl

/-- A trigger pin's source code. -/
def pinSelected (pin : TrigPin) (c : Word) : Prop := (pin = .in0 ∧ fld c 3 0 = 3) ∨ (pin = .in1 ∧ fld c 3 0 = 4)

/-- A rising edge at the selected pin is an event at the rounded time. -/
theorem Dev.trigger_selected {p : Nat} {pin : TrigPin} {t : Time} {d : Dev} (hon : d.on domWAVE = true)
    (ha : (d.plt p).acquiring = true) (hpin : pinSelected pin (d.plt p).cfg.trg) (hslope : fld (d.plt p).cfg.trg 11 10 = 0) :
    d.trigger p (.edge pin t true)
      = (d.at t).pltEventAt p ((((t / 8 * 8 : Nat) : Int) - (d.plt p).cfg.extOfs).toNat) := by
  unfold Dev.trigger
  dsimp only
  rw [if_neg (by simp [hon, ha])]
  refine if_pos ?_
  rcases hpin with ⟨rfl, h⟩ | ⟨rfl, h⟩ <;> simp [h, hslope]

/-- A falling edge, an edge at another pin, and one at a plate that does not acquire do nothing. -/
theorem Dev.trigger_unselected {p : Nat} {pin : TrigPin} {t : Time} {rising : Bool} {d : Dev}
    (h : (d.plt p).acquiring = false ∨ fld (d.plt p).cfg.trg 11 10 = 0 ∧ (match pin with
      | .in0 => fld (d.plt p).cfg.trg 3 0 ≠ 3 ∨ rising = false
      | .in1 => fld (d.plt p).cfg.trg 3 0 ≠ 4 ∨ rising = false
      | .bus => False)) : d.trigger p (.edge pin t rising) = d := by
  unfold Dev.trigger
  dsimp only
  rcases h with h | ⟨hslope, h⟩
  · exact if_pos (by simp [h])
  · split
    · rfl
    · refine if_neg ?_
      cases pin with
      | in0 => rcases h with h | h <;> simp [h, hslope]
      | in1 => rcases h with h | h <;> simp [h, hslope]
      | bus => exact h.elim

/-- A missed event. -/
theorem Dev.pltMissed_facts (p : Nat) (d : Dev) : ∃ m : Dev, d.pltMissed p = m.raiseOnce (Ev.PLT_MISSED p)
    ∧ m.plt p = { d.plt p with blind := true } ∧ m.rd (Reg.PLT_MISSED p) = satInc (d.rd (Reg.PLT_MISSED p))
    ∧ (∀ o, o ≠ Reg.PLT_MISSED p → m.rd o = d.rd o) ∧ (∀ q, q ≠ p → m.plt q = d.plt q) ∧ m.evt = d.evt :=
  ⟨_, rfl, Dev.plt_setPlt _ _ _, d.rd_inc_same _, fun _ ho => Dev.rd_wr_ne _ _ ho.symm, fun _ hq => Dev.plt_setPlt_ne _ _ hq, rfl⟩

theorem word_toNat_succ (w : Word) : word (w.toNat + 1) = w + 1 :=
  BitVec.eq_of_toNat_eq (by simp [word, BitVec.toNat_add])

/-- A real event at the sample of a forced trigger takes its place. -/
theorem Dev.pltReal_takes {p frac : Nat} {t ref : Time} {g : Seg} {d : Dev} (h1 : g.heldEnd ≤ t) (h2 : g.heldN = 0)
    (h3 : d.rd (Reg.PLT_FORCED_CNT p) ≠ 0xFFFFFFFF) : d.pltReal p g t ref frac
      = (d.wrN (Reg.PLT_FORCED_CNT p) ((d.rd (Reg.PLT_FORCED_CNT p)).toNat - 1)).pltAccept p t ref frac false false := by
  have hcnt : (d.rd (Reg.PLT_FORCED_CNT p)).toNat ≠ 0xFFFFFFFF := fun h => h3 (BitVec.eq_of_toNat_eq h)
  unfold Dev.pltReal
  dsimp only
  rw [if_neg (by simp [h1, h2]), if_neg hcnt]

/-- A segment that a trigger begins has the plate in CAPTURING. -/
theorem Dev.accepted_facts (t ref : Time) (frac : Nat) (forced short : Bool) (x : Plt) (d : Dev) :
    let y := d.accepted t ref frac forced short x
    y.seg = some (d.segOf t ref frac forced short x) ∧ y.st = .capturing ∧ y.since = t ∧ y.buf = x.buf
      ∧ y.holdEnd = (if bit x.cfg.trg 13 then 0 else t + x.cfg.holdoff * ns)
      ∧ y.holdN = (if bit x.cfg.trg 13 then x.cfg.holdoff else 0) := ⟨rfl, rfl, rfl, rfl, rfl, rfl⟩

/-- The counter of forced triggers lies beside the last trigger times. -/
theorem Reg.PLT_FORCED_CNT_ne (p : Nat) : Reg.PLT_FORCED_CNT p ≠ Reg.PLT_LAST_TRIG_LO p
    ∧ Reg.PLT_FORCED_CNT p ≠ Reg.PLT_LAST_TRIG_HI p := by
  unfold Reg.PLT_FORCED_CNT Reg.PLT_LAST_TRIG_LO Reg.PLT_LAST_TRIG_HI
  omega

/-- Settles O20: the branch of `Dev.pltEvent` by the state of the plate, an accepted trigger by `Dev.pltAccept_accepts`. That the
real event leaves FORCED_CNT without the forced one and keeps its event is log 112. -/
theorem triggersAreTakenHeldOrMissed : Obligations.TriggersAreTakenHeldOrMissed := by
  unfold Obligations.TriggersAreTakenHeldOrMissed
  intro s p pin t ha hscan hon
  dsimp only
  intro hpin hslope
  have hexec (pin : TrigPin) (r : Bool) : exec (.triggerEvent p (.edge pin t r)) s = .next { s with dev := s.dev.trigger p.val (.edge pin t r) } :=
    congrArg _ (State.atPin_pos ha hscan hon _)
  have idle {pin : TrigPin} {r : Bool} (h : s.dev.trigger p.val (.edge pin t r) = s.dev) : exec (.triggerEvent p (.edge pin t r)) s = .next s :=
    (hexec pin r).trans (congrArg _ (State.onDev_id (f := Dev.trigger p.val (.edge pin t r)) h))
  generalize hu : ((((t / 8 * 8 : Nat) : Int) - (s.dev.plt p.val).cfg.extOfs).toNat) = u
  have hd : (s.dev.at t).plt p.val = s.dev.plt p.val := s.dev.at_plt t p.val
  have hevent (hacq : (s.dev.plt p.val).acquiring = true) : exec (.triggerEvent p (.edge pin t true)) s
      = .next { s with dev := (s.dev.at t).pltEvent p.val u (u / s.dev.ts p.val * s.dev.ts p.val) (u % s.dev.ts p.val * 64 / s.dev.ts p.val) } := by
    rw [hexec, Dev.trigger_selected hon hacq hpin hslope, hu, Dev.pltEventAt, Dev.at_ts]
  generalize u / s.dev.ts p.val * s.dev.ts p.val = ref at hevent ⊢
  generalize u % s.dev.ts p.val * 64 / s.dev.ts p.val = frac at hevent ⊢
  refine ⟨idle (Dev.trigger_unselected (.inr ⟨hslope, ?_⟩)), idle (Dev.trigger_unselected (.inr ⟨hslope, ?_⟩)),
    fun hacq => idle (Dev.trigger_unselected (.inl hacq)), fun g hacq hstr hg hf hr => ?_, fun hacq hstr hg => ?_⟩
  · rcases hpin with ⟨rfl, -⟩ | ⟨rfl, -⟩ <;> exact .inr rfl
  · rcases hpin with ⟨rfl, h⟩ | ⟨rfl, h⟩ <;> exact .inl (by rw [h]; decide)
  · rw [hevent hacq, Dev.pltEvent_forced (by rw [hd]; exact hacq) ((Dev.at_isStream _ _ _).trans hstr) (by rw [hd]; exact hg) hf hr]
    refine ⟨fun h => ?_, fun h1 h2 h15 hcnt => ⟨_, rfl, ?_⟩⟩
    · unfold Dev.pltReal
      rw [if_pos (by simpa using h)]
    · rw [Dev.pltReal_takes h1 h2 (by rw [Dev.at_rd]; exact hcnt)]
      have hplt : ∀ q, ((s.dev.at t).wrN (Reg.PLT_FORCED_CNT p.val) (((s.dev.at t).rd (Reg.PLT_FORCED_CNT p.val)).toNat - 1)).plt q
          = s.dev.plt q := fun q => s.dev.at_plt t q
      have hacc := Dev.pltAccept_accepts (t := u) (ref := ref) (frac := frac) (forced := false) (short := false) (p := p.val)
        (d := (s.dev.at t).wrN (Reg.PLT_FORCED_CNT p.val) (((s.dev.at t).rd (Reg.PLT_FORCED_CNT p.val)).toNat - 1))
        (.inl (by rw [hplt]; exact h15))
      obtain ⟨hlo, hhi⟩ := Reg.PLT_FORCED_CNT_ne p.val
      refine ⟨⟨_, by rw [hacc.plate]; exact (Dev.accepted_facts _ _ _ _ _ _ _).1, rfl, hr.symm, rfl⟩, ?_,
        fun q hq => (hacc.others q hq).trans (hplt q), hacc.evt.trans (s.dev.at_evt t)⟩
      exact (hacc.rest _ hlo hhi).trans ((Dev.rd_wr_same _ _ _).trans (by rw [Dev.at_rd]))
  · rw [hevent hacq, Dev.pltEvent_free (by rw [hd]; exact hacq) ((Dev.at_isStream _ _ _).trans hstr) (by rw [hd]; exact hg), hd]
    refine ⟨fun h => ?_, fun h1 h2 => ⟨_, rfl, ?_⟩, fun h1 h2 hst hat h15 => ⟨_, rfl, ?_⟩, fun h1 h2 hat => ?_⟩
    · rw [if_pos h]
    · rw [if_neg (Nat.not_lt.mpr h1), if_pos h2]
      refine ⟨Dev.plt_setPlt _ _ _, ?_, fun q hq => (Dev.plt_setPlt_ne _ _ hq).trans (s.dev.at_plt t q),
        fun o ho => (Dev.rd_wr_ne _ _ ho.symm).trans (s.dev.at_rd t o), s.dev.at_evt t⟩
      rw [Dev.rd_inc_same, Dev.rd_setPlt, Dev.at_rd]
    · rw [if_neg (Nat.not_lt.mpr h1), if_neg (by simp [h2]), hat]
      dsimp only
      rw [if_pos hst]
      have hacc := Dev.pltAccept_accepts (t := u) (ref := ref) (frac := frac) (forced := false) (short := false) (p := p.val)
        (d := s.dev.at t) (.inl (by rw [hd]; exact h15))
      obtain ⟨hseg, hcap, hsince, hbuf, hend, hn⟩ := (s.dev.at t).accepted_facts u ref frac false false (s.dev.plt p.val)
      have hplate := hacc.plate
      rw [hd] at hplate
      rw [hplate]
      exact ⟨⟨_, hseg, rfl, rfl, rfl, rfl, rfl, rfl, rfl⟩, hcap, hsince, hbuf, hend, hn, hacc.lo, hacc.hi,
        fun o ho1 ho2 => (hacc.rest o ho1 ho2).trans (s.dev.at_rd t o), fun q hq => (hacc.others q hq).trans (s.dev.at_plt t q),
        hacc.evt.trans (s.dev.at_evt t)⟩
    · obtain ⟨m, hm, hplt, hcnt, hrest, hothers, hevt⟩ := (s.dev.at t).pltMissed_facts p.val
      rw [if_neg (Nat.not_lt.mpr h1), if_neg (by simp [h2])]
      refine ⟨m, ?_, hplt.trans (by rw [hd]), hcnt.trans (by rw [Dev.at_rd]), fun o ho => (hrest o ho).trans (s.dev.at_rd t o),
        fun q hq => (hothers q hq).trans (s.dev.at_plt t q), hevt.trans (s.dev.at_evt t)⟩
      rw [← hm]
      rcases hat with h | h | h <;> rw [h]

/-! ## The times of a plate (R201, R202, R207, R211) -/

@[simp] theorem Dev.at_f (d : Dev) (t : Time) (o hi lo : Nat) : (d.at t).f o hi lo = d.f o hi lo := by
  unfold Dev.at
  split <;> rfl

@[simp] theorem Dev.at_pcfg (d : Dev) (t : Time) (p : Nat) : (d.at t).pcfg p = d.pcfg p := by
  unfold Dev.at
  split <;> rfl

@[simp] theorem Dev.at_preSpan (d : Dev) (t : Time) (p : Nat) (c : PCfg) : (d.at t).preSpan p c = d.preSpan p c := by
  unfold Dev.at
  split <;> rfl

@[simp] theorem Dev.at_pltFull (d : Dev) (t : Time) (p : Nat) : (d.at t).pltFull p = d.pltFull p := by
  unfold Dev.at
  split <;> rfl

@[simp] theorem Dev.at_isRing (d : Dev) (t : Time) (p : Nat) : (d.at t).isRing p = d.isRing p := by
  unfold Dev.at
  split <;> rfl

@[simp] theorem Dev.at_seqUsed (d : Dev) (t : Time) (p : Nat) : (d.at t).seqUsed p = d.seqUsed p := by
  unfold Dev.at
  split <;> rfl

@[simp] theorem Dev.at_segSpan (d : Dev) (t : Time) (p : Nat) : (d.at t).segSpan p = d.segSpan p := by
  unfold Dev.at
  split <;> rfl

/-- Storing a plate changes that plate alone. -/
theorem Dev.setPlt_only (d : Dev) (p : Nat) (x : Plt) : d.OnlyPlate p (d.setPlt p x) := ⟨rfl, fun _ hq => d.plt_setPlt_ne x hq⟩

theorem Dev.OnlyPlate.trans {p : Nat} {d e g : Dev} (h : d.OnlyPlate p e) (k : e.OnlyPlate p g) : d.OnlyPlate p g := by
  obtain ⟨he, ho⟩ := h
  obtain ⟨ke, ko⟩ := k
  exact ⟨by rw [ke, he], fun q hq => (ko q hq).trans (ho q hq)⟩

/-- A plate whose source is not IMMEDIATE is armed, and nothing else happens. -/
theorem Dev.toArmed_eq {p : Nat} {t : Time} {d : Dev} (h : fld (d.plt p).cfg.trg 3 0 ≠ 8) :
    d.toArmed p t = d.setPlt p ((d.plt p).to .armed t) := by
  unfold Dev.toArmed
  dsimp only
  rw [Dev.plt_setPlt]
  exact if_neg h

/-- The sample period of a plate looks at its rate and at a register. -/
theorem Dev.ts_setPlt {d : Dev} {p : Nat} {x : Plt} (h : x.half = (d.plt p).half) : (d.setPlt p x).ts p = d.ts p := by
  unfold Dev.ts
  rw [Dev.plt_setPlt, h]
  rfl

theorem Dev.preSpan_setPlt {d : Dev} {p : Nat} {x : Plt} (h : x.half = (d.plt p).half) (c : PCfg) :
    (d.setPlt p x).preSpan p c = d.preSpan p c := by
  unfold Dev.preSpan
  rw [Dev.ts_setPlt h]
  rfl

/-- At the end of SETUP a triggered segment fills, or is armed at once. -/
theorem Dev.setupDone_triggered {p : Nat} {t : Time} {d : Dev} (hst : (d.plt p).st = .setup) (ht : (d.plt p).since + 16 * ns ≤ t)
    (hr : d.pltRoom p = true) (hf : d.fltFilled p t = true) (hs : d.isStream p = false) :
    let e := (d.at t).setPlt p { (d.plt p).to .filling t with fill := t }
    d.setupDone p t = if d.preSpan p (d.plt p).cfg ≤ (d.plt p).cfg.postDly * d.ts p then e.toArmed p t else e := by
  have hspan : ((d.at t).setPlt p { (d.plt p).to .filling t with fill := t }).preSpan p (d.plt p).cfg
      = d.preSpan p (d.plt p).cfg :=
    (Dev.preSpan_setPlt (by rw [Dev.at_plt]; rfl) _).trans (d.at_preSpan t p _)
  have hts : ((d.at t).setPlt p { (d.plt p).to .filling t with fill := t }).ts p = d.ts p :=
    (Dev.ts_setPlt (by rw [Dev.at_plt]; rfl)).trans (d.at_ts t p)
  unfold Dev.setupDone
  dsimp only
  rw [if_neg (by simp [hst, ht, hr, hf]), Dev.at_isStream, hs, if_neg Bool.false_ne_true, hspan, hts]

theorem Dev.setupDone_waits {p : Nat} {t : Time} {d : Dev} (h : t < (d.plt p).since + 16 * ns ∨ d.pltRoom p = false ∨ d.fltFilled p t = false) :
    d.setupDone p t = d := by
  unfold Dev.setupDone
  refine if_pos ?_
  rcases h with h | h | h <;> simp [h]

/-- The first segment of a stream begins at the next sample. -/
theorem Dev.setupDone_stream {p : Nat} {t : Time} {d : Dev} (hst : (d.plt p).st = .setup) (ht : (d.plt p).since + 16 * ns ≤ t)
    (hr : d.pltRoom p = true) (hf : d.fltFilled p t = true) (hs : d.isStream p = true) (hn : (d.plt p).streamNext = 0)
    (hg : (d.plt p).gap = false) (hfull : d.pltFull p = false) :
    d.setupDone p t = (d.at t).streamBegin p ((t + d.ts p - 1) / d.ts p * d.ts p) t := by
  have hpass : (d.at t).streamPass p 0 = d.at t := by
    unfold Dev.streamPass
    exact if_pos (by simp)
  unfold Dev.setupDone
  dsimp only
  rw [if_neg (by simp [hst, ht, hr, hf]), Dev.at_isStream, hs, if_pos rfl, if_pos hn, hpass, Dev.at_pltFull, hfull,
    if_neg Bool.false_ne_true, Dev.at_plt, hg, if_neg Bool.false_ne_true, Dev.at_plt, if_pos hn, Dev.at_ts]

/-- The plate and its registers after stream segment `seq` is skipped. -/
def Dev.segPassed (p : Nat) (d : Dev) : Dev :=
  ((d.setPlt p { d.plt p with streamNext := (d.plt p).streamNext + d.segSpan p, gap := true }).add (Reg.PLT_SEG_SKIP p) 1).wrN
    (Reg.PLT_SEQ p) ((d.rd (Reg.PLT_SEQ p)).toNat + 1)

theorem Dev.segPassed_rd_seq (p : Nat) (d : Dev) : (d.segPassed p).rd (Reg.PLT_SEQ p) = d.rd (Reg.PLT_SEQ p) + 1 :=
  (Dev.rd_wr_same _ _ _).trans (word_toNat_succ _)

theorem Dev.segPassed_rd_skip (p : Nat) (d : Dev) : (d.segPassed p).rd (Reg.PLT_SEG_SKIP p) = satAdd (d.rd (Reg.PLT_SEG_SKIP p)) 1 :=
  (Dev.rd_wr_ne _ _ (by unfold Reg.PLT_SEQ Reg.PLT_SEG_SKIP; omega)).trans (Dev.rd_wr_same _ _ _)

theorem Dev.segPassed_rd_ne {p o : Nat} (d : Dev) (h1 : o ≠ Reg.PLT_SEG_SKIP p) (h2 : o ≠ Reg.PLT_SEQ p) : (d.segPassed p).rd o = d.rd o :=
  (Dev.rd_wr_ne _ _ h2.symm).trans (Dev.rd_wr_ne _ _ h1.symm)

theorem Dev.segPassed_plt (p : Nat) (d : Dev) : (d.segPassed p).plt p
    = { d.plt p with streamNext := (d.plt p).streamNext + d.segSpan p, gap := true } := Dev.plt_setPlt _ _ _

/-- A skipped segment uses up one number. -/
theorem Dev.segPassed_seqUsed (p : Nat) (d : Dev) : (d.segPassed p).seqUsed p ≤ d.seqUsed p + 1 := by
  have hmode : (d.segPassed p).decMode p = d.decMode p := congrArg (fld · 2 0)
    (d.segPassed_rd_ne (by unfold Reg.PLT_DEC_CTL Reg.PLT_SEG_SKIP; omega) (by unfold Reg.PLT_DEC_CTL Reg.PLT_SEQ; omega))
  have hseq : (d.rd (Reg.PLT_SEQ p) + 1).toNat ≤ (d.rd (Reg.PLT_SEQ p)).toNat + 1 := by
    rw [BitVec.toNat_add]
    exact Nat.mod_le _ _
  unfold Dev.seqUsed
  dsimp only
  rw [hmode, Dev.segPassed_rd_seq, Dev.segPassed_plt]
  dsimp only
  omega

/-- A stream segment for which there is no room is skipped. -/
theorem Dev.streamSkip_eq {p : Nat} {d : Dev} (ha : (d.plt p).acquiring = true) (hs : d.isStream p = true) (hst : (d.plt p).st = .setup)
    (hn : (d.plt p).streamNext ≠ 0) (hr : d.pltRoom p = false)
    (hleft : d.isRing p = true ∨ d.seqUsed p + 1 < d.f (Reg.PLT_SEG_COUNT p) 22 0) :
    d.streamSkip p = (d.at (d.plt p).streamNext).segPassed p := by
  have hpass : (d.at (d.plt p).streamNext).streamPass p 1 = (d.at (d.plt p).streamNext).segPassed p := by
    have hone : (if d.isRing p then 1 else min 1 (d.f (Reg.PLT_SEG_COUNT p) 22 0 - (d.rd (Reg.PLT_SEQ p)).toNat)) = 1 := by
      split
      · rfl
      · rename_i hring
        have hused : (d.rd (Reg.PLT_SEQ p)).toNat ≤ d.seqUsed p := Nat.le_add_right _ _
        have := hleft.resolve_left hring
        omega
    unfold Dev.streamPass
    dsimp only
    rw [Dev.at_isRing, Dev.at_f, Dev.at_rd, hone, if_neg Nat.one_ne_zero, Nat.one_mul]
    unfold Dev.segPassed
    rw [Dev.at_rd]
  have hfull : ((d.at (d.plt p).streamNext).segPassed p).pltFull p = false := by
    have hring : ((d.at (d.plt p).streamNext).segPassed p).isRing p = d.isRing p := congrArg (bit · 3)
      ((Dev.segPassed_rd_ne _ (by unfold Reg.PLT_CTL Reg.PLT_SEG_SKIP; omega) (by unfold Reg.PLT_CTL Reg.PLT_SEQ; omega)).trans
        (d.at_rd _ _))
    have hcount : ((d.at (d.plt p).streamNext).segPassed p).f (Reg.PLT_SEG_COUNT p) 22 0 = d.f (Reg.PLT_SEG_COUNT p) 22 0 :=
      congrArg (fld · 22 0) ((Dev.segPassed_rd_ne _ (by unfold Reg.PLT_SEG_COUNT Reg.PLT_SEG_SKIP; omega)
        (by unfold Reg.PLT_SEG_COUNT Reg.PLT_SEQ; omega)).trans (d.at_rd _ _))
    have hused := Dev.segPassed_seqUsed p (d.at (d.plt p).streamNext)
    rw [Dev.at_seqUsed] at hused
    unfold Dev.pltFull
    rw [hring, hcount]
    rcases hleft with h | h
    · simp [h]
    · simp only [Bool.and_eq_false_iff, decide_eq_false_iff_not]
      exact .inr (by omega)
  unfold Dev.streamSkip
  dsimp only
  rw [if_neg (by simp [ha, hs, hst, hn, hr]), hpass, hfull]
  rfl

/-- Settles O21: each time of the sequence by its own equation (`Dev.setupDone_triggered`, `Dev.setupDone_stream`,
`Dev.toArmed_eq`, `Dev.pltAccept_accepts`, `Dev.streamSkip_eq`). -/
theorem plateTimesMoveTheArming : Obligations.PlateTimesMoveTheArming := by
  unfold Obligations.PlateTimesMoveTheArming
  intro s p t ha hon
  have inDom (f : Dev → Dev) : (Host.Outcome.next (s.inDom domWAVE f) : Res) = .next { s with dev := f s.dev } :=
    congrArg _ (State.inDom_pos ha hon _)
  have same {f : Dev → Dev} (h : f s.dev = s.dev) : (Host.Outcome.next (s.inDom domWAVE f) : Res) = .next s :=
    (inDom f).trans (congrArg _ (State.onDev_id h))
  have hplt := s.dev.at_plt t p.val
  dsimp only
  refine ⟨fun h => (inDom _).trans ?_, fun h => same (if_neg (Nat.not_le.mpr h)), fun hst ht => ⟨_, inDom _, ?rearm⟩,
    fun hst ht => same (if_pos (by simp [ht])), fun hst ht hr hf => ⟨fun hs hlt => ⟨_, inDom _, ?fills⟩,
      fun hs hle himm => ⟨_, inDom _, ?armed⟩, fun hs hn hg hfull => ⟨_, inDom _, ?stream⟩⟩,
    fun hst h => same (Dev.setupDone_waits h), fun hst hle himm => ⟨_, inDom _, ?filled⟩, fun hst hlt => same (if_pos (by simp [hlt])),
    fun hst hauto hle => ?auto, fun h => same ?noAuto, fun hacq hs hst hn hr hleft => ⟨_, inDom _, ?skip⟩,
    fun hr => same (if_pos (by simp [hr]))⟩
  · unfold Dev.holdoffEnd
    rw [if_pos h]
  case rearm =>
    have heq : s.dev.rearmDone p.val t = (s.dev.at t).toSetup p.val t := if_neg (by simp [hst, ht])
    rw [heq, Dev.toSetup]
    refine ⟨Dev.setPlt_only _ _ _, ?_⟩
    rw [Dev.plt_setPlt, hplt, Dev.at_pcfg]
    exact ⟨rfl, rfl, rfl, rfl, rfl⟩
  case fills =>
    rw [Dev.setupDone_triggered hst ht hr hf hs, if_neg (Nat.not_le.mpr hlt)]
    refine ⟨Dev.setPlt_only _ _ _, ?_⟩
    rw [Dev.plt_setPlt]
    exact ⟨rfl, rfl, rfl, rfl⟩
  case armed =>
    rw [Dev.setupDone_triggered hst ht hr hf hs, if_pos hle, Dev.toArmed_eq (by rw [Dev.plt_setPlt]; exact himm)]
    refine ⟨(Dev.setPlt_only _ _ _).trans (Dev.setPlt_only _ _ _), ?_⟩
    rw [Dev.plt_setPlt, Dev.plt_setPlt]
    exact ⟨rfl, rfl, rfl, rfl⟩
  case stream =>
    rw [Dev.setupDone_stream hst ht hr hf hs hn hg hfull, Dev.streamBegin]
    refine ⟨Dev.setPlt_only _ _ _, ?_⟩
    rw [Dev.plt_setPlt]
    exact ⟨rfl, rfl, _, rfl, rfl, by rw [hplt]; exact hg⟩
  case filled =>
    have heq : s.dev.fillDone p.val t = (s.dev.at t).toArmed p.val t := if_neg (by simp [hst, hle])
    rw [heq, Dev.toArmed_eq (by rw [hplt]; exact himm)]
    refine ⟨Dev.setPlt_only _ _ _, ?_⟩
    rw [Dev.plt_setPlt, hplt]
    exact ⟨rfl, rfl, rfl⟩
  case auto =>
    generalize hout : (s.dev.plt p.val).since + (s.dev.plt p.val).cfg.autoTo * us = out at hle ⊢
    have heq : s.dev.autoTrigger p.val t = (((s.dev.at t).pltAccept p.val (out / s.dev.ts p.val * s.dev.ts p.val)
        (out / s.dev.ts p.val * s.dev.ts p.val) 0 true false).inc (Reg.PLT_FORCED_CNT p.val)).raiseOnce (Ev.PLT_FORCED p.val) := by
      subst hout
      exact if_pos (by simp [hst, hauto, hle])
    have hacc := Dev.pltAccept_accepts (t := out / s.dev.ts p.val * s.dev.ts p.val) (ref := out / s.dev.ts p.val * s.dev.ts p.val)
      (frac := 0) (forced := true) (short := false) (p := p.val) (d := s.dev.at t) (.inr rfl)
    obtain ⟨hlo, hhi⟩ := Reg.PLT_FORCED_CNT_ne p.val
    refine ⟨_, (inDom _).trans (by rw [heq]), ?_⟩
    have hplate (e : Dev) (o : Nat) : (e.inc o).plt p.val = e.plt p.val := rfl
    rw [hplate, hacc.plate]
    refine ⟨rfl, ⟨_, rfl, rfl, rfl, rfl, rfl⟩, ?_, fun q hq => (hacc.others q hq).trans (s.dev.at_plt t q), hacc.evt.trans (s.dev.at_evt t)⟩
    rw [Dev.rd_inc_same, hacc.rest _ hlo hhi, Dev.at_rd]
  case noAuto =>
    refine if_neg ?_
    rcases h with h | h | h
    · simp [h]
    · simp [h]
    · simp [Nat.not_le.mpr h]
  case skip =>
    rw [Dev.streamSkip_eq hacq hs hst hn hr hleft]
    refine ⟨by rw [Dev.segPassed_plt, Dev.at_plt, Dev.at_segSpan], fun q hq => (Dev.plt_setPlt_ne _ _ hq).trans (s.dev.at_plt _ q), ?_, ?_,
      fun o h1 h2 => (Dev.segPassed_rd_ne _ h1 h2).trans (s.dev.at_rd _ o), s.dev.at_evt _⟩
    · rw [Dev.segPassed_rd_skip, Dev.at_rd]
    · rw [Dev.segPassed_rd_seq, Dev.at_rd]

end Sys2Proof.Machine
end

section
/-! Segments of the plates (07 R207 to R209, R214 to R216): a completed segment enters the capture buffer, and its commit writes
data before the head block. -/
namespace Sys2Proof.Machine

/-! ## A segment in the capture buffer (R214, R215) -/

/-- Segment `seq` of the acquisition of plate `x` enters the buffer with the bytes `bytes`. -/
structure Dev.SegEntered (p : Nat) (x : Plt) (seq : Nat) (bytes : List Byte) (d e : Dev) : Prop where
  number : e.rd (Reg.PLT_SEQ p) = word (seq + 1)
  regs : ∀ o, o ≠ Reg.PLT_SEQ p → e.rd o = d.rd o
  buf : ∃ o : Out, e.plt p = { x with buf := x.buf ++ [o], gap := false } ∧ o.seq = seq ∧ o.done = 0
    ∧ o.slot = (if x.ring = 0 then seq else seq % x.ring) ∧ o.addr = x.base + o.slot * x.slotSize
    ∧ bytes <+: o.data ∧ o.data.length % 64 = 0
  others : ∀ q, q ≠ p → e.plt q = d.plt q
  evt : e.evt = d.evt

theorem pad64 (n : Nat) : (n + (64 - n % 64) % 64) % 64 = 0 := by omega

theorem Dev.pushOut_entered {p : Nat} {s : Seg} {trig : Time} {n pre flags : Nat} {gd : Int} {ranges : List RangeEnt} {mode combined : Nat}
    {data : List Byte} {d : Dev} (h : ranges.length ≤ 4) :
    d.SegEntered p (d.plt p) (d.rd (Reg.PLT_SEQ p)).toNat data (d.pushOut p s trig n pre flags gd ranges mode combined data) := by
  unfold Dev.pushOut
  dsimp only
  rw [if_neg (Nat.not_lt.mpr h)]
  refine ⟨Dev.rd_wr_same _ _ _, fun o ho => Dev.rd_wr_ne _ _ ho.symm, ⟨_, Dev.plt_setPlt _ _ _, rfl, rfl, rfl, rfl, List.prefix_append _ _, ?_⟩,
    fun q hq => Dev.plt_setPlt_ne _ _ hq, rfl⟩
  rw [List.length_append, List.length_replicate]
  exact pad64 _

/-- A record of a plain segment goes to the buffer as it is. -/
theorem Dev.storeSeg_entered {p : Nat} {s : Seg} {cap : Capture} {f : Form} {d : Dev} (hf : s.form.getD (d.form p) = f)
    (hs : f.stream = false ∨ s.cut.isSome = true) (hm : f.mode < 3) (hr : (f.record s cap).ranges.length ≤ 4) :
    d.SegEntered p (d.plt p) (d.rd (Reg.PLT_SEQ p)).toNat (recBytes (f.record s cap).packed (f.record s cap).vals) (d.storeSeg p s cap) := by
  have hkeep : (f.stream && s.cut.isNone) = false := by
    rcases hs with h | h
    · rw [h, Bool.false_and]
    · rw [Option.isNone_eq_false_iff.mpr h, Bool.and_false]
  unfold Dev.storeSeg
  dsimp only
  rw [hf, hkeep, if_neg Bool.false_ne_true]
  split
  · omega
  · omega
  · exact Dev.pushOut_entered hr

/-- What a segment's values are formed under does not look at the segment in hand. -/
theorem Dev.form_setPlt {d : Dev} {p : Nat} {x : Plt} (hh : x.half = (d.plt p).half) (hm : x.marks = (d.plt p).marks) :
    (d.setPlt p x).form p = d.form p := by
  unfold Dev.form Dev.chain
  rw [Dev.ts_setPlt hh, Dev.plt_setPlt, hm]
  rfl

@[simp] theorem Dev.at_form (d : Dev) (t : Time) (p : Nat) : (d.at t).form p = d.form p := by
  unfold Dev.at
  split <;> rfl

/-! ## The end of a capture (R207, R209) -/

/-- Without a segment cut short, the numbers used are the sequence number. -/
theorem Dev.seqUsed_of_closing {d : Dev} {p : Nat} (h : (d.plt p).closing = []) : d.seqUsed p = (d.rd (Reg.PLT_SEQ p)).toNat := by
  unfold Dev.seqUsed
  dsimp only
  rw [h]
  split <;> rfl

theorem Dev.pltFull_congr {d e : Dev} {p : Nat} (hd : (d.plt p).closing = []) (he : (e.plt p).closing = [])
    (h : ∀ o, e.rd o = d.rd o) : e.pltFull p = d.pltFull p := by
  unfold Dev.pltFull Dev.isRing Dev.b Dev.f
  rw [Dev.seqUsed_of_closing hd, Dev.seqUsed_of_closing he, h, h, h]

/-- A triggered segment that is complete: the plate stops after its last one, and rearms otherwise. -/
def Dev.captureEnd (p : Nat) (t : Time) (d : Dev) : Dev :=
  let d := d.setPlt p { d.plt p with marks := keepMarks (d.histFrom p) (d.plt p).marks }
  if d.pltFull p then d.pltEnd p t else d.setPlt p ((d.plt p).to .rearm t)

/-- What stays of the plate at the end of a capture. -/
theorem Dev.captureEnd_facts {p : Nat} {t : Time} {d : Dev} (hc : (d.plt p).closing = []) :
    let e := d.captureEnd p t
    (∀ o, e.rd o = d.rd o) ∧ (∀ q, q ≠ p → e.plt q = d.plt q) ∧ e.evt = d.evt ∧ (e.plt p).buf = (d.plt p).buf
      ∧ (e.plt p).seg = (d.plt p).seg ∧ (e.plt p).since = t ∧ (e.plt p).st = (if e.pltFull p then .stopped else .rearm) := by
  generalize hg : d.setPlt p { d.plt p with marks := keepMarks (d.histFrom p) (d.plt p).marks } = g
  have hgp : g.plt p = { d.plt p with marks := keepMarks (d.histFrom p) (d.plt p).marks } := hg ▸ Dev.plt_setPlt _ _ _
  have hgc : (g.plt p).closing = [] := by rw [hgp]; exact hc
  have hrd : ∀ o, g.rd o = d.rd o := fun o => hg ▸ rfl
  have hq : ∀ q, q ≠ p → g.plt q = d.plt q := fun q h => hg ▸ Dev.plt_setPlt_ne _ _ h
  have hevt : g.evt = d.evt := hg ▸ rfl
  have heq : d.captureEnd p t = if g.pltFull p then g.pltEnd p t else g.setPlt p ((g.plt p).to .rearm t) := hg ▸ rfl
  intro e
  cases hfull : g.pltFull p with
  | true =>
    have he : e = g.pltEnd p t := heq.trans (if_pos hfull)
    have hep : e.plt p = { (g.plt p).to .stopped t with acquiring := false, work := if (g.plt p).closing.isEmpty then none else (g.plt p).work } := by
      rw [he]
      exact Dev.plt_setPlt _ _ _
    have hefull : e.pltFull p = true := (Dev.pltFull_congr hgc (by rw [hep]; exact hgc) (fun o => by rw [he]; rfl)).trans hfull
    rw [hefull, hep, hgp, he]
    exact ⟨hrd, fun q h => (Dev.plt_setPlt_ne _ _ h).trans (hq q h), hevt, rfl, rfl, rfl, rfl⟩
  | false =>
    have he : e = g.setPlt p ((g.plt p).to .rearm t) := heq.trans (if_neg (by simp [hfull]))
    have hep : e.plt p = (g.plt p).to .rearm t := by
      rw [he]
      exact Dev.plt_setPlt _ _ _
    have hefull : e.pltFull p = false := (Dev.pltFull_congr hgc (by rw [hep]; exact hgc) (fun o => by rw [he]; rfl)).trans hfull
    rw [hefull, hep, hgp, he]
    exact ⟨hrd, fun q h => (Dev.plt_setPlt_ne _ _ h).trans (hq q h), hevt, rfl, rfl, rfl, rfl⟩

theorem Dev.captureDone_closing {p : Nat} {t : Time} {cap : Capture} {g : Seg} {rest : List Seg} {d : Dev}
    (h : (d.plt p).closing = g :: rest) : d.captureDone p t cap = (d.setPlt p { d.plt p with closing := rest }).storeSeg p g cap := by
  unfold Dev.captureDone
  dsimp only
  rw [h]

theorem Dev.captureDone_none {p : Nat} {t : Time} {cap : Capture} {d : Dev} (h : (d.plt p).closing = []) (hs : (d.plt p).seg = none) :
    d.captureDone p t cap = d := by
  unfold Dev.captureDone
  dsimp only
  rw [h, hs]

/-- The capture of a triggered segment ends with its record stored. -/
theorem Dev.captureDone_segment {p : Nat} {t : Time} {cap : Capture} {g : Seg} {d : Dev} (h : (d.plt p).closing = [])
    (hs : (d.plt p).seg = some g)
    (hst : (((d.at t).setPlt p { d.plt p with seg := none }).storeSeg p g cap).isStream p = false) :
    d.captureDone p t cap = (((d.at t).setPlt p { d.plt p with seg := none }).storeSeg p g cap).captureEnd p t := by
  unfold Dev.captureDone Dev.captureEnd
  dsimp only
  split
  · rename_i hcl
    rw [h] at hcl
    cases hcl
  split
  · rename_i hseg
    rw [hs] at hseg
    cases hseg
  · rename_i g' hseg
    obtain rfl : g = g' := Option.some.inj (hs.symm.trans hseg)
    generalize ((d.at t).setPlt p { d.plt p with seg := none }).storeSeg p g cap = e at hst ⊢
    have hst' : ∀ x, (e.setPlt p x).isStream p = false := fun _ => hst
    rw [hst', if_neg Bool.false_ne_true]

theorem exec_captureComplete {s : State} (p : Fin 8) (t : Time) (cap : Capture) (ha : s.alive = true) (hon : s.dev.on domWAVE = true) :
    exec (.captureComplete p t cap) s = .next (s.tidied (fun _ => s.dev.captureDone p.val t cap)) :=
  congrArg _ ((State.live_pos ha _).trans ((if_pos hon).trans (State.tidied_const _ _)))

/-- Settles O22: the record enters by `Dev.storeSeg_entered`, and the plate goes on by `Dev.captureEnd_facts`. -/
theorem completedSegmentsEnterTheBuffer : Obligations.CompletedSegmentsEnterTheBuffer := by
  unfold Obligations.CompletedSegmentsEnterTheBuffer
  intro s p t cap ha hon
  dsimp only
  refine ⟨fun g hc hs hstr hf hm hr => ?_, fun g rest hc hcut hm hr => ?_, fun hc hs => ?_⟩
  · generalize hb : (s.dev.at t).setPlt p.val { s.dev.plt p.val with seg := none } = b
    have hform : b.form p.val = s.dev.form p.val := by
      rw [← hb, Dev.form_setPlt (by rw [Dev.at_plt]) (by rw [Dev.at_plt]), Dev.at_form]
    have hent := Dev.storeSeg_entered (d := b) (by rw [hform]) (.inl hf) hm hr
    have hbp : b.plt p.val = { s.dev.plt p.val with seg := none } := hb ▸ Dev.plt_setPlt _ _ _
    have hbr : ∀ o, b.rd o = s.dev.rd o := fun o => hb ▸ s.dev.at_rd t o
    have hbq : ∀ q, q ≠ p.val → b.plt q = s.dev.plt q := fun q h => hb ▸ (Dev.plt_setPlt_ne _ _ h).trans (s.dev.at_plt t q)
    have hbe : b.evt = s.dev.evt := hb ▸ s.dev.at_evt t
    have hdone := Dev.captureDone_segment (t := t) (cap := cap) hc hs
    rw [hb] at hdone
    generalize b.storeSeg p.val g cap = e at hent hdone
    have hes : e.isStream p.val = false := (congrArg (bit · 2) ((hent.regs _ (by unfold Reg.PLT_CTL Reg.PLT_SEQ; omega)).trans (hbr _))).trans hstr
    obtain ⟨o, hep, hoseq, hodone, hoslot, hoaddr, hodata, holen⟩ := hent.buf
    obtain ⟨hrd, hq, hevt, hbuf, hseg, hsince, hst⟩ := Dev.captureEnd_facts (t := t) (d := e) (p := p.val) (by rw [hep, hbp]; exact hc)
    refine ⟨e.captureEnd p.val t, by rw [exec_captureComplete p t cap ha hon, hdone hes], ⟨?_, fun o ho => ?_, ⟨o, ?_⟩, fun q h => ?_, ?_⟩,
      ?_, hst, hsince⟩
    · rw [hrd, hent.number, hbr, word_toNat_succ]
    · rw [hrd, hent.regs o ho, hbr]
    · rw [hbuf, hep, hbp]
      rw [hbp] at hoslot hoaddr
      rw [hbr] at hoseq hoslot
      exact ⟨rfl, hoseq, hodone, hoslot, hoaddr, hodata, holen⟩
    · rw [hq q h, hent.others q h, hbq q h]
    · rw [hevt, hent.evt, hbe]
    · rw [hseg, hep, hbp]
  · generalize hb : s.dev.setPlt p.val { s.dev.plt p.val with closing := rest } = b
    have hform : b.form p.val = s.dev.form p.val := by
      rw [← hb]
      exact Dev.form_setPlt rfl rfl
    have hent := Dev.storeSeg_entered (d := b) (by rw [hform]) (.inr hcut) hm hr
    have hbp : b.plt p.val = { s.dev.plt p.val with closing := rest } := hb ▸ Dev.plt_setPlt _ _ _
    have hbr : ∀ o, b.rd o = s.dev.rd o := fun o => hb ▸ rfl
    have hbq : ∀ q, q ≠ p.val → b.plt q = s.dev.plt q := fun q h => hb ▸ Dev.plt_setPlt_ne _ _ h
    have hbe : b.evt = s.dev.evt := hb ▸ rfl
    have hdone := Dev.captureDone_closing (t := t) (cap := cap) hc
    rw [hb] at hdone
    generalize b.storeSeg p.val g cap = e at hent hdone
    obtain ⟨o, hep, hoseq, hodone, hoslot, hoaddr, hodata, holen⟩ := hent.buf
    rw [hbp] at hep hoslot hoaddr
    rw [hbr] at hoseq hoslot
    refine ⟨e, by rw [exec_captureComplete p t cap ha hon, hdone], ⟨?_, fun o ho => ?_, ⟨o, ?_⟩, fun q h => ?_, ?_⟩, ?_⟩
    · rw [hent.number, hbr, word_toNat_succ]
    · rw [hent.regs o ho, hbr]
    · rw [hep]
      exact ⟨rfl, hoseq, hodone, hoslot, hoaddr, hodata, holen⟩
    · rw [hent.others q h, hbq q h]
    · rw [hent.evt, hbe]
    · rw [hep]
      exact ⟨rfl, rfl, rfl, rfl⟩
  · rw [exec_captureComplete p t cap ha hon, Dev.captureDone_none hc hs]
    exact congrArg _ (State.tidied_const id s).symm

/-! ## The drain to LPDDR4X (R208, R214, R216) -/

/-- Pausing an activity leaves the plates and memory alone. -/
@[simp] theorem Dev.pause_wave (a : Nat) (d : Dev) : (d.pause a).wave = d.wave := by
  unfold Dev.pause Dev.raiseIf
  dsimp only
  split
  · rfl
  · split
    · exact Dev.raise_wave _ _
    · rfl

/-- A unit that fits is charged; one that does not pauses its activity. -/
theorem Dev.spend_fits {a n : Nat} {d : Dev} (h : d.fits a n = true) : d.spend a n = (true, d.charge a n) := if_pos h
theorem Dev.spend_over {a n : Nat} {d : Dev} (h : d.fits a n = false) : d.spend a n = (false, d.pause a) := if_neg (by simp [h])

@[simp] theorem Dev.spend_wave (a n : Nat) (d : Dev) : (d.spend a n).2.wave = d.wave := by
  unfold Dev.spend
  split
  · rfl
  · exact Dev.pause_wave a d

/-- Memory holds what it held outside addresses `lo` to `hi`. -/
def Memory.SameOutside (lo hi : Nat) (m n : List Host.Cell) : Prop := ∀ a, a < lo ∨ hi ≤ a → Memory.read n a = Memory.read m a

theorem Memory.SameOutside.trans {lo hi : Nat} {l m n : List Host.Cell} (h : Memory.SameOutside lo hi l m)
    (k : Memory.SameOutside lo hi m n) : Memory.SameOutside lo hi l n := fun a ha => (k a ha).trans (h a ha)

theorem Memory.SameOutside.mono {lo hi lo' hi' : Nat} {m n : List Host.Cell} (h : Memory.SameOutside lo hi m n) (h1 : lo' ≤ lo)
    (h2 : hi ≤ hi') : Memory.SameOutside lo' hi' m n := fun a ha => h a (by omega)

theorem Dev.memPut_sameOutside {a lo hi : Nat} {bs : List Byte} {d : Dev} (h1 : lo ≤ a) (h2 : a + bs.length ≤ hi) :
    Memory.SameOutside lo hi d.wave.mem.cells (d.memPut a bs).wave.mem.cells :=
  fun _ hc => Memory.read_writeBytes_out bs _ a (by omega)

/-- The data bursts of a segment stay within its data; the segment keeps its address and its bytes. -/
theorem Dev.drainData_writes (fuel p : Nat) (o : Out) (d : Dev) :
    Memory.SameOutside (o.addr + 64) (o.addr + 64 + o.data.length) d.wave.mem.cells (Dev.drainData fuel p o d).2.2.wave.mem.cells := by
  induction fuel generalizing o d with
  | zero => exact fun _ _ => rfl
  | succ n ih =>
    unfold Dev.drainData
    split
    · exact fun _ _ => rfl
    · rename_i hleft
      dsimp only
      split
      · refine .trans (m := ((d.spend actDRAIN 64).2.memPut (o.addr + 64 + o.done) ((o.data.drop o.done).take 64)).wave.mem.cells) ?_
          (ih { o with done := o.done + 64 } _)
        rw [← Dev.spend_wave actDRAIN 64 d]
        refine Dev.memPut_sameOutside (by omega) ?_
        rw [List.length_take, List.length_drop]
        omega
      · rw [Dev.spend_wave]
        exact fun _ _ => rfl

theorem Dev.drainData_done {fuel p : Nat} {o : Out} {d : Dev} (h : o.data.length ≤ o.done) :
    Dev.drainData (fuel + 1) p o d = (true, o, d) := by
  unfold Dev.drainData
  exact if_pos h

theorem blindHead_length (blind : Bool) (head : List Byte) : (blindHead blind head).length = head.length := by
  unfold blindHead
  split
  · exact setAt_length _ _ _
  · rfl

/-- The head block of the oldest segment is written and the segment leaves the buffer. -/
def Dev.headWritten (p : Nat) (blind : Bool) (o : Out) (rest : List Out) (d : Dev) : Dev :=
  let d := ((d.memPut o.addr (blindHead blind o.head)).inc (Reg.PLT_SEG_COMMIT p))
  let d := d.setPlt p { d.plt p with buf := rest }
  let d := d.setPlt p { d.plt p with blind := false, slots := tabPut 0 (d.plt p).slots o.slot (o.seq + 1) }
  d.raiseIf o.last (Ev.PLT_ACQ_DONE p)

/-- The oldest segment of the capture buffer goes as far as the budget allows. -/
theorem Dev.segCommit_eq {p : Nat} {o : Out} {rest : List Out} {d : Dev} (hb : (d.plt p).buf = o :: rest) (hr : d.wave.mem.ready = true)
    (hm : d.on domMEM = true) (hs : d.slotBusy p o.slot = false) :
    let r := Dev.drainData (o.data.length / 64 + 1) p o d
    let h := r.2.2.spend actDRAIN 64
    d.segCommit p = if r.1 = false then r.2.2.setPlt p { r.2.2.plt p with buf := r.2.1 :: rest }
      else if h.1 = false then h.2.setPlt p { h.2.plt p with buf := r.2.1 :: rest }
      else h.2.headWritten p (d.plt p).blind o rest := by
  unfold Dev.segCommit Dev.headWritten
  dsimp only
  rw [hb]
  dsimp only
  rw [if_neg (by simp [hr, hm, hs])]
  refine if_congr (by simp) ?_ (if_congr (by simp) ?_ ?_) <;> with_reducible rfl

theorem Dev.segCommit_busy {p : Nat} {o : Out} {rest : List Out} {d : Dev} (hb : (d.plt p).buf = o :: rest)
    (hs : d.slotBusy p o.slot = true) : d.segCommit p = d := by
  unfold Dev.segCommit
  dsimp only
  rw [hb]
  exact if_pos (by simp [hs])

theorem exec_segmentCommit {s : State} (p : Fin 8) (ha : s.alive = true) (hon : s.dev.on domWAVE = true) :
    exec (.segmentCommit p) s = .next (s.tidied (fun _ => s.dev.segCommit p.val)) :=
  congrArg _ ((State.live_pos ha _).trans ((if_pos hon).trans (State.tidied_const _ _)))

theorem Dev.headWritten_mem (p : Nat) (blind : Bool) (o : Out) (rest : List Out) (d : Dev) :
    (d.headWritten p blind o rest).wave.mem = (d.memPut o.addr (blindHead blind o.head)).wave.mem := by
  unfold Dev.headWritten Dev.raiseIf
  dsimp only
  split
  · rw [Dev.raise_wave]
    rfl
  · rfl

/-- No commit writes outside the segment's slot. -/
theorem Dev.segCommit_sameOutside {p : Nat} {o : Out} {rest : List Out} {d : Dev} (hb : (d.plt p).buf = o :: rest)
    (hr : d.wave.mem.ready = true) (hm : d.on domMEM = true) :
    Memory.SameOutside o.addr (max (o.addr + o.head.length) (o.addr + 64 + o.data.length)) d.wave.mem.cells (d.segCommit p).wave.mem.cells := by
  cases hs : d.slotBusy p o.slot with
  | true =>
    rw [Dev.segCommit_busy hb hs]
    exact fun _ _ => rfl
  | false =>
    have hdata := (Dev.drainData_writes (o.data.length / 64 + 1) p o d).mono (Nat.le_add_right o.addr 64)
      (Nat.le_max_right (o.addr + o.head.length) _)
    rw [Dev.segCommit_eq hb hr hm hs]
    dsimp only
    generalize Dev.drainData (o.data.length / 64 + 1) p o d = r at hdata ⊢
    split
    · exact hdata
    · split
      · refine hdata.trans ?_
        rw [← Dev.spend_wave actDRAIN 64 r.2.2]
        exact fun _ _ => rfl
      · refine hdata.trans ?_
        rw [Dev.headWritten_mem, ← Dev.spend_wave actDRAIN 64 r.2.2]
        exact Dev.memPut_sameOutside (Nat.le_refl _) (by rw [blindHead_length]; exact Nat.le_max_left _ _)

/-- With its data written, a segment's commit turns on its head block alone. -/
theorem Dev.segCommit_head {p : Nat} {o : Out} {rest : List Out} {d : Dev} (hb : (d.plt p).buf = o :: rest)
    (hr : d.wave.mem.ready = true) (hm : d.on domMEM = true) (hs : d.slotBusy p o.slot = false) (hdone : o.data.length ≤ o.done) :
    d.segCommit p = if d.fits actDRAIN 64 = false then (d.pause actDRAIN).setPlt p { (d.pause actDRAIN).plt p with buf := o :: rest }
      else (d.charge actDRAIN 64).headWritten p (d.plt p).blind o rest := by
  rw [Dev.segCommit_eq hb hr hm hs, Dev.drainData_done hdone]
  dsimp only
  rw [if_neg (by decide)]
  cases hf : d.fits actDRAIN 64 with
  | true =>
    rw [Dev.spend_fits hf, if_neg (by simp), if_neg (by simp)]
  | false =>
    rw [Dev.spend_over hf, if_pos rfl, if_pos rfl]

/-- What a head block that is not the last of its acquisition leaves. -/
theorem Dev.headWritten_facts {p : Nat} {blind : Bool} {o : Out} {rest : List Out} {d : Dev} (h : o.last = false) :
    let e := d.headWritten p blind o rest
    e.plt p = { d.plt p with buf := rest, blind := false, slots := tabPut 0 (d.plt p).slots o.slot (o.seq + 1) }
      ∧ (∀ q, q ≠ p → e.plt q = d.plt q) ∧ e.evt = d.evt
      ∧ e.rd (Reg.PLT_SEG_COMMIT p) = satInc (d.rd (Reg.PLT_SEG_COMMIT p))
      ∧ ∀ k, k ≠ Reg.PLT_SEG_COMMIT p → e.rd k = d.rd k := by
  unfold Dev.headWritten
  rw [h]
  generalize hg : (d.memPut o.addr (blindHead blind o.head)).inc (Reg.PLT_SEG_COMMIT p) = g
  have hgp (q : Nat) : g.plt q = d.plt q := hg ▸ rfl
  have hevt : g.evt = d.evt := hg ▸ rfl
  have hsame : g.rd (Reg.PLT_SEG_COMMIT p) = satInc (d.rd (Reg.PLT_SEG_COMMIT p)) := hg ▸ Dev.rd_inc_same _ _
  have hne (k : Nat) (hk : k ≠ Reg.PLT_SEG_COMMIT p) : g.rd k = d.rd k := hg ▸ Dev.rd_wr_ne _ _ hk.symm
  refine ⟨?_, fun q hq => ?_, hevt, hsame, hne⟩
  · refine (Dev.plt_setPlt _ _ _).trans ?_
    rw [Dev.plt_setPlt, hgp]
  · exact (Dev.plt_setPlt_ne _ _ hq).trans ((Dev.plt_setPlt_ne _ _ hq).trans (hgp q))

/-- A pause counts in registers of its own. -/
theorem Dev.pause_rd_ne {a o : Nat} (d : Dev) (ha : a < 9) (h1 : o ≠ Reg.BIT_PAUSE_CNT a) (h2 : o ≠ evtRawOff (Ev.BIT_PAUSE a)) :
    (d.pause a).rd o = d.rd o := by
  unfold Dev.pause Dev.raiseIf
  dsimp only
  split
  · rfl
  · split
    · exact (Dev.rd_raise_ne _ (by unfold Ev.BIT_PAUSE; omega) h2).trans (Dev.rd_wr_ne _ _ h1.symm)
    · exact Dev.rd_wr_ne _ _ h1.symm

/-- Settles O23: what is written where by `Dev.segCommit_sameOutside`, the head block by `Dev.segCommit_head`. -/
theorem commitsWriteDataBeforeTheHead : Obligations.CommitsWriteDataBeforeTheHead := by
  unfold Obligations.CommitsWriteDataBeforeTheHead
  intro s p ha hon
  have hexec := exec_segmentCommit p ha hon
  dsimp only
  refine ⟨fun o rest hb hr hm => ⟨⟨_, hexec, fun a h => ?_⟩, fun hs => ?_, fun hs hdone hfit hlast => ⟨_, hexec, ?_⟩,
    fun hdone hfit => ⟨_, hexec, ?_⟩⟩, fun hb => ?_⟩
  · exact Dev.segCommit_sameOutside hb hr hm a (by omega)
  · rw [hexec, Dev.segCommit_busy hb hs]
    exact congrArg _ (State.tidied_const id s).symm
  · rw [Dev.segCommit_head hb hr hm hs hdone, if_neg (by simp [hfit])]
    obtain ⟨hplt, hq, hevt, hcommit, hrest⟩ := Dev.headWritten_facts (p := p.val) (blind := (s.dev.plt p.val).blind) (rest := rest)
      (d := s.dev.charge actDRAIN 64) hlast
    have hmem := congrArg (fun m : Mem => m.cells) (Dev.headWritten_mem p.val (s.dev.plt p.val).blind o rest (s.dev.charge actDRAIN 64))
    have hne : Reg.BIT_METER actDRAIN ≠ Reg.PLT_SEG_COMMIT p.val := by
      unfold Reg.BIT_METER Reg.PLT_SEG_COMMIT actDRAIN
      omega
    rw [hplt, hcommit, hrest _ hne]
    refine ⟨rfl, rfl, fun i hi => ?_, ?_, Dev.rd_wr_same _ _ _, ?_, rfl, hq, hevt⟩
    · refine (congrArg (Memory.read · (o.addr + i)) hmem).trans ?_
      exact Memory.read_writeBytes_in _ _ _ (by rw [blindHead_length]; exact hi)
    · exact congrArg satInc (Dev.rd_wr_ne _ _ hne)
    · exact tabGet_put_same 0 (s.dev.plt p.val).slots o.slot (o.seq + 1)
  · cases hs : s.dev.slotBusy p.val o.slot with
    | true =>
      rw [Dev.segCommit_busy hb hs]
      exact ⟨rfl, rfl, rfl⟩
    | false =>
      rw [Dev.segCommit_head hb hr hm hs hdone, if_pos hfit, Dev.plt_setPlt]
      refine ⟨hb.symm, (congrArg Wave.mem (Dev.pause_wave actDRAIN s.dev) :), Dev.pause_rd_ne s.dev (a := actDRAIN) (by decide) ?_ ?_⟩
      · unfold Reg.PLT_SEG_COMMIT Reg.BIT_PAUSE_CNT actDRAIN
        omega
      · unfold Reg.PLT_SEG_COMMIT evtRawOff Reg.DSC_EVT_RAW
        omega
  · have hnone : s.dev.segCommit p.val = s.dev := by
      unfold Dev.segCommit
      dsimp only
      rw [hb]
    rw [hexec, hnone]
    exact congrArg _ (State.tidied_const id s).symm

end Sys2Proof.Machine
end

section
/-! AUX ranging, cascade triggers and LPDDR4X training (07 R193, R194, R197, R210, R220, R221; 13 R386, R387). -/
namespace Sys2Proof.Machine

/-! ## AUX inputs that range themselves (R193, R194) -/

theorem exec_auxAutorange {s : State} (k : Fin 16) (t : Time) (xs : List (Int × Nat)) (ha : s.alive = true)
    (hon : s.dev.on domWAVE = true) : exec (.auxAutorange k t xs) s = .next { s with dev := s.dev.auxAuto k t xs } :=
  congrArg _ (State.inDom_pos ha hon _)

@[simp] theorem Dev.at_auxRange (d : Dev) (t : Time) (k : Nat) : (d.at t).auxRange k = d.auxRange k := by
  unfold Dev.at
  split <;> rfl

/-- One run of equal codes. -/
theorem Dev.auxAuto_run {k n : Nat} {t : Time} {code : Int} {d : Dev} (hon : d.on domWAVE = true)
    (hc : bit (d.rd (auxCtlOff k)) 2 = true) :
    d.auxAuto k t [(code, n)] = (Dev.auxCount k code 3 t n d).at (t + n * d.auxTs k) := by
  unfold Dev.auxAuto
  exact if_neg (by simp [hon, Dev.b, hc])

/-- What ranging changes: ranges and counts, and what the plates note of them. -/
structure Dev.AuxOnly (k : Nat) (d e : Dev) : Prop where
  others : ∀ j, j ≠ k → e.auxRange j = d.auxRange j
  regs : e.regs = d.regs
  evt : e.evt = d.evt

/-- What the plates keep of a range change. -/
theorem Dev.tapRange_plates (src old new : Nat) (tap : Bool) (t : Time) (d : Dev) :
    d.tapRange src old new tap t = { d with wave := { d.wave with plt := (d.tapRange src old new tap t).wave.plt } } := by
  refine foldl_rel (fun d e : Dev => e = { d with wave := { d.wave with plt := e.wave.plt } }) (fun _ => rfl)
    (fun h k => by rw [k, h]) (fun d x _ => ?_) d
  unfold Dev.pltMark
  dsimp only
  split <;> rfl

/-- A change of range restarts the counts. -/
theorem Dev.setAux_facts {k r : Nat} {t : Time} {d : Dev} (h : d.auxRange k ≠ r) : (d.setAux k r t).auxRange k = r
    ∧ tabGet (0, 0) (d.setAux k r t).wave.auxRun k = (0, 0) ∧ d.AuxOnly k (d.setAux k r t) := by
  unfold Dev.setAux
  dsimp only
  rw [if_neg h, Dev.tapRange_plates]
  refine ⟨tabGet_put_same _ _ _ _, ?_, fun j hj => tabGet_put_ne _ _ _ hj.symm, rfl, rfl⟩
  dsimp only
  unfold tabGet
  rw [tabFind_erase_same]
  rfl

/-- An empty rest of a run leaves ranges and counts. -/
theorem Dev.auxCount_zero (k fuel : Nat) (code : Int) (t : Time) (d : Dev) :
    Dev.auxCount k code (fuel + 1) t 0 d
      = { d with wave := { d.wave with auxRun := tabPut (0, 0) d.wave.auxRun k (tabGet (0, 0) d.wave.auxRun k) } } := by
  unfold Dev.auxCount
  dsimp only
  refine (if_neg fun h => ?_).trans rfl
  have := of_decide_eq_true (Bool.and_eq_true_iff.mp h).2
  omega

/-- A step of the range that ends a run. -/
theorem Dev.setAux_counted {k r fuel : Nat} {t : Time} {code : Int} {d : Dev} (h : d.auxRange k ≠ r) :
    let e := Dev.auxCount k code (fuel + 1) t 0 (d.setAux k r t)
    e.auxRange k = r ∧ tabGet (0, 0) e.wave.auxRun k = (0, 0) ∧ d.AuxOnly k e := by
  obtain ⟨hrange, hrun, hothers, hregs, hevt⟩ := Dev.setAux_facts (t := t) h
  dsimp only
  rw [Dev.auxCount_zero]
  exact ⟨hrange, (tabGet_put_same _ _ _ _).trans hrun, hothers, hregs, hevt⟩

/-- A range that AR_MIN to AR_MAX allow. -/
def auxMay (c : Word) (m : Nat) : Prop := fld c 4 3 ≤ m ∧ m ≤ min 2 (fld c 6 5)

/-- The codes that complete the count of clipped codes, and of quiet ones. -/
def Dev.auxUp (d : Dev) (k : Nat) : Nat :=
  max 1 (max 1 (fld (d.rd (auxCtlOff k)) 11 8) - (tabGet (0, 0) d.wave.auxRun k).1)
def Dev.auxDown (d : Dev) (k : Nat) : Nat :=
  max 1 (2 ^ (max 4 (min 24 (fld (d.rd (auxCtlOff k)) 16 12))) - (tabGet (0, 0) d.wave.auxRun k).2)

/-- Clipped codes that complete their count step the range up. -/
theorem Dev.auxCount_up {k n fuel : Nat} {t : Time} {code : Int} {d : Dev} (hc : 480 ≤ code.natAbs)
    (hm : auxMay (d.rd (auxCtlOff k)) (d.auxRange k + 1)) (hn : n = d.auxUp k) :
    Dev.auxCount k code (fuel + 1) t n d
      = Dev.auxCount k code fuel (t + n * d.auxTs k) 0 (d.setAux k (d.auxRange k + 1) (t + n * d.auxTs k)) := by
  obtain ⟨hlo, hhi⟩ := hm
  have hneed : max 1 (max 1 (fld (d.rd (auxCtlOff k)) 11 8) - (tabGet (0, 0) d.wave.auxRun k).1) = n := hn.symm
  conv_lhs => unfold Dev.auxCount
  simp only [hc, decide_true, if_true, hneed, hlo, hhi, and_self, Bool.and_self, le_refl, Nat.sub_self]

/-- Quiet codes that complete their count step the range down. -/
theorem Dev.auxCount_down {k n fuel : Nat} {t : Time} {code : Int} {d : Dev} (hq : code.natAbs < 96) (hr : 0 < d.auxRange k)
    (hm : auxMay (d.rd (auxCtlOff k)) (d.auxRange k - 1)) (hn : n = d.auxDown k) :
    Dev.auxCount k code (fuel + 1) t n d
      = Dev.auxCount k code fuel (t + n * d.auxTs k) 0 (d.setAux k (d.auxRange k - 1) (t + n * d.auxTs k)) := by
  obtain ⟨hlo, hhi⟩ := hm
  have hclip : ¬ 480 ≤ code.natAbs := by omega
  have hneed : max 1 (2 ^ (max 4 (min 24 (fld (d.rd (auxCtlOff k)) 16 12))) - (tabGet (0, 0) d.wave.auxRun k).2) = n := hn.symm
  conv_lhs => unfold Dev.auxCount
  simp only [hclip, hq, hr, decide_true, decide_false, if_false, Bool.false_eq_true, hneed, hlo, hhi, and_self, Bool.and_self,
    le_refl, Nat.sub_self, if_true]

/-- The counts of an input after `n` codes more. -/
def auxCounted (code : Int) (n : Nat) (was : Nat × Nat) : Nat × Nat :=
  (if 480 ≤ code.natAbs then was.1 + n else 0, if code.natAbs < 96 then was.2 + n else 0)

/-- The device with `n` codes more in the counts of an input. -/
def Dev.auxCounts (k n : Nat) (code : Int) (d : Dev) : Dev :=
  { d with wave := { d.wave with
      auxRun := tabPut (0, 0) d.wave.auxRun k (auxCounted code n (tabGet (0, 0) d.wave.auxRun k)) } }

/-- A run that completes no count that may step is counted. -/
theorem Dev.auxCount_counts {k n fuel : Nat} {t : Time} {code : Int} {d : Dev} (hn : 0 < n)
    (hup : 480 ≤ code.natAbs → ¬ auxMay (d.rd (auxCtlOff k)) (d.auxRange k + 1) ∨ n < d.auxUp k)
    (hdown : code.natAbs < 96 → d.auxRange k = 0 ∨ ¬ auxMay (d.rd (auxCtlOff k)) (d.auxRange k - 1) ∨ n < d.auxDown k) :
    Dev.auxCount k code (fuel + 1) t n d = d.auxCounts k n code := by
  unfold Dev.auxUp auxMay at hup
  unfold Dev.auxDown auxMay at hdown
  unfold Dev.auxCount
  dsimp only
  rw [if_neg, if_neg (by omega : ¬ n = 0)]
  · simp only [decide_eq_true_eq]
    rfl
  · simp only [Bool.and_eq_true, decide_eq_true_eq]
    by_cases hc : 480 ≤ code.natAbs
    · have := hup hc
      simp only [hc, if_true, decide_eq_true_eq]
      omega
    · by_cases hq : code.natAbs < 96
      · have := hdown hq
        simp only [hc, hq, if_false, decide_true, decide_eq_true_eq, Bool.true_and]
        omega
      · simp [hc, hq]

/-- What a run of codes at an input that ranges itself leaves once its range has stepped. -/
theorem Dev.auxAuto_steps {k n r : Nat} {t : Time} {code : Int} {d : Dev} (hon : d.on domWAVE = true)
    (hc : bit (d.rd (auxCtlOff k)) 2 = true) (hr : d.auxRange k ≠ r)
    (h : Dev.auxCount k code 3 t n d = Dev.auxCount k code 2 (t + n * d.auxTs k) 0 (d.setAux k r (t + n * d.auxTs k))) :
    (d.auxAuto k t [(code, n)]).auxRange k = r ∧ tabGet (0, 0) (d.auxAuto k t [(code, n)]).wave.auxRun k = (0, 0)
      ∧ d.AuxOnly k (d.auxAuto k t [(code, n)]) := by
  rw [Dev.auxAuto_run hon hc, h]
  obtain ⟨hrange, hrun, hothers, hregs, hevt⟩ := Dev.setAux_counted (fuel := 1) (t := t + n * d.auxTs k) (code := code) hr
  refine ⟨(Dev.at_auxRange _ _ _).trans hrange, (congrArg (fun w : Wave => tabGet (0, 0) w.auxRun k) (Dev.at_wave _ _)).trans hrun,
    fun j hj => (Dev.at_auxRange _ _ _).trans (hothers j hj), (Dev.at_regs _ _).trans hregs, (Dev.at_evt _ _).trans hevt⟩

/-! ## Cascade triggers (R197, R210; 13 R386, R387) -/

/-- The TRIG message of a plate of a sender. -/
def trigMsg (pos plate : Nat) (dt : Time) : CascMsg := { typ := 6, pos := pos, plate := plate, arg := 0, dt := dt, payload := 0 }

theorem exec_cascTrigMessage {s : State} (pos : Fin 16) (plate : Fin 8) (dt t : Time) (up crc : Bool) (ha : s.alive = true)
    (hc : s.dev.on domCORE = true) :
    exec (.cascTrigMessage pos plate dt t up crc) s = .next { s with dev := s.dev.cascTrig pos plate dt t up crc } :=
  congrArg _ (State.inDom_pos ha hc _)

/-- The triggers that wait at a plate with one more, in order of its time. -/
def Plt.waits (who : Nat) (dt : Time) (x : Plt) : Plt :=
  { x with casc := insBy (fun a b => decide (a.1 < b.1)) (dt, who) x.casc }

/-- An early trigger waits at every plate that selects it, and at no other. -/
def Dev.Heard (who : Nat) (dt : Time) (d e : Dev) : Prop :=
  ∀ p : Fin 8, e.plt p = if d.cascPicks p who = true then (d.plt p).waits who dt else d.plt p

/-- What acting on an early trigger leaves alone. -/
def Dev.SameButPlates (d e : Dev) : Prop := e = { d with wave := e.wave }

/-- Whether a plate selects a sender reads its trigger control and its segment alone. -/
theorem Dev.cascPicks_congr {d e : Dev} {p who : Nat} (hr : e.rd (Reg.PLT_TRG_CTL p) = d.rd (Reg.PLT_TRG_CTL p))
    (hp : e.plt p = d.plt p) : e.cascPicks p who = d.cascPicks p who := by
  unfold Dev.cascPicks
  rw [hr, hp]

/-- One plate's turn with an early trigger. -/
def Dev.heardAt (who : Nat) (dt : Time) (d : Dev) (p : Nat) : Dev :=
  if d.cascPicks p who then d.setPlt p ((d.plt p).waits who dt) else d

theorem Dev.heardAt_plt (who : Nat) (dt : Time) (d : Dev) (p : Nat) :
    (d.heardAt who dt p).plt p = if d.cascPicks p who = true then (d.plt p).waits who dt else d.plt p := by
  unfold Dev.heardAt
  split
  · exact Dev.plt_setPlt _ _ _
  · rfl

theorem Dev.heardAt_plt_ne (who : Nat) (dt : Time) (d : Dev) {p q : Nat} (h : q ≠ p) :
    (d.heardAt who dt p).plt q = d.plt q := by
  unfold Dev.heardAt
  split
  · exact Dev.plt_setPlt_ne _ _ h
  · rfl

theorem Dev.heardAt_same (who : Nat) (dt : Time) (d : Dev) (p : Nat) : d.SameButPlates (d.heardAt who dt p) := by
  unfold Dev.heardAt
  split <;> rfl

theorem Dev.SameButPlates.trans {d e g : Dev} (h : d.SameButPlates e) (k : e.SameButPlates g) : d.SameButPlates g := by
  unfold Dev.SameButPlates at *
  rw [k, h]

theorem Dev.SameButPlates.regs {d e : Dev} (h : d.SameButPlates e) : e.regs = d.regs := by rw [show e = _ from h]
theorem Dev.SameButPlates.evt {d e : Dev} (h : d.SameButPlates e) : e.evt = d.evt := by rw [show e = _ from h]
theorem Dev.SameButPlates.mdv {d e : Dev} (h : d.SameButPlates e) : e.mdv = d.mdv := by rw [show e = _ from h]

/-- An early trigger acts at each plate in turn. -/
theorem Dev.cascTrigAct_early {who : Nat} {dt t : Time} {d : Dev} (hw : d.on domWAVE = true) (h : t < dt) :
    d.cascTrigAct who dt t = (List.range 8).foldl (Dev.heardAt who dt) (d.at t) := by
  have hstep : ∀ p e, (if Dev.cascPicks e p who = true then Dev.cascTrigPlate p who dt t e else e) = Dev.heardAt who dt e p :=
    fun p e => by
      unfold Dev.heardAt Dev.cascTrigPlate
      rw [if_pos h]
      rfl
  unfold Dev.cascTrigAct forN
  rw [if_neg (by simp [hw])]
  exact congrArg (fun f => (List.range 8).foldl f (d.at t)) (funext fun e => funext fun p => hstep p e)

/-- The plates hear an early trigger, which touches them and device time alone. -/
theorem Dev.cascTrigAct_heard {who : Nat} {dt t : Time} {d : Dev} (hw : d.on domWAVE = true) (h : t < dt) :
    d.Heard who dt (d.cascTrigAct who dt t) ∧ (d.at t).SameButPlates (d.cascTrigAct who dt t) := by
  rw [Dev.cascTrigAct_early hw h]
  refine ⟨fun p => ?_, foldl_rel Dev.SameButPlates (fun _ => rfl) Dev.SameButPlates.trans
    (fun e q _ => e.heardAt_same who dt q) (d.at t)⟩
  obtain ⟨e, he, hp, hlast⟩ := foldl_own_turn (f := Dev.heardAt who dt) Dev.SameButPlates (fun _ => rfl) Dev.SameButPlates.trans
    Dev.plt (fun e q _ => e.heardAt_same who dt q) (fun e q _ r hr => e.heardAt_plt_ne who dt hr) List.nodup_range
    (List.mem_range.mpr p.isLt) (d.at t)
  have hpd : e.plt p = d.plt p := hp.trans (Dev.at_plt d t p)
  have hrd : e.rd (Reg.PLT_TRG_CTL p) = d.rd (Reg.PLT_TRG_CTL p) := by
    rw [show e = { d.at t with wave := e.wave } from he]
    exact Dev.at_rd d t _
  rw [hlast, Dev.heardAt_plt, Dev.cascPicks_congr hrd hpd, hpd]

theorem Dev.Heard.congr {who : Nat} {dt : Time} {d m e : Dev} (h : m.Heard who dt e)
    (hr : ∀ p < 8, m.rd (Reg.PLT_TRG_CTL p) = d.rd (Reg.PLT_TRG_CTL p)) (hw : m.wave = d.wave) : d.Heard who dt e := fun p => by
  have hp : m.plt p = d.plt p := congrArg (fun w : Wave => tabGet ({} : Plt) w.plt p) hw
  rw [h p, Dev.cascPicks_congr (hr p p.isLt) hp, hp]

/-- A good TRIG message is repeated and acted on in its direction. -/
theorem Dev.cascTrig_good (pos plate : Nat) (dt t : Time) (up : Bool) (d : Dev) :
    d.cascTrig pos plate dt t up true = (fun d : Dev => if !d.cascOn then d
      else if d.cascRole = 2 then
        (if up then (d.cascPut (trigMsg pos plate dt) true).cascTrigAct (plate + 8 * pos) dt t else d)
      else if up then d
      else d.cascTrigAct (plate + 8 * pos) dt t) (d.cascRepeat up (trigMsg pos plate dt) t) := rfl

theorem Dev.cascMember_iff {d : Dev} : d.cascMember = true ↔ d.cascOn = true ∧ d.cascRole = 1 := by
  simp [Dev.cascMember]

/-- A member that drives its transmitters adds the message to the repeated ones, 128 ns after it came. -/
theorem Dev.cascRepeat_rep {up : Bool} {m : CascMsg} {t : Time} {d : Dev} (h : d.cascMember = true) :
    d.cascRepeat up m t = { d with mdv := { d.mdv with rep := (d.cascRepeat up m t).mdv.rep } }
      ∧ (d.cascRepeat up m t).mdv.rep
        = if d.drives then d.mdv.rep ++ [{ dt := t + 131072, up := up, msg := m }] else d.mdv.rep := by
  unfold Dev.cascRepeat
  rw [h, Bool.true_and]
  split
  · exact ⟨rfl, rfl⟩
  · exact ⟨rfl, rfl⟩

/-- A member acts on what comes down, once it has repeated it. -/
theorem Dev.cascTrig_member {pos plate : Nat} {dt t : Time} {up : Bool} {d : Dev} (h : d.cascMember = true) :
    d.cascTrig pos plate dt t up true = if up then d.cascRepeat up (trigMsg pos plate dt) t
      else (d.cascRepeat up (trigMsg pos plate dt) t).cascTrigAct (plate + 8 * pos) dt t := by
  obtain ⟨hon, hrole⟩ := Dev.cascMember_iff.mp h
  rw [Dev.cascTrig_good, Dev.cascRepeat_eq]
  refine (if_neg ?_).trans (if_neg ?_)
  · rw [Bool.not_eq_true', Bool.not_eq_false]
    exact hon
  · exact fun h2 => absurd (hrole.symm.trans h2) (by decide)

/-- The master sends what comes up to it down to all, and acts on it. -/
theorem Dev.cascTrig_master {pos plate : Nat} {dt t : Time} {d : Dev} (hon : d.cascOn = true) (hr : d.cascRole = 2) :
    d.cascTrig pos plate dt t true true
      = (d.cascPut (trigMsg pos plate dt) true).cascTrigAct (plate + 8 * pos) dt t := by
  rw [Dev.cascTrig_good, Dev.cascRepeat_of_not_member _ _ _ (by simp [Dev.cascMember, hr])]
  dsimp only
  rw [if_neg (by simp [hon]), if_pos hr, if_pos rfl]

@[simp] theorem Dev.pause_mdv (a : Nat) (d : Dev) : (d.pause a).mdv = d.mdv := by
  unfold Dev.pause Dev.raiseIf
  dsimp only
  split
  · rfl
  · split
    · exact Dev.raise_mdv _ _
    · rfl

@[simp] theorem Dev.pause_on (a : Nat) (d : Dev) (k : Nat) : (d.pause a).on k = d.on k := by
  unfold Dev.pause Dev.raiseIf
  dsimp only
  split
  · rfl
  · split
    · exact Dev.raise_on _ _ _
    · rfl

/-- A metered message leaves when it fits its budget. -/
theorem Dev.cascPut_fits {m : CascMsg} {d : Dev} (hon : d.cascOn = true) (h : d.fits actCASC 16 = true) :
    d.cascPut m true = (d.charge actCASC 16).cascOut m := by
  unfold Dev.cascPut
  rw [if_neg (by simp [hon]), if_neg (by decide), Dev.spend_fits h]
  exact if_pos rfl

/-- One that does not fit waits, and its activity pauses. -/
theorem Dev.cascPut_over {m : CascMsg} {d : Dev} (hon : d.cascOn = true) (h : d.fits actCASC 16 = false) :
    d.cascPut m true = { d.pause actCASC with mdv := { d.mdv with txWait := d.mdv.txWait ++ [m] } } := by
  unfold Dev.cascPut
  rw [if_neg (by simp [hon]), if_neg (by decide), Dev.spend_over h]
  dsimp only
  rw [if_neg (by decide), Dev.pause_mdv]

/-- Putting a metered message on the lanes leaves the plates, the domains and their trigger controls alone. -/
theorem Dev.cascPut_keeps {m : CascMsg} {d : Dev} (hon : d.cascOn = true) : (d.cascPut m true).wave = d.wave
    ∧ (d.cascPut m true).mdv.rep = d.mdv.rep ∧ (∀ k, (d.cascPut m true).on k = d.on k)
    ∧ ∀ p < 8, (d.cascPut m true).rd (Reg.PLT_TRG_CTL p) = d.rd (Reg.PLT_TRG_CTL p) := by
  have hmeter : ∀ p, Reg.BIT_METER actCASC ≠ Reg.PLT_TRG_CTL p := fun p => by
    unfold Reg.BIT_METER actCASC Reg.PLT_TRG_CTL
    omega
  have hpause : ∀ p, Reg.PLT_TRG_CTL p ≠ Reg.BIT_PAUSE_CNT actCASC := fun p => by
    unfold Reg.BIT_PAUSE_CNT actCASC Reg.PLT_TRG_CTL
    omega
  have hevent : ∀ p, Reg.PLT_TRG_CTL p ≠ evtRawOff (Ev.BIT_PAUSE actCASC) := fun p => by
    unfold evtRawOff Ev.BIT_PAUSE Reg.DSC_EVT_RAW actCASC Reg.PLT_TRG_CTL
    omega
  cases hf : d.fits actCASC 16 with
  | true =>
    rw [Dev.cascPut_fits hon hf, Dev.cascOut_eq]
    exact ⟨rfl, rfl, fun _ => rfl, fun p _ => Dev.rd_wr_ne _ _ (hmeter p)⟩
  | false =>
    rw [Dev.cascPut_over hon hf]
    exact ⟨Dev.pause_wave _ d, rfl, Dev.pause_on _ d, fun p _ => Dev.pause_rd_ne d (by decide) (hpause p) (hevent p)⟩

/-! ## LPDDR4X training (R221) -/

theorem exec_memTrain {s : State} (ha : s.alive = true) : exec .memTrain s = .next { s with dev := s.dev.memTrain } :=
  congrArg _ (State.live_pos ha _)

theorem exec_memTrainFail {s : State} (mask : Nat) (ha : s.alive = true) :
    exec (.memTrainFail mask) s = .next { s with dev := s.dev.memTrainFailed mask } :=
  congrArg _ (State.live_pos ha _)

theorem exec_memTrainDone {s : State} (ha : s.alive = true) :
    exec .memTrainDone s = .next (s.tidied (fun _ => s.dev.memTrainDone)) :=
  congrArg _ ((State.live_pos ha _).trans (State.tidied_const _ _))

/-- Settles O24: counting stops with AR_EN (log 112); which messages are repeated, the CRC operand and the master's sending
down again are the model's (log 76). -/
theorem auxCascadeTriggersAndTraining : Obligations.AuxCascadeTriggersAndTraining := by
  unfold Obligations.AuxCascadeTriggersAndTraining
  intro s ha d
  refine ⟨fun k t code n hon hc hn => ⟨fun hclip hmay hup => ?_, fun hquiet hr hmay hdown => ?_, fun hup hdown => ?_⟩,
    fun k t xs hc => ?_, fun pos plate dt t up hcore hon ht => ⟨fun hmem => ?_, fun hcon hrole hup => ?_⟩,
    fun pos plate dt t up hcore => ⟨fun hoff crc => ?_, fun hcon => ?_⟩, fun hm hcap => ?_, fun hm hcore hcap => ?_, fun hm => ?_,
    fun htr hcore => ⟨?_, fun mask => ?_⟩, fun htr mask => ?_⟩
  · obtain ⟨hrange, hrun, hrest⟩ := Dev.auxAuto_steps hon hc (by omega) (Dev.auxCount_up (t := t) (fuel := 2) hclip hmay hup)
    exact ⟨_, exec_auxAutorange k t _ ha hon, hrange, hrun, hrest.others, hrest.regs, hrest.evt⟩
  · obtain ⟨hrange, hrun, hrest⟩ := Dev.auxAuto_steps hon hc (by omega) (Dev.auxCount_down (t := t) (fuel := 2) hquiet hr hmay hdown)
    exact ⟨_, exec_auxAutorange k t _ ha hon, hrange, hrun, hrest.others, hrest.regs, hrest.evt⟩
  · refine ⟨_, exec_auxAutorange k t _ ha hon, ?_⟩
    rw [Dev.auxAuto_run hon hc, Dev.auxCount_counts hn hup hdown]
    refine ⟨(congrArg (fun w : Wave => tabGet (0, 0) w.auxRun k) (Dev.at_wave _ _)).trans (tabGet_put_same _ _ _ _),
      fun j => Dev.at_auxRange _ _ _, Dev.at_regs _ _, Dev.at_evt _ _⟩
  · show (Host.Outcome.next (s.inDom domWAVE (Dev.auxAuto k t xs)) : Res) = .next s
    refine congrArg _ ?_
    cases hon : s.dev.on domWAVE with
    | false => exact State.inDom_neg hon _
    | true =>
      rw [State.inDom_pos ha hon]
      refine State.onDev_id (if_pos ?_)
      rw [Dev.b, hc, Bool.not_false, Bool.or_true]
  · refine ⟨_, exec_cascTrigMessage pos plate dt t up true ha hcore, ?_⟩
    rw [Dev.cascTrig_member hmem]
    obtain ⟨hdev, hrep⟩ := Dev.cascRepeat_rep (m := trigMsg pos plate dt) (t := t) (up := up) hmem
    cases up with
    | true =>
      rw [if_pos rfl]
      exact ⟨by rw [hdev], by rw [hdev], by rw [hdev], hrep, fun h => absurd h (by decide), fun _ => by rw [hdev]⟩
    | false =>
      rw [if_neg (by decide)]
      generalize hm : d.cascRepeat false (trigMsg pos plate dt) t = m at hdev hrep ⊢
      obtain ⟨hheard, hsame⟩ := Dev.cascTrigAct_heard (d := m) (who := plate + 8 * pos) (t := t) (by rw [hdev]; exact hon) ht
      have hmdv := hsame.mdv.trans (Dev.at_mdv m t)
      refine ⟨hsame.regs.trans ((Dev.at_regs m t).trans (by rw [hdev])), hsame.evt.trans ((Dev.at_evt m t).trans (by rw [hdev])),
        by rw [hmdv, hdev], by rw [hmdv]; exact hrep, fun _ => ?_, fun h => absurd h (by decide)⟩
      exact hheard.congr (fun p _ => by rw [hdev]; rfl) (by rw [hdev])
  · subst hup
    obtain ⟨hwave, hrep, hkeep, htrg⟩ := Dev.cascPut_keeps (m := trigMsg pos plate dt) hcon
    obtain ⟨hheard, hsame⟩ := Dev.cascTrigAct_heard (who := plate + 8 * pos) ((hkeep domWAVE).trans hon) ht
    have hmdv := hsame.mdv.trans (Dev.at_mdv _ t)
    refine ⟨_, exec_cascTrigMessage pos plate dt t true true ha hcore, ?_⟩
    rw [Dev.cascTrig_master hcon hrole, hmdv]
    refine ⟨hheard.congr htrg hwave, hrep, fun hf hd => ?_, fun hf => ?_⟩
    · rw [Dev.cascPut_fits hcon hf, Dev.cascOut_eq]
      exact if_pos hd
    · rw [Dev.cascPut_over hcon hf]
      exact ⟨rfl, rfl⟩
  · rw [exec_cascTrigMessage pos plate dt t up crc ha hcore]
    refine congrArg _ (State.onDev_id ?_)
    have hmem : s.dev.cascMember = false := by
      rw [Dev.cascMember, hoff, Bool.false_and]
    cases crc with
    | false =>
      rw [Dev.cascTrig, Dev.cascReceive_bad, hoff]
      rfl
    | true =>
      rw [Dev.cascTrig_good, Dev.cascRepeat_of_not_member _ _ _ hmem]
      exact if_pos (by rw [hoff, Bool.not_false])
  · rw [exec_cascTrigMessage pos plate dt t up false ha hcore, Dev.cascTrig, Dev.cascReceive_bad, if_pos hcon]
  · obtain ⟨b, hb⟩ := hcap
    rw [exec_memTrain ha, Dev.memTrain, if_neg (by rw [hm]; decide), if_neg (by rw [hb]; exact Bool.false_ne_true)]
    exact ⟨_, rfl, rfl, rfl, rfl, rfl⟩
  · rw [exec_memTrain ha, Dev.memTrain, if_neg (by rw [hm]; decide), if_pos (by rw [hcap]; rfl)]
    exact ⟨_, _, rfl, Dev.raise_noted hcore (by decide), rfl⟩
  · rw [exec_memTrain ha]
    exact congrArg _ (State.onDev_id (if_pos (by rw [hm]; rfl)))
  · rw [exec_memTrainDone ha, Dev.memTrainDone, if_neg (by rw [htr]; decide)]
    exact ⟨_, _, rfl, Dev.raise_noted hcore (by decide), rfl⟩
  · rw [exec_memTrainFail mask ha, Dev.memTrainFailed, if_pos htr]
    exact ⟨_, _, rfl, Dev.raise_noted hcore (by decide), rfl⟩
  · rw [exec_memTrainFail mask ha]
    exact congrArg _ (State.onDev_id (if_neg (by rw [htr]; decide)))

end Sys2Proof.Machine
end

section
/-! Measurements of calibration targets (09 R266, R269, R270, R271). -/
namespace Sys2Proof.Machine

theorem exec_calMeasurementDone {s : State} (id : Nat) (v : List Int) (ha : s.alive = true) (hc : s.dev.on domCORE = true) :
    exec (.calMeasurementDone id v) s = .next (State.revoted (fun _ => { s with dev := s.dev.calMeasured id v }) s) := by
  refine congrArg _ ((State.revoted_const _ s).trans ?_)
  rw [State.inDom_pos ha hc]

/-- A target of the borrowing run that executes waits for the values. -/
structure Dev.Awaits (id : Nat) (v : List Int) (r : CalRun) (t : Target) (d : Dev) : Prop where
  active : d.prf.active = some r
  borrows : kindBorrows r.kind = true
  found : r.todo.find? (fun t => t.id = id) = some t
  length : v.length = kindValues r.kind
  measurable : measurable r.kind t = true
  codes : r.kind ≠ 2 ∨ (countsFull v = true ∧ codePass v = true)

/-- The values of a measurement, with the temperature at its begin. -/
def CalRun.got (r : CalRun) (t : Target) (v : List Int) : List Int × Int × Bool := (if r.kind = 2 then codeTable v else v, t.temp, true)

/-- The run after the first measurement of a target's attempt. -/
def Dev.firstTaken (r : CalRun) (t : Target) (v : List Int) (d : Dev) : Target :=
  if r.kind = 1 then { d.beginTarget r.kind { t with first := some (r.got t v) } with frames := 1 }
  else d.beginTarget r.kind { t with first := some (r.got t v) }

/-- Make a run the one that executes. -/
def Dev.calRuns (r : CalRun) (d : Dev) : Dev := d.modPrf (fun p => { p with active := some r })

/-- A run that borrows spends no engine time. -/
theorem Dev.calSpend_borrows {r : CalRun} {d : Dev} (h : kindBorrows r.kind = true) : (d.calRuns r).calSpend = d.calRuns r := by
  unfold Dev.calSpend Dev.calRuns Dev.modPrf
  dsimp only
  exact if_pos h

/-- The outcome of a target's second measurement. -/
def Dev.judged (r : CalRun) (x : CalRun × List CalItem) (d : Dev) : Dev :=
  let e := d.stage x.2
  let e := if x.1.rejected = r.rejected then e else (e.inc Reg.PRF_REJ_CNT).raiseIf (!r.rejSeen) Ev.CAL_REJECT
  if x.1.todo.isEmpty then e.runDone x.1 false else (e.calRuns x.1).calSpend

/-- What the values of a target that waits for them do. -/
theorem Dev.calMeasured_eq {id : Nat} {v : List Int} {r : CalRun} {t : Target} {d : Dev} (h : d.Awaits id v r t) :
    (t.first = none → d.calMeasured id v
      = d.calRuns { r with todo := r.todo.map (fun x => if x.id = id then d.firstTaken r t v else x) })
    ∧ ∀ a, t.first = some a → kindBorrows (d.judge r t a (r.got t v)).1.kind = true →
      d.calMeasured id v = d.judged r (d.judge r t a (r.got t v)) := by
  have hgate : (decide (v.length ≠ kindValues r.kind) || !Machine.measurable r.kind t || (decide (r.kind = 2) && !countsFull v)) = false := by
    rcases h.codes with hk | ⟨hf, _⟩
    · simp [h.length, h.measurable, hk]
    · simp [h.length, h.measurable, hf]
  have hpass : (decide (r.kind ≠ 2) || codePass v) = true := by
    rcases h.codes with hk | ⟨_, hp⟩
    · simp [hk]
    · simp [hp]
  have hraise : d.raiseIf (!true) Ev.TIM_CD_DNL_FAIL = d := rfl
  unfold Dev.calMeasured
  simp only [h.active, h.borrows, if_true, h.found, hgate, Bool.false_eq_true, if_false, hpass, hraise]
  refine ⟨fun hf => ?_, fun a hf hb => ?_⟩
  · simp only [hf]
    exact Dev.calSpend_borrows (r := { r with todo := _ }) h.borrows
  · simp only [hf]
    unfold Dev.judged CalRun.got
    unfold CalRun.got at hb
    dsimp only
    simp only [hb, Bool.true_or, if_true]
    rfl


theorem not_isEmpty {α : Type} {l : List α} (h : l ≠ []) : ¬ l.isEmpty = true := by
  rwa [List.isEmpty_iff]

/-- A run with targets left goes on. -/
theorem Dev.judged_todo {r : CalRun} {x : CalRun × List CalItem} {d : Dev} (h : x.1.todo ≠ []) (hb : kindBorrows x.1.kind = true) :
    d.judged r x = (if x.1.rejected = r.rejected then d.stage x.2
      else ((d.stage x.2).inc Reg.PRF_REJ_CNT).raiseIf (!r.rejSeen) Ev.CAL_REJECT).calRuns x.1 := by
  unfold Dev.judged
  dsimp only
  rw [if_neg (not_isEmpty h), Dev.calSpend_borrows hb]

/-- A second measurement that agrees accepts the target. -/
theorem Dev.judge_agrees {r : CalRun} {t : Target} {a b : List Int × Int × Bool} {d : Dev} (h : agrees r.kind a b = true) :
    d.judge r t a b =
      let items := acceptedItems r.kind t.id (acceptedValues r.kind a.1 b.1) (d.areaTemp (d.targetSensor r.kind t.id))
      ({ r with todo := r.todo.filter (fun x => x.id ≠ t.id), accepted := r.accepted + 1, out := r.out ++ items }, items) :=
  if_pos h

/-- One that disagrees on the fourth attempt rejects it. -/
theorem Dev.judge_rejects {r : CalRun} {t : Target} {a b : List Int × Int × Bool} {d : Dev} (h : agrees r.kind a b = false)
    (hn : 3 ≤ t.attempt) : d.judge r t a b
      = ({ r with todo := r.todo.filter (fun x => x.id ≠ t.id), rejected := r.rejected + 1, rejSeen := true }, []) := by
  unfold Dev.judge
  rw [if_neg (by rw [h]; exact Bool.false_ne_true), if_pos hn]

@[simp] theorem Dev.raiseIf_prf (d : Dev) (c : Bool) (n : Nat) : (d.raiseIf c n).prf = d.prf := by
  cases c with
  | false => rfl
  | true => exact d.raise_prf n

/-- An event of any number leaves the registers but its own. -/
theorem Dev.rd_raise_apart (d : Dev) {n o : Nat} (h : o ≠ evtRawOff n) : (d.raise n).rd o = d.rd o := by
  unfold Dev.raise
  dsimp only
  split
  · rfl
  · split <;> exact Dev.rd_wr_ne _ _ h.symm

/-- A conditional event leaves the registers but its own. -/
theorem Dev.rd_raiseIf_apart (d : Dev) (c : Bool) {n o : Nat} (h : o ≠ evtRawOff n) : (d.raiseIf c n).rd o = d.rd o := by
  cases c with
  | false => rfl
  | true => exact Dev.rd_raise_apart d h

theorem Dev.calMeasured_idle {id : Nat} {v : List Int} {d : Dev} (h : d.prf.active = none) : d.calMeasured id v = d := by
  unfold Dev.calMeasured
  rw [h]

/-- Settles O26. -/
theorem calibrationTargetsAreMeasuredTwice : Obligations.CalibrationTargetsAreMeasuredTwice := by
  unfold Obligations.CalibrationTargetsAreMeasuredTwice
  intro s id v ha hc
  have hexec := exec_calMeasurementDone id v ha hc
  refine ⟨fun r t hr hb hfind hlen hmeas hcodes => ?_, fun hnone => ?_, congrArg _ (State.live_pos ha _), congrArg _ (State.live_pos ha _)⟩
  · obtain ⟨hfirst, hagain⟩ := Dev.calMeasured_eq ⟨hr, hb, hfind, hlen, hmeas, hcodes⟩
    have hid : t.id = id := by simpa using List.find?_some hfind
    refine ⟨fun hf => ⟨_, hexec, ?_⟩, fun a hf hagree hrest => ⟨_, hexec, ?_⟩, fun a hf hagree hn hrest => ⟨_, hexec, ?_⟩⟩
    · rw [hfirst hf]
      refine ⟨rfl, rfl, _, s.dev.firstTaken r t v, rfl, rfl, ?_⟩
      unfold Dev.firstTaken
      split
      · exact ⟨rfl, rfl, hid⟩
      · exact ⟨rfl, rfl, hid⟩
    · have hjudge := Dev.judge_agrees (d := s.dev) (t := t) hagree
      rw [hagain a hf (by rw [CalRun.got, hjudge]; exact hb), CalRun.got, hjudge, hid]
      rw [Dev.judged_todo hrest hb]
      exact congrArg (Dev.calRuns _) (if_pos rfl)
    · have hjudge := Dev.judge_rejects (d := s.dev) (t := t) hagree hn
      rw [hagain a hf (by rw [CalRun.got, hjudge]; exact hb), CalRun.got, hjudge, hid]
      rw [Dev.judged_todo hrest hb]
      dsimp only
      rw [if_neg (Nat.succ_ne_self _)]
      refine ⟨(congrArg Prf.staging (Dev.raiseIf_prf ((s.dev.stage []).inc Reg.PRF_REJ_CNT) (!r.rejSeen) Ev.CAL_REJECT) :), ?_, rfl⟩
      exact (Dev.rd_raiseIf_apart _ _ (by decide)).trans (Dev.rd_wr_same _ _ _)
  · rw [hexec, Dev.calMeasured_idle hnone]
    exact congrArg _ (State.revoted_id rfl)

end Sys2Proof.Machine
end

section
/-! Housekeeping rounds (10 R284, R285, R287, R288, R289, R290, R293, R300). -/
namespace Sys2Proof.Machine

/-! ## A round starts (R285, R291) -/

/-- A register that a selection keeps reads as before. -/
theorem tabFind_keep {α : Type} (p : Nat → Bool) (m : Tab α) {k : Nat} (h : p k = true) : tabFind (tabKeep p m) k = tabFind m k := by
  induction m with
  | nil => rfl
  | cons e m ih =>
    unfold tabKeep at ih ⊢
    by_cases hk : e.1 = k
    · rw [List.filter_cons, if_pos (by rw [hk]; exact h)]
      simp [tabFind, hk]
    · rw [List.filter_cons]
      split
      · simp [tabFind, hk, ih]
      · simp [tabFind, hk, ih]

/-- A round takes the registers of its slots as they stand. -/
theorem Dev.roundReg_roundCfg (d : Dev) {o : Nat} (h1 : 0x900004 ≤ o) (h2 : o < 0x900500) : d.roundReg d.roundCfg o = d.rd o := by
  unfold Dev.roundReg Dev.roundCfg Dev.rd tabGet
  rw [tabFind_keep]
  simp [h1, h2]

theorem exec_hkRoundStart {s : State} (t : Time) (ha : s.alive = true) (hon : s.dev.on domHK = true) :
    exec (.hkRoundStart t) s = .next { s with dev := s.dev.hkRoundStart t } :=
  congrArg _ (State.inDom_pos ha hon _)

/-- The slots of a round. -/
def Dev.roundSlots (d : Dev) : List Nat := (List.range 64).filter (fun j => slotOn j (d.rd (Reg.HKP_SLOT_CFG j)))

/-- Slot 0 is in every round. -/
theorem Dev.roundSlots_ne (d : Dev) : d.roundSlots ≠ [] := fun h =>
  List.filter_eq_nil_iff.mp h 0 (List.mem_range.mpr (by decide)) rfl

theorem headD_cons_drop {α : Type} {l : List α} (a : α) (h : l ≠ []) : l.headD a :: l.drop 1 = l := by
  cases l with
  | nil => exact absurd rfl h
  | cons x l => rfl

/-- The slots in the registers of the round are those that are on. -/
theorem Dev.roundSlots_eq (d : Dev) :
    (List.range 64).filter (fun j => slotOn j (d.roundReg d.roundCfg (Reg.HKP_SLOT_CFG j))) = d.roundSlots := by
  refine List.filter_congr fun j hj => ?_
  have := List.mem_range.mp hj
  rw [Dev.roundReg_roundCfg _ (by unfold Reg.HKP_SLOT_CFG; omega) (by unfold Reg.HKP_SLOT_CFG; omega)]

/-- A round begins. -/
def Dev.roundBegun (t : Time) (d : Dev) : Round :=
  { cfg := d.roundCfg, slot := d.roundSlots.headD 0, slotAt := t, todo := d.roundSlots.drop 1,
    openAt := (d.rd Reg.HKP_OPEN_NOW).toNat, changes := [], capped := false, done := [] }

/-- A round starts on the grid once its time has come. -/
theorem Dev.hkRoundStart_starts {t : Time} {d : Dev} (hon : d.on domHK = true) (hr : d.hkp.round = none) (hn : d.hkp.next ≤ t)
    (hg : t % (250 * us) = 0) : d.hkRoundStart t = { d.at t with hkp := { d.hkp with
      next := t + d.f Reg.HKP_ROUND_PERIOD 19 0 * us, slots := d.roundCfg, round := some (d.roundBegun t) } } := by
  have hcfg : (d.at t).roundCfg = d.roundCfg := by rw [Dev.roundCfg, Dev.at_regs, Dev.roundCfg]
  have hreg : ∀ o, (d.at t).roundReg d.roundCfg o = d.roundReg d.roundCfg o := fun o => by
    unfold Dev.at
    split <;> rfl
  unfold Dev.hkRoundStart
  rw [if_neg (by simp [hon, hr, hg, hn])]
  dsimp only
  rw [hcfg, Dev.at_hkp]
  simp only [hreg, Dev.roundSlots_eq]
  rw [Dev.roundReg_roundCfg d (by decide) (by decide), Dev.at_rd]
  rfl

theorem Dev.hkRoundStart_waits {t : Time} {d : Dev} (h : d.hkp.round ≠ none ∨ t < d.hkp.next ∨ t % (250 * us) ≠ 0) :
    d.hkRoundStart t = d := by
  unfold Dev.hkRoundStart
  refine if_pos ?_
  rcases h with h | h | h
  · simp [Option.isSome_iff_ne_none.mpr h]
  · simp [h]
  · simp [h]

/-! ## A slot ends (R284, R286, R289) -/

theorem exec_hkSlotEnd {s : State} (x : Option Int) (ha : s.alive = true) (hon : s.dev.on domHK = true) :
    exec (.hkSlotEnd x) s = .next { s with dev := s.dev.hkSlotEnd x } :=
  congrArg _ (State.inDom_pos ha hon _)

/-- The end of the slot that runs. -/
def Dev.slotStop (r : Round) (d : Dev) : Time :=
  r.slotAt + slotTime (d.roundReg r.cfg (Reg.HKP_SLOT_AUX r.slot)) (slotRate r.slot (d.roundReg r.cfg (Reg.HKP_SLOT_CFG r.slot)))

/-- What the slot that runs converts. -/
def Dev.slotConv (x : Option Int) (r : Round) (d : Dev) : Conv :=
  d.convert r.slot (d.roundReg r.cfg (Reg.HKP_SLOT_CFG r.slot)) (d.roundReg r.cfg (Reg.HKP_SLOT_THM r.slot))
    ((r.done.find? (fun s => s.slot = fld (d.roundReg r.cfg (Reg.HKP_SLOT_AUX r.slot)) 21 16)).bind (fun s => s.value)) x

/-- The result of the slot that runs. -/
def Dev.slotResult (x : Option Int) (r : Round) (d : Dev) : SlotRun :=
  { slot := r.slot
    value := match d.slotConv x r with
      | .value n => some n
      | .ovr => none
      | .unstated => some (toSigned 32 ((d.at (d.slotStop r)).drawN 32).1)
    opened := (slotInputs r.slot (d.roundReg r.cfg (Reg.HKP_SLOT_CFG r.slot))).any
      (fun i => r.openWhen i (r.slotAt + slotConnect (d.roundReg r.cfg (Reg.HKP_SLOT_AUX r.slot))))
    capped := r.capped }

theorem Dev.slotResult_value {x : Option Int} {r : Round} {n : Int} {d : Dev} (h : d.slotConv x r = .value n) :
    (d.slotResult x r).value = some n := by
  unfold Dev.slotResult
  rw [h]

theorem Dev.slotResult_ovr {x : Option Int} {r : Round} {d : Dev} (h : d.slotConv x r = .ovr) : (d.slotResult x r).value = none := by
  unfold Dev.slotResult
  rw [h]

/-- The device at the end of the slot that runs, with a free value drawn where none is stated. -/
def Dev.slotEnded (x : Option Int) (r : Round) (d : Dev) : Dev :=
  if d.slotConv x r = Conv.unstated then ((d.at (d.slotStop r)).drawN 32).2 else d.at (d.slotStop r)

theorem Dev.slotEnded_facts (x : Option Int) (r : Round) (d : Dev) : (d.slotEnded x r).regs = d.regs
    ∧ (d.slotEnded x r).evt = d.evt ∧ (d.slotEnded x r).tim = (d.at (d.slotStop r)).tim := by
  unfold Dev.slotEnded
  split
  · exact ⟨Dev.at_regs d _, Dev.at_evt d _, rfl⟩
  · exact ⟨Dev.at_regs d _, Dev.at_evt d _, rfl⟩

/-- With slots left the next one begins. -/
theorem Dev.hkSlotEnd_next {x : Option Int} {r : Round} {n : Nat} {l : List Nat} {d : Dev} (h : d.hkp.round = some r)
    (hl : r.todo = n :: l) : ∃ o hkp, d.hkSlotEnd x = { d.slotEnded x r with hkp := hkp }
      ∧ hkp.round = some { r with
          done := r.done ++ [d.slotResult x r], slot := n, todo := l, slotAt := d.slotStop r, openAt := o, changes := [], capped := false } := by
  unfold Dev.hkSlotEnd
  rw [h]
  dsimp only
  rw [hl]
  exact ⟨_, _, rfl, rfl⟩

/-- After the last slot the round waits to be published. -/
theorem Dev.hkSlotEnd_last {x : Option Int} {r : Round} {d : Dev} (h : d.hkp.round = some r) (hl : r.todo = []) :
    ∃ hkp, d.hkSlotEnd x = { d.slotEnded x r with hkp := hkp } ∧ hkp.round = none
      ∧ hkp.pub = some ({ r with done := r.done ++ [d.slotResult x r] }, d.slotStop r) := by
  unfold Dev.hkSlotEnd
  rw [h]
  dsimp only
  rw [hl]
  exact ⟨_, rfl, rfl, rfl⟩

theorem Dev.hkSlotEnd_idle {x : Option Int} {d : Dev} (h : d.hkp.round = none) : d.hkSlotEnd x = d := by
  unfold Dev.hkSlotEnd
  rw [h]

/-! ## Inputs that open and close (R289) -/

theorem exec_hkOpen {s : State} (i : Fin 32) (t : Time) (ha : s.alive = true) (hon : s.dev.on domHK = true) :
    exec (.hkOpen i t) s = .next { s with dev := s.dev.hkOpen i t } := congrArg _ (State.inDom_pos ha hon _)

theorem exec_hkOpenCleared {s : State} (i : Fin 32) (t : Time) (ha : s.alive = true) (hon : s.dev.on domHK = true) :
    exec (.hkOpenCleared i t) s = .next { s with dev := s.dev.hkOpenCleared i t } := congrArg _ (State.inDom_pos ha hon _)

theorem clrBit_le (m i : Nat) : clrBit m i ≤ m := by
  unfold clrBit
  split
  · exact Nat.sub_le _ _
  · exact le_refl _

/-- A bit of a register that was cleared reads 0. -/
theorem Dev.b_setB_false (d : Dev) (o i : Nat) : (d.setB o i false).b o i = false := by
  simp only [Dev.b, Dev.setB, Dev.rd_wr_same, bit, putBit]
  rw [if_neg (by decide), word_toNat (lt_of_le_of_lt (clrBit_le _ _) (d.rd o).isLt), testBit_clrBit]
  simp

/-- A change of an input is noted in the round that runs. -/
def Hkp.noted (t : Time) (i : Nat) (v : Bool) (h : Hkp) : Hkp :=
  { h with round := h.round.map fun r => { r with changes := r.changes ++ [(t, i, v)] } }

theorem Dev.hkOpen_opens {i : Nat} {t : Time} {d : Dev} (hon : d.on domHK = true) (h1 : d.b (Reg.HKP_HK_IN i) 3 = true)
    (h2 : d.b Reg.HKP_OPEN_NOW i = false) : d.hkOpen i t
      = Dev.raiseOnce { ((d.at t).setB Reg.HKP_OPEN_NOW i true).setB Reg.HKP_OPEN_LATCH i true with hkp := d.hkp.noted t i true } Ev.HK_OPEN := by
  unfold Dev.hkOpen
  rw [if_neg (by simp [hon, h1, h2]), ← Dev.at_hkp d t]
  rfl

theorem Dev.hkOpenCleared_closes {i : Nat} {t : Time} {d : Dev} (hon : d.on domHK = true) (h : d.b Reg.HKP_OPEN_NOW i = true) :
    d.hkOpenCleared i t
      = Dev.raiseOnce { (d.at t).setB Reg.HKP_OPEN_NOW i false with hkp := d.hkp.noted t i false } Ev.HK_OPEN_CLEARED := by
  unfold Dev.hkOpenCleared
  rw [if_neg (by simp [hon, h]), ← Dev.at_hkp d t]
  rfl

theorem Hkp.noted_round {t : Time} {i : Nat} {v : Bool} {h : Hkp} {r : Round} (hr : h.round = some r) :
    (h.noted t i v).round = some { r with changes := r.changes ++ [(t, i, v)] } := by
  unfold Hkp.noted
  rw [hr]
  rfl

/-! ## A round is published (R285, R290) -/

/-- Publishing changes registers and draws free values. -/
def Dev.RegsDrawn (d e : Dev) : Prop := e = { d with regs := e.regs, free := e.free }

theorem Dev.RegsDrawn.trans {d e g : Dev} (h : d.RegsDrawn e) (k : e.RegsDrawn g) : d.RegsDrawn g := by
  unfold Dev.RegsDrawn at *
  rw [k, h]

/-- The value of a slot that is published. -/
def SlotRun.shown (st : Nat) (free : Int) (g : SlotRun) : Int := if st = 3 || st = 4 then noValue else g.value.getD free

/-- A slot's registers. -/
def slotRegs (o j : Nat) : Prop := o = Reg.HKP_SLOT_VAL j ∨ o = Reg.HKP_SLOT_STAT j

/-- What publishing one slot writes. -/
theorem Dev.publishSlot_facts (r : Round) (out : List Nat) (acc : Tab Nat × Dev) (g : SlotRun) :
    let st := acc.2.slotStatus r out acc.1 g
    let e := (Dev.publishSlot r out acc g).2
    acc.2.RegsDrawn e ∧ (∃ f, e.rd (Reg.HKP_SLOT_VAL g.slot) = wordI (g.shown st f))
      ∧ e.rd (Reg.HKP_SLOT_STAT g.slot) = word (st + (acc.2.rd Reg.HKP_ROUND_CNT).toNat % 65536 * 65536)
      ∧ ∀ o, ¬ slotRegs o g.slot → e.rd o = acc.2.rd o := by
  obtain ⟨sts, d⟩ := acc
  unfold Dev.publishSlot
  dsimp only
  generalize hst : d.slotStatus r out sts g = st
  have hdrawn : ∀ b : Bool, ∃ k, (if b = true then (d.drawN 32).2 else d) = { d with free := k } := fun b => by
    cases b with
    | false => exact ⟨_, rfl⟩
    | true => exact ⟨_, rfl⟩
  obtain ⟨k, hk⟩ := hdrawn (decide (st = 2) && g.value.isNone)
  rw [hk]
  refine ⟨rfl, ⟨toSigned 32 (d.drawN 32).1, ?_⟩, ?_, fun o ho => ?_⟩
  · refine (Dev.rd_wr_ne _ _ ?_).trans (Dev.rd_wr_same _ _ _)
    unfold Reg.HKP_SLOT_VAL Reg.HKP_SLOT_STAT
    omega
  · exact (Dev.rd_wr_same _ _ _).trans rfl
  · exact (Dev.rd_wr_ne _ _ (fun h => ho (.inr h.symm))).trans ((Dev.rd_wr_ne _ _ (fun h => ho (.inl h.symm))).trans rfl)

/-- Publishing a list of slots leaves the other registers. -/
theorem Dev.publishSlots_rest (r : Round) (out : List Nat) (l : List SlotRun) (acc : Tab Nat × Dev) :
    acc.2.RegsDrawn (l.foldl (Dev.publishSlot r out) acc).2
      ∧ ∀ o, (∀ g ∈ l, ¬ slotRegs o g.slot) → (l.foldl (Dev.publishSlot r out) acc).2.rd o = acc.2.rd o := by
  induction l generalizing acc with
  | nil => exact ⟨rfl, fun _ _ => rfl⟩
  | cons g l ih =>
    obtain ⟨hdrawn, hrest⟩ := ih (Dev.publishSlot r out acc g)
    obtain ⟨hd, -, -, hr⟩ := Dev.publishSlot_facts r out acc g
    exact ⟨hd.trans hdrawn, fun o ho => (hrest o (fun k hk => ho k (.tail _ hk))).trans (hr o (ho g List.mem_cons_self))⟩

/-- The count of the rounds is no register of a slot. -/
theorem roundCnt_apart (j : Nat) : ¬ slotRegs Reg.HKP_ROUND_CNT j := by
  unfold slotRegs Reg.HKP_ROUND_CNT Reg.HKP_SLOT_VAL Reg.HKP_SLOT_STAT
  omega

theorem slotRegs_apart {o j k : Nat} (h : slotRegs o j) (hne : j ≠ k) : ¬ slotRegs o k := by
  unfold slotRegs Reg.HKP_SLOT_VAL Reg.HKP_SLOT_STAT at *
  omega

/-- Each slot of a round shows its own value and status. -/
theorem Dev.publishSlots_mem (r : Round) (out : List Nat) {l : List SlotRun} (hnd : (l.map (fun g => g.slot)).Nodup)
    {g : SlotRun} (hg : g ∈ l) (acc : Tab Nat × Dev) : ∃ sts f,
    let e := (l.foldl (Dev.publishSlot r out) acc).2
    let st := acc.2.slotStatus r out sts g
    e.rd (Reg.HKP_SLOT_VAL g.slot) = wordI (g.shown st f)
      ∧ e.rd (Reg.HKP_SLOT_STAT g.slot) = word (st + (acc.2.rd Reg.HKP_ROUND_CNT).toNat % 65536 * 65536) := by
  obtain ⟨m, n, rfl⟩ := List.append_of_mem hg
  have hn : ∀ k ∈ n, g.slot ≠ k.slot := fun k hk h => by
    rw [List.map_append, List.map_cons] at hnd
    exact (List.nodup_cons.mp (List.nodup_append.mp hnd).2.1).1 (List.mem_map.mpr ⟨k, hk, h.symm⟩)
  rw [List.foldl_append, List.foldl_cons]
  obtain ⟨hdm, hrm⟩ := Dev.publishSlots_rest r out m acc
  generalize m.foldl (Dev.publishSlot r out) acc = mid at hdm hrm ⊢
  obtain ⟨-, ⟨f, hval⟩, hstat, -⟩ := Dev.publishSlot_facts r out mid g
  obtain ⟨-, hrn⟩ := Dev.publishSlots_rest r out n (Dev.publishSlot r out mid g)
  have hst : mid.2.slotStatus r out mid.1 g = acc.2.slotStatus r out mid.1 g := by
    rw [show mid.2 = _ from hdm]
    rfl
  refine ⟨mid.1, f, ?_, ?_⟩
  · rw [hrn _ (fun k hk => slotRegs_apart (.inl rfl) (hn k hk)), hval, hst]
  · rw [hrn _ (fun k hk => slotRegs_apart (.inr rfl) (hn k hk)), hstat, hst, hrm _ (fun k _ => roundCnt_apart k.slot)]

/-- An event noted once changes its own register and what is noted alone. -/
theorem Dev.raiseOnce_facts (d : Dev) (n : Nat) : (d.raiseOnce n).tim = d.tim ∧ (d.raiseOnce n).thm = d.thm
    ∧ ∀ o, o ≠ evtRawOff n → (d.raiseOnce n).rd o = d.rd o := by
  unfold Dev.raiseOnce
  split
  · exact ⟨rfl, rfl, fun _ _ => rfl⟩
  · exact ⟨Dev.raise_tim _ _, Dev.raise_thm _ _, fun o ho => Dev.rd_raise_apart _ ho⟩

/-- What the publication of a round leaves. -/
structure Dev.Publishes (r : Round) (out : List Nat) (d e : Dev) : Prop where
  count : e.rd Reg.HKP_ROUND_CNT = d.rd Reg.HKP_ROUND_CNT + 1
  pub : e.hkp.pub = none
  done : e.afe.roundDone = true
  tim : e.tim = d.tim
  thm : e.thm = d.thm
  slots : (r.done.map (fun g => g.slot)).Nodup → ∀ g ∈ r.done, g.slot < 64 → ∃ sts f, let st := d.slotStatus r out sts g
    e.rd (Reg.HKP_SLOT_VAL g.slot) = wordI (g.shown st f)
      ∧ e.rd (Reg.HKP_SLOT_STAT g.slot) = word (st + (d.rd Reg.HKP_ROUND_CNT + 1).toNat % 65536 * 65536)

theorem Dev.publishRound_publishes (r : Round) (out : List Nat) (d : Dev) : d.Publishes r out (d.publishRound r out) := by
  unfold Dev.publishRound
  dsimp only
  have hcount : (d.wr Reg.HKP_ROUND_CNT (d.rd Reg.HKP_ROUND_CNT + 1)).rd Reg.HKP_ROUND_CNT = d.rd Reg.HKP_ROUND_CNT + 1 :=
    Dev.rd_wr_same _ _ _
  have hmem := fun hnd g hg => Dev.publishSlots_mem r out (l := r.done) hnd (g := g) hg ([], d.wr Reg.HKP_ROUND_CNT (d.rd Reg.HKP_ROUND_CNT + 1))
  obtain ⟨hdrawn, hrest⟩ := Dev.publishSlots_rest r out r.done ([], d.wr Reg.HKP_ROUND_CNT (d.rd Reg.HKP_ROUND_CNT + 1))
  generalize r.done.foldl (Dev.publishSlot r out) ([], d.wr Reg.HKP_ROUND_CNT (d.rd Reg.HKP_ROUND_CNT + 1)) = acc at hmem hdrawn hrest ⊢
  have hrd := (hrest _ (fun k _ => roundCnt_apart k.slot)).trans hcount
  dsimp only at hmem hdrawn
  have hslots : (r.done.map (fun g => g.slot)).Nodup → ∀ g ∈ r.done, ∃ sts f, let st := d.slotStatus r out sts g
      acc.2.rd (Reg.HKP_SLOT_VAL g.slot) = wordI (g.shown st f)
        ∧ acc.2.rd (Reg.HKP_SLOT_STAT g.slot) = word (st + (d.rd Reg.HKP_ROUND_CNT + 1).toNat % 65536 * 65536) := fun hnd g hg => by
    have h := hmem hnd g hg
    rw [hcount] at h
    exact h
  have hraised : ∀ b : Bool, ∃ e, (if b = true then acc.2.raiseOnce Ev.HK_OVERRANGE else acc.2) = e ∧ e.tim = acc.2.tim
      ∧ e.thm = acc.2.thm ∧ ∀ o, o ≠ evtRawOff Ev.HK_OVERRANGE → e.rd o = acc.2.rd o := fun b => by
    cases b with
    | false => exact ⟨_, rfl, rfl, rfl, fun _ _ => rfl⟩
    | true => exact ⟨_, rfl, Dev.raiseOnce_facts _ _⟩
  obtain ⟨e, he, htim, hthm, hrest⟩ := hraised (acc.1.any (fun e => e.2 = 4))
  have hraw : ∀ j < 64, Reg.HKP_SLOT_VAL j ≠ evtRawOff Ev.HK_OVERRANGE ∧ Reg.HKP_SLOT_STAT j ≠ evtRawOff Ev.HK_OVERRANGE := by
    unfold Reg.HKP_SLOT_VAL Reg.HKP_SLOT_STAT evtRawOff Reg.DSC_EVT_RAW Ev.HK_OVERRANGE
    omega
  rw [he]
  refine ⟨(hrest _ (by decide)).trans hrd, rfl, rfl, htim.trans (by rw [show acc.2 = _ from hdrawn]; rfl),
    hthm.trans (by rw [show acc.2 = _ from hdrawn]; rfl), fun hnd g hg hlt => ?_⟩
  obtain ⟨sts, f, hval, hstat⟩ := hslots hnd g hg
  exact ⟨sts, f, (hrest _ (hraw _ hlt).1).trans hval, (hrest _ (hraw _ hlt).2).trans hstat⟩

/-- An open slot has status 3. -/
theorem Dev.slotStatus_open {r : Round} {out : List Nat} {sts : Tab Nat} {g : SlotRun} {d : Dev} (h : g.opened = true) :
    d.slotStatus r out sts g = 3 := if_pos h

/-- A slot on the die that is neither open nor suspect has status 1. -/
theorem Dev.slotStatus_valid {r : Round} {out : List Nat} {sts : Tab Nat} {g : SlotRun} {v : Int} {d : Dev} (hj : g.slot < 24)
    (ho : g.opened = false) (hout : out.contains g.slot = false) (hc : g.capped = false) (hv : g.value = some v) :
    d.slotStatus r out sts g = 1 := by
  unfold Dev.slotStatus
  dsimp only
  have h24 : ¬ 24 ≤ g.slot := by omega
  rw [if_neg (by rw [ho]; decide), if_neg (by simp only [hout, hc, h24]; simp), if_neg (by rw [hv]; exact Bool.false_ne_true)]

theorem exec_hkRoundPublish {s : State} (out : List Nat) (ha : s.alive = true) (hon : s.dev.on domHK = true) :
    exec (.hkRoundPublish out) s = .next (State.revoted (fun _ => { s with dev := s.dev.roundPublished out }) s) := by
  refine congrArg _ ((State.revoted_const _ s).trans ?_)
  rw [State.inDom_pos ha hon]

theorem Dev.roundPublished_eq {out : List Nat} {r : Round} {stop : Time} {d : Dev} (h : d.hkp.pub = some (r, stop)) :
    d.roundPublished out = (fun m : Dev => if d.thm.critPhase = 0 ∧ m.thmRound.thm.critPhase = 1
      then m.thmRound.runAbort (fun _ => true) else m.thmRound) (Dev.publishRound r out (d.at (stop + 500 * us))) := by
  unfold Dev.roundPublished
  rw [h]
  dsimp only
  simp only [Bool.and_eq_true, decide_eq_true_eq]

theorem Dev.roundPublished_idle {out : List Nat} {d : Dev} (h : d.hkp.pub = none) : d.roundPublished out = d := by
  unfold Dev.roundPublished
  rw [h]

/-! ## What the pins of an input carry (R287, R288, R293, R300) -/

theorem fld_1_0_lt (w : Word) : fld w 1 0 < 4 := Nat.mod_lt _ (by decide)

theorem burnLevel_eq (el : Bool) {n : Nat} (h : n < 4) : burnLevel el n = [0, 5, 20, if el then 20 else 100].getD n 0 := by
  match n, h with
  | 0, _ => rfl
  | 1, _ => rfl
  | 2, _ => rfl
  | 3, _ => rfl

theorem Dev.burnOut_on {d : Dev} (h : d.on domHK = true) (i : Nat) : d.burnOut i =
    if bit (d.rd (Reg.HKP_HK_IN i)) 2 then -(burnLevel d.elOn (fld (d.rd (Reg.HKP_HK_IN i)) 1 0) : Int)
    else burnLevel d.elOn (fld (d.rd (Reg.HKP_HK_IN i)) 1 0) := by
  unfold Dev.burnOut
  rw [if_neg (by rw [h]; decide)]

/-- With HK off no current flows. -/
theorem Dev.excPin_off {d : Dev} (h : d.on domHK = false) (t : Time) : d.excPin t = none := by
  unfold Dev.excPin
  split
  · rfl
  · exact if_neg (by simp [h])

/-- The excitation flows from step 3 to step 5 of a slot that has it. -/
theorem Dev.excPin_slot {r : Round} {d : Dev} (h : d.on domHK = true) (hr : d.hkp.round = some r) (hj : 24 ≤ r.slot) (t : Time) :
    let cfg := d.roundReg r.cfg (Reg.HKP_SLOT_CFG r.slot)
    let aux := d.roundReg r.cfg (Reg.HKP_SLOT_AUX r.slot)
    d.excPin t = if bit cfg 19 = true ∧ r.slotAt + slotConnect aux ≤ t ∧ t < r.slotAt + slotTime aux (slotRate r.slot cfg)
      then some (fld cfg 18 14, d.excitation cfg) else none := by
  unfold Dev.excPin
  rw [hr]
  simp only [h, hj, decide_true, Bool.true_and, Bool.and_eq_true, decide_eq_true_eq, and_assoc]

/-- Settles O27: the next round is due a ROUND_PERIOD after the actual start (log 54), and entry into CRIT also aborts the runs
that wait (log 113). -/
theorem housekeepingRoundsAreRunAndPublished : Obligations.HousekeepingRoundsAreRunAndPublished := by
  unfold Obligations.HousekeepingRoundsAreRunAndPublished
  refine ⟨fun s ha hon => ⟨fun t hr hn hg => ?_, fun t h => ?_, fun x r hr => ?_, fun x hr => ?_, fun i t h1 h2 => ?_, fun i t h => ?_,
    fun i t h => ?_, fun i t h => ?_⟩, fun s out ha hon => ⟨fun r stop hp hnd hlt => ?_, fun hp => ?_⟩, fun d i => ⟨fun hon => ⟨?_, ?_, ?_⟩, fun hoff => ⟨?_, ?_, ?_⟩⟩⟩
  · refine ⟨_, exec_hkRoundStart t ha hon, ?_⟩
    rw [Dev.hkRoundStart_starts hon hr hn hg]
    exact ⟨rfl, rfl, rfl, _, rfl, rfl, rfl, rfl, headD_cons_drop 0 (Dev.roundSlots_ne _)⟩
  · rw [exec_hkRoundStart t ha hon]
    exact congrArg _ (State.onDev_id (Dev.hkRoundStart_waits h))
  · obtain ⟨hregs, hevt, htim⟩ := Dev.slotEnded_facts x r s.dev
    refine ⟨_, exec_hkSlotEnd x ha hon, ?_⟩
    cases hl : r.todo with
    | nil =>
      obtain ⟨hkp, he, hround, hpub⟩ := Dev.hkSlotEnd_last (x := x) hr hl
      rw [he]
      exact ⟨hregs, hevt, htim, s.dev.slotResult x r, rfl, rfl, rfl, fun n => Dev.slotResult_value, Dev.slotResult_ovr,
        fun n l h => absurd h.symm (List.cons_ne_nil n l), fun _ => ⟨hround, _, hpub, rfl⟩⟩
    | cons n l =>
      obtain ⟨o, hkp, he, hround⟩ := Dev.hkSlotEnd_next (x := x) hr hl
      rw [he]
      refine ⟨hregs, hevt, htim, s.dev.slotResult x r, rfl, rfl, rfl, fun n => Dev.slotResult_value, Dev.slotResult_ovr,
        fun k m h => ?_, fun h => absurd h (List.cons_ne_nil n l)⟩
      obtain ⟨rfl, rfl⟩ := List.cons.inj h
      exact ⟨_, hround, rfl, rfl, rfl, rfl, rfl, rfl⟩
  · rw [exec_hkSlotEnd x ha hon]
    exact congrArg _ (State.onDev_id (Dev.hkSlotEnd_idle hr))
  · rw [exec_hkOpen i t ha hon, Dev.hkOpen_opens hon h1 h2]
    refine ⟨_, rfl, ?_, Dev.b_setB_true _ _ i.isLt, fun o h3 h4 => ?_, fun r hr => Hkp.noted_round hr, Dev.at_evt _ _⟩
    · exact (congrArg (fun w => bit w i) (Dev.rd_wr_ne _ _ (by decide))).trans (Dev.b_setB_true _ _ i.isLt)
    · exact (Dev.rd_wr_ne _ _ h4.symm).trans ((Dev.rd_wr_ne _ _ h3.symm).trans (Dev.at_rd _ _ _))
  · rw [exec_hkOpen i t ha hon]
    refine congrArg _ (State.onDev_id (if_pos ?_))
    rcases h with h | h <;> simp [h]
  · rw [exec_hkOpenCleared i t ha hon, Dev.hkOpenCleared_closes hon h]
    exact ⟨_, rfl, Dev.b_setB_false _ _ _, fun o h1 => (Dev.rd_wr_ne _ _ h1.symm).trans (Dev.at_rd _ _ _), Dev.at_evt _ _,
      fun r hr => Hkp.noted_round hr⟩
  · rw [exec_hkOpenCleared i t ha hon]
    exact congrArg _ (State.onDev_id (if_pos (by simp [h])))
  · have hpub := Dev.publishRound_publishes r out (s.dev.at (stop + 500 * us))
    have hcnt := Dev.at_rd s.dev (stop + 500 * us) Reg.HKP_ROUND_CNT
    refine ⟨_, ?_, hpub.count.trans (congrArg (· + 1) hcnt), hpub.pub, hpub.done, hpub.tim, hpub.thm.trans (Dev.at_thm _ _),
      fun g hg ho => ?_, fun g hg v hj ho hout hc hv => ?_⟩
    · rw [exec_hkRoundPublish out ha hon, Dev.roundPublished_eq hp]
    · obtain ⟨sts, f, hval, hstat⟩ := hpub.slots hnd g hg (hlt g hg)
      rw [Dev.slotStatus_open ho, hcnt] at hstat
      rw [Dev.slotStatus_open ho] at hval
      exact ⟨hval, hstat⟩
    · obtain ⟨sts, f, hval, hstat⟩ := hpub.slots hnd g hg (hlt g hg)
      rw [Dev.slotStatus_valid hj ho hout hc hv, hcnt] at hstat
      rw [Dev.slotStatus_valid hj ho hout hc hv, SlotRun.shown, hv] at hval
      exact ⟨hval, hstat⟩
  · rw [exec_hkRoundPublish out ha hon, Dev.roundPublished_idle hp]
    exact congrArg _ (State.revoted_id rfl)
  · rw [Dev.burnOut_on hon, ← burnLevel_eq _ (fld_1_0_lt _)]
    split <;> simp
  · rw [Dev.burnOut_on hon]
    split <;> simp
  · exact fun r hr hj => Dev.excPin_slot hon hr hj
  · exact if_pos (by simp [hoff])
  · unfold Dev.vmidBias
    simp [hoff]
  · exact Dev.excPin_off hoff

end Sys2Proof.Machine
end

section
/-! Current loops (10 R296, R297), the energy-limited profile (10 R299) and the sensors of thermal management (11 R314, R317, R319). -/
namespace Sys2Proof.Machine

/-! ## Events of the upper half of the list -/

/-- The raw bits of the events lie beyond the control registers of all 1,024. -/
theorem evtRaw_ne_evtCfg {n : Nat} (hn : n < 1024) : evtRawOff n ≠ Reg.DSC_EVT_CFG n := by
  unfold evtRawOff Reg.DSC_EVT_RAW Reg.DSC_EVT_CFG
  omega

/-- While CORE is powered any event is noted, and that is all. -/
theorem Dev.raise_notes {d : Dev} {n : Nat} (hc : d.on domCORE = true) (hn : n < 1024) : d.Noted n (d.raise n) := by
  have hcfg : (d.setB (evtRawOff n) (n % 32) true).b (Reg.DSC_EVT_CFG n) 0 = d.b (Reg.DSC_EVT_CFG n) 0 := by
    simp [Dev.b, Dev.setB, Dev.rd_wr_ne _ _ (evtRaw_ne_evtCfg hn)]
  have hlt : n % 32 < 32 := Nat.mod_lt _ (by decide)
  have heq : d.raise n = { d with regs := (d.setB (evtRawOff n) (n % 32) true).regs,
                                  evt := { d.evt with pend := d.pendAfter n } } := by
    unfold Dev.raise Dev.pendAfter
    simp only [hc, Bool.not_true, Bool.false_eq_true, if_false, hcfg]
    split <;> rfl
  have hr : ∀ o, (d.raise n).rd o = (d.setB (evtRawOff n) (n % 32) true).rd o := fun o => by
    rw [heq]
    rfl
  refine ⟨by rw [heq]; exact rfl, ?_, fun o ho => Dev.rd_raise_apart d ho, fun j hj => ?_, by rw [heq]; rfl⟩
  · exact (congrArg (fun w => bit w (n % 32)) (hr _)).trans (d.b_setB_true _ hlt)
  · exact (congrArg (fun w => bit w j) (hr _)).trans (d.b_setB_true_ne _ hlt hj.symm)

/-! ## Current loops (R296, R297) -/

theorem exec_loopFault {s : State} (l : Fin 8) (dev : Bool) (t : Time) (xs : Vector (Nat × Bool) 4) (ha : s.alive = true)
    (hon : s.dev.on domHK = true) : exec (.loopFault l dev t xs) s = .next (s.loopFault l dev t xs) :=
  congrArg _ ((State.live_pos ha _).trans (if_pos hon))

theorem exec_loopFaultCleared {s : State} (l : Fin 8) (dev : Bool) (t : Time) (xs : Vector (Nat × Bool) 4) (ha : s.alive = true)
    (hon : s.dev.on domHK = true) : exec (.loopFaultCleared l dev t xs) s = .next (s.loopFaultCleared l dev t xs) :=
  congrArg _ ((State.live_pos ha _).trans (if_pos hon))

theorem exec_loopWdog {s : State} (l : Fin 8) (ha : s.alive = true) (hon : s.dev.on domHK = true) :
    exec (.loopWdog l) s = .next { s with dev := s.dev.loopWdog l } := congrArg _ (State.inDom_pos ha hon _)

/-- A driven loop whose commanded current has not changed for 1 ms is checked on the grid. -/
theorem State.loopChecked_some {s : State} {l c : Nat} {t : Time} (hc : (s.dev.loopOut s.lockedOut l).cur = some c)
    (htab : tabGet none s.dev.hkp.loopCur l = some c) (hg : t % (250 * us) = 0) (hat : tabGet 0 s.dev.hkp.loopAt l + 1750 * us ≤ t) :
    s.loopChecked l t = some c := by
  unfold State.loopChecked
  rw [hc]
  exact if_pos (by simp [htab, hg, hat])

/-- Any other is not. -/
theorem State.loopChecked_none {s : State} {l : Nat} {t : Time} (h : (s.dev.loopOut s.lockedOut l).cur = none
    ∨ tabGet none s.dev.hkp.loopCur l ≠ (s.dev.loopOut s.lockedOut l).cur ∨ t % (250 * us) ≠ 0
    ∨ t < tabGet 0 s.dev.hkp.loopAt l + 1750 * us) : s.loopChecked l t = none := by
  unfold State.loopChecked
  split
  · rfl
  · next c hc =>
    rw [hc] at h
    refine if_neg ?_
    simp only [Bool.and_eq_true, decide_eq_true_eq]
    rintro ⟨⟨h1, h2⟩, h3⟩
    rcases h with h | h | h | h
    · exact Option.some_ne_none c h
    · exact h h1
    · exact h h2
    · exact absurd h3 (Nat.not_le.mpr h)

/-- A sample lies off the commanded current on the side of `dev`. -/
def LoopOff (dev : Bool) (c : Nat) (x : Nat × Bool) : Prop := if dev then c + 2000 < x.1 else x.1 + 2000 < c ∧ x.2 = true

theorem loopOff_iff {dev : Bool} {c : Nat} {x : Nat × Bool} : loopOff dev c x = true ↔ LoopOff dev c x := by
  cases dev <;> simp [loopOff, LoopOff]

/-- The bits of a side of the loops. -/
def Hkp.side (dev : Bool) (h : Hkp) : Nat := if dev then h.devs else h.opens

/-- The last sample of loop `l` and the bits of a side. -/
def Hkp.checked (l : Nat) (dev : Bool) (xs : Vector (Nat × Bool) 4) (bits : Nat) (h : Hkp) : Hkp :=
  let h := { h with read := tabPut 0 h.read l (xs[3].1 % 65536) }
  if dev then { h with devs := bits } else { h with opens := bits }

/-- Four samples off the commanded current set the bit of their side. -/
theorem State.loopFault_sets {s : State} {l c : Nat} {dev : Bool} {t : Time} {xs : Vector (Nat × Bool) 4}
    (hc : s.loopChecked l t = some c) (hall : ∀ x ∈ xs.toList, LoopOff dev c x) (hbit : (s.dev.hkp.side dev).testBit l = false) :
    s.loopFault l dev t xs
      = { s with dev := Dev.raise { s.dev.at t with hkp := s.dev.hkp.checked l dev xs (setBit (s.dev.hkp.side dev) l) } (Ev.LOOP_FAULT l) } := by
  have hoff : xs.toList.all (loopOff dev c) = true := List.all_eq_true.mpr fun x hx => loopOff_iff.mpr (hall x hx)
  unfold State.loopFault
  rw [hc]
  dsimp only
  rw [if_neg (by rw [hoff]; simpa [Hkp.side] using hbit)]
  cases dev <;> rfl

theorem State.loopFault_keeps {s : State} {l c : Nat} {dev : Bool} {t : Time} {xs : Vector (Nat × Bool) 4}
    (hc : s.loopChecked l t = some c) (hex : ∃ x ∈ xs.toList, ¬ LoopOff dev c x) : s.loopFault l dev t xs = s := by
  obtain ⟨x, hx, hn⟩ := hex
  have hoff : xs.toList.all (loopOff dev c) = false := List.all_eq_false.mpr ⟨x, hx, mt loopOff_iff.mp hn⟩
  unfold State.loopFault
  rw [hc]
  exact if_pos (by rw [hoff, Bool.not_false, Bool.or_true])

/-- Four samples that lie on it clear the bit. -/
theorem State.loopFaultCleared_clears {s : State} {l c : Nat} {dev : Bool} {t : Time} {xs : Vector (Nat × Bool) 4}
    (hc : s.loopChecked l t = some c) (hall : ∀ x ∈ xs.toList, ¬ LoopOff dev c x) : s.loopFaultCleared l dev t xs
      = { s with dev := { s.dev.at t with hkp := s.dev.hkp.checked l dev xs (clrBit (s.dev.hkp.side dev) l) } } := by
  have hoff : xs.toList.any (loopOff dev c) = false := List.any_eq_false.mpr fun x hx => mt loopOff_iff.mp (hall x hx)
  unfold State.loopFaultCleared
  rw [hc]
  dsimp only
  rw [if_neg (by rw [hoff]; decide)]
  cases dev <;> rfl

theorem State.loopFaultCleared_keeps {s : State} {l c : Nat} {dev : Bool} {t : Time} {xs : Vector (Nat × Bool) 4}
    (hc : s.loopChecked l t = some c) (hex : ∃ x ∈ xs.toList, LoopOff dev c x) : s.loopFaultCleared l dev t xs = s := by
  obtain ⟨x, hx, h⟩ := hex
  unfold State.loopFaultCleared
  rw [hc]
  exact if_pos (List.any_eq_true.mpr ⟨x, hx, loopOff_iff.mpr h⟩)

theorem and_three (n : Nat) : n &&& 3 = n % 4 := Nat.and_two_pow_sub_one_eq_mod n 2

/-- The write of EL_CTL goes by the rule of the protected registers. -/
theorem exec_elCtlWrite {s : State} (val : Word) (ha : s.alive = true) :
    exec (.elCtlWrite val) s = .next (s.rwpWrite Reg.HKP_EL_CTL 3 val) := by
  obtain ⟨ix, hrow⟩ : ∃ ix, ∃ r, rowOf Reg.HKP_EL_CTL = some (r, ix) ∧ r.acc = .rwp ∧ r.mask = 3 :=
    ⟨_, _, rfl, by decide +kernel⟩
  obtain ⟨r, hr, hacc, hmask⟩ := hrow
  refine congrArg _ ((State.live_pos ha _).trans ?_)
  rw [State.regWrite_row hr, hacc, hmask]

/-- Settles O28: the 1 ms count from the noted change of the commanded current, and LOOP_READ takes the last sample (log 114). -/
theorem loopFaultsWatchdogsAndTheEnergyLimit : Obligations.LoopFaultsWatchdogsAndTheEnergyLimit := by
  unfold Obligations.LoopFaultsWatchdogsAndTheEnergyLimit
  intro s l dev t xs ha hon hcore
  have hfault := exec_loopFault l dev t xs ha hon
  have hclear := exec_loopFaultCleared l dev t xs ha hon
  have hwdog := exec_loopWdog l ha hon
  refine ⟨fun c hc htab hg hat => ?_, fun h => ?_, fun hn hbit hlate => ?_, fun h => ?_, fun val => ⟨fun hopen hdef => ?_, fun h => ?_⟩⟩
  · have hchecked := State.loopChecked_some hc htab hg hat
    refine ⟨fun hall hbit => ?_, fun hall => ?_, fun hex => ?_, fun hex => ?_⟩
    · rw [hfault, State.loopFault_sets hchecked hall hbit]
      refine ⟨_, _, rfl, Dev.raise_notes ((Dev.at_on s.dev t domCORE).trans hcore) (by unfold Ev.LOOP_FAULT; omega), ?_⟩
      cases dev <;> rfl
    · rw [hclear, State.loopFaultCleared_clears hchecked hall]
      cases dev <;> rfl
    · rw [hfault, State.loopFault_keeps hchecked hex]
    · rw [hclear, State.loopFaultCleared_keeps hchecked hex]
  · have hchecked := State.loopChecked_none h
    rw [hfault, hclear, State.loopFault, State.loopFaultCleared, hchecked]
    exact ⟨rfl, rfl⟩
  · rw [hwdog, Dev.loopWdog]
    dsimp only
    rw [if_neg (by simp [hon, hbit, Nat.pos_iff_ne_zero.mp hn, hlate])]
    exact ⟨_, _, rfl, Dev.raise_notes hcore (by decide), rfl⟩
  · rw [hwdog]
    refine congrArg _ (State.onDev_id (if_pos ?_))
    rcases h with h | h <;> simp [h]
  · have hok : s.isl.rwpOk = true := by simp [Island.rwpOk, hopen, hdef]
    rw [exec_elCtlWrite val ha, State.rwpWrite_staged (by decide) hok, ← and_three]
    rfl
  · have hok : s.isl.rwpOk = false := by rcases h with h | h <;> simp [Island.rwpOk, h]
    rw [exec_elCtlWrite val ha, State.rwpWrite, if_neg (by decide), if_neg (by rw [hok]; decide)]
    exact ⟨_, rfl, Dev.raise_noted hcore (by decide)⟩

end Sys2Proof.Machine
end

section
/-! The sensors of thermal management and the SHUT comparators (11 R314, R317, R319, R320). -/
namespace Sys2Proof.Machine

/-! ## Sensors (R314, R317) -/

@[simp] theorem Dev.sensor_setSensor (d : Dev) (k : Nat) (x : Sensor) : (d.setSensor k x).sensor k = x := tabGet_put_same _ _ _ _
theorem Dev.sensor_setSensor_ne (d : Dev) {k j : Nat} (x : Sensor) (h : j ≠ k) : (d.setSensor k x).sensor j = d.sensor j :=
  tabGet_put_ne _ _ _ h.symm

/-- Of the device only sensors differ. -/
def Dev.OnlySensors (d e : Dev) : Prop := e = { d with thm := { d.thm with sensors := e.thm.sensors } }

theorem Dev.OnlySensors.trans {d e g : Dev} (h : d.OnlySensors e) (k : e.OnlySensors g) : d.OnlySensors g := by
  unfold Dev.OnlySensors at *
  rw [k, h]

theorem exec_thmSensorFail {s : State} (x : Fin 32) (ha : s.alive = true) (hon : s.dev.on domHK = true) :
    exec (.thmSensorFail x) s = .next { s with dev := s.dev.sensorFail x } := congrArg _ (State.inDom_pos ha hon _)

/-- A sensor that is declared failed. -/
def Dev.failedSensor (x : Nat) (d : Dev) : Sensor :=
  { d.sensor x with
      failed := true, dev := 0, held := (d.sensor x).level = 2
      level := if 24 ≤ x && bit (d.extCfg x) 7 then max (d.sensor x).level 2 else (d.sensor x).level
      down := 0 }

/-- The turn of one sensor of a SENSOR_CLR. -/
def Dev.clearedSensor (mask : Word) (d : Dev) (x : Nat) : Dev :=
  if bit mask x && ((d.sensor x).failed || (d.sensor x).pinned) then
    d.setSensor x { used := (d.sensor x).used, level := if (d.sensor x).level = 3 then 3 else 0 }
  else d

theorem Dev.sensorClear_eq (mask : Word) (d : Dev) : d.sensorClear mask = (List.range 32).foldl (Dev.clearedSensor mask) d := rfl

theorem Dev.clearedSensor_only (mask : Word) (d : Dev) (x : Nat) : d.OnlySensors (d.clearedSensor mask x) := by
  unfold Dev.clearedSensor
  split <;> rfl

theorem Dev.clearedSensor_ne (mask : Word) (d : Dev) {x y : Nat} (h : y ≠ x) : (d.clearedSensor mask x).sensor y = d.sensor y := by
  unfold Dev.clearedSensor
  split
  · exact Dev.sensor_setSensor_ne _ _ h
  · rfl

theorem Dev.clearedSensor_same (mask : Word) (d : Dev) (x : Nat) : (d.clearedSensor mask x).sensor x
    = if bit mask x && ((d.sensor x).failed || (d.sensor x).pinned)
      then { used := (d.sensor x).used, level := if (d.sensor x).level = 3 then 3 else 0 } else d.sensor x := by
  unfold Dev.clearedSensor
  split
  · exact Dev.sensor_setSensor _ _ _
  · rfl

/-- SENSOR_CLR starts the failed and pinned sensors of its mask afresh and no other. -/
theorem Dev.sensorClear_facts (mask : Word) (d : Dev) : d.OnlySensors (d.sensorClear mask)
    ∧ ∀ x : Fin 32, (d.sensorClear mask).sensor x = if bit mask x && ((d.sensor x).failed || (d.sensor x).pinned)
      then { used := (d.sensor x).used, level := if (d.sensor x).level = 3 then 3 else 0 } else d.sensor x := by
  rw [Dev.sensorClear_eq]
  refine ⟨foldl_rel Dev.OnlySensors (fun _ => rfl) Dev.OnlySensors.trans (fun e x _ => e.clearedSensor_only mask x) d, fun x => ?_⟩
  obtain ⟨e, -, hx, hlast⟩ := foldl_own_turn (f := Dev.clearedSensor mask) (fun _ _ => True) (fun _ => trivial) (fun _ _ => trivial)
    Dev.sensor (fun _ _ _ => trivial) (fun e q _ y hy => e.clearedSensor_ne mask hy) List.nodup_range
    (List.mem_range.mpr x.isLt) d
  rw [hlast, Dev.clearedSensor_same, hx]

/-! ## The release of the latch (R319) -/

theorem exec_critClr {s : State} (ha : s.alive = true) :
    exec .critClr s = .next (State.revoted (fun _ => { s with dev := s.dev.critClear }) s) := by
  refine congrArg _ ((State.revoted_const _ s).trans ?_)
  rw [State.live_pos ha]
  rfl

/-- Release is asked for. -/
def Dev.clrAsked (d : Dev) : Dev := d.modThm (fun t => { t with clrReq := true })

/-- While the latch holds and a sensor at CRIT has not cooled, release is only asked for. -/
theorem Dev.critClear_waits {d : Dev} (h : d.thm.critLatch = true) (hc : d.critCool = false) : d.critClear = d.clrAsked := by
  have hcool : d.clrAsked.critCool = false := hc
  unfold Dev.critClear
  rw [if_pos h]
  unfold Dev.critRelease
  exact if_neg fun hh => Bool.false_ne_true (hcool.symm.trans (Bool.and_eq_true_iff.mp hh).2)

/-- The turn of a sensor at CRIT that returns to THROTTLE. -/
def Dev.throttledSensor (d : Dev) (x : Nat) : Dev := d.setSensor x { d.sensor x with level := 2, down := 0 }

/-- The sensors at CRIT. -/
def Dev.critSensors (d : Dev) : List Nat := (List.range 32).filter (fun x => (d.sensor x).level = 3)

/-- Once every sensor has cooled the sensors at CRIT return to THROTTLE and the latch clears. -/
theorem Dev.critClear_releases {d : Dev} (h : d.thm.critLatch = true) (hc : d.critCool = true) :
    ∃ lvl, d.critClear = (d.critSensors.foldl Dev.throttledSensor d.clrAsked).modThm (fun t => { t with
      critLatch := false, critPhase := 0, clrReq := false, level := lvl }) := by
  have hcool : d.clrAsked.critCool = true := hc
  unfold Dev.critClear
  rw [if_pos h]
  unfold Dev.critRelease
  refine ⟨_, if_pos ?_⟩
  exact Bool.and_eq_true_iff.mpr ⟨Bool.and_eq_true_iff.mpr ⟨rfl, h⟩, hcool⟩

/-- The sensors after those at CRIT have returned to THROTTLE. -/
theorem Dev.throttled_facts (d e : Dev) (he : e.thm.sensors = d.thm.sensors) : e.OnlySensors (d.critSensors.foldl Dev.throttledSensor e)
    ∧ ∀ x : Fin 32, ((d.critSensors.foldl Dev.throttledSensor e).sensor x).level
      = if (d.sensor x).level = 3 then 2 else (d.sensor x).level := by
  have hsame : ∀ x, e.sensor x = d.sensor x := fun x => congrArg (fun m => tabGet ({} : Sensor) m x) he
  refine ⟨foldl_rel (f := Dev.throttledSensor) Dev.OnlySensors (fun _ => rfl) Dev.OnlySensors.trans (fun e x _ => rfl) e, fun x => ?_⟩
  by_cases hx : (d.sensor x).level = 3
  · obtain ⟨g, -, hg, hlast⟩ := foldl_own_turn (f := Dev.throttledSensor) (fun _ _ => True) (fun _ => trivial) (fun _ _ => trivial)
      Dev.sensor (fun _ _ _ => trivial) (fun e q _ y hy => e.sensor_setSensor_ne _ hy) (List.nodup_range.filter (fun x => decide ((d.sensor x).level = 3)))
      (List.mem_filter.mpr ⟨List.mem_range.mpr x.isLt, decide_eq_true hx⟩) e
    refine (congrArg Sensor.level hlast).trans ?_
    rw [if_pos hx, Dev.throttledSensor, Dev.sensor_setSensor]
  · rw [if_neg hx]
    refine (congrArg Sensor.level ?_).trans (congrArg Sensor.level (hsame x))
    refine foldl_rel (fun d e : Dev => e.sensor x = d.sensor x) (fun _ => rfl) (fun h k => k.trans h) (fun g y hy => ?_) e
    refine g.sensor_setSensor_ne _ fun h => hx ?_
    rw [h]
    exact of_decide_eq_true (List.mem_filter.mp hy).2

/-- Settles O29: SENSOR_CLR leaves level CRIT at CRIT, and CRIT_CLR without the latch is ignored (log 57). -/
theorem sensorsFailAndAreCleared : Obligations.SensorsFailAndAreCleared := by
  unfold Obligations.SensorsFailAndAreCleared
  intro s ha hon hcore
  have hclr := exec_critClr ha
  refine ⟨fun x h1 h2 h3 h4 => ?_, fun x h => ?_, fun mask => ⟨_, congrArg _ (State.live_pos ha _), Dev.sensorClear_facts mask s.dev⟩, fun h => ?_, fun h hc => ?_, fun h hc => ?_⟩
  · rw [exec_thmSensorFail x ha hon, Dev.sensorFail]
    dsimp only
    rw [if_pos (by simp [h1, h2, h3, h4])]
    refine ⟨s.dev.setSensor x (s.dev.failedSensor x), _, rfl, Dev.raise_notes hcore (by decide), ?_⟩
    rw [Dev.sensor_setSensor]
    exact ⟨rfl, rfl, rfl, rfl, fun y hy => Dev.sensor_setSensor_ne _ _ hy, rfl⟩
  · rw [exec_thmSensorFail x ha hon]
    refine congrArg _ (State.onDev_id (if_neg ?_))
    rcases h with h | h | h | h
    · simp [h]
    · simp [h]
    · simp [h]
    · simpa using fun _ _ _ => h
  · rw [hclr, Dev.critClear, if_neg (by rw [h]; decide)]
    exact congrArg _ (State.revoted_id rfl)
  · rw [hclr, Dev.critClear_waits h hc]
    exact congrArg _ (State.revoted_id rfl)
  · obtain ⟨lvl, he⟩ := Dev.critClear_releases h hc
    obtain ⟨honly, hlevel⟩ := Dev.throttled_facts s.dev s.dev.clrAsked rfl
    refine ⟨_, hclr, ?_⟩
    rw [he]
    refine ⟨rfl, rfl, rfl, ?_, hlevel⟩
    rw [show s.dev.critSensors.foldl Dev.throttledSensor s.dev.clrAsked = _ from honly]
    rfl

/-! ## SHUT (R320) -/

/-- What a part that a SHUT has taken down shows. -/
structure Dev.Dark (d : Dev) : Prop where
  domains : d.pwr.domains = 3
  frozen : d.pwr.dtFrozen = true
  seq : d.pwr.seq = none
  link : d.lnk.st = .down
  stopped : d.glb.run = false
  unlocked : d.tim.lock = false
  cleared : d.wave.mem.cells = []

/-- An event leaves the power controller but for what waits for CORE. -/
theorem Dev.raise_pwr (d : Dev) (n : Nat) : ∃ l, (d.raise n).pwr = { d.pwr with lateEv := l } := by
  unfold Dev.raise
  dsimp only
  split
  · exact ⟨_, rfl⟩
  · split <;> exact ⟨d.pwr.lateEv, rfl⟩

theorem Dev.Dark.raise {d : Dev} (h : d.Dark) (n : Nat) : (d.raise n).Dark := by
  obtain ⟨l, hl⟩ := d.raise_pwr n
  refine ⟨by rw [hl]; exact h.domains, by rw [hl]; exact h.frozen, by rw [hl]; exact h.seq, ?_, ?_, ?_, ?_⟩
  · rw [Dev.raise_lnk]; exact h.link
  · rw [Dev.raise_glb]; exact h.stopped
  · rw [Dev.raise_tim]; exact h.unlocked
  · rw [Dev.raise_wave]; exact h.cleared

theorem Dev.Dark.raiseIf {d : Dev} (h : d.Dark) (c : Bool) (n : Nat) : (d.raiseIf c n).Dark := by
  cases c with
  | false => exact h
  | true => exact h.raise n

/-- The domains powered, the sequence under way and the clock of device time stay. -/
def Dev.PwrKept (d e : Dev) : Prop :=
  e.pwr.domains = d.pwr.domains ∧ e.pwr.dtFrozen = d.pwr.dtFrozen ∧ e.pwr.seq = d.pwr.seq

theorem Dev.PwrKept.trans {d e g : Dev} (h : d.PwrKept e) (k : e.PwrKept g) : d.PwrKept g :=
  ⟨k.1.trans h.1, k.2.1.trans h.2.1, k.2.2.trans h.2.2⟩

theorem Dev.raiseIf_pwrKept (d : Dev) (c : Bool) (n : Nat) : d.PwrKept (d.raiseIf c n) := by
  cases c with
  | false => exact ⟨rfl, rfl, rfl⟩
  | true =>
    obtain ⟨l, hl⟩ := d.raise_pwr n
    exact ⟨by rw [Dev.raiseIf, if_pos rfl, hl], by rw [Dev.raiseIf, if_pos rfl, hl], by rw [Dev.raiseIf, if_pos rfl, hl]⟩

theorem Dev.coreReset_pwrKept (keep : Bool) (d : Dev) : d.PwrKept (d.coreReset keep) := by
  unfold Dev.coreReset
  dsimp only
  refine Dev.PwrKept.trans ?_ (Dev.raiseIf_pwrKept _ _ _)
  exact ⟨rfl, rfl, rfl⟩

/-- The registers of a domain dropped, with its reset counted. -/
def Dev.dropped (k : Nat) (d : Dev) : Dev :=
  (d.dropRegs .d (fun o => regDomain o = k)).modPwr (fun p => { p with dCount := p.dCount + 1 })

theorem Dev.classD_eq (k : Nat) (d : Dev) : d.classD k =
    if k = domLINK then (d.dropped k).lnkReset false
    else if k = domCORE then (d.dropped k).coreReset false
    else if k = domACQ then (d.dropped k).acqReset
    else if k = domWAVE then (d.dropped k).waveReset true
    else if k = domSERVO then (d.dropped k).servoReset
    else if k = domMEM then (d.dropped k).memReset
    else if k = domHK then (d.dropped k).hkReset
    else d.dropped k := rfl

/-- The reset of a domain leaves the power controller's own state. -/
theorem Dev.classD_pwrKept (k : Nat) (d : Dev) : d.PwrKept (d.classD k) := by
  have hdropped : d.PwrKept (d.dropped k) := ⟨rfl, rfl, rfl⟩
  rw [Dev.classD_eq]
  refine hdropped.trans ?_
  generalize d.dropped k = e
  split
  · exact ⟨rfl, rfl, rfl⟩
  split
  · exact e.coreReset_pwrKept false
  split
  · exact ⟨rfl, rfl, rfl⟩
  split
  · exact ⟨rfl, rfl, rfl⟩
  split
  · exact ⟨rfl, rfl, rfl⟩
  split
  · exact ⟨rfl, rfl, rfl⟩
  split
  · exact ⟨rfl, rfl, rfl⟩
  · exact ⟨rfl, rfl, rfl⟩

/-- A comparator has tripped. -/
def Dev.shutMarked (k : Nat) (d : Dev) : Dev := { d with thm := { d.thm with
  shutNow := setBit d.thm.shutNow k, shutLatch := setBit (setBit d.thm.shutLatch k) 31, shut := true } }

/-- The power controller after a SHUT. -/
def Pwr.downed (p : Pwr) : Pwr := { p with
  domains := 3, held := 0, seq := none, phase := .quiesce, queued := none, linkLow := false, selfRefresh := false,
  pg := 0, dtFrozen := true, goal := 3, drst := 0, waitEntry := [], waitWake := [] }

/-- The domains that lost power are reset. -/
def Dev.lowered (d : Dev) : Dev := forN 9 (fun j d => if 2 ≤ j then d.classD j else d) (d.modPwr Pwr.downed)

/-- The link, the ticks and the lock end, and memory is lost. -/
def Dev.darkened (d : Dev) : Dev := { d.modMem (fun m => { m with cells := [], bad := [], soft := [] }) with
  lnk := { d.lnk with st := .down }, glb := { d.glb with run := false }, tim := { d.tim with lock := false, holdover := false } }

/-- A SHUT takes the part down. -/
def Dev.takenDown (d : Dev) : Dev :=
  (((d.runAbort (fun _ => true)).domainsStop 0x1FC).lowered.darkened).noteState

theorem State.shutTrip_eq (k : Nat) (s : State) : s.shutTrip k = ((s.onDev fun d =>
    if d.pwr.domains &&& 0x1FC = 0 && d.pwr.seq.isNone then d.shutMarked k else (d.shutMarked k).takenDown).fault 0x0D k).settle s.dev := by
  unfold State.shutTrip Dev.takenDown Dev.darkened Dev.lowered Pwr.downed Dev.shutMarked
  with_reducible rfl

theorem Dev.lowered_pwr (d : Dev) : d.lowered.pwr.domains = 3 ∧ d.lowered.pwr.dtFrozen = true ∧ d.lowered.pwr.seq = none :=
  forN_rel Dev.PwrKept (fun _ => ⟨rfl, rfl, rfl⟩) Dev.PwrKept.trans (fun j e _ => by
    split
    · exact e.classD_pwrKept j
    · exact ⟨rfl, rfl, rfl⟩) (d.modPwr Pwr.downed)

theorem Dev.takenDown_dark (d : Dev) : d.takenDown.Dark := by
  unfold Dev.takenDown
  generalize (d.runAbort (fun _ => true)).domainsStop 0x1FC = e
  have hdark : e.lowered.darkened.Dark := by
    obtain ⟨h1, h2, h3⟩ := e.lowered_pwr
    exact ⟨h1, h2, h3, rfl, rfl, rfl, rfl⟩
  unfold Dev.noteState
  split
  · exact hdark
  · obtain ⟨h1, h2, h3, h4, h5, h6, h7⟩ := hdark
    refine Dev.Dark.raise ?_ _
    exact ⟨h1, h2, h3, h4, h5, h6, h7⟩

/-- A fault touches the device by its events alone, and neither the fuses nor the queue. -/
theorem State.fault_dark {s : State} (code idx : Nat) (h : s.dev.Dark) :
    (s.fault code idx).dev.Dark ∧ (s.fault code idx).fuses = s.fuses ∧ (s.fault code idx).pending = s.pending := by
  cases hst : s.isl.st with
  | internal => rw [State.fault_internal code idx hst]; exact ⟨h, rfl, rfl⟩
  | lockout => rw [State.fault_lockout code idx hst]; exact ⟨h, rfl, rfl⟩
  | run => rw [State.fault_active_eq code idx (.inl hst)]; exact ⟨(h.raise _).raise _, rfl, rfl⟩
  | wait => rw [State.fault_active_eq code idx (.inr hst)]; exact ⟨(h.raise _).raise _, rfl, rfl⟩
  | start =>
    rw [State.fault_starting code idx (.inl hst)]
    split
    · exact ⟨h, rfl, rfl⟩
    · exact ⟨h.raise _, rfl, rfl⟩
  | selftest =>
    rw [State.fault_starting code idx (.inr hst)]
    split
    · exact ⟨h, rfl, rfl⟩
    · exact ⟨h.raise _, rfl, rfl⟩

theorem Dev.Dark.dbgClose {d : Dev} (h : d.Dark) : d.dbgClose.Dark := by
  unfold Dev.dbgClose
  split
  · exact h
  · obtain ⟨h1, h2, h3, h4, h5, h6, h7⟩ := h
    refine Dev.Dark.raise ?_ _
    exact ⟨h1, h2, h3, h4, h5, h6, h7⟩

theorem Dev.Dark.secLock {d : Dev} (h : d.Dark) (all : Bool) : (d.secLock all).Dark := by
  obtain ⟨h1, h2, h3, h4, h5, h6, h7⟩ := h
  have hmod : Dev.Dark (d.modSec (fun x => { x with service := false, chal := none })) := ⟨h1, h2, h3, h4, h5, h6, h7⟩
  unfold Dev.secLock
  dsimp only
  refine Dev.Dark.raiseIf ?_ _ _
  split
  · exact hmod.dbgClose
  · exact hmod

/-- The password session ends where the part goes low; the island's state and fault, the fuses and the queue stay. -/
theorem State.settle_facts (before : Dev) (s : State) : ((s.settle before).dev = s.dev ∨ (s.settle before).dev = s.dev.secLock true)
    ∧ (s.settle before).isl.st = s.isl.st ∧ (s.settle before).isl.fault = s.isl.fault
    ∧ (s.settle before).fuses = s.fuses ∧ (s.settle before).pending = s.pending := by
  have hisl : ∀ (f : Island → Island), (∀ i, (f i).st = i.st ∧ (f i).fault = i.fault) → ∀ (p : Prop) [Decidable p] (u : State),
      ∃ i : Island, (if p then u.onIsl f else u) = { u with isl := i } ∧ i.st = u.isl.st ∧ i.fault = u.isl.fault := fun f hf p _ u => by
    split
    · exact ⟨_, rfl, hf u.isl⟩
    · exact ⟨_, rfl, rfl, rfl⟩
  unfold State.settle
  dsimp only
  obtain ⟨i, hi, hst, hfault⟩ := hisl Island.closeSession (fun _ => ⟨rfl, rfl⟩)
    (((decide (s.dev.devSt = .doze) || decide (s.dev.devSt = .stow)) && !(decide (before.devSt = .doze) || decide (before.devSt = .stow))) = true) s
  rw [hi]
  obtain ⟨j, hj, hst', hfault'⟩ := hisl Island.pwReset (fun _ => ⟨rfl, rfl⟩) (s.dev.pwr.dCount ≠ before.pwr.dCount) { s with isl := i }
  rw [hj]
  split
  · exact ⟨.inr rfl, hst'.trans hst, hfault'.trans hfault, rfl, rfl⟩
  · exact ⟨.inl rfl, hst'.trans hst, hfault'.trans hfault, rfl, rfl⟩

/-- Settles O30: memory emptied by a SHUT is log 2, and what the part held in reset does when the comparators clear is log 60. -/
theorem shutTakesThePartDown : Obligations.ShutTakesThePartDown := by
  unfold Obligations.ShutTakesThePartDown
  intro s x hoff
  have hexec : exec (.shutComparatorTrip x) s = .next (s.shutTrip x) := congrArg _ (if_neg (by rw [hoff]; decide))
  have hclear : exec .shutComparatorClear s = .next { s with dev := s.dev.shutClear } := congrArg _ (if_neg (by rw [hoff]; decide))
  refine ⟨fun hdom => ⟨_, hexec, ?_⟩, fun hdom hseq hst => ?_, fun hhold => ?_, fun hhold => ⟨_, hclear, ?_⟩⟩
  · have hne : ¬ (decide (s.dev.pwr.domains &&& 0x1FC = 0) && s.dev.pwr.seq.isNone) = true := by simp [hdom]
    rw [State.shutTrip_eq, State.onDev, if_neg hne]
    have hdark := (s.dev.shutMarked x).takenDown_dark
    generalize (s.dev.shutMarked x).takenDown = e at hdark ⊢
    obtain ⟨hfault, hfuses, hpending⟩ := State.fault_dark (s := { s with dev := e }) 0x0D x hdark
    obtain ⟨hdev, hst, hcause, hfuses', hpending'⟩ := State.settle_facts s.dev (State.fault 0x0D x { s with dev := e })
    have hlast : (State.settle s.dev (State.fault 0x0D x { s with dev := e })).dev.Dark := by
      rcases hdev with h | h
      · rw [h]; exact hfault
      · rw [h]; exact hfault.secLock true
    refine ⟨hlast.domains, hlast.frozen, hlast.seq, hlast.link, hlast.stopped, hlast.unlocked, hlast.cleared,
      hfuses'.trans hfuses, hpending'.trans hpending, fun hrun hnone => ?_⟩
    rw [hst, hcause, State.fault_active_eq (s := { s with dev := e }) 0x0D x hrun, Island.latch_none _ hnone]
    exact ⟨rfl, _, rfl, rfl, rfl⟩
  · rw [hexec, State.shutTrip_eq, State.onDev, if_pos (by simp [hdom, hseq]),
      State.fault_lockout (s := { s with dev := s.dev.shutMarked x }) _ _ hst]
    exact congrArg _ (State.settle_id (Dev.devSt_congr rfl rfl rfl) rfl rfl)
  · rw [hclear, Dev.shutClear]
    dsimp only
    rw [if_neg (by rw [hhold]; decide), Dev.modPwr, ← hhold]
  · rw [Dev.shutClear]
    dsimp only
    rw [if_pos hhold]
    exact ⟨rfl, rfl, rfl, rfl⟩

end Sys2Proof.Machine
end

section
/-! Redundant pairs: claim rounds, handover, failed checks and detections (13 R368-R376, R380, R382). -/
namespace Sys2Proof.Machine

/-! ## Shared steps -/

theorem State.inDomVoted_pos {s : State} {k : Nat} (ha : s.alive = true) (hon : s.dev.on k = true) (f : Dev → Dev) :
    s.inDomVoted k f = State.revoted (fun _ => { s with dev := f s.dev }) s := by
  refine (State.revoted_const _ s).trans ?_
  rw [State.inDom_pos ha hon]

/-- Where a command of a domain does nothing. -/
theorem State.inDomVoted_same {s : State} {k : Nat} (ha : s.alive = true) (hon : s.dev.on k = true) {f : Dev → Dev}
    (h : f s.dev = s.dev) : s.inDomVoted k f = s := by
  rw [State.inDomVoted_pos ha hon, h]
  exact State.revoted_id rfl

/-- A unit whose qualification has gone. -/
def Mdv.unqualified (m : Mdv) : Mdv := { m with qualified := false, image := false, matchRun := 0, since := [] }

theorem Mdv.unqualified_eta {m : Mdv} (h : m.qualified = false) :
    m.unqualified = { m with image := false, matchRun := 0, since := [] } := by rw [Mdv.unqualified, ← h]

theorem Dev.unqualify_eq (d : Dev) : d.unqualify = Dev.raiseIf { d with mdv := d.mdv.unqualified } d.mdv.qualified Ev.PAIR_UNQUALIFIED := rfl

/-- A unit without qualification loses none. -/
theorem Dev.unqualify_not {d : Dev} (h : d.mdv.qualified = false) : d.unqualify = { d with mdv := d.mdv.unqualified } := by
  rw [Dev.unqualify_eq, h]
  rfl

theorem Dev.unqualify_noted {d : Dev} (hc : d.on domCORE = true) (h : d.mdv.qualified = true) :
    Dev.Noted Ev.PAIR_UNQUALIFIED { d with mdv := d.mdv.unqualified } d.unqualify := by
  rw [Dev.unqualify_eq, h]
  exact Dev.raise_noted hc (by decide)

/-! ## Claim rounds (R368, R369, R376) -/

theorem exec_claimRound {s : State} (t : Time) (other : Option Nat) (ha : s.alive = true) (hc : s.dev.on domCORE = true) :
    exec (.claimRound t other) s = .next (State.revoted (fun _ => s.claimRound t other) s) := by
  refine congrArg _ ((State.live_pos ha _).trans ((State.revoted_const _ s).trans ?_))
  rw [if_pos hc]

/-- The partners hold the same priority. -/
def Dev.SamePrio (d : Dev) : Prop := d.mdv.xlink = true ∧ d.mdv.partnerPrio = d.prio

theorem Dev.prioCheck_differs {d : Dev} (h : ¬ d.SamePrio) : d.prioCheck = { d with mdv := { d.mdv with prioSeen := false } } := by
  have hs : (d.mdv.xlink && decide (d.mdv.partnerPrio = d.prio)) = false := by
    rw [← Bool.not_eq_true, Bool.and_eq_true, decide_eq_true_eq]
    exact h
  unfold Dev.prioCheck
  dsimp only
  rw [hs]
  rfl

theorem Dev.prioCheck_same {d : Dev} (h : d.SamePrio) : d.prioCheck
    = Dev.raiseIf { d with mdv := { d.mdv with prioSeen := true } } (!d.mdv.prioSeen) Ev.PAIR_CFG_MISMATCH := by
  have hs : (d.mdv.xlink && decide (d.mdv.partnerPrio = d.prio)) = true := by
    rw [Bool.and_eq_true, decide_eq_true_eq]
    exact h
  unfold Dev.prioCheck
  dsimp only
  rw [hs]
  rfl

/-- The pair's state in a unit that has won a round. -/
def Dev.roundWon (d : Dev) : Mdv := { d.mdv with
  bidding := true, won := true, winner := d.claimNum, active := true,
  wdog := false, handoverDue := d.mdv.handoverDue || !d.mdv.won, hbLost := false }

/-- The pair's state in a unit that has lost a round to number `o`. -/
def State.roundLost (o : Nat) (s : State) : Mdv := { s.dev.mdv with
  stages := false, active := false, bidding := s.mayBid, won := false,
  handoverDue := false, winner := o, sawOther := true, hbLost := false, yielding := false }

/-- The device at the end of a claim round. -/
def Dev.roundEnd (t : Time) (m : Mdv) (d : Dev) : Dev := { d.at (t + 2000 * ns) with mdv := m }

theorem Dev.roundEnd_on (t : Time) (m : Mdv) (d : Dev) (k : Nat) : (d.roundEnd t m).on k = d.on k := Dev.at_on d _ k

theorem Dev.roundEnd_samePrio {t : Time} {m : Mdv} {d : Dev} (h1 : m.xlink = d.mdv.xlink) (h2 : m.partnerPrio = d.mdv.partnerPrio) :
    (d.roundEnd t m).SamePrio ↔ d.SamePrio := by
  have hprio : (d.roundEnd t m).prio = d.prio := congrArg (max 1) (Dev.at_f d _ _ _ _)
  unfold Dev.SamePrio
  rw [hprio]
  exact and_congr (by rw [← h1]; rfl) (by rw [← h2]; rfl)

theorem Mdv.seen_eta {m : Mdv} (h : m.prioSeen = true) : { m with prioSeen := true } = m := by rw [← h]

/-- A unit whose number no other exceeds wins the round. -/
theorem State.claimRound_won {s : State} {t : Time} {other : Option Nat} (hp : s.dev.straps.pairEn = true) (hb : s.mayBid = true)
    (ho : ∀ o, other = some o → o ≤ s.dev.claimNum) :
    s.claimRound t other = { s with dev := (s.dev.roundEnd t s.dev.roundWon).prioCheck } := by
  have hend : (s.dev.at (t + 2000 * ns)).modMdv (fun m => { m with
      bidding := true, won := true, winner := s.dev.claimNum, active := true,
      wdog := false, handoverDue := m.handoverDue || !m.won, hbLost := false }) = s.dev.roundEnd t s.dev.roundWon := by
    rw [Dev.modMdv, Dev.at_mdv]
    rfl
  unfold State.claimRound
  rw [if_neg (by rw [hp]; decide)]
  cases other with
  | none =>
    simp only [hb, Bool.true_and, if_true, Bool.not_true, Bool.and_false, Bool.false_and, Bool.false_eq_true, if_false, State.onDev]
    rw [hend]
  | some o =>
    simp only [hb, Bool.true_and, decide_eq_true (ho o rfl), if_true, Bool.not_true, Bool.and_false, Bool.false_and,
      Bool.false_eq_true, if_false, State.onDev]
    rw [hend]

/-- A unit that does not bid, or whose number another exceeds, loses it. -/
theorem State.claimRound_lost {s : State} {t : Time} {o : Nat} (hp : s.dev.straps.pairEn = true)
    (h : s.mayBid = false ∨ s.dev.claimNum < o) : s.claimRound t (some o) = { s with dev :=
      if s.dev.mdv.hbLost then ((s.dev.roundEnd t (s.roundLost o)).prioCheck.unqualify).raise Ev.PAIR_LINK_LOST
      else (s.dev.roundEnd t (s.roundLost o)).prioCheck } := by
  have hwin : (s.mayBid && decide (o ≤ s.dev.claimNum)) = false := by
    rcases h with h | h
    · rw [h, Bool.false_and]
    · rw [decide_eq_false (Nat.not_le.mpr h), Bool.and_false]
  unfold State.claimRound
  rw [if_neg (by rw [hp]; decide)]
  dsimp only
  rw [hwin]
  simp only [Bool.not_false, Bool.and_true, Bool.false_eq_true, if_false, Option.isNone_some, Option.isSome_some,
    Bool.and_false, Bool.false_and, Bool.or_true, Option.getD_some]
  rw [State.onDev, Dev.modMdv, Dev.at_mdv, Bool.and_not_self]
  rfl

/-- The device of a unit that has lost a round to number `o`, its priority unlike its partner's. -/
def State.lostEnd (t : Time) (o : Nat) (s : State) : Dev := s.dev.roundEnd t { s.roundLost o with prioSeen := false }

theorem State.claimRound_lostEnd {s : State} {t : Time} {o : Nat} (hp : s.dev.straps.pairEn = true)
    (h : s.mayBid = false ∨ s.dev.claimNum < o) (hd : ¬ s.dev.SamePrio) : s.claimRound t (some o) = { s with
      dev := if s.dev.mdv.hbLost then (s.lostEnd t o).unqualify.raise Ev.PAIR_LINK_LOST else s.lostEnd t o } := by
  have hsame := Dev.roundEnd_samePrio (t := t) (m := s.roundLost o) (d := s.dev) rfl rfl
  rw [State.claimRound_lost hp h, Dev.prioCheck_differs (mt hsame.mp hd)]
  rfl

/-- Settles O38: equal priorities are noted once until they differ, and equal numbers leave the unit its round (log 73). -/
theorem claimRoundsDecideWhoIsActive : Obligations.ClaimRoundsDecideWhoIsActive := by
  unfold Obligations.ClaimRoundsDecideWhoIsActive
  intro s t other ha hc
  have hexec := exec_claimRound t other ha hc
  refine ⟨fun hp hb ho => ?_, fun o hp hother hlose hdiff => ?_, fun hp => ?_⟩
  · have hsame := Dev.roundEnd_samePrio (t := t) (m := s.dev.roundWon) (d := s.dev) rfl rfl
    rw [hexec, State.claimRound_won hp hb ho]
    refine ⟨fun hdiff => ?_, fun hs hseen => ?_, fun hs hseen => ?_⟩
    · rw [Dev.prioCheck_differs (mt hsame.mp hdiff)]
      rfl
    · rw [Dev.prioCheck_same (hsame.mpr hs), show (s.dev.roundEnd t s.dev.roundWon).mdv.prioSeen = true from hseen]
      exact congrArg (fun m => (Host.Outcome.next (State.revoted (fun _ => { s with dev := s.dev.roundEnd t m }) s) : Res))
        (Mdv.seen_eta hseen)
    · rw [Dev.prioCheck_same (hsame.mpr hs), show (s.dev.roundEnd t s.dev.roundWon).mdv.prioSeen = false from hseen]
      exact ⟨_, rfl, Dev.raise_noted ((Dev.at_on _ _ _).trans hc) (by decide)⟩
  · subst hother
    have hon : (s.lostEnd t o).on domCORE = true := (Dev.roundEnd_on _ _ _ _).trans hc
    rw [hexec, State.claimRound_lostEnd hp hlose hdiff]
    refine ⟨fun hhb => ?_, fun hhb hq => ?_, fun hhb hq => ?_⟩
    · rw [if_neg (by rw [hhb]; decide)]
      rfl
    · rw [if_pos hhb, Dev.unqualify_not (d := s.lostEnd t o) hq, Mdv.unqualified_eta (m := (s.lostEnd t o).mdv) hq]
      refine ⟨_, rfl, Dev.raise_noted (n := Ev.PAIR_LINK_LOST) ?_ (by decide)⟩
      exact hon
    · rw [if_pos hhb]
      have hlost := Dev.unqualify_noted hon hq
      exact ⟨_, _, rfl, hlost, Dev.raise_noted ((hlost.on _).trans hon) (by decide)⟩
  · rw [hexec, State.claimRound, if_pos (by rw [hp]; rfl)]
    exact congrArg _ (State.revoted_id rfl)

/-! ## Handover (R369, R377, R380) -/

/-- Only the axes differ. -/
def Dev.OnlyAxes (d e : Dev) : Prop := e = { d with hch := { d.hch with axes := e.hch.axes } }

theorem Dev.OnlyAxes.trans {d e g : Dev} (h : d.OnlyAxes e) (k : e.OnlyAxes g) : d.OnlyAxes g := by
  unfold Dev.OnlyAxes at *
  rw [k, h]

/-- A change of all eight axes. -/
def Dev.allAxes (f : Axis → Axis) (d : Dev) : Dev := forN 8 (fun a d => d.modAx a f) d

theorem Dev.allAxes_facts (f : Axis → Axis) (d : Dev) : d.OnlyAxes (d.allAxes f) ∧ ∀ a : Fin 8, (d.allAxes f).ax a = f (d.ax a) := by
  refine ⟨forN_rel Dev.OnlyAxes (fun _ => rfl) Dev.OnlyAxes.trans (fun a e _ => (rfl : e.OnlyAxes (e.modAx a f))) d, fun a => ?_⟩
  obtain ⟨e, -, ha, hlast⟩ := foldl_own_turn (f := fun (d : Dev) b => d.modAx b f) (fun _ _ => True) (fun _ => trivial)
    (fun _ _ => trivial) Dev.ax (fun _ _ _ => trivial) (fun e b _ c hc => tabGet_put_ne _ _ _ hc.symm) List.nodup_range
    (List.mem_range.mpr a.isLt) d
  refine hlast.trans ((tabGet_put_same _ _ _ _).trans ?_)
  rw [ha]

/-- The unit drives its shared stages from now on. -/
def Dev.takesOver (t : Time) (d : Dev) : Dev :=
  { d.at t with
      mdv := { d.mdv with stages := true, handoverDue := false, dark := false }
      glb := { (d.at t).glb with handover := true } }

/-- An axis of a unit that takes over from another: the last active word is its first drive word. -/
def Axis.takenOver (x : Axis) : Axis :=
  if x.st = .disabled then { x with standby := false } else { x with standby := false, drive := x.activeDrive, tracked := 2 }

/-- The fail-over is counted, stamped and noted. -/
def Dev.failedOver (d : Dev) : Dev :=
  ((d.inc Reg.MDV_FAILOVER_CNT).wr64 Reg.MDV_FAILOVER_DT_LO d.now).raise Ev.PAIR_FAILOVER

/-- The epoch of the frame that ended is complete. -/
def Dev.epochReady (d : Dev) : Bool :=
  match d.mdv.epoch with
  | some (e, _) => decide (e.num + 1 = d.glb.frameNum)
  | none => false

/-- The complete epoch of the frame that ended is applied, and without one the records are marked. -/
def Dev.epochOrAged (d : Dev) : Dev :=
  if d.epochReady then d.epochTick
  else d.modMdv (fun m => { m with aged := d.f Reg.STP_PERS_CTL 10 6, epoch := none })

theorem Dev.handover_eq {t : Time} {d : Dev} (hp : d.straps.pairEn = true) (hd : d.mdv.handoverDue = true) :
    d.handover t = if d.mdv.sawOther then ((d.takesOver t).allAxes Axis.takenOver).failedOver.epochOrAged
      else (d.takesOver t).allAxes (fun x => { x with standby := false }) := by
  have htaken : Dev.modMdv (fun m => { m with stages := true, handoverDue := false, dark := false }) (d.at t)
      = { d.at t with mdv := { d.mdv with stages := true, handoverDue := false, dark := false } } := by
    rw [Dev.modMdv, Dev.at_mdv]
  unfold Dev.handover
  rw [if_neg (by rw [hp, hd]; decide)]
  dsimp only
  rw [htaken, Dev.at_mdv]
  cases d.mdv.sawOther with
  | true =>
    rw [if_neg (by decide), if_pos rfl, if_pos rfl]
    rfl
  | false =>
    rw [if_pos (by decide), if_neg (by decide), if_neg (by decide)]
    rfl

/-- The claim, the shared stages and the frame's state stay. -/
structure Dev.StagesKept (d e : Dev) : Prop where
  stages : e.mdv.stages = d.mdv.stages
  due : e.mdv.handoverDue = d.mdv.handoverDue
  active : e.mdv.active = d.mdv.active
  glb : e.glb = d.glb

theorem Dev.StagesKept.refl (d : Dev) : d.StagesKept d := ⟨rfl, rfl, rfl, rfl⟩

theorem Dev.StagesKept.trans {d e g : Dev} (h : d.StagesKept e) (k : e.StagesKept g) : d.StagesKept g :=
  ⟨k.stages.trans h.stages, k.due.trans h.due, k.active.trans h.active, k.glb.trans h.glb⟩

theorem Dev.raise_stagesKept (d : Dev) (n : Nat) : d.StagesKept (d.raise n) :=
  ⟨by rw [Dev.raise_mdv], by rw [Dev.raise_mdv], by rw [Dev.raise_mdv], Dev.raise_glb d n⟩

theorem Dev.applyEpoch_stagesKept (push : Bool) (e : Epoch) (d : Dev) : d.StagesKept (d.applyEpoch push e) := by
  have hchans : d.StagesKept (e.chans.foldl (fun d x => if x.c < 512 then d.epochChan push x else d) d) :=
    foldl_rel Dev.StagesKept Dev.StagesKept.refl Dev.StagesKept.trans (fun g x _ => by
      split
      · exact ⟨rfl, rfl, rfl, rfl⟩
      · exact .refl g) d
  exact hchans.trans ⟨rfl, rfl, rfl, rfl⟩

theorem Dev.qualify_stagesKept (d : Dev) : d.StagesKept d.qualify := by
  unfold Dev.qualify
  split
  · refine Dev.StagesKept.trans ?_ (Dev.raise_stagesKept _ _)
    exact ⟨rfl, rfl, rfl, rfl⟩
  · exact .refl d

theorem Dev.epochTick_stagesKept (d : Dev) : d.StagesKept d.epochTick := by
  unfold Dev.epochTick
  split
  · exact .refl d
  · next e ok _ =>
    refine (d.applyEpoch_stagesKept false e).trans ?_
    generalize d.applyEpoch false e = g
    refine Dev.StagesKept.trans ?_ (Dev.qualify_stagesKept _)
    exact ⟨rfl, rfl, rfl, rfl⟩

theorem Dev.epochOrAged_stagesKept (d : Dev) : d.StagesKept d.epochOrAged := by
  unfold Dev.epochOrAged
  split
  · exact d.epochTick_stagesKept
  · exact ⟨rfl, rfl, rfl, rfl⟩

/-- Without an epoch the records are marked. -/
theorem Dev.epochOrAged_none {d : Dev} (h : d.mdv.epoch = none) :
    d.epochOrAged = { d with mdv := { d.mdv with aged := d.f Reg.STP_PERS_CTL 10 6, epoch := none } } := by
  unfold Dev.epochOrAged Dev.epochReady
  rw [h]
  rfl

/-- What a fail-over leaves in the registers. -/
structure Dev.CountedFailOver (d e : Dev) : Prop where
  count : e.rd Reg.MDV_FAILOVER_CNT = satInc (d.rd Reg.MDV_FAILOVER_CNT)
  lo : e.rd Reg.MDV_FAILOVER_DT_LO = loW d.now
  hi : e.rd Reg.MDV_FAILOVER_DT_HI = hiW d.now
  noted : e.b (evtRawOff Ev.PAIR_FAILOVER) (Ev.PAIR_FAILOVER % 32) = true
  pers : e.rd Reg.STP_PERS_CTL = d.rd Reg.STP_PERS_CTL
  hch : e.hch = d.hch
  mdv : e.mdv = d.mdv
  glb : e.glb = d.glb

theorem Dev.failedOver_counted {d : Dev} (hc : d.on domCORE = true) : d.CountedFailOver d.failedOver := by
  obtain ⟨-, hset, hrd, -⟩ := Dev.raise_noted (d := (d.inc Reg.MDV_FAILOVER_CNT).wr64 Reg.MDV_FAILOVER_DT_LO d.now)
    (n := Ev.PAIR_FAILOVER) hc (by decide)
  refine ⟨(hrd _ (by decide)).trans ?_, (hrd _ (by decide)).trans (Dev.wr64_rd_lo _ _ _), (hrd _ (by decide)).trans (Dev.wr64_rd_hi _ _ _),
    hset, (hrd _ (by decide)).trans ?_, Dev.raise_hch _ _, Dev.raise_mdv _ _, Dev.raise_glb _ _⟩
  · exact (Dev.wr64_rd_ne _ _ (by decide) (by decide)).trans (Dev.rd_wr_same _ _ _)
  · exact (Dev.wr64_rd_ne _ _ (by decide) (by decide)).trans (Dev.rd_wr_ne _ _ (by decide))

/-! ## The claim watchdog and failing checks (R370, R371, R382) -/

theorem exec_selfCheckFail {s : State} (n : Nat) (ha : s.alive = true) (hc : s.dev.on domCORE = true) :
    exec (.selfCheckFail n) s = .next (State.revoted (fun _ => s.selfCheckFail n) s) := by
  refine congrArg _ ((State.live_pos ha _).trans ((State.revoted_const _ s).trans ?_))
  rw [if_pos hc]

theorem State.selfCheckFail_fails {s : State} {n : Nat} (hp : s.dev.straps.pairEn = true) (hn : n < 7)
    (h : s.selfChk.testBit n = false) : s.selfCheckFail n = { s with dev := (s.dev.modMdv Mdv.drop).unqualify } := by
  have h7 : (decide (n = 7) && s.dev.mdv.xlink) = false := by simp [Nat.ne_of_lt hn]
  unfold State.selfCheckFail
  simp only [h7, Bool.false_eq_true, if_false]
  exact if_neg (by simp [hp, h])

theorem State.selfCheckFail_passes {s : State} {n : Nat} (hn : n < 7) (h : s.selfChk.testBit n = true) : s.selfCheckFail n = s := by
  have h7 : (decide (n = 7) && s.dev.mdv.xlink) = false := by simp [Nat.ne_of_lt hn]
  unfold State.selfCheckFail
  simp only [h7, Bool.false_eq_true, if_false]
  exact if_pos (by simp [h])

theorem Dev.claimWdog_eq {d : Dev} (hp : d.straps.pairEn = true) :
    d.claimWdog = Dev.unqualify { d with mdv := { d.mdv.drop with wdog := true } } := if_neg (by rw [hp]; decide)

/-- The loss of qualification touches registers by its event alone. -/
theorem Dev.unqualify_hch (d : Dev) : d.unqualify.hch = d.hch ∧ d.unqualify.mdv = d.mdv.unqualified := by
  rw [Dev.unqualify_eq]
  cases d.mdv.qualified with
  | false => exact ⟨rfl, rfl⟩
  | true => exact ⟨Dev.raise_hch _ _, Dev.raise_mdv _ _⟩

/-- Settles O39: the first handover after a reset marks the frame too (log 73). -/
theorem stagesTurnOnAtHandoverAndOffOnFailure : Obligations.StagesTurnOnAtHandoverAndOffOnFailure := by
  unfold Obligations.StagesTurnOnAtHandoverAndOffOnFailure
  intro s ha hc hp
  have hhand : ∀ t, exec (.handover t) s = .next (State.revoted (fun _ => { s with dev := s.dev.handover t }) s) :=
    fun t => congrArg _ (State.inDomVoted_pos ha hc _)
  have hwdog : exec .claimWatchdogExpiry s = .next (State.revoted (fun _ => { s with dev := s.dev.claimWdog }) s) :=
    congrArg _ (State.inDomVoted_pos ha hc _)
  have hself := fun n => exec_selfCheckFail n ha hc
  refine ⟨fun t hd => ⟨_, hhand t, ?_⟩, fun t hd => ?_, fun hq => ?_, fun hq => ?_, fun n hn hb => ?_, fun n hn hb => ?_⟩
  · rw [Dev.handover_eq hp hd]
    rcases Bool.eq_false_or_eq_true s.dev.mdv.sawOther with hs | hs
    · rw [if_pos hs]
      obtain ⟨honly, hax⟩ := (s.dev.takesOver t).allAxes_facts Axis.takenOver
      generalize (s.dev.takesOver t).allAxes Axis.takenOver = g at honly hax ⊢
      have hover := Dev.failedOver_counted (d := g) (by rw [show g = _ from honly]; exact (Dev.at_on _ _ _).trans hc)
      have hkept := g.failedOver.epochOrAged_stagesKept
      have hrd : ∀ o, g.rd o = s.dev.rd o := fun o => by
        rw [show g = _ from honly]
        exact Dev.at_rd _ _ _
      have hmdv : g.mdv = { s.dev.mdv with stages := true, handoverDue := false, dark := false } := by
        rw [show g = _ from honly]
        rfl
      have hglb : g.glb.handover = true := by
        rw [show g = _ from honly]
        rfl
      have hnow : g.now = (s.dev.at t).now := by
        rw [show g = _ from honly]
        rfl
      refine ⟨hkept.stages.trans (by rw [hover.mdv, hmdv]), hkept.due.trans (by rw [hover.mdv, hmdv]),
        hkept.active.trans (by rw [hover.mdv, hmdv]), by rw [hkept.glb, hover.glb, hglb],
        fun h => absurd (hs.symm.trans h) (by decide), fun _ hnone => ?_⟩
      have hepoch : g.failedOver.mdv.epoch = none := by
        rw [hover.mdv, hmdv]
        exact hnone
      rw [Dev.epochOrAged_none hepoch]
      refine ⟨?_, ?_, ?_, ?_, hover.noted, fun a ha => ?_⟩
      · exact congrArg (fun w => fld w 10 6) (hover.pers.trans (hrd _))
      · exact hover.count.trans (congrArg satInc (hrd _))
      · exact hover.lo.trans (congrArg loW hnow)
      · exact hover.hi.trans (congrArg hiW hnow)
      · have htaken : (s.dev.takesOver t).ax a = s.dev.ax a := congrArg (fun h : Hch => tabGet ({} : Axis) h.axes a) (Dev.at_hch s.dev t)
        have hlast : g.failedOver.ax a = (s.dev.ax a).takenOver :=
          (congrArg (fun h : Hch => tabGet ({} : Axis) h.axes a) hover.hch).trans ((hax a).trans (congrArg _ htaken))
        have hstate : (s.dev.ax a).takenOver = { s.dev.ax a with
            standby := false, drive := (s.dev.ax a).activeDrive, tracked := 2 } := if_neg ha
        exact ⟨congrArg Axis.drive (hlast.trans hstate), congrArg Axis.standby (hlast.trans hstate)⟩
    · rw [if_neg (by rw [hs]; decide)]
      obtain ⟨honly, -⟩ := (s.dev.takesOver t).allAxes_facts (fun x => { x with standby := false })
      rw [show Dev.allAxes _ (s.dev.takesOver t) = _ from honly]
      exact ⟨rfl, rfl, rfl, rfl, fun _ => ⟨Dev.at_regs _ _, Dev.at_evt _ _, rfl⟩, fun h => absurd (hs.symm.trans h) (by decide)⟩
  · have hidle : s.dev.handover t = s.dev := if_pos (by rw [hd]; exact Bool.or_true _)
    rw [hhand t, hidle]
    exact congrArg _ (State.revoted_id rfl)
  · rw [hwdog, Dev.claimWdog_eq hp, Dev.unqualify_not (d := { s.dev with mdv := { s.dev.mdv.drop with wdog := true } }) hq]
    rfl
  · rw [hwdog, Dev.claimWdog_eq hp]
    exact ⟨_, _, rfl, Dev.unqualify_noted hc hq, rfl⟩
  · rw [hself n, State.selfCheckFail_fails hp hn hb]
    obtain ⟨hhch, hmdv⟩ := (s.dev.modMdv Mdv.drop).unqualify_hch
    refine ⟨_, rfl, ?_⟩
    rw [hmdv, hhch]
    refine ⟨rfl, rfl, rfl, rfl, rfl, fun hq => ?_⟩
    rw [Dev.unqualify_not (d := s.dev.modMdv Mdv.drop) hq]
    rfl
  · rw [hself n, State.selfCheckFail_passes hn hb]
    exact congrArg _ (State.revoted_id rfl)

/-! ## Detections (R373-R375) -/

/-- The active unit, both units passing, calls its partner suspect. -/
theorem Dev.resolve_active {d : Dev} (h : d.mdv.active = true) :
    d.resolve true true = Dev.raise { d with mdv := { d.mdv with partnerSuspect := true } } Ev.PAIR_DISAGREE := by
  unfold Dev.resolve
  simp only [h, Bool.not_true, Bool.false_eq_true, if_false, if_true, Dev.modMdv]

/-- The standby, both units passing, calls itself suspect. -/
theorem Dev.resolve_standby {d : Dev} (h : d.mdv.active = false) :
    d.resolve true true = Dev.raise { d with mdv := { d.mdv with suspect := true } } Ev.PAIR_DISAGREE := by
  unfold Dev.resolve
  simp only [h, Bool.not_true, Bool.false_eq_true, if_false, Dev.modMdv]

/-- A unit whose own checks fail while it is active drops its claim and stops bidding. -/
theorem Dev.resolve_fails {other : Bool} {d : Dev} (h : d.mdv.active = true) :
    d.resolve false other = Dev.unqualify { d with mdv := { d.mdv.drop with stopped := true } } := by
  unfold Dev.resolve
  simp only [h, Bool.not_false, if_true, Dev.modMdv]

theorem Dev.driveDetect_active {own other : Bool} {d : Dev} (hp : d.straps.pairEn = true) (hx : d.mdv.xlink = true)
    (h : d.mdv.active = true) : d.driveDetect own other = d.resolve own other := by
  unfold Dev.driveDetect
  rw [if_neg (by rw [hp, hx]; decide), if_pos h]

theorem Dev.echoDetect_active {own other : Bool} {d : Dev} (hp : d.straps.pairEn = true) (hx : d.mdv.xlink = true)
    (h : d.mdv.active = true) : d.echoDetect own other = d.resolve own other := by
  unfold Dev.echoDetect
  rw [if_neg (by rw [hp, hx]; decide), if_pos h]

/-- An axis has reached the count of mismatches that makes a detection. -/
def Dev.DriveDetected (d : Dev) : Prop := ∃ a : Fin 8, d.misN ≤ tabGet 0 d.mdv.driveMis a.val

theorem Dev.driveDetected_iff {d : Dev} :
    (List.range 8).any (fun a => decide (d.misN ≤ tabGet 0 d.mdv.driveMis a)) = true ↔ d.DriveDetected := by
  rw [List.any_eq_true]
  constructor
  · rintro ⟨a, ha, h⟩
    exact ⟨⟨a, List.mem_range.mp ha⟩, of_decide_eq_true h⟩
  · rintro ⟨a, h⟩
    exact ⟨a, List.mem_range.mpr a.isLt, decide_eq_true h⟩

/-- A detection of the drive compare in the standby is counted and started afresh. -/
theorem Dev.driveDetect_standby {d : Dev} (hp : d.straps.pairEn = true) (hx : d.mdv.xlink = true) (h : d.mdv.active = false)
    (hd : d.DriveDetected) : d.driveDetect true true
      = Dev.raise { d.inc Reg.MDV_DRV_MIS_CNT with mdv := { d.mdv with driveMis := [], suspect := true } } Ev.PAIR_DISAGREE := by
  unfold Dev.driveDetect
  rw [if_neg (by rw [hp, hx]; decide), if_neg (by rw [h]; decide), if_pos (Dev.driveDetected_iff.mpr hd), Dev.resolve_standby]
  · rfl
  · exact h

theorem Dev.echoDetect_standby {d : Dev} (hp : d.straps.pairEn = true) (hx : d.mdv.xlink = true) (h : d.mdv.active = false)
    (hd : d.echoN ≤ d.mdv.echoMis) : d.echoDetect true true
      = Dev.raise { d.inc Reg.MDV_ECMP_MIS_CNT with mdv := { d.mdv with echoMis := 0, suspect := true } } Ev.PAIR_DISAGREE := by
  unfold Dev.echoDetect
  rw [if_neg (by rw [hp, hx]; decide), if_neg (by rw [h]; decide), if_pos hd, Dev.resolve_standby]
  · rfl
  · exact h

theorem Dev.driveDetect_idle {own other : Bool} {d : Dev} (h : d.mdv.xlink = false ∨ (d.mdv.active = false ∧ ¬ d.DriveDetected)) :
    d.driveDetect own other = d := by
  unfold Dev.driveDetect
  split
  · rfl
  · next hn =>
    rcases h with h | ⟨ha, hd⟩
    · exact absurd (by rw [h]; exact Bool.or_true _) hn
    · rw [if_neg (by rw [ha]; decide), if_neg (mt Dev.driveDetected_iff.mp hd)]

theorem Dev.echoDetect_idle {own other : Bool} {d : Dev} (h : d.mdv.xlink = false ∨ (d.mdv.active = false ∧ d.mdv.echoMis < d.echoN)) :
    d.echoDetect own other = d := by
  unfold Dev.echoDetect
  split
  · rfl
  · next hn =>
    rcases h with h | ⟨ha, hd⟩
    · exact absurd (by rw [h]; exact Bool.or_true _) hn
    · rw [if_neg (by rw [ha]; decide), if_neg (Nat.not_le.mpr hd)]

/-- Settles O40: a unit that has dropped its claim bids no more until it qualifies (log 73). -/
theorem detectionsMakeTheStandbySuspect : Obligations.DetectionsMakeTheStandbySuspect := by
  unfold Obligations.DetectionsMakeTheStandbySuspect
  intro s ha hc hp
  have hdrive : ∀ own other, exec (.driveDetection own other) s = .next (State.revoted (fun _ => { s with dev := s.dev.driveDetect own other }) s) :=
    fun own other => congrArg _ (State.inDomVoted_pos ha hc _)
  have hecho : ∀ own other, exec (.echoDetection own other) s = .next (State.revoted (fun _ => { s with dev := s.dev.echoDetect own other }) s) :=
    fun own other => congrArg _ (State.inDomVoted_pos ha hc _)
  have hsame : State.revoted (fun _ => s) s = s := State.revoted_id rfl
  refine ⟨fun hx hact c hcmd => ?_, fun hx hact hq other c hcmd => ?_, fun hx hact hd => ?_, fun hx hact hd => ?_,
    fun own other h => ?_, fun own other h => ?_⟩
  · have hexec : exec c s = .next (State.revoted (fun _ => { s with dev := s.dev.resolve true true }) s) := by
      rcases hcmd with rfl | rfl
      · rw [hdrive, Dev.driveDetect_active hp hx hact]
      · rw [hecho, Dev.echoDetect_active hp hx hact]
    rw [hexec, Dev.resolve_active hact]
    exact ⟨_, _, rfl, Dev.raise_noted hc (by decide), rfl⟩
  · have hexec : exec c s = .next (State.revoted (fun _ => { s with dev := s.dev.resolve false other }) s) := by
      rcases hcmd with rfl | rfl
      · rw [hdrive, Dev.driveDetect_active hp hx hact]
      · rw [hecho, Dev.echoDetect_active hp hx hact]
    rw [hexec, Dev.resolve_fails hact, Dev.unqualify_not (d := { s.dev with mdv := { s.dev.mdv.drop with stopped := true } }) hq]
    rfl
  · rw [hdrive, Dev.driveDetect_standby hp hx hact hd]
    exact ⟨_, _, rfl, Dev.raise_noted hc (by decide), rfl, Dev.rd_wr_same _ _ _, fun o ho => Dev.rd_wr_ne _ _ ho.symm⟩
  · rw [hecho, Dev.echoDetect_standby hp hx hact hd]
    exact ⟨_, _, rfl, Dev.raise_noted hc (by decide), rfl, Dev.rd_wr_same _ _ _, fun o ho => Dev.rd_wr_ne _ _ ho.symm⟩
  · rw [hdrive, Dev.driveDetect_idle (h.imp_right (And.imp_right fun hn hd => ?_)), hsame]
    obtain ⟨a, hd⟩ := hd
    exact Nat.not_le.mpr (hn a) hd
  · rw [hecho, Dev.echoDetect_idle h, hsame]

end Sys2Proof.Machine
end

section
/-! Cascade control and the messages of a cascade (13 R385-R387, R389-R393). -/
namespace Sys2Proof.Machine

/-! ## CASC_CTL (R385, R389, R392) -/

theorem exec_cascCtlWrite {s : State} (val : Word) (ha : s.alive = true) (hc : s.dev.on domCORE = true) :
    exec (.cascCtlWrite val) s = .next (State.revoted (fun _ => { s with dev := s.dev.cascCtl val }) s) :=
  congrArg _ (State.inDomVoted_pos ha hc _)

/-- The writable bits of a word for CASC_CTL. -/
def cascNew (val : Word) : Nat := val.toNat &&& cascMask

theorem cascNew_lt (val : Word) : cascNew val < 2 ^ 32 := lt_of_le_of_lt Nat.and_le_left val.isLt

/-- EN is writable. -/
theorem cascNew_enable (val : Word) : (cascNew val).testBit 12 = bit val 12 := by
  unfold cascNew bit
  rw [Nat.testBit_and, show cascMask.testBit 12 = true by decide, Bool.and_true]

/-- A role that the straps give. -/
theorem Dev.cascRole_strap {d : Dev} {r : Nat} (h : d.straps.cascRole = r) (hr : r < 3) : d.cascRole = r := by
  unfold Dev.cascRole
  have h3 : r ≠ 3 := by omega
  simp only [h, h3, if_false]

/-- The register of a disabled cascade takes the writable bits, whatever enabling does. -/
theorem Dev.cascCtl_disabled {val : Word} {d : Dev} (h : bit (d.rd Reg.MDV_CASC_CTL) 12 = false) (hv : bit val 12 = false) :
    d.cascCtl val = d.wrN Reg.MDV_CASC_CTL (cascNew val) := by
  have hnew := cascNew_enable val
  unfold cascNew at hnew
  unfold Dev.cascCtl
  dsimp only
  rw [if_pos (by rw [← bit, h]; rfl), if_pos (by rw [hnew, hv]; rfl)]
  rfl

/-- Enabling a cascade goes by the role. -/
theorem Dev.cascCtl_enables {val : Word} {d : Dev} (h : bit (d.rd Reg.MDV_CASC_CTL) 12 = false) (hv : bit val 12 = true)
    {r : Nat} (hr : d.straps.cascRole = r) (h1 : 1 ≤ r) (h2 : r < 3) : d.cascCtl val =
      let e := d.wrN Reg.MDV_CASC_CTL (cascNew val)
      if r = 2 then
        if d.leadOk then (e.wr Reg.MDV_CASC_PEERS 0).modMdv (fun m => { m with peerWait := true, leadFail := false, ticks := [], srcAt := 0 })
        else ((e.wrN Reg.MDV_CASC_CTL (clrBit (cascNew val) 12)).modMdv (fun m => { m with leadFail := true })).raise Ev.CASC_LATE
      else e.modMdv (fun m => { m with joined := false, aligned := false, seeded := false, ticks := [] }) := by
  have hnew := cascNew_enable val
  have hrole : (d.wrN Reg.MDV_CASC_CTL (cascNew val)).cascRole = r := Dev.cascRole_strap hr h2
  have hlead : (d.wrN Reg.MDV_CASC_CTL (cascNew val)).leadOk = d.leadOk := by
    have hrd : (d.wrN Reg.MDV_CASC_CTL (cascNew val)).rd Reg.MDV_TICK_LEAD = d.rd Reg.MDV_TICK_LEAD := Dev.rd_wr_ne _ _ (by decide)
    unfold Dev.leadOk Dev.tickLead Dev.f
    rw [hrd]
    rfl
  unfold cascNew at hnew hrole hlead
  unfold Dev.cascCtl
  dsimp only
  rw [if_pos (by rw [← bit, h]; rfl), hnew, hrole, if_neg (by simp only [hv]; simpa using Nat.pos_iff_ne_zero.mp h1), hlead]
  rfl

/-- A master whose TICK_LEAD does not cover the delays. -/
def Dev.leadRefused (val : Word) (d : Dev) : Dev :=
  ((d.wrN Reg.MDV_CASC_CTL (cascNew val)).wrN Reg.MDV_CASC_CTL (clrBit (cascNew val) 12)).modMdv (fun m => { m with leadFail := true })

/-- It stays disabled. -/
theorem Dev.leadRefused_off (val : Word) (d : Dev) : (d.leadRefused val).b Reg.MDV_CASC_CTL 12 = false := by
  refine (congrArg (fun w => bit w 12) (Dev.rd_wr_same _ _ _)).trans ?_
  rw [bit, word_toNat (lt_of_le_of_lt (clrBit_le _ _) (cascNew_lt val)), testBit_clrBit]
  simp

/-- Disabling forgets the cascade. -/
def Mdv.cascForgotten (m : Mdv) : Mdv := { m with
  joined := false, aligned := false, seeded := false, peerWait := false, ticks := [], seed := none, laneUp := false, maxDelay := 0 }

/-- The frame's state of a part that leaves a cascade. -/
def Dev.glbLeft (d : Dev) : Glb := if d.glb.src = .cascade
  then { d.glb with src := .internal, notBefore := d.now, deferred := false, deferFr := none } else d.glb

theorem Dev.cascCtl_disables {val : Word} {d : Dev} (h : bit (d.rd Reg.MDV_CASC_CTL) 12 = true) (hv : bit val 12 = false) :
    d.cascCtl val = { d.wrN Reg.MDV_CASC_CTL (cascNew val) with glb := d.glbLeft, mdv := d.mdv.cascForgotten } := by
  have hnew := cascNew_enable val
  have hmember : Dev.cascMember { d.wrN Reg.MDV_CASC_CTL (cascNew val) with mdv := d.mdv.cascForgotten } = false := by
    have hen : Dev.b { d.wrN Reg.MDV_CASC_CTL (cascNew val) with mdv := d.mdv.cascForgotten } Reg.MDV_CASC_CTL 12 = false := by
      refine (congrArg (fun w => bit w 12) (Dev.rd_wr_same d _ _)).trans ?_
      rw [bit, word_toNat (cascNew_lt val), hnew, hv]
    rw [Dev.cascMember, Dev.cascOn, hen]
    rfl
  have hleave : Dev.leaveCascade { d.wrN Reg.MDV_CASC_CTL (cascNew val) with mdv := d.mdv.cascForgotten }
      = { d.wrN Reg.MDV_CASC_CTL (cascNew val) with glb := d.glbLeft, mdv := d.mdv.cascForgotten } := by
    unfold Dev.leaveCascade Dev.glbLeft
    rw [hmember]
    by_cases hs : d.glb.src = .cascade
    · rw [if_pos hs, if_pos (by rw [Bool.not_false, Bool.and_true]; exact decide_eq_true hs)]
      rfl
    · rw [if_neg hs, if_neg (by rw [Bool.not_false, Bool.and_true, decide_eq_true_eq]; exact hs)]
      rfl
  unfold cascNew at hnew hleave
  unfold Dev.cascCtl
  dsimp only
  rw [if_neg (by rw [← bit, h]; decide), if_pos (by rw [hnew, hv]; rfl)]
  exact hleave

/-- An enabled member keeps its register. -/
theorem Dev.cascCtl_member {val : Word} {d : Dev} (h : bit (d.rd Reg.MDV_CASC_CTL) 12 = true) (hv : bit val 12 = true)
    (hr : d.straps.cascRole = 1) : d.cascCtl val = d := by
  have hnew := cascNew_enable val
  have hrole : d.cascRole = 1 := Dev.cascRole_strap hr (by decide)
  unfold cascNew at hnew
  unfold Dev.cascCtl
  dsimp only
  rw [if_neg (by rw [← bit, h]; decide), if_neg (by rw [hnew, hv]; decide), hrole, if_neg (by simp)]

/-! ## Messages at a member (R386, R387, R389, R391) -/

/-- The device with what it repeats of a message that came down at `t`. -/
def Dev.repeats (t : Time) (msg : CascMsg) (d : Dev) : List Repeat :=
  if d.drives then d.mdv.rep ++ [{ dt := t + 131072, up := false, msg := msg }] else d.mdv.rep

theorem Dev.cascRepeat_member {t : Time} {msg : CascMsg} {d : Dev} (h : d.cascMember = true) :
    d.cascRepeat false msg t = { d with mdv := { d.mdv with rep := d.repeats t msg } } := by
  obtain ⟨heq, hrep⟩ := Dev.cascRepeat_rep (m := msg) (t := t) (up := false) h
  rw [hrep] at heq
  exact heq

/-- Pair and cascade state do not move device time. -/
theorem Dev.at_setMdv (t : Time) (m : Mdv) (d : Dev) : Dev.at { d with mdv := m } t = { d.at t with mdv := m } := by
  unfold Dev.at
  dsimp only
  split <;> rfl

/-- The TICK and SEED messages of a master. -/
def cascTickMsg (fr : Word) (dt : Time) : CascMsg := { typ := 3, pos := 0, plate := 0, arg := 0, dt := dt, payload := fr.toNat }
def cascSeedMsg (fam : Nat) (code : Word) (dt : Time) : CascMsg := { typ := 5, pos := 0, plate := 0, arg := fam, dt := dt, payload := code.toNat }

theorem exec_cascTickMessage {s : State} (fr : Word) (dt t : Time) (crc : Bool) (ha : s.alive = true) (hc : s.dev.on domCORE = true) :
    exec (.cascTickMessage fr dt t crc) s = .next { s with dev := s.dev.cascTick fr dt t crc } :=
  congrArg _ (State.inDom_pos ha hc _)

theorem exec_cascSeedMessage {s : State} (fam : Fin 16) (code : Word) (dt t : Time) (crc : Bool) (ha : s.alive = true)
    (hc : s.dev.on domCORE = true) :
    exec (.cascSeedMessage fam code dt t crc) s = .next { s with dev := s.dev.cascSeed fam code dt t crc } :=
  congrArg _ (State.inDom_pos ha hc _)

/-- What a TICK message does once it has been repeated. -/
def Dev.tickTaken (fr : Word) (dt t : Time) (d : Dev) : Dev :=
  if !d.cascMember || !d.mdv.joined then d
  else
    let d := d.at t
    if dt < t then
      ((d.modMdv (fun m => { m with ticks := m.ticks ++ [{ dt := t, fr := fr, kind := .cascade }] })).inc Reg.MDV_CASC_LATE_CNT).raise Ev.CASC_LATE
    else d.modMdv (fun m => { m with ticks := m.ticks ++ [{ dt := dt, fr := fr, kind := .cascade }] })

theorem Dev.cascTick_good (fr : Word) (dt t : Time) (d : Dev) :
    d.cascTick fr dt t true = (d.cascRepeat false (cascTickMsg fr dt) t).tickTaken fr dt t := rfl

/-- What a SEED message does once it has been repeated. -/
def Dev.seedTaken (fam : Nat) (code : Word) (dt t : Time) (d : Dev) : Dev :=
  if !d.cascMember then d
  else
    let seed : Option Seed := some { dt := dt, famBase := fam, code := code }
    (((d.at t).modMdv (fun m => { m with seed := seed, seeded := true }))).cascJoin

theorem Dev.cascSeed_good (fam : Nat) (code : Word) (dt t : Time) (d : Dev) :
    d.cascSeed fam code dt t true = (d.cascRepeat false (cascSeedMsg fam code dt) t).seedTaken fam code dt t := rfl

theorem Dev.cascMember_setMdv (m : Mdv) (d : Dev) : Dev.cascMember { d with mdv := m } = d.cascMember := rfl

/-- A joined member schedules a tick that comes in time. -/
theorem Dev.tickTaken_inTime {fr : Word} {dt t : Time} {d : Dev} (h : d.cascMember = true) (hj : d.mdv.joined = true) (ht : t ≤ dt) :
    d.tickTaken fr dt t = { d.at t with mdv := { d.mdv with ticks := d.mdv.ticks ++ [{ dt := dt, fr := fr, kind := .cascade }] } } := by
  unfold Dev.tickTaken
  rw [if_neg (by rw [h, hj]; decide)]
  dsimp only
  rw [if_neg (Nat.not_lt.mpr ht), Dev.modMdv, Dev.at_mdv]

/-- A late one is taken on arrival, counted and noted. -/
theorem Dev.tickTaken_late {fr : Word} {dt t : Time} {d : Dev} (h : d.cascMember = true) (hj : d.mdv.joined = true) (ht : dt < t) :
    d.tickTaken fr dt t = Dev.raise (Dev.inc
      { d.at t with mdv := { d.mdv with ticks := d.mdv.ticks ++ [{ dt := t, fr := fr, kind := .cascade }] } } Reg.MDV_CASC_LATE_CNT) Ev.CASC_LATE := by
  unfold Dev.tickTaken
  rw [if_neg (by rw [h, hj]; decide)]
  dsimp only
  rw [if_pos ht, Dev.modMdv, Dev.at_mdv]

/-- A member that has joined, or has not aligned, or holds no seed, joins no more. -/
theorem Dev.cascJoin_stays {d : Dev} (h : d.mdv.aligned = false ∨ d.mdv.seeded = false ∨ d.mdv.joined = true) : d.cascJoin = d := by
  refine if_neg ?_
  rcases h with h | h | h <;> simp [h]

theorem Dev.cascJoin_joins {d : Dev} (h : d.cascMember = true) (h1 : d.mdv.aligned = true) (h2 : d.mdv.seeded = true)
    (h3 : d.mdv.joined = false) : d.cascJoin = Dev.raise { d with mdv := { d.mdv with joined := true } } Ev.CASC_JOIN :=
  if_pos (by rw [h, h1, h2, h3]; rfl)

/-- A SEED is kept for its tick. -/
theorem Dev.seedTaken_eq {fam : Nat} {code : Word} {dt t : Time} {d : Dev} (h : d.cascMember = true) : d.seedTaken fam code dt t
    = Dev.cascJoin { d.at t with mdv := { d.mdv with seed := some { dt := dt, famBase := fam, code := code }, seeded := true } } := by
  unfold Dev.seedTaken
  rw [if_neg (by rw [h]; decide)]
  dsimp only
  rw [Dev.modMdv, Dev.at_mdv]

/-! The clauses of a TICK and of a SEED, as one device each. -/

/-- Cascade state with what is repeated. -/
def Dev.repeating (t : Time) (msg : CascMsg) (d : Dev) : Dev := { d with mdv := { d.mdv with rep := d.repeats t msg } }

/-- Cascade state with what is repeated and a tick that is scheduled for `at_`. -/
def Dev.scheduled (fr : Word) (dt at_ t : Time) (d : Dev) : Dev := { d.at t with mdv := { d.mdv with
  rep := d.repeats t (cascTickMsg fr dt), ticks := d.mdv.ticks ++ [{ dt := at_, fr := fr, kind := .cascade }] } }

theorem Dev.cascTick_inTime {fr : Word} {dt t : Time} {d : Dev} (h : d.cascMember = true) (hj : d.mdv.joined = true) (ht : t ≤ dt) :
    d.cascTick fr dt t true = d.scheduled fr dt dt t := by
  rw [Dev.cascTick_good, Dev.cascRepeat_member h]
  refine (Dev.tickTaken_inTime (d := d.repeating t (cascTickMsg fr dt)) h hj ht).trans ?_
  rw [Dev.repeating, Dev.at_setMdv]
  rfl

theorem Dev.cascTick_late {fr : Word} {dt t : Time} {d : Dev} (h : d.cascMember = true) (hj : d.mdv.joined = true) (ht : dt < t) :
    d.cascTick fr dt t true = ((d.scheduled fr dt t t).inc Reg.MDV_CASC_LATE_CNT).raise Ev.CASC_LATE := by
  rw [Dev.cascTick_good, Dev.cascRepeat_member h]
  refine (Dev.tickTaken_late (d := d.repeating t (cascTickMsg fr dt)) h hj ht).trans ?_
  rw [Dev.repeating, Dev.at_setMdv]
  rfl

/-- A member that has not joined takes no tick. -/
theorem Dev.cascTick_waiting {fr : Word} {dt t : Time} {d : Dev} (h : d.cascMember = true) (hj : d.mdv.joined = false) :
    d.cascTick fr dt t true = d.repeating t (cascTickMsg fr dt) := by
  rw [Dev.cascTick_good, Dev.cascRepeat_member h]
  exact if_pos (by simp [hj])

theorem Dev.cascTick_stranger {fr : Word} {dt t : Time} {d : Dev} (h : d.cascMember = false) : d.cascTick fr dt t true = d := by
  rw [Dev.cascTick_good, Dev.cascRepeat_of_not_member false _ _ h]
  exact if_pos (by simp [h])

/-- Cascade state with what is repeated and a SEED that is kept. -/
def Dev.seedKept (fam : Nat) (code : Word) (dt t : Time) (d : Dev) : Dev := { d.at t with mdv := { d.mdv with
  rep := d.repeats t (cascSeedMsg fam code dt), seed := some { dt := dt, famBase := fam, code := code }, seeded := true } }

theorem Dev.cascSeed_member {fam : Nat} {code : Word} {dt t : Time} {d : Dev} (h : d.cascMember = true) :
    d.cascSeed fam code dt t true = (d.seedKept fam code dt t).cascJoin := by
  rw [Dev.cascSeed_good, Dev.cascRepeat_member h]
  refine (Dev.seedTaken_eq (d := d.repeating t (cascSeedMsg fam code dt)) h).trans ?_
  rw [Dev.repeating, Dev.at_setMdv]
  rfl

/-- Keeping a SEED leaves the unit what it is. -/
theorem Dev.seedKept_member (fam : Nat) (code : Word) (dt t : Time) (d : Dev) : (d.seedKept fam code dt t).cascMember = d.cascMember := by
  unfold Dev.seedKept Dev.at
  split <;> rfl

theorem Dev.cascSeed_stranger {fam : Nat} {code : Word} {dt t : Time} {d : Dev} (h : d.cascMember = false) :
    d.cascSeed fam code dt t true = d := by
  rw [Dev.cascSeed_good, Dev.cascRepeat_of_not_member false _ _ h]
  exact if_pos (by simp [h])

/-- A message with a bad CRC. -/
theorem State.inDom_bad {s : State} (t : Time) (f : Dev → Dev) (ha : s.alive = true) (hc : s.dev.on domCORE = true)
    (hf : f s.dev = if s.dev.cascOn then (s.dev.at t).inc Reg.MDV_CASC_CRC_CNT else s.dev) : s.inDom domCORE f
      = if s.dev.cascOn then { s with dev := (s.dev.at t).inc Reg.MDV_CASC_CRC_CNT } else s := by
  rw [State.inDom_pos ha hc, hf]
  split <;> rfl

/-! ## Alignments (R390-R392) -/

theorem exec_cascAlign {s : State} (pos : Fin 16) (delay : Nat) (step : Int) (ha : s.alive = true) (hc : s.dev.on domCORE = true) :
    exec (.cascAlign pos delay step) s = .next { s with dev := s.dev.cascAlign pos delay step } :=
  congrArg _ (State.inDom_pos ha hc _)

/-- The lane of a cascade is up. -/
def Dev.laneRaised (d : Dev) : Dev := { d with mdv := { d.mdv with laneUp := true } }

/-- A member keeps the delay of an alignment. -/
def Dev.delayKept (delay : Nat) (d : Dev) : Dev := d.laneRaised.wrN Reg.MDV_CASC_DLY (delay % 2 ^ 24)

/-- The first alignment corrects device time forward and stamps the step. -/
def Dev.stepped (step : Int) (d : Dev) : Dev :=
  let d := d.wr64 Reg.MDV_DT_STEP_LO (ofSigned 64 step)
  if 0 < step then d.at (d.now + step.toNat) else d

theorem Dev.cascAlign_member {pos delay : Nat} {step : Int} {d : Dev} (h : d.cascMember = true) : d.cascAlign pos delay step
    = if d.mdv.aligned then d.delayKept delay
      else (((d.delayKept delay).stepped step).modMdv (fun m => { m with aligned := true })).cascJoin := by
  obtain ⟨hon, hrole⟩ := Dev.cascMember_iff.mp h
  have hr : ¬ Dev.cascRole (d.modMdv (fun m => { m with laneUp := true })) = 2 := fun h2 => absurd (hrole.symm.trans h2) (by decide)
  unfold Dev.cascAlign
  rw [if_neg (by rw [hon]; decide)]
  dsimp only
  rw [if_neg hr]
  rfl

/-- The instant of device time depends on the clock and on power alone. -/
theorem Dev.at_tim_congr {d e : Dev} (t : Time) (h1 : e.tim = d.tim) (h2 : e.pwr = d.pwr) : (e.at t).tim = (d.at t).tim := by
  unfold Dev.at
  rw [h1, h2]
  split
  · rfl
  · exact h1

/-- The step changes its own registers and device time. -/
theorem Dev.stepped_facts (step : Int) (d : Dev) : (d.stepped step).rd Reg.MDV_DT_STEP_LO = loW (ofSigned 64 step)
    ∧ (d.stepped step).rd Reg.MDV_DT_STEP_HI = hiW (ofSigned 64 step) ∧ (d.stepped step).mdv = d.mdv
    ∧ (d.stepped step).evt = d.evt ∧ (d.stepped step).tim = (if 0 < step then (d.at (d.now + step.toNat)).tim else d.tim)
    ∧ ∀ o, o ≠ Reg.MDV_DT_STEP_LO → o ≠ Reg.MDV_DT_STEP_HI → (d.stepped step).rd o = d.rd o := by
  have htim : ∀ t, (Dev.at (d.wr64 Reg.MDV_DT_STEP_LO (ofSigned 64 step)) t).tim = (d.at t).tim := fun t => Dev.at_tim_congr t rfl rfl
  unfold Dev.stepped
  dsimp only
  split
  · refine ⟨(Dev.at_rd _ _ _).trans (Dev.wr64_rd_lo _ _ _), (Dev.at_rd _ _ _).trans (Dev.wr64_rd_hi _ _ _), Dev.at_mdv _ _,
      Dev.at_evt _ _, htim _, fun o h1 h2 => (Dev.at_rd _ _ _).trans (Dev.wr64_rd_ne _ _ h1 h2)⟩
  · exact ⟨Dev.wr64_rd_lo _ _ _, Dev.wr64_rd_hi _ _ _, rfl, rfl, rfl, fun o h1 h2 => Dev.wr64_rd_ne _ _ h1 h2⟩

theorem Mdv.aligned_eta {v : Bool} {m : Mdv} (h : m.aligned = v) : { m with laneUp := true, aligned := v } = { m with laneUp := true } := by
  subst h
  rfl

/-- An alignment of a member that holds no SEED keeps the delay, and the first one corrects device time. -/
theorem Dev.cascAlign_facts {pos delay : Nat} {step : Int} {d : Dev} (h : d.cascMember = true) (hs : d.mdv.seeded = false) :
    let e := d.cascAlign pos delay step
    e.rd Reg.MDV_CASC_DLY = word (delay % 2 ^ 24) ∧ e.mdv = { d.mdv with laneUp := true, aligned := true } ∧ e.evt = d.evt
      ∧ (d.mdv.aligned = true → e.tim = d.tim ∧ ∀ o, o ≠ Reg.MDV_CASC_DLY → e.rd o = d.rd o)
      ∧ (d.mdv.aligned = false → e.tim = (if 0 < step then (d.at (d.now + step.toNat)).tim else d.tim)
          ∧ e.rd Reg.MDV_DT_STEP_LO = loW (ofSigned 64 step) ∧ e.rd Reg.MDV_DT_STEP_HI = hiW (ofSigned 64 step)) := by
  have hdelay : (d.delayKept delay).rd Reg.MDV_CASC_DLY = word (delay % 2 ^ 24) := Dev.rd_wr_same d.laneRaised _ _
  intro e
  cases hal : d.mdv.aligned with
  | true =>
    have he : e = d.delayKept delay := (Dev.cascAlign_member h).trans (if_pos hal)
    rw [he]
    exact ⟨hdelay, (Mdv.aligned_eta hal).symm, rfl, fun _ => ⟨rfl, fun o ho => Dev.rd_wr_ne d.laneRaised _ ho.symm⟩,
      fun hno => absurd hno (by decide)⟩
  | false =>
    obtain ⟨hlo, hhi, hmdv, hevt, htim, hrd⟩ := Dev.stepped_facts step (d.delayKept delay)
    have he : e = ((d.delayKept delay).stepped step).modMdv (fun m => { m with aligned := true }) := by
      refine (Dev.cascAlign_member h).trans ((if_neg (by simp [hal])).trans (Dev.cascJoin_stays (.inr (.inl ?_))))
      exact (congrArg Mdv.seeded hmdv).trans hs
    have htim' : ((d.delayKept delay).stepped step).tim = (if 0 < step then (d.at (d.now + step.toNat)).tim else d.tim) := by
      rw [htim]
      split
      · exact Dev.at_tim_congr _ rfl rfl
      · rfl
    rw [he]
    refine ⟨(hrd _ (by decide) (by decide)).trans hdelay, ?_, hevt, fun hno => absurd hno (by decide), fun _ => ⟨htim', hlo, hhi⟩⟩
    exact congrArg (fun m => { m with aligned := true }) hmdv

/-- The master notes a member. -/
def Dev.peerNoted (pos delay : Nat) (d : Dev) : Dev :=
  (d.laneRaised.setB Reg.MDV_CASC_PEERS pos true).modMdv (fun m => { m with maxDelay := max m.maxDelay (delay % 2 ^ 24) })

/-- Once the master waits no more, a member that joins later brings a SEED, and one that is present none. -/
theorem Dev.cascAlign_master {pos delay : Nat} {step : Int} {d : Dev} (hon : d.cascOn = true) (hr : d.cascRole = 2)
    (hw : d.mdv.peerWait = false) : d.cascAlign pos delay step = if d.b Reg.MDV_CASC_PEERS pos then d.peerNoted pos delay
      else ((d.peerNoted pos delay).modMdv (fun m => { m with peerWait := false })).sendSeedNow := by
  have hwait : (d.peerNoted pos delay).mdv.peerWait = false := hw
  refine (if_neg (by rw [hon]; decide)).trans ((if_pos (show (d.laneRaised).cascRole = 2 from hr)).trans ?_)
  show (if (!d.mdv.peerWait && !d.b Reg.MDV_CASC_PEERS pos) || ((d.peerNoted pos delay).mdv.peerWait && _) then
      ((d.peerNoted pos delay).modMdv (fun m => { m with peerWait := false })).sendSeedNow else d.peerNoted pos delay) = _
  rw [hw, hwait]
  cases d.b Reg.MDV_CASC_PEERS pos <;> rfl

/-! ## What the master sends (R387, R391) -/

/-- Pair and cascade state with other messages to send. -/
def Mdv.sending (tx txWait : List CascMsg) (m : Mdv) : Mdv := { m with tx := tx, txWait := txWait }

theorem Dev.pause_free (a : Nat) (d : Dev) : (d.pause a).free = d.free := by
  unfold Dev.pause Dev.raiseIf
  dsimp only
  split
  · rfl
  · split
    · exact Dev.raise_free _ _
    · rfl

/-- A message put on the lanes changes what is sent, its budget and nothing else of the cascade. -/
theorem Dev.cascPut_sends (m : CascMsg) (d : Dev) : (∃ tx txWait, (d.cascPut m true).mdv = d.mdv.sending tx txWait)
    ∧ (d.cascPut m true).free = d.free ∧ (d.cascPut m true).rd Reg.MDV_CASC_PEERS = d.rd Reg.MDV_CASC_PEERS := by
  cases hon : d.cascOn with
  | false =>
    rw [Dev.cascPut_off hon]
    exact ⟨⟨d.mdv.tx, d.mdv.txWait, rfl⟩, rfl, rfl⟩
  | true =>
    cases hf : d.fits actCASC 16 with
    | true =>
      rw [Dev.cascPut_fits hon hf, Dev.cascOut_eq]
      exact ⟨⟨_, _, rfl⟩, rfl, Dev.rd_wr_ne _ _ (by decide)⟩
    | false =>
      rw [Dev.cascPut_over hon hf]
      exact ⟨⟨_, _, rfl⟩, Dev.pause_free _ _, Dev.pause_rd_ne d (by decide) (by decide) (by decide)⟩

/-- A SEED that is sent is kept, at the cost of one free value. -/
theorem Dev.sendSeedNow_facts (d : Dev) : (∃ seed tx txWait, d.sendSeedNow.mdv = { d.mdv.sending tx txWait with seed := some seed })
    ∧ d.sendSeedNow.free = d.free + 1 ∧ d.sendSeedNow.rd Reg.MDV_CASC_PEERS = d.rd Reg.MDV_CASC_PEERS := by
  unfold Dev.sendSeedNow Dev.sendSeed Dev.cascSend
  obtain ⟨⟨tx, txWait, hm⟩, hf, hr⟩ := Dev.cascPut_sends _ _
  exact ⟨⟨_, tx, txWait, hm⟩, hf, hr⟩

/-- The register of the members after one has been noted. -/
theorem Dev.peerNoted_facts {pos : Nat} (delay : Nat) (d : Dev) (h : pos < 32) : (d.peerNoted pos delay).b Reg.MDV_CASC_PEERS pos = true
    ∧ (d.peerNoted pos delay).mdv = { d.mdv with laneUp := true, maxDelay := max d.mdv.maxDelay (delay % 2 ^ 24) }
    ∧ (d.peerNoted pos delay).free = d.free ∧ ∀ o, o ≠ Reg.MDV_CASC_PEERS → (d.peerNoted pos delay).rd o = d.rd o :=
  ⟨Dev.b_setB_true d.laneRaised _ h, rfl, rfl, fun _ ho => Dev.rd_wr_ne _ _ ho.symm⟩

/-- The end of the master's wait begins the cascade. -/
theorem Dev.peerWaitEnd_facts {d : Dev} (h : d.mdv.peerWait = true) : d.peerWaitEnd.mdv.peerWait = false
    ∧ d.peerWaitEnd.mdv.seed.isSome = true ∧ d.peerWaitEnd.mdv.ticks = d.mdv.ticks ∧ d.peerWaitEnd.free = d.free + 1 := by
  unfold Dev.peerWaitEnd
  rw [if_neg (by simp [h])]
  dsimp only
  obtain ⟨⟨seed, tx, txWait, hm⟩, hf, -⟩ := Dev.sendSeedNow_facts _
  rw [hm, hf]
  unfold Dev.raiseIf Mdv.sending
  split <;> simp [Dev.modMdv]

/-- An enabled member that loses its master runs free. -/
theorem Dev.masterLost_eq {d : Dev} (h : d.cascMember = true) (hf : d.mdv.freerun = false) : d.masterLost = Dev.raise { d with mdv := { d.mdv with
    freerun := true, joined := false, aligned := false, seeded := false, ticks := [], laneUp := false } } Ev.CASC_MASTER_LOST :=
  if_neg (by simp [h, hf])

theorem Dev.cascAlign_off {pos delay : Nat} {step : Int} {d : Dev} (h : d.cascOn = false) : d.cascAlign pos delay step = d :=
  if_pos (by simp [h])

theorem Dev.masterLost_stranger {d : Dev} (h : d.cascMember = false) : d.masterLost = d := if_pos (by simp [h])

theorem Dev.peerWaitEnd_over {d : Dev} (h : d.mdv.peerWait = false) : d.peerWaitEnd = d := if_pos (by simp [h])

/-- Settles O42: the internal source and its earliest tick at a disable are log 18; who repeats and what the master sends are log 76;
the frame of a SEED is a free value (log 102). -/
theorem cascadeControlAndMessages : Obligations.CascadeControlAndMessages := by
  unfold Obligations.CascadeControlAndMessages
  constructor
  · intro s val ha hc d m old new after
    refine ⟨fun hold hval => ?_, fun hold hval hrole => ⟨fun hlead => ?_, fun hlead => ?_⟩, fun hold hval hrole => ?_,
      fun hold hval => ?_, fun hold hval hrole => ?_⟩
    · exact (exec_cascCtlWrite val ha hc).trans (by rw [Dev.cascCtl_disabled hold hval]; rfl)
    · rw [exec_cascCtlWrite val ha hc, Dev.cascCtl_enables hold hval hrole (by decide) (by decide)]
      dsimp only
      rw [if_pos rfl, if_pos hlead]
      rfl
    · refine ⟨_, _, (exec_cascCtlWrite val ha hc).trans ?_, Dev.raise_noted (d := s.dev.leadRefused val) (by exact hc) (by decide), rfl,
        Dev.leadRefused_off val s.dev⟩
      rw [Dev.cascCtl_enables hold hval hrole (by decide) (by decide)]
      dsimp only
      rw [if_pos rfl, if_neg (by rw [hlead]; decide)]
      rfl
    · rw [exec_cascCtlWrite val ha hc, Dev.cascCtl_enables hold hval hrole (by decide) (by decide)]
      dsimp only
      rw [if_neg (by decide)]
      rfl
    · rw [exec_cascCtlWrite val ha hc, Dev.cascCtl_disables hold hval]
      rfl
    · rw [exec_cascCtlWrite val ha hc, Dev.cascCtl_member hold hval hrole]
      exact congrArg _ (State.revoted_id rfl)
  · intro s ha hc d m rep tickMsg seedMsg
    refine ⟨fun fr dt t hmem hjoined => ⟨fun ht => ?_, fun ht => ?_⟩, fun fr dt t hmem hjoined => ?_,
      fun fr dt t hmem => ?_, fun fam code dt t hmem => ?_, fun fam code dt t hmem => ?_,
      fun fam fr code dt t => ⟨?_, ?_, ?_⟩, fun pos delay step hmem hseed => ?_, fun pos delay step hon hrole hw hpeer => ?_,
      fun pos delay step hon hrole hw hpeer => ?_, fun pos delay step hon => ?_, fun hmem hfree => ?_, fun hmem => ?_,
      fun hw => ?_, fun hw => ?_⟩
    · rw [exec_cascTickMessage fr dt t true ha hc, Dev.cascTick_inTime hmem hjoined ht]
      rfl
    · refine ⟨_, _, (exec_cascTickMessage fr dt t true ha hc).trans (by rw [Dev.cascTick_late hmem hjoined ht]),
        Dev.raise_noted (by exact (Dev.at_on _ _ _).trans hc) (by decide), rfl, ?_, fun o ho => ?_⟩
      · exact (Dev.rd_inc_same _ _).trans (congrArg satInc (Dev.at_rd _ _ _))
      · exact (Dev.rd_wr_ne _ _ ho.symm).trans (Dev.at_rd _ _ _)
    · rw [exec_cascTickMessage fr dt t true ha hc, Dev.cascTick_waiting hmem hjoined]
      rfl
    · rw [exec_cascTickMessage fr dt t true ha hc, Dev.cascTick_stranger hmem]
    · intro y
      refine ⟨fun hstay => ?_, fun hal hj => ⟨{ d.at t with mdv := { y with joined := true } }, _, ?_, Dev.raise_noted ?_ (by decide), rfl⟩⟩
      · rw [exec_cascSeedMessage fam code dt t true ha hc, Dev.cascSeed_member hmem,
          Dev.cascJoin_stays (d := d.seedKept fam code dt t) (hstay.imp id Or.inr)]
        rfl
      · rw [exec_cascSeedMessage fam code dt t true ha hc, Dev.cascSeed_member hmem, Dev.cascJoin_joins (d := d.seedKept fam code dt t)
          ((Dev.seedKept_member _ _ _ _ _).trans hmem) hal rfl hj]
        rfl
      · exact (Dev.at_on _ _ _).trans hc
    · rw [exec_cascSeedMessage fam code dt t true ha hc, Dev.cascSeed_stranger hmem]
    · exact congrArg _ (State.inDom_bad t _ ha hc rfl)
    · exact congrArg _ (State.inDom_bad t _ ha hc rfl)
    · exact congrArg _ (State.inDom_bad t _ ha hc rfl)
    · exact ⟨_, exec_cascAlign pos delay step ha hc, Dev.cascAlign_facts hmem hseed⟩
    · obtain ⟨hb, hm, hf, -⟩ := Dev.peerNoted_facts delay d (lt_trans pos.isLt (by decide))
      obtain ⟨⟨seed, tx, txWait, hm'⟩, hf', hr⟩ :=
        Dev.sendSeedNow_facts ((d.peerNoted pos delay).modMdv (fun m => { m with peerWait := false }))
      refine ⟨_, (exec_cascAlign pos delay step ha hc).trans (by rw [Dev.cascAlign_master hon hrole hw, if_neg (by simp [hpeer])]), ?_, ?_, ?_,
        hf'.trans (congrArg (· + 1) hf)⟩
      · exact (congrArg (fun w => bit w pos) hr).trans hb
      · exact (congrArg Mdv.maxDelay hm').trans (congrArg Mdv.maxDelay hm)
      · exact (congrArg (fun m => m.seed.isSome) hm').trans rfl
    · obtain ⟨hb, hm, -, hr⟩ := Dev.peerNoted_facts delay d (lt_trans pos.isLt (by decide))
      refine ⟨_, (exec_cascAlign pos delay step ha hc).trans ?_, hb, hm, hr⟩
      rw [Dev.cascAlign_master hon hrole hw, if_pos hpeer]
    · rw [exec_cascAlign pos delay step ha hc, Dev.cascAlign_off hon]
    · exact ⟨_, _, (congrArg _ (State.inDom_pos ha hc _)).trans (by rw [Dev.masterLost_eq hmem hfree]),
        Dev.raise_noted (by exact hc) (by decide), rfl⟩
    · exact congrArg _ ((State.inDom_pos ha hc _).trans (State.onDev_id (Dev.masterLost_stranger hmem)))
    · obtain ⟨h1, h2, h3, h4⟩ := Dev.peerWaitEnd_facts hw
      exact ⟨_, congrArg _ (State.inDom_pos ha hc _), h1, h2, h3, h4⟩
    · exact congrArg _ ((State.inDom_pos ha hc _).trans (State.onDev_id (Dev.peerWaitEnd_over hw)))

end Sys2Proof.Machine
end

section
/-! Characters of the host link (14 R403, R407, R411): what is sent is what is read back. -/
namespace Sys2Proof.Machine

/-! ## The blocks of a character (R403) -/

/-- At one disparity the six-bit blocks of the data characters differ. -/
theorem sixOf_inj : ∀ (plus : Bool), ∀ x < 32, ∀ y < 32, sixOf false x plus = sixOf false y plus → x = y := by decide +kernel

/-- No data character has the six-bit block of K28. -/
theorem sixOf_k28_ne : ∀ (plus : Bool), ∀ x < 32, sixOf true 28 plus ≠ sixOf false x plus := by decide +kernel

/-- At one disparity the four-bit blocks of the data characters with one six-bit block differ. -/
theorem fourOf_inj : ∀ (mid : Bool), ∀ x < 32, ∀ y < 8, ∀ z < 8, fourOf false x y mid = fourOf false x z mid → y = z := by decide +kernel

/-- So do those of K28. -/
theorem fourOf_k28_inj : ∀ (mid : Bool), ∀ y < 8, ∀ z < 8, fourOf true 28 y mid = fourOf true 28 z mid → y = z := by decide +kernel

/-- No data character has the four-bit block of a control character with its six-bit block. -/
theorem fourOf_k7_ne : ∀ (mid : Bool), ∀ x ∈ [23, 27, 29, 30], ∀ y < 8, fourOf true x 7 mid ≠ fourOf false x y mid := by decide +kernel

theorem fourOf_lt : ∀ (c mid : Bool), ∀ x < 32, ∀ y < 8, fourOf c x y mid < 16 := by decide +kernel

/-! ## Reading a character back -/

/-- The two blocks of a character and the disparity between them. -/
def Sym.coded (c : Bool) (b : Nat) (plus : Bool) : Nat :=
  sixOf c (b % 32) plus * 16 + fourOf c (b % 32) (b / 32) (dispAfter 6 (sixOf c (b % 32) plus) plus)

theorem Sym.encode_d (b : Nat) (plus : Bool) : ((Sym.d b).encode plus).1 = Sym.coded false b plus := rfl
theorem Sym.encode_k (b : Nat) (plus : Bool) : ((Sym.k b).encode plus).1 = Sym.coded true b plus := rfl

/-- Equal characters have equal blocks, after the same disparity. -/
theorem Sym.coded_blocks {c c' plus : Bool} {b b' : Nat} (hb : b < 256) (hb' : b' < 256) (h : Sym.coded c b plus = Sym.coded c' b' plus) :
    sixOf c (b % 32) plus = sixOf c' (b' % 32) plus
      ∧ ∃ mid, fourOf c (b % 32) (b / 32) mid = fourOf c' (b' % 32) (b' / 32) mid := by
  unfold Sym.coded at h
  have h1 := fourOf_lt c (dispAfter 6 (sixOf c (b % 32) plus) plus) (b % 32) (by omega) (b / 32) (by omega)
  have h2 := fourOf_lt c' (dispAfter 6 (sixOf c' (b' % 32) plus) plus) (b' % 32) (by omega) (b' / 32) (by omega)
  have hsix : sixOf c (b % 32) plus = sixOf c' (b' % 32) plus := by omega
  refine ⟨hsix, dispAfter 6 (sixOf c (b % 32) plus) plus, ?_⟩
  rw [← hsix] at h
  omega

/-- A control character is one of K28, or ends in 7 on one of four six-bit blocks, which are those of the data characters. -/
theorem allK_form : ∀ b ∈ allK, b < 256 ∧ (b % 32 = 28 ∨ (b % 32 ∈ [23, 27, 29, 30] ∧ b / 32 = 7)) := by decide

theorem sixOf_k7 {x : Nat} (h : x ≠ 28) (plus : Bool) : sixOf true x plus = sixOf false x plus := by
  unfold sixOf
  simp [h]

theorem Sym.coded_d_inj {plus : Bool} {b b' : Nat} (hb : b < 256) (hb' : b' < 256) (h : Sym.coded false b plus = Sym.coded false b' plus) :
    b = b' := by
  obtain ⟨hsix, mid, hfour⟩ := Sym.coded_blocks hb hb' h
  have hx := sixOf_inj plus _ (Nat.mod_lt _ (by decide)) _ (Nat.mod_lt _ (by decide)) hsix
  rw [hx] at hfour
  have hy := fourOf_inj mid _ (Nat.mod_lt _ (by decide)) _ (by omega) _ (by omega) hfour
  omega

theorem Sym.coded_k_ne {plus : Bool} {b b' : Nat} (hb : b ∈ allK) (hb' : b' < 256) : Sym.coded true b plus ≠ Sym.coded false b' plus := by
  intro h
  obtain ⟨hlt, hform⟩ := allK_form b hb
  obtain ⟨hsix, mid, hfour⟩ := Sym.coded_blocks hlt hb' h
  rcases hform with h28 | ⟨hmem, h7⟩
  · rw [h28] at hsix
    exact sixOf_k28_ne plus _ (Nat.mod_lt _ (by decide)) hsix
  · have hne : b % 32 ≠ 28 := fun h28 => absurd (h28 ▸ hmem) (by decide)
    rw [sixOf_k7 hne] at hsix
    have hx := sixOf_inj plus _ (Nat.mod_lt _ (by decide)) _ (Nat.mod_lt _ (by decide)) hsix
    rw [← hx, h7] at hfour
    exact fourOf_k7_ne mid _ hmem _ (by omega) hfour

theorem Sym.coded_k_inj {plus : Bool} {b b' : Nat} (hb : b ∈ allK) (hb' : b' ∈ allK) (h : Sym.coded true b plus = Sym.coded true b' plus) :
    b = b' := by
  obtain ⟨hlt, hform⟩ := allK_form b hb
  obtain ⟨hlt', hform'⟩ := allK_form b' hb'
  obtain ⟨hsix, mid, hfour⟩ := Sym.coded_blocks hlt hlt' h
  have hne {x : Nat} (hx : x ∈ [23, 27, 29, 30]) : x ≠ 28 := fun h28 => absurd (h28 ▸ hx) (by decide)
  rcases hform with h28 | ⟨hmem, h7⟩ <;> rcases hform' with h28' | ⟨hmem', h7'⟩
  · rw [h28, h28'] at hfour
    have hy := fourOf_k28_inj mid _ (by omega) _ (by omega) hfour
    omega
  · rw [h28, sixOf_k7 (hne hmem')] at hsix
    exact absurd hsix (sixOf_k28_ne plus _ (Nat.mod_lt _ (by decide)))
  · rw [h28', sixOf_k7 (hne hmem)] at hsix
    exact absurd hsix.symm (sixOf_k28_ne plus _ (Nat.mod_lt _ (by decide)))
  · rw [sixOf_k7 (hne hmem), sixOf_k7 (hne hmem')] at hsix
    have hx := sixOf_inj plus _ (Nat.mod_lt _ (by decide)) _ (Nat.mod_lt _ (by decide)) hsix
    omega

theorem mem_allSyms {x : Sym} (h : x ∈ allSyms) : (∃ b < 256, x = .d b) ∨ ∃ b ∈ allK, x = .k b := by
  rcases List.mem_append.mp h with h | h
  · obtain ⟨b, hb, rfl⟩ := List.mem_map.mp h
    exact .inl ⟨b, List.mem_range.mp hb, rfl⟩
  · obtain ⟨b, hb, rfl⟩ := List.mem_map.mp h
    exact .inr ⟨b, hb, rfl⟩

/-- At one disparity no two characters are coded alike. -/
theorem Sym.encode_inj {plus : Bool} {x y : Sym} (hx : x ∈ allSyms) (hy : y ∈ allSyms) (h : (x.encode plus).1 = (y.encode plus).1) : x = y := by
  rcases mem_allSyms hx with ⟨b, hb, rfl⟩ | ⟨b, hb, rfl⟩ <;> rcases mem_allSyms hy with ⟨b', hb', rfl⟩ | ⟨b', hb', rfl⟩
  · exact congrArg Sym.d (Sym.coded_d_inj hb hb' h)
  · exact absurd h.symm (Sym.coded_k_ne hb' hb)
  · exact absurd h (Sym.coded_k_ne hb hb')
  · exact congrArg Sym.k (Sym.coded_k_inj hb hb' h)

/-- A character that was coded is read back. -/
theorem decodeSym_encode {plus : Bool} {x : Sym} (hx : x ∈ allSyms) : decodeSym plus (x.encode plus).1 = some x := by
  unfold decodeSym
  cases h : allSyms.find? (fun s => (s.encode plus).1 = (x.encode plus).1) with
  | none => exact absurd (List.find?_eq_none.mp h x hx) (by simp)
  | some y =>
    have hy := List.find?_some h
    exact congrArg some (Sym.encode_inj (List.mem_of_find?_eq_some h) hx (by simpa using hy))

/-! ## Precoding (R407) -/

/-- What was precoded is recovered, symbol by symbol. -/
theorem unprecode_precode (p : Nat) (gs : List Nat) (h : ∀ g, g ∈ gs → g < 4) : unprecode p (precode p gs) = gs := by
  induction gs generalizing p with
  | nil => rfl
  | cons g gs ih =>
    have hg := h g List.mem_cons_self
    rw [precode, unprecode, ih _ (fun x hx => h x (List.mem_cons_of_mem _ hx))]
    congr 1
    omega

/-! ## The idle generator (R411) -/

theorem idleSeed_ne_zero : ∀ k < 16, idleSeed k ≠ 0 := by decide

/-- A shift by one loses nothing but bit 0, and bit 0 alone is fed back to the top. -/
theorem idleStep_ne_zero {x : BitVec 16} (h : x ≠ 0) : (idleStep x).2 ≠ 0 := by
  intro h0
  obtain ⟨hshift, hfed⟩ := BitVec.or_eq_zero_iff.mp h0
  have hlow : x.toNat / 2 = 0 := by simpa [BitVec.toNat_ushiftRight, Nat.shiftRight_eq_div_pow] using congrArg BitVec.toNat hshift
  have hx : x = 1 := by
    have hne : x.toNat ≠ 0 := fun h' => h (BitVec.eq_of_toNat_eq h')
    exact BitVec.eq_of_toNat_eq (show x.toNat = 1 by omega)
  subst hx
  exact absurd hfed (by decide)

end Sys2Proof.Machine
end

section
/-! The link trains, recovers and goes down (14 R402, R405, R409, R427, R428). -/
namespace Sys2Proof.Machine

@[simp] theorem Dev.raiseOnce_lnk (d : Dev) (n : Nat) : (d.raiseOnce n).lnk = d.lnk := by
  unfold Dev.raiseOnce
  split
  · rfl
  · exact Dev.raise_lnk _ _

/-! ## Lanes -/

theorem exec_laneAligned {s : State} (k : Fin 16) (num cfg : Nat) (ha : s.alive = true) :
    exec (.laneAligned k num cfg) s = .next { s with dev := s.dev.laneAligned k num cfg } :=
  congrArg _ (State.live_pos ha _)

theorem Dev.laneAligned_aligns {k num cfg : Nat} {d : Dev} (h : d.laneTrains k = true) (hc : cfg % 64 = d.laneCfg) (hn : num = d.laneNumber k) :
    d.laneAligned k num cfg = { d with lnk := { d.lnk with
      aligned := setBit d.lnk.aligned k, disp := clrBit d.lnk.disp k, partnerV2 := cfg.testBit 6,
      eq := tabPut 0 d.lnk.eq k (d.rd (Reg.LNK_EQ k)) } } := by
  unfold Dev.laneAligned
  rw [if_neg (by simp [h]), if_neg (by simp [hc]), if_neg (by simp [hn])]

theorem Dev.laneAligned_mismatch {k num cfg : Nat} {d : Dev} (h : d.laneTrains k = true) (hc : cfg % 64 ≠ d.laneCfg)
    (hfirst : d.lnk.cfgMismatch = false) :
    d.laneAligned k num cfg = Dev.raise { d with lnk := { d.lnk with cfgMismatch := true } } Ev.LNK_CFG_MISMATCH := by
  unfold Dev.laneAligned
  rw [if_neg (by simp [h]), if_pos hc, hfirst]
  rfl

theorem Dev.laneAligned_idle {k num cfg : Nat} {d : Dev} (h : d.laneTrains k = false) : d.laneAligned k num cfg = d :=
  if_pos (by simp [h])

/-! ## The link comes up (R409) -/

theorem exec_lnkUp {s : State} (ha : s.alive = true) : exec .lnkUp s = .next (s.tidied (fun _ => s.dev.lnkUp)) :=
  congrArg _ ((State.live_pos ha _).trans (State.tidied_const _ _))

/-- The link with every lane in use aligned. -/
def Dev.lnkRaised (d : Dev) : Dev := { d with lnk := { d.lnk with
  st := .up, upSince := true, nomWidth := if d.lnk.degraded then d.lnk.nomWidth else d.lnk.width,
  nomRate := if d.lnk.degraded then d.lnk.nomRate else d.lnk.rate } }

theorem Dev.lnkUp_eq {d : Dev} (hst : d.lnk.st = .aligning ∨ d.lnk.st = .recovery) (hal : d.lnk.aligned &&& d.lanesInUse = d.lanesInUse)
    (hhot : d.lnk.hotPending = false) :
    d.lnkUp = ((d.lnkRaised.raise Ev.LNK_UP).sendFlow.raiseIf (!d.lnk.upSince) Ev.PWR_RESET).pump := by
  have hpending : Dev.lnk ((d.lnkRaised.raise Ev.LNK_UP).sendFlow.raiseIf (!d.lnk.upSince) Ev.PWR_RESET)
      = { d.lnkRaised.lnk with sentFlow := d.lnkRaised.lnk.sentFlow + 1 } := by
    unfold Dev.raiseIf
    split <;> simp [Dev.sendFlow]
  unfold Dev.lnkUp
  rw [if_neg (by rcases hst with h | h <;> simp [h, hal])]
  refine if_neg ?_
  show ¬ (Dev.lnk ((d.lnkRaised.raise Ev.LNK_UP).sendFlow.raiseIf (!d.lnk.upSince) Ev.PWR_RESET)).hotPending = true
  rw [hpending]
  simp [Dev.lnkRaised, hhot]

/-! ## Recovery (R427) -/

/-- The link in recovery, before its event. -/
def Dev.recovering (full : Bool) (d : Dev) : Dev := Dev.inc { d with lnk := { d.lnk with
  st := .recovery, aligned := 0, retune := none,
  width := if d.straps.linkMode then 2 else if d.lnk.degraded && !full then d.lnk.width else min 4 (d.f Reg.LNK_LINK_CFG 2 0),
  rate := if d.straps.linkMode then 0 else d.f Reg.LNK_LINK_CFG 5 4,
  laneBase := if d.lnk.degraded && !full then d.lnk.laneBase else 0,
  degraded := d.lnk.degraded && !full, replays := 0 } } Reg.LNK_RECOVERY_CNT

theorem Dev.recover_eq (full : Bool) (d : Dev) : d.recover full = (d.recovering full).raiseOnce Ev.LNK_RECOVERY := rfl

theorem Dev.recover_st (full : Bool) (d : Dev) : (d.recover full).lnk.st = .recovery :=
  congrArg Lnk.st (Dev.raiseOnce_lnk (d.recovering full) _)

/-- What a recovery keeps, counts and loses. -/
theorem Dev.recovering_facts (full : Bool) (d : Dev) : (d.recovering full).lnk.st = .recovery ∧ (d.recovering full).lnk.retry = d.lnk.retry
    ∧ (d.recovering full).lnk.txq = d.lnk.txq ∧ (d.recovering full).lnk.aligned = 0 ∧ (d.recovering full).lnk.retune = none
    ∧ (d.recovering full).rd Reg.LNK_RECOVERY_CNT = satInc (d.rd Reg.LNK_RECOVERY_CNT)
    ∧ ∀ o, o ≠ Reg.LNK_RECOVERY_CNT → (d.recovering full).rd o = d.rd o :=
  ⟨rfl, rfl, rfl, rfl, rfl, Dev.rd_inc_same _ _, fun _ ho => Dev.rd_wr_ne _ _ ho.symm⟩

theorem Dev.recovering_full (d : Dev) : (d.recovering true).lnk.degraded = false ∧ (d.recovering true).lnk.laneBase = 0 := by
  have h : (d.lnk.degraded && !true) = false := Bool.and_false _
  exact ⟨h, if_neg (by simp)⟩

/-- A width that a lane drop or a failed retune reduced stays. -/
theorem Dev.recovering_keeps (d : Dev) : (d.recovering false).lnk.degraded = d.lnk.degraded
    ∧ (d.lnk.degraded = true → d.straps.linkMode = false → (d.recovering false).lnk.width = d.lnk.width) := by
  refine ⟨Bool.and_true _, fun hd hm => ?_⟩
  exact (if_neg (by simp [hm])).trans (if_pos (by simp [hd]))

theorem exec_lnkRecovery {s : State} (k : RecTrig) (ha : s.alive = true) :
    exec (.lnkRecovery k) s = .next { s with dev := s.dev.lnkRecovery k } :=
  congrArg _ (State.live_pos ha _)

theorem exec_retrain {s : State} (ha : s.alive = true) : exec .retrain s = .next { s with dev := s.dev.retrain } :=
  congrArg _ (State.live_pos ha _)

theorem Dev.lnkRecovery_down {k : RecTrig} {d : Dev} (h : d.lnk.st ≠ .up) : d.lnkRecovery k = d := if_pos h

theorem Dev.lnkRecovery_deskew {d : Dev} (h : d.lnk.st = .up) : d.lnkRecovery .deskew = d.recover false := if_neg (by simp [h])

theorem Dev.lnkRecovery_align {k : Fin 16} {d : Dev} (h : d.lnk.st = .up) :
    d.lnkRecovery (.align k) = if d.lanesInUse.testBit k then d.recover false else d := if_neg (by simp [h])

theorem Dev.lnkRecovery_markers {k : Fin 16} {a b : List (BitVec 10)} {d : Dev} (h : d.lnk.st = .up) : d.lnkRecovery (.markers k a b)
    = if d.lanesInUse.testBit k && !markerSeen (d.laneSent k) a && !markerSeen (d.laneSent k) b then d.recover false else d :=
  if_neg (by simp [h])

theorem Dev.lnkRecovery_codes {k : Fin 16} {cs : List (BitVec 10)} {d : Dev} (h : d.lnk.st = .up) (hlen : cs.length ≤ 1024) :
    d.lnkRecovery (.codes k cs) = if d.lanesInUse.testBit k && decide (16 ≤ (d.rxChars k cs).1) then (d.rxChars k cs).2.recover false
      else (d.rxChars k cs).2 := by
  refine (if_neg (by simp [h])).trans ?_
  dsimp only
  rw [List.take_of_length_le hlen]

/-- Each trigger of a recovery makes one, RETRAIN alone at full width. -/
theorem exec_recovers {s : State} (ha : s.alive = true) (hst : s.dev.lnk.st = .up) {c : Instr}
    (h : c = .lnkRecovery .deskew ∨ (∃ k : Fin 16, s.dev.lanesInUse.testBit k.val = true ∧ c = .lnkRecovery (.align k))
      ∨ (∃ (k : Fin 16) (a b : List (BitVec 10)), s.dev.lanesInUse.testBit k.val = true ∧ markerSeen (s.dev.laneSent k) a = false
        ∧ markerSeen (s.dev.laneSent k) b = false ∧ c = .lnkRecovery (.markers k a b)) ∨ c = .retrain) :
    ∃ full, exec c s = .next { s with dev := s.dev.recover full } ∧ (full = true ↔ c = .retrain) := by
  rcases h with rfl | ⟨k, hu, rfl⟩ | ⟨k, a, b, hu, h1, h2, rfl⟩ | rfl
  · exact ⟨false, by rw [exec_lnkRecovery _ ha, Dev.lnkRecovery_deskew hst], by simp⟩
  · exact ⟨false, by rw [exec_lnkRecovery _ ha, Dev.lnkRecovery_align hst, if_pos hu], by simp⟩
  · exact ⟨false, by rw [exec_lnkRecovery _ ha, Dev.lnkRecovery_markers hst, if_pos (by simp [hu, h1, h2])], by simp⟩
  · exact ⟨true, (exec_retrain ha).trans (congrArg (fun e => Host.Outcome.next { s with dev := e }) (if_pos hst)), by simp⟩

/-! ## Lane drop and link down (R428) -/

theorem Dev.laneDrop_drops {c b : Nat} {d : Dev} (h : d.lnk.st = .recovery) (hm : d.straps.linkMode = false) (hw : d.lnk.width ≠ 0)
    (hal : d.lnk.aligned &&& d.lanesInUse ≠ d.lanesInUse)
    (hb : bestBlock (d.lnk.aligned >>> d.lnk.laneBase) (2 ^ d.lnk.width) (d.lnk.width - 1) = some (c, b)) :
    d.laneDrop = Dev.raise { d with lnk := { d.lnk with width := c, laneBase := d.lnk.laneBase + b, degraded := true } } Ev.LNK_LANE_DROP := by
  unfold Dev.laneDrop
  dsimp only
  rw [if_neg (by simp [h, hm, hw, hal]), hb]

theorem Dev.laneDrop_idle {d : Dev} (h : d.lnk.st ≠ .recovery) : d.laneDrop = d := if_pos (by simp [h])

/-- The link forgets what it held and awaits, and its credits. -/
def Dev.lnkForgotten (d : Dev) : Dev := { d with lnk := { d.lnk with
  st := .down, retry := [], txq := [], txNext := 0, txAcked := 4095, rxExp := 0, nakOut := false,
  advPh := 0, advNph := 0, advCh := 0, advPd := 0, advCd := 0,
  usedPh := 0, usedNph := 0, usedCh := 0, usedPd := 0, usedCd := 0, flowSeen := false } }

theorem Dev.lnkDown_downs {d : Dev} (h : d.lnk.st = .recovery) : d.lnkDown = d.lnkForgotten.raise Ev.LNK_DOWN := if_neg (by simp [h])

theorem Dev.lnkDown_idle {d : Dev} (h : d.lnk.st ≠ .recovery) : d.lnkDown = d := if_pos h

/-- Settles O43: the 8b/10b code tables, the disparity after an error and the 1,024 characters of the command are log 115. -/
theorem linkTrainsRecoversAndGoesDown : Obligations.LinkTrainsRecoversAndGoesDown := by
  unfold Obligations.LinkTrainsRecoversAndGoesDown
  intro s ha hc d l
  have live (f : State → State) : (Host.Outcome.next (s.live f) : Res) = .next (f s) := congrArg _ (State.live_pos ha f)
  refine ⟨fun plus x hx => decodeSym_encode hx, unprecode_precode, idleSeed_ne_zero, fun x hx => idleStep_ne_zero hx,
    fun k num cfg ht hcfg hn => ?_, fun k num cfg ht hcfg hfirst => ?_, fun k num cfg ht => ?_, fun hst hal hhot => ?_,
    fun hst c hcmd => ?_, fun hst k cs hlen => ?_, fun hst k a b => ?_, fun hst => ⟨fun k => ?_, ?_⟩, fun c b hst hm hw hal hb => ?_,
    fun hst => ?_, fun hst => ⟨?_, ?_⟩⟩
  · rw [exec_laneAligned k num cfg ha, Dev.laneAligned_aligns ht hcfg hn]
  · exact ⟨_, _, (exec_laneAligned k num cfg ha).trans (by rw [Dev.laneAligned_mismatch ht hcfg hfirst]),
      Dev.raise_noted (by exact hc) (by decide), rfl⟩
  · rw [exec_laneAligned k num cfg ha, Dev.laneAligned_idle ht]
  · intro up
    have hup := Dev.lnkUp_eq hst hal hhot
    refine ⟨up.raise Ev.LNK_UP, Dev.raise_noted (by exact hc) (by decide), fun h => ?_,
      fun h => ⟨(up.raise Ev.LNK_UP).sendFlow.raise Ev.PWR_RESET, ?_, ?_⟩⟩
    · rw [exec_lnkUp ha, hup, show s.dev.lnk.upSince = true from h]
      rfl
    · exact Dev.raise_noted ((Dev.raise_on up _ _).trans hc) (by decide)
    · rw [exec_lnkUp ha, hup, show s.dev.lnk.upSince = false from h]
      rfl
  · obtain ⟨full, he, hfull⟩ := exec_recovers ha hst hcmd
    obtain ⟨h1, h2, h3, h4, h5, h6, h7⟩ := Dev.recovering_facts full d
    refine ⟨d.recovering full, he, h1, h2, h3, h4, h5, h6, h7, fun h => ?_, fun h => ?_⟩
    · rw [hfull.mpr h]
      exact Dev.recovering_full d
    · rw [Bool.eq_false_iff.mpr (fun hf => h (hfull.mp hf))]
      exact Dev.recovering_keeps d
  · have hcodes := (exec_lnkRecovery (.codes k cs) ha).trans (by rw [Dev.lnkRecovery_codes hst hlen])
    refine ⟨fun huse h16 => ⟨hcodes.trans ?_, Dev.recover_st _ _⟩, fun hno => hcodes.trans ?_⟩
    · exact congrArg (fun e => Host.Outcome.next { s with dev := e }) (if_pos (Bool.and_eq_true_iff.mpr ⟨huse, decide_eq_true h16⟩))
    · refine congrArg (fun e => Host.Outcome.next { s with dev := e }) (if_neg (fun h => ?_))
      obtain ⟨huse, h16⟩ := Bool.and_eq_true_iff.mp h
      exact hno.elim (fun hu => absurd (hu.symm.trans huse) (by decide)) (fun hlt => absurd (of_decide_eq_true h16) (Nat.not_le.mpr hlt))
  · refine ⟨fun hno => ?_, fun hu => ?_⟩
    · rw [exec_lnkRecovery _ ha, Dev.lnkRecovery_markers hst]
      refine congrArg (fun e => Host.Outcome.next { s with dev := e }) (if_neg ?_)
      rcases hno with h | h | h <;> dsimp only [d] at h <;> rw [h] <;> simp
    · rw [exec_lnkRecovery _ ha, Dev.lnkRecovery_align hst]
      exact congrArg (fun e => Host.Outcome.next { s with dev := e }) (if_neg (ne_true_of_eq_false hu))
  · rw [exec_lnkRecovery k ha, Dev.lnkRecovery_down hst]
  · rw [exec_retrain ha]
    exact congrArg (fun e => Host.Outcome.next { s with dev := e }) (if_neg hst)
  · exact ⟨_, _, (live _).trans (by rw [State.onDev, Dev.laneDrop_drops hst hm hw hal hb]), Dev.raise_noted (by exact hc) (by decide), rfl⟩
  · exact ⟨d.lnkForgotten, _, (live _).trans (by rw [State.onDev, Dev.lnkDown_downs hst]), Dev.raise_noted (by exact hc) (by decide),
      rfl, rfl, rfl, rfl, rfl, rfl, rfl⟩
  · exact (live _).trans (congrArg _ (State.onDev_id (Dev.laneDrop_idle hst)))
  · exact (live _).trans (congrArg _ (State.onDev_id (Dev.lnkDown_idle hst)))

end Sys2Proof.Machine
end

section
/-! Packets of the host link (14 R403, R404, R412, R420-R424). -/
namespace Sys2Proof.Machine

/-! ## Completions (R424) -/

/-- A link that has accepted a completion. -/
theorem Dev.rxAccept_completion (d : Dev) : (d.rxAccept .completion).lnk.reads = d.lnk.reads
    ∧ (d.rxAccept .completion).lnk.txq = d.lnk.txq ∧ (d.rxAccept .completion).lnk.rxExp = (d.lnk.rxExp + 1) % 4096 := by
  unfold Dev.rxAccept
  dsimp only
  split <;> exact ⟨rfl, rfl, rfl⟩

theorem exec_cplReceived {s : State} (tag status bytes : Nat) (ha : s.alive = true) :
    exec (.cplReceived tag status bytes) s = .next (s.tidied (fun _ => s.dev.cplReceived tag status bytes)) :=
  congrArg _ ((State.live_pos ha _).trans (State.tidied_const _ _))

/-- A completion that no read expects is counted and noted. -/
theorem Dev.cplReceived_unexpected {tag status bytes : Nat} {d : Dev} (h : d.lnk.st = .up)
    (hr : d.lnk.reads.find? (fun r => r.tag = tag) = none) :
    d.cplReceived tag status bytes = ((d.rxAccept .completion).inc Reg.LNK_UNEXP_CPL_CNT).raise Ev.LNK_UNEXPECTED_CPL := by
  obtain ⟨hreads, -, -⟩ := Dev.rxAccept_completion d
  unfold Dev.cplReceived
  rw [if_neg (by simp [h])]
  dsimp only
  rw [hreads, hr]

/-- The reads after a completion of the read `r` with that tag. -/
def readsAfter (tag status bytes : Nat) (r : Rd) (rs : List Rd) : List Rd :=
  if status ≠ 0 ∨ 4 * r.words ≤ r.got + bytes then rs.filter (fun y => y.tag ≠ tag)
  else rs.map (fun y => if y.tag = tag then { y with got := r.got + bytes } else y)

/-- The device after a completion of the read `r`, before it sends on. -/
def Dev.readAnswered (tag status bytes : Nat) (r : Rd) (d : Dev) : Dev :=
  { d.rxAccept .completion with lnk := { (d.rxAccept .completion).lnk with reads := readsAfter tag status bytes r d.lnk.reads } }

theorem Dev.cplReceived_answers {tag status bytes : Nat} {r : Rd} {d : Dev} (h : d.lnk.st = .up)
    (hr : d.lnk.reads.find? (fun r => r.tag = tag) = some r) :
    d.cplReceived tag status bytes = (d.readAnswered tag status bytes r).pump := by
  obtain ⟨hreads, -, -⟩ := Dev.rxAccept_completion d
  unfold Dev.cplReceived Dev.readAnswered readsAfter
  rw [if_neg (by simp [h])]
  dsimp only
  rw [hreads, hr]
  dsimp only
  simp only [Bool.or_eq_true, decide_eq_true_eq]

/-- An answer changes the link alone. -/
theorem Dev.readAnswered_eq (tag status bytes : Nat) (r : Rd) (d : Dev) :
    d.readAnswered tag status bytes r = { d with lnk := (d.readAnswered tag status bytes r).lnk } := by
  obtain ⟨l, hl⟩ := Dev.rxAccept_eq .completion d
  unfold Dev.readAnswered
  rw [hl]

/-! ## Acknowledgement (R421-R423) -/

/-- The start of a packet and the release of what it covers. -/
def Dev.released (n : Nat) (d : Dev) : Dev := d.onSop.release n

theorem Dev.released_eq (n : Nat) (d : Dev) : d.released n = { d with lnk := (d.released n).lnk }
    ∧ (d.released n).lnk.retry = d.lnk.retry.filter (fun p => !seqCovered p.seq n) ∧ (d.released n).lnk.txq = d.lnk.txq :=
  ⟨rfl, rfl, rfl⟩

theorem Dev.ackReceived_up {n : Nat} {d : Dev} (h : d.lnk.st = .up) : d.ackReceived n = (d.released n).pump := if_neg (by simp [h])

theorem Dev.nakReceived_up {n : Nat} {d : Dev} (h : d.lnk.st = .up) :
    d.nakReceived n = ((((d.released n).inc Reg.LNK_NAK_RX_CNT).raiseOnce Ev.LNK_REPLAY).replay).pump := if_neg (by simp [h])

theorem Dev.flowReceived_up {ph nph ch pd cd : Nat} {d : Dev} (h : d.lnk.st = .up) : d.flowReceived ph nph ch pd cd
    = Dev.pump { d with lnk := { d.lnk with
        frozen := 0, advPh := ph % 256, advNph := nph % 256, advCh := ch % 256, advPd := pd % 4096, advCd := cd % 4096,
        flowSeen := true } } := if_neg (by simp [h])

/-! ## Bad packets (R421) -/

theorem exec_badPacketReceived {s : State} (k : BadPkt) (ha : s.alive = true) :
    exec (.badPacketReceived k) s = .next { s with dev := s.dev.badPacket k } :=
  congrArg _ (State.live_pos ha _)

/-- The NAK of the last packet accepted. -/
def Dev.nakSent (d : Dev) : Dev :=
  Dev.inc { d with lnk := { d.lnk with nakOut := true, sentNak := some ((d.lnk.rxExp + 4095) % 4096) } } Reg.LNK_NAK_TX_CNT

theorem Dev.sendNak_first {d : Dev} (h : d.lnk.nakOut = false) : d.sendNak = d.nakSent := if_neg (by simp [h])

/-- No second NAK is sent while one is outstanding. -/
theorem Dev.sendNak_again {d : Dev} (h : d.lnk.nakOut = true) : d.sendNak = d := if_pos h

/-- A bad packet is counted, and answered by no second NAK. -/
theorem Dev.badCount_sendNak {d : Dev} (h : d.lnk.nakOut = true) : d.badCount.sendNak = d.badCount :=
  Dev.sendNak_again ((congrArg Lnk.nakOut (Dev.raiseOnce_lnk (d.inc Reg.LNK_CRC_ERR_CNT) _)).trans h)

theorem Dev.badPacket_wrongSeq {d : Dev} (h : d.lnk.st = .up) : d.badPacket .wrongSeq = d.onSop.sendNak := if_neg (by simp [h])
theorem Dev.badPacket_crc {d : Dev} (h : d.lnk.st = .up) : d.badPacket .crc = d.onSop.badCount.sendNak := if_neg (by simp [h])
theorem Dev.badPacket_code {k : Fin 16} {cs : List (BitVec 10)} {d : Dev} (h : d.lnk.st = .up) : d.badPacket (.code k cs)
    = if (d.onSop.rxChars k cs).1 = 0 then (d.onSop.rxChars k cs).2 else (d.onSop.rxChars k cs).2.badCount.sendNak := if_neg (by simp [h])

/-! ## What the part sends (R420, R422, R423) -/

theorem Dev.replay_empty {d : Dev} (h : d.lnk.retry = []) : d.replay = d := by
  unfold Dev.replay
  rw [h]

/-- A replay that is not the fourth with the same oldest packet only counts. -/
theorem Dev.replay_counts {p : Packet} {q : List Packet} {d : Dev} (h : d.lnk.retry = p :: q) (hn : ¬ (d.lnk.replaySeq = p.seq ∧ 3 ≤ d.lnk.replays)) :
    d.replay = { d with lnk := { d.lnk with
      replaySeq := p.seq, replays := if d.lnk.replays ≠ 0 ∧ d.lnk.replaySeq = p.seq then d.lnk.replays + 1 else 1 } } := by
  have hcount : (if d.lnk.replays ≠ 0 && d.lnk.replaySeq = p.seq then d.lnk.replays + 1 else 1)
      = if d.lnk.replays ≠ 0 ∧ d.lnk.replaySeq = p.seq then d.lnk.replays + 1 else 1 := by
    simp only [Bool.and_eq_true, decide_eq_true_eq]
  have hfew : ¬ 4 ≤ if d.lnk.replays ≠ 0 ∧ d.lnk.replaySeq = p.seq then d.lnk.replays + 1 else 1 := by
    split <;> omega
  unfold Dev.replay
  rw [h]
  dsimp only
  rw [hcount, if_neg (by simp only [hfew, decide_false, Bool.false_and]; decide)]

/-! ## Reads without a completion (R424) -/

/-- A read that failed leaves its tag dead for 1 ms and is counted. -/
def Dev.readFailed (tag : Nat) (d : Dev) : Dev := Dev.inc { d with lnk := { d.lnk with
  reads := d.lnk.reads.filter (fun (x : Rd) => x.tag ≠ tag),
  deadTags := (d.lnk.deadTags.filter (fun (x : Nat × Time) => decide (d.now < x.2))) ++ [(tag, d.now + ms)] } } Reg.LNK_CPL_TIMEOUT_CNT

theorem Dev.cplTimeout_buffer {tag : Nat} {r : Rd} {d : Dev} (h : d.lnk.reads.find? (fun r => r.tag = tag) = some r) (hr : r.reader = .buffer) :
    d.cplTimeout tag = (d.readFailed tag).raiseOnce Ev.LNK_CPL_TIMEOUT := by
  unfold Dev.cplTimeout
  rw [h]
  dsimp only
  rw [hr]
  rfl

theorem Dev.hotFinish_idle {d : Dev} (h : d.lnk.hotPending = false) : d.hotFinish = d := if_pos (by simp [h])

/-- Settles O44: which bad packets are counted and the end of the freeze are log 77; the credits taken and the disparity after an
error are log 115. -/
theorem packetsAreAcknowledgedAndReplayed : Obligations.PacketsAreAcknowledgedAndReplayed := by
  unfold Obligations.PacketsAreAcknowledgedAndReplayed
  intro s ha hc hst d l sop then_
  have live (f : State → State) : (Host.Outcome.next (s.live f) : Res) = .next (f s) := congrArg _ (State.live_pos ha f)
  have tidy (f : Dev → Dev) : (Host.Outcome.next (s.live (State.tidied f)) : Res) = .next (s.tidied (fun _ => f s.dev)) :=
    (live _).trans (congrArg _ (State.tidied_const _ _))
  refine ⟨fun tag status bytes hr => ?_, fun tag status bytes r hr => ?_, fun ph nph ch pd cd => ?_, fun n => ?_, ?_, ?_,
    fun hout => ?_, fun hout => ⟨?_, ?_⟩, fun k cs => ?_, ?_, fun t => ?_, fun hdue => ?_, fun hdue => ?_, ?_, fun hr => ?_,
    fun p q hr hn => ?_, fun tag r hr hbuf hhot => ?_⟩
  · refine ⟨_, _, (exec_cplReceived tag status bytes ha).trans (by rw [Dev.cplReceived_unexpected hst hr]), Dev.raise_noted ?_ (by decide), rfl⟩
    exact (Dev.rxAccept_on _ _ _).trans hc
  · obtain ⟨-, htxq, hexp⟩ := Dev.rxAccept_completion d
    exact ⟨d.readAnswered tag status bytes r, (exec_cplReceived tag status bytes ha).trans (by rw [Dev.cplReceived_answers hst hr]),
      Dev.readAnswered_eq _ _ _ _ _, htxq, hexp, rfl⟩
  · exact (tidy _).trans (by rw [Dev.flowReceived_up hst])
  · obtain ⟨h1, h2, h3⟩ := Dev.released_eq n d
    exact ⟨d.released n, h1, h2, h3, (tidy _).trans (by rw [Dev.ackReceived_up hst]), (tidy _).trans (by rw [Dev.nakReceived_up hst])⟩
  · exact (exec_badPacketReceived _ ha).trans (congrArg (fun e => Host.Outcome.next { s with dev := e }) (if_neg (by simp [hst])))
  · exact (exec_badPacketReceived _ ha).trans (congrArg (fun e => Host.Outcome.next { s with dev := e }) (if_neg (by simp [hst])))
  · refine ⟨sop.nakSent, ?_, rfl, Dev.rd_inc_same _ _, fun o ho => Dev.rd_wr_ne _ _ ho.symm⟩
    rw [exec_badPacketReceived _ ha, Dev.badPacket_wrongSeq hst, Dev.sendNak_first (by exact hout)]
    rfl
  · rw [exec_badPacketReceived _ ha, Dev.badPacket_wrongSeq hst, Dev.sendNak_again (by exact hout)]
    rfl
  · rw [exec_badPacketReceived _ ha, Dev.badPacket_crc hst, Dev.badCount_sendNak (by exact hout)]
    rfl
  · intro r m
    have hm : (d.onSop.rxChars k cs).2 = m := rfl
    refine ⟨fun hpos hout => ?_, fun hzero => ?_⟩
    · rw [exec_badPacketReceived _ ha, Dev.badPacket_code hst]
      refine congrArg (fun e => Host.Outcome.next { s with dev := e }) ((if_neg (Nat.pos_iff_ne_zero.mp hpos)).trans ?_)
      exact Dev.badCount_sendNak (d := m) hout
    · rw [exec_badPacketReceived _ ha, Dev.badPacket_code hst]
      exact congrArg (fun e => Host.Outcome.next { s with dev := e }) (if_pos hzero)
  · exact (exec_badPacketReceived _ ha).trans (congrArg (fun e => Host.Outcome.next { s with dev := e }) (if_neg (by simp [hst])))
  · exact (exec_badPacketReceived _ ha).trans (congrArg (fun e => Host.Outcome.next { s with dev := e }) (if_neg (by simp [hst])))
  · exact (live _).trans (congrArg (fun e => Host.Outcome.next { s with dev := e })
      (if_pos (Bool.and_eq_true_iff.mpr ⟨decide_eq_true hst, hdue⟩)))
  · refine (live _).trans (congrArg _ (State.onDev_id (if_neg fun h => ?_)))
    exact absurd (hdue.symm.trans (Bool.and_eq_true_iff.mp h).2) (by decide)
  · exact (live _).trans (congrArg (fun e => Host.Outcome.next { s with dev := e }) (if_pos hst))
  · exact (live _).trans (congrArg _ (State.onDev_id ((if_pos hst).trans (Dev.replay_empty hr))))
  · exact (live _).trans (congrArg (fun e => Host.Outcome.next { s with dev := e }) ((if_pos hst).trans (Dev.replay_counts hr hn)))
  · refine ⟨d.readFailed tag, (tidy _).trans ?_, rfl, List.mem_append_right _ List.mem_cons_self, Dev.rd_inc_same _ _,
      fun o ho => Dev.rd_wr_ne _ _ ho.symm⟩
    rw [Dev.cplTimeout_buffer hr hbuf, Dev.hotFinish_idle]
    exact (congrArg Lnk.hotPending (Dev.raiseOnce_lnk (d.readFailed tag) _)).trans hhot

end Sys2Proof.Machine
end

section
/-! Retunes and hot resets of the host link (14 R429, R430; 16 R476). -/
namespace Sys2Proof.Machine

/-! ## Retunes (R429) -/

theorem Dev.retune_starts {d : Dev} (hst : d.lnk.st = .up) (hm : d.straps.linkMode = false) (hw : d.lnk.width ≠ 0) (hr : d.lnk.retune = none) :
    d.retune =
      let half := 2 ^ (d.lnk.nomWidth - 1)
      let lane := d.f Reg.LNK_RETUNE_CTL 3 0
      let blk := if lane < half then 1 else 0
      { d with lnk := { d.lnk with
        width := d.lnk.nomWidth - 1, laneBase := blk * half, aligned := d.lnk.aligned &&& ((2 ^ half - 1) <<< (blk * half)),
        retune := some { lane := lane, block := blk, rxSwitched := false } } } :=
  if_neg (by simp [hst, hm, hw, hr])

theorem Dev.retune_refused {d : Dev} (h : d.lnk.st ≠ .up ∨ d.straps.linkMode = true ∨ d.lnk.width = 0 ∨ d.lnk.retune ≠ none) :
    d.retune = d.raise Ev.LNK_RETUNE_FAIL := by
  refine if_pos ?_
  rcases h with h | h | h | h
  · simp [h]
  · simp [h]
  · simp [h]
  · simp [Option.isSome_iff_ne_none.mpr h]

theorem Dev.lchReceived_up {w b : Nat} {r : Retune} {d : Dev} (hr : d.lnk.retune = some r) (hst : d.lnk.st = .up) :
    d.lchReceived w b = if w = d.lnk.width ∧ b = r.block
      then { d with lnk := { d.lnk with retune := some { r with rxSwitched := true } } } else d := by
  unfold Dev.lchReceived
  rw [hr]
  simp [hst]

/-- A mask that holds the low `n` bits of another is met exactly when those bits are set. -/
theorem and_low_mask_iff (a n : Nat) : a &&& (2 ^ n - 1) = 2 ^ n - 1 ↔ ∀ k, k < n → a.testBit k = true := by
  constructor
  · intro h k hk
    have hbit := congrArg (fun x => x.testBit k) h
    simpa [Nat.testBit_and, Nat.testBit_two_pow_sub_one, hk] using hbit
  · intro h
    refine Nat.eq_of_testBit_eq fun k => ?_
    rw [Nat.testBit_and, Nat.testBit_two_pow_sub_one]
    by_cases hk : k < n
    · simp [hk, h k hk]
    · simp [hk]

/-- The last step of a retune waits for the host's switch and for every lane of the nominal width. -/
theorem Dev.retuneReady_iff {r : Retune} {d : Dev} (hr : d.lnk.retune = some r) :
    d.retuneReady = true ↔ r.rxSwitched = true ∧ ∀ k, k < 2 ^ d.lnk.nomWidth → d.lnk.aligned.testBit k = true := by
  unfold Dev.retuneReady
  rw [hr, ← and_low_mask_iff]
  simp

theorem Dev.retuneDone_none {d : Dev} (h : d.lnk.retune = none) : d.retuneDone = d :=
  if_neg (by simp [Dev.retuneReady, h])

theorem Dev.retuneFail_some {r : Retune} {d : Dev} (h : d.lnk.retune = some r) :
    d.retuneFail = Dev.raise { d with lnk := { d.lnk with retune := none, degraded := true } } Ev.LNK_RETUNE_FAIL := by
  unfold Dev.retuneFail
  rw [h]

theorem Dev.retuneFail_none {d : Dev} (h : d.lnk.retune = none) : d.retuneFail = d := by
  unfold Dev.retuneFail
  rw [h]

theorem Dev.lchReceived_none {w b : Nat} {d : Dev} (h : d.lnk.retune = none) : d.lchReceived w b = d := by
  unfold Dev.lchReceived
  rw [h]

/-! ## Resets of class H and W (16 R476; 14 R430) -/

/-- The blocks beside CORE, SAFE and AO after their reset. -/
def Dev.blocksReset (d : Dev) : Dev := { (d.acqReset.waveReset false).servoReset.memReset.hkReset with prf := {} }

theorem Dev.blocksReset_keeps (d : Dev) : d.blocksReset.lnk = d.lnk ∧ d.blocksReset.dsc = d.dsc
    ∧ d.blocksReset.wave.mem.cells = d.wave.mem.cells ∧ d.blocksReset.pwr = d.pwr := by
  simp only [Dev.blocksReset, Dev.hkReset, Dev.hkUp, Dev.memReset, Dev.modMem, Dev.servoReset, Dev.waveReset, Dev.acqReset, and_self]

/-- The blocks of every domain but SAFE and AO after a hot reset, the link and the security state still as they were. -/
def Dev.hotBlocks (wdog : Bool) (d : Dev) : Dev :=
  ((d.dropRegs (if wdog then .w else .h) (fun _ => true)).coreReset true).blocksReset

/-- The link aligns again, with its reads kept for step 6. -/
def Dev.hotLink (wdog : Bool) (d : Dev) : Dev :=
  { d.lnkReset true with lnk := { (d.lnkReset true).lnk with hotPending := true, hotWdog := wdog, upSince := false } }.modPwr
    (fun p => { p with resetCause := if wdog then 3 else 2, waitEntry := [], waitWake := [] })

/-- SERVICE and debug sessions end, and what a host had under way at the security registers. -/
def Dev.hotLocked (d : Dev) : Dev :=
  let e := d.secLock true
  { e with sec := { e.sec with chalRegs := [], result := 0, reason := 0, busy := none, bscanRefused := false } }

/-- A reset of class H or W at a part whose CORE is powered. -/
def Dev.hotReset (wdog : Bool) (d : Dev) : Dev :=
  let e := ((d.hotBlocks wdog).hotLink wdog).hotLocked
  if e.tim.lock || e.tim.lockLost then e.frame0 else e

theorem State.hot_eq {wdog : Bool} {s : State} (hc : s.dev.on domCORE = true) :
    s.hot wdog = { s with dev := s.dev.hotReset wdog, isl := s.isl.pwReset } := by
  unfold State.hot
  rw [if_neg (by simp [hc])]
  unfold Dev.hotReset Dev.hotBlocks Dev.hotLink Dev.hotLocked Dev.blocksReset State.onDev State.onIsl
  with_reducible rfl

theorem Dev.raiseIf_keeps (d : Dev) (c : Bool) (n : Nat) :
    (d.raiseIf c n).lnk = d.lnk ∧ (d.raiseIf c n).dsc = d.dsc ∧ (d.raiseIf c n).wave = d.wave := by
  cases c with
  | false => exact ⟨rfl, rfl, rfl⟩
  | true => exact ⟨Dev.raise_lnk _ _, Dev.raise_dsc _ _, Dev.raise_wave _ _⟩

/-- CORE right after a hot reset, before a loss of qualification is noted. -/
def Dev.cored (d : Dev) : Dev :=
  let e := { d with
    glb := { encA := d.glb.encA, encB := d.glb.encB, shadow := d.glb.shadow },
    bite := {},
    evt := { seq := d.evt.seq, attnAt := d.evt.attnAt },
    dsc := { flights := d.dsc.flights, held := d.dsc.held, cqStall := d.dsc.cqStall, phase := d.dsc.phase,
             fetching := d.dsc.fetching, served := d.dsc.served },
    mdv := {},
    prf := { tables := d.prf.tables, zr := d.prf.zr, zrSet := d.prf.zrSet } }
  e.modMdv (fun m => { m with peerWait := e.cascOn && e.cascRole = 2 })

theorem Dev.coreReset_hot (d : Dev) : d.coreReset true = d.cored.raiseIf d.mdv.qualified Ev.PAIR_UNQUALIFIED := rfl

/-- The reset of CORE at a hot reset keeps the link, the descriptors in flight, the plates' memory and the domains. -/
theorem Dev.coreReset_keeps (d : Dev) : (d.coreReset true).lnk = d.lnk ∧ (d.coreReset true).dsc.flights = d.dsc.flights
    ∧ (d.coreReset true).wave = d.wave ∧ (d.coreReset true).pwr.domains = d.pwr.domains := by
  have hpwr := (d.coreReset_pwrKept true).1
  rw [Dev.coreReset_hot] at hpwr ⊢
  obtain ⟨h1, h2, h3⟩ := d.cored.raiseIf_keeps d.mdv.qualified Ev.PAIR_UNQUALIFIED
  exact ⟨h1, (congrArg Dsc.flights h2).trans rfl, h3, hpwr⟩

/-- What a hot reset leaves of the device: the link aligns with its reads kept, the descriptors in flight, the contents of memory and
the domains stay. -/
structure Dev.HotKept (wdog : Bool) (d e : Dev) : Prop where
  st : e.lnk.st = .aligning
  pending : e.lnk.hotPending = true
  dog : e.lnk.hotWdog = wdog
  reads : e.lnk.reads = d.lnk.reads
  flights : e.dsc.flights = d.dsc.flights
  cause : e.pwr.resetCause = if wdog then 3 else 2
  domains : e.pwr.domains = d.pwr.domains
  cells : e.wave.mem.cells = d.wave.mem.cells

theorem Dev.hotLink_kept (wdog : Bool) (d : Dev) : d.HotKept wdog ((d.hotBlocks wdog).hotLink wdog) := by
  obtain ⟨h1, h2, h3, h4⟩ := Dev.coreReset_keeps (d.dropRegs (if wdog then .w else .h) (fun _ => true))
  obtain ⟨k1, k2, k3, k4⟩ := Dev.blocksReset_keeps ((d.dropRegs (if wdog then .w else .h) (fun _ => true)).coreReset true)
  have hlnk : (d.hotBlocks wdog).lnk = d.lnk := k1.trans h1
  have hdsc : (d.hotBlocks wdog).dsc.flights = d.dsc.flights := (congrArg Dsc.flights k2).trans h2
  have hmem : (d.hotBlocks wdog).wave.mem.cells = d.wave.mem.cells := k3.trans (congrArg (fun w => w.mem.cells) h3)
  have hpwr : (d.hotBlocks wdog).pwr.domains = d.pwr.domains := (congrArg Pwr.domains k4).trans h4
  have hreads (e : Dev) : (e.hotLink wdog).lnk.reads = e.lnk.reads := rfl
  exact ⟨rfl, rfl, rfl, (hreads _).trans (congrArg Lnk.reads hlnk), hdsc, rfl, hpwr, hmem⟩

theorem Dev.HotKept.congr {wdog : Bool} {d e g : Dev} (h : d.HotKept wdog e) (h1 : g.lnk = e.lnk) (h2 : g.dsc = e.dsc) (h3 : g.wave = e.wave)
    (h4 : g.pwr = e.pwr) : d.HotKept wdog g := by
  obtain ⟨k1, k2, k3, k4, k5, k6, k7, k8⟩ := h
  exact ⟨by rw [h1, k1], by rw [h1, k2], by rw [h1, k3], by rw [h1, k4], by rw [h2, k5], by rw [h4, k6], by rw [h4, k7], by rw [h3, k8]⟩

/-- Frame 0 changes the frame, budgets and events alone. -/
theorem Dev.HotKept.frame0 {wdog : Bool} {d e : Dev} (h : d.HotKept wdog e) (hc : e.on domCORE = true) : d.HotKept wdog e.frame0 := by
  unfold Dev.frame0
  dsimp only
  generalize hg : Dev.mk _ _ _ _ _ _ _ _ _ _ _ _ _ _ _ _ _ _ _ _ _ = g
  have hb : g.Budgeted (g.biteFrame false) := Dev.biteFrame_budgeted false (by rw [← hg]; exact hc)
  rw [show g.biteFrame false = _ from hb, ← hg]
  exact h.congr rfl rfl rfl rfl

theorem Dev.hotReset_kept {wdog : Bool} {d : Dev} (hc : d.on domCORE = true) : d.HotKept wdog (d.hotReset wdog) := by
  have hlink := Dev.hotLink_kept wdog d
  have hcore : ((d.hotBlocks wdog).hotLink wdog).on domCORE = true := (Dev.on_congr hlink.domains _).trans hc
  have hlocked : d.HotKept wdog ((d.hotBlocks wdog).hotLink wdog).hotLocked := by
    obtain ⟨h1, h2, h3, h4, h5, -, -⟩ := (Dev.onlySecurity_secLock hcore).blocks
    exact hlink.congr h4 h1 h2 h5
  have hcore' := (Dev.on_congr hlocked.domains domCORE).trans hc
  unfold Dev.hotReset
  dsimp only
  split
  · exact hlocked.frame0 hcore'
  · exact hlocked

/-- HOT_RESET with CORE powered. -/
theorem exec_hotReset {s : State} (ha : s.alive = true) (hst : s.dev.lnk.st ≠ .eidle) (hc : s.dev.on domCORE = true) :
    exec .hotReset s = .next { s with dev := s.dev.hotReset false, isl := s.isl.pwReset } :=
  congrArg _ ((State.live_pos ha _).trans ((show s.hotReset = s.hot false from if_neg hst).trans (State.hot_eq hc)))

/-- Settles O45: half of the nominal width, the kept lanes staying aligned and the return once the host has switched are log 78. -/
theorem retunesAndHotResets : Obligations.RetunesAndHotResets := by
  unfold Obligations.RetunesAndHotResets
  intro s ha hc d l
  have live (f : State → State) : (Host.Outcome.next (s.live f) : Res) = .next (f s) := congrArg _ (State.live_pos ha f)
  refine ⟨fun hst hm hw hr => ?_, fun h => ?_, fun r hr hst w b => ?_, fun r hr => ⟨fun hsw hall => ?_, fun hno => ?_, ?_⟩,
    fun hr => ⟨?_, ?_, fun w b => ?_⟩, fun k => live _, fun hst => ?_, fun hst => ?_, fun hst => ?_⟩
  · exact (live _).trans (by rw [State.onDev, Dev.retune_starts hst hm hw hr])
  · exact ⟨_, (live _).trans (by rw [State.onDev, Dev.retune_refused h]), Dev.raise_noted hc (by decide)⟩
  · refine (live _).trans (congrArg _ ?_)
    rw [State.onDev, Dev.lchReceived_up hr hst]
    split <;> rfl
  · refine ⟨_, _, (live _).trans ?_, Dev.raise_noted (by exact hc) (by decide), rfl⟩
    exact congrArg (fun e => Host.Outcome.next { s with dev := e }) (if_pos ((Dev.retuneReady_iff hr).mpr ⟨hsw, hall⟩))
  · refine (live _).trans (congrArg _ (State.onDev_id (if_neg fun h => ?_)))
    obtain ⟨hsw, hall⟩ := (Dev.retuneReady_iff hr).mp h
    rcases hno with hf | ⟨k, hk, hf⟩
    · exact absurd (hf.symm.trans hsw) (by decide)
    · exact absurd (hf.symm.trans (hall k hk)) (by decide)
  · exact ⟨_, _, (live _).trans (by rw [State.onDev, Dev.retuneFail_some hr]), Dev.raise_noted (by exact hc) (by decide), rfl⟩
  · exact (live _).trans (congrArg _ (State.onDev_id (Dev.retuneDone_none hr)))
  · exact (live _).trans (congrArg _ (State.onDev_id (Dev.retuneFail_none hr)))
  · exact (live _).trans (congrArg _ (State.onDev_id (Dev.lchReceived_none hr)))
  · obtain ⟨h1, h2, -, h4, h5, h6, h7, h8⟩ := Dev.hotReset_kept (wdog := false) hc
    exact ⟨_, exec_hotReset ha hst hc, h1, h2, h4, h5, h6, h7, h8, rfl, rfl, rfl, rfl⟩
  · exact (live _).trans (congrArg _ (if_pos hst))
  · have hidle : s.dev.eidleExit = s.dev := if_neg hst
    refine (live _).trans (congrArg _ ((State.power_pos ?_ ?_ ?_ ?_).trans (by rw [hidle]))) <;> rw [hidle]

end Sys2Proof.Machine
end

section
/-! Resets and supplies (16 R476, R478, R479; 18 R513, R524). -/
namespace Sys2Proof.Machine

/-- Right after a reset with no comparator tripped: the straps and free values, and a link that aligns. -/
theorem Dev.fresh_released {x : Straps} {old : Dev} (cause : Nat) (h : old.thm.shutNow = 0) : Dev.fresh x cause old
    = { straps := x, free := old.free, lnk := (Dev.fresh x cause old).lnk, tim := { refSel := decide (32 ≤ x.refEdges) },
        pwr := { resetCause := cause } } ∧ (Dev.fresh x cause old).lnk.st = .aligning := by
  unfold Dev.fresh
  rw [h]
  exact ⟨rfl, rfl⟩

/-- What a power-on or cold reset leaves whatever the comparators say. -/
theorem Dev.fresh_facts (x : Straps) (cause : Nat) (old : Dev) : (Dev.fresh x cause old).regs = [] ∧ (Dev.fresh x cause old).straps = x
    ∧ (Dev.fresh x cause old).pwr.resetCause = cause ∧ (Dev.fresh x cause old).pwr.domains = 0x1FF
    ∧ (Dev.fresh x cause old).wave.mem.cells = [] := by
  unfold Dev.fresh
  dsimp only
  split <;> exact ⟨rfl, rfl, rfl, rfl, rfl⟩

/-- Without supplies every output net is high impedance. -/
theorem State.net_off {t : State} (h : t.dev.pwr.off = true) {τ : Time} {p : Pin} {n : Net} (hn : t.net τ p = some n) : n = .highZ := by
  unfold State.net at hn
  rw [h] at hn
  split at hn <;> simp_all

/-- A part without supplies, or held by a SHUT comparator, takes no command but a power-on reset. -/
theorem State.live_dead {s : State} (f : State → State) (h : s.alive = false) : s.live f = s := if_neg (by simp [h])

/-- The commands of a dead part, named in the statement, do nothing. -/
theorem exec_dead {s : State} (h : s.alive = false) {c : Instr}
    (hc : c = .coreWatchdog ∨ c = .heartbeat ∨ c = .chalNew ∨ c = .hotReset ∨ c = .memTrain ∨ c = .wakeNLow) : exec c s = .next s := by
  rcases hc with rfl | rfl | rfl | rfl | rfl | rfl <;> exact congrArg _ (State.live_dead _ h)

/-- An enabled core watchdog resets while ticks run. -/
theorem exec_coreWatchdog {s : State} (ha : s.alive = true) (hw : s.dev.b Reg.PWR_WDOG_CTL 8 = true) (hr : s.dev.glb.run = true)
    (hc : s.dev.on domCORE = true) :
    exec .coreWatchdog s = .next { s with dev := s.dev.hotReset true, isl := s.isl.pwReset } := by
  have hpos : s.coreWatchdog = s.hot true := if_pos (by rw [hw, hr]; rfl)
  exact congrArg _ ((State.live_pos ha _).trans (hpos.trans (State.hot_eq hc)))

/-- Settles O52: memory that a reset of class P or C empties is log 2, the island's state lost with the supplies log 67, a droop as a
reset of class C log 88, and the reference chosen by the straps log 111. -/
theorem resetsKeepWhatTheyMust : Obligations.ResetsKeepWhatTheyMust := by
  unfold Obligations.ResetsKeepWhatTheyMust
  intro s x
  refine ⟨fun hshut => ?_, ?_, fun c hc => ⟨fun hoff => ?_, fun hoff => ?_⟩, fun ha c hc => exec_dead ha hc, fun ha hno => ?_,
    fun ha hw hr hc => ?_⟩
  · obtain ⟨heq, hst⟩ := Dev.fresh_released (x := x) 0 hshut
    exact ⟨Dev.fresh x 0 s.dev, rfl, heq, hst⟩
  · exact ⟨_, rfl, rfl, rfl, rfl, rfl, fun t τ p n ht hn => State.net_off (by rw [ht]) hn⟩
  · have hcold : exec c s = .next (s.cold x) := by
      rcases hc with rfl | rfl <;> exact congrArg Host.Outcome.next (if_neg (by simp [hoff]))
    obtain ⟨h1, h2, h3, h4, h5⟩ := Dev.fresh_facts x 1 s.dev
    exact ⟨_, hcold, h1, h2, h3, h4, h5, rfl, rfl, rfl, rfl, rfl, rfl, rfl, rfl⟩
  · rcases hc with rfl | rfl <;> exact congrArg Host.Outcome.next (if_pos hoff)
  · refine congrArg _ ((State.live_pos ha _).trans (if_neg ?_))
    rcases hno with h | h <;> simp [h]
  · obtain ⟨h1, h2, h3, -, -, h6, h7, -⟩ := Dev.hotReset_kept (wdog := true) hc
    exact ⟨_, exec_coreWatchdog ha hw hr hc, h1, h2, h3, h6, h7, rfl, rfl, rfl⟩

end Sys2Proof.Machine
end

section
/-! Challenges, tokens and keys (17 R485-R488). -/
namespace Sys2Proof.Machine

/-- Free bytes cost one free value each and change nothing else. -/
theorem Dev.drawBytes_facts (n : Nat) (d : Dev) :
    (Dev.drawBytes n d).1.length = n ∧ (Dev.drawBytes n d).2 = { d with free := d.free + n } := by
  induction n generalizing d with
  | zero => exact ⟨rfl, rfl⟩
  | succ n ih =>
    obtain ⟨hlen, hdev⟩ := ih (d.drawN 8).2
    refine ⟨congrArg (· + 1) hlen, hdev.trans ?_⟩
    show ({ d with free := d.free + 1 + n } : Dev) = { d with free := d.free + (n + 1) }
    rw [Nat.add_assoc, Nat.add_comm 1 n]

theorem Dev.chalNew_draws {d : Dev} (h : d.sec.refusing = none) : d.chalNew = { d with free := d.free + 32, sec := { d.sec with
    chal := some (Dev.drawBytes 32 d).1, chalRegs := (Dev.drawBytes 32 d).1 } } := by
  obtain ⟨-, hdev⟩ := Dev.drawBytes_facts 32 d
  refine (if_neg (by simp [h])).trans ?_
  dsimp only
  rw [hdev]
  rfl

theorem Dev.chalNew_refused {d : Dev} (h : d.sec.refusing ≠ none) : d.chalNew = d := if_pos (Option.isSome_iff_ne_none.mpr h)

/-! ## Tokens (R487) -/

/-- The device once a token has been judged. -/
def Dev.tokenJudged (why : Nat) (d : Dev) : Dev :=
  d.modSec (fun x => { x with busy := none, reason := why, result := if why = 0 then 1 else 2 })

/-- An accepted SERVICE token. -/
theorem State.tokenDone_service {t : List Byte} {c : Option (List Byte)} {s : State} (hb : s.dev.sec.busy = some (t, c))
    (h0 : s.tokenReason t c = 0) (hk : leAt t 4 1 = 1) : s.tokenDone = { s with dev :=
      ((s.dev.tokenJudged 0).modSec (fun x => { x with refusals := 0, service := true })).raise Ev.SEC_UNLOCK } := by
  unfold State.tokenDone
  rw [hb]
  dsimp only
  rw [h0, if_pos rfl, if_pos hk]
  rfl

/-- An accepted FACTORY token burns its fuse. -/
theorem State.tokenDone_factory {t : List Byte} {c : Option (List Byte)} {s : State} (hb : s.dev.sec.busy = some (t, c))
    (h0 : s.tokenReason t c = 0) (hk : leAt t 4 1 = 2) : s.tokenDone = { s with
      dev := ((s.dev.tokenJudged 0).modSec (fun x => { x with refusals := 0, service := false })).raise Ev.SEC_FACTORY,
      fuses := { s.fuses with rma := true } } := by
  unfold State.tokenDone
  rw [hb]
  dsimp only
  rw [h0, if_pos rfl, if_neg (by rw [hk]; decide)]
  rfl

/-- A refusal of a token that was looked at, which counts; the third one refuses challenges. -/
def Dev.tokenRefused (why : Nat) (d : Dev) : Dev := { d with sec := { d.sec with
  busy := none, reason := why, result := 2, refusals := d.sec.refusals + 1,
  refusing := if 3 ≤ d.sec.refusals + 1 then some d.now else d.sec.refusing } }

theorem State.tokenDone_refused {t : List Byte} {c : Option (List Byte)} {s : State} (hb : s.dev.sec.busy = some (t, c))
    (h0 : s.tokenReason t c ≠ 0) (h6 : s.tokenReason t c < 6) :
    s.tokenDone = { s with dev := (s.dev.tokenRefused (s.tokenReason t c)).raise Ev.SEC_UNLOCK_FAIL } := by
  have h6' : s.tokenReason t c ≠ 6 := by omega
  have h7 : s.tokenReason t c ≠ 7 := by omega
  unfold State.tokenDone
  rw [hb]
  dsimp only
  generalize s.tokenReason t c = why at h0 h6' h7 ⊢
  rw [if_neg h0]
  simp only [State.onDev, Dev.modSec, if_neg h0, if_neg h6', ne_eq, h7, not_false_eq_true, decide_true, Bool.true_and,
    decide_eq_true_eq]
  rfl

theorem Dev.refusalEnd_some {t : Time} {d : Dev} (h : d.sec.refusing = some t) :
    d.refusalEnd = { d.at (t + 60000 * ms) with sec := { d.sec with refusing := none, refusals := 0 } } := by
  unfold Dev.refusalEnd
  rw [h]
  dsimp only
  rw [Dev.modSec, Dev.at_sec]

theorem Dev.refusalEnd_none {d : Dev} (h : d.sec.refusing = none) : d.refusalEnd = d := by
  unfold Dev.refusalEnd
  rw [h]

/-! ## LOCK (R485) -/

/-- Below INVASIVE, LOCK ends SERVICE and the challenge alone. -/
theorem Dev.secLock_low {d : Dev} (h : d.sec.level < 2) :
    d.secLock false = Dev.raiseIf { d with sec := { d.sec with service := false, chal := none } } d.sec.service Ev.SEC_LOCK := by
  unfold Dev.secLock Dev.modSec
  dsimp only
  rw [if_neg (by simp; omega)]

/-! ## Keys (R488) -/

theorem State.keyProg_denied {u : Bool} {s : State} (h : s.keyAllowed = false) : s.keyProg u = s.onDev Dev.denied := if_pos (by simp [h])
theorem State.keyRevoke_denied {s : State} (h : s.keyAllowed = false) : s.keyRevoke = s.onDev Dev.denied := if_pos (by simp [h])

theorem State.burnDone_none {s : State} (h : s.dev.sec.burn = none) : s.burnDone = s := by
  unfold State.burnDone
  rw [h]

theorem State.burnDone_some {b : Burn} {s : State} (h : s.dev.sec.burn = some b) : s.burnDone = { s with
    dev := Dev.raise { s.dev with sec := { s.dev.sec with burn := none } } Ev.SEC_KEY_PROG, fuses := s.fuses.burn b } := by
  unfold State.burnDone
  rw [h]
  rfl

/-- Settles O53: the order in which the reasons of a refusal are judged is log 90; the count of refusals begins again when challenges
are taken again. -/
theorem tokensOpenStatesAndKeysAreBurnt : Obligations.TokensOpenStatesAndKeysAreBurnt := by
  unfold Obligations.TokensOpenStatesAndKeysAreBurnt
  intro s ha hc d x
  have live (f : State → State) : (Host.Outcome.next (s.live f) : Res) = .next (f s) := congrArg _ (State.live_pos ha f)
  refine ⟨fun hr => ?_, fun hr => ?_, fun hb => ?_, fun hb => ?_, fun hb => ?_, fun t c hb h0 => ⟨fun hk => ?_, fun hk => ?_⟩,
    fun t c hb h0 h6 => ?_, fun t hr => ?_, fun hr => ?_, fun hs hl => ?_, fun hs hl => ?_, fun u => ⟨fun hk => ?_, fun hk h1 h2 => ?_,
    fun hk hno => ?_⟩, fun hk h1 h2 => ?_, fun b hb => ?_, fun hb => ?_⟩
  · exact ⟨_, (live _).trans (by rw [State.onDev, Dev.chalNew_draws hr]), rfl, rfl, rfl, (Dev.drawBytes_facts 32 s.dev).1⟩
  · exact (live _).trans (congrArg _ (State.onDev_id (Dev.chalNew_refused hr)))
  · exact (live _).trans (congrArg (fun e => Host.Outcome.next { s with dev := e }) (if_neg (by rw [show s.dev.sec.busy = none from hb]; decide)))
  · exact (live _).trans (congrArg _ (State.onDev_id (if_pos (Option.isSome_iff_ne_none.mpr hb))))
  · refine (live _).trans (congrArg _ ?_)
    unfold State.tokenDone
    rw [show s.dev.sec.busy = none from hb]
  · exact ⟨_, _, (live _).trans (congrArg _ (State.tokenDone_service hb h0 hk)), Dev.raise_noted (by exact hc) (by decide), rfl⟩
  · exact ⟨_, _, (live _).trans (congrArg _ (State.tokenDone_factory hb h0 hk)), Dev.raise_noted (by exact hc) (by decide), rfl⟩
  · exact ⟨_, _, (live _).trans (congrArg _ (State.tokenDone_refused hb h0 h6)), Dev.raise_noted (by exact hc) (by decide), rfl⟩
  · exact (live _).trans (by rw [State.onDev, Dev.refusalEnd_some hr])
  · exact (live _).trans (congrArg _ (State.onDev_id (Dev.refusalEnd_none hr)))
  · refine ⟨{ d with sec := { x with service := false, chal := none } }, _, (live _).trans ?_, Dev.raise_noted (by exact hc) (by decide), rfl⟩
    rw [State.onDev, Dev.secLock_low hl, show s.dev.sec.service = true from hs]
    rfl
  · exact (live _).trans (by rw [State.onDev, Dev.secLock_low hl, show s.dev.sec.service = false from hs]; rfl)
  · exact ⟨_, Dev.denied_denied hc, (live _).trans (by rw [State.keyProg_denied hk]; rfl), (live _).trans (by rw [State.keyRevoke_denied hk]; rfl)⟩
  · refine (live _).trans (congrArg _ ((if_neg (by simp [hk])).trans (if_neg (by simp [h1, show s.dev.sec.burn = none from h2]))))
  · refine (live _).trans (congrArg _ ((if_neg (by simp [hk])).trans (if_pos ?_)))
    rw [Bool.or_eq_true]
    exact hno.imp Option.isSome_iff_ne_none.mpr Option.isSome_iff_ne_none.mpr
  · refine (live _).trans (congrArg _ ((if_neg (by simp [hk])).trans (if_neg (by simp [h1, show s.dev.sec.burn = none from h2]))))
  · exact ⟨_, _, (live _).trans (congrArg _ (State.burnDone_some hb)), Dev.raise_noted (by exact hc) (by decide), rfl⟩
  · exact (live _).trans (by rw [State.burnDone_none hb])

end Sys2Proof.Machine
end

section
/-! Debug levels asked for by the JTAG port (17 R493, R495, R496). -/
namespace Sys2Proof.Machine

/-- A session open at a level that is granted to a port: below INVASIVE the safety processor runs again. -/
def Dev.dbgOpened (port : Bool) (level : Nat) (d : Dev) : Dev :=
  { d with sec := { (if level = 2 then d.sec else d.sec.restart d.now) with level := level, port := port } }

/-- A session opens at the level that every security state allows. -/
theorem State.dbgCtl_opens {port : Bool} {s : State} (hc : s.dev.on domCORE = true) (h0 : s.dev.sec.level = 0) :
    s.dbgCtl port 1 = { s with dev := (s.dev.dbgOpened port 1).raise Ev.SEC_DBG_OPEN } := by
  unfold State.dbgCtl
  rw [if_neg (by decide), if_neg (by simp [h0]), if_neg (by decide), if_neg (by simp [Dev.awake, hc]), State.onDev, h0]
  rfl

/-- DBGACC for level 1 without a session opens one, after the instruction register. -/
theorem exec_dbgacc_opens {s : State} (ha : s.alive = true) (hc : s.dev.on domCORE = true) (h0 : s.dev.sec.level = 0) :
    exec (.dbgacc 1) s = .next { s with dev := ((s.dev.jtagIr 0x20).dbgOpened true 1).raise Ev.SEC_DBG_OPEN } :=
  congrArg _ ((State.live_pos ha _).trans (State.dbgCtl_opens (s := s.onDev (Dev.jtagIr 0x20)) hc h0))

/-- A part whose safety processor is halted while no debug session is open. -/
def haltedAlone : State := { dev := { sec := { halted := true } } }

/-- Refutes O55: without a session a DBGACC for level 1 restarts a safety processor that is halted, which sets the instant from which
its heartbeat is watched again (2 ms after the restart); the clause of DBGACC keeps that instant. A state with `halted` and
without a session satisfies the clause's hypotheses. -/
theorem not_debugSessionsAndBoundaryInstructions : ¬ Obligations.DebugSessionsAndBoundaryInstructions := by
  unfold Obligations.DebugSessionsAndBoundaryInstructions
  intro h
  have hc : haltedAlone.dev.on domCORE = true := by decide
  obtain ⟨-, -, -, -, -, -, -, -, -, -, -, -, -, -, hdbgacc, -⟩ := h haltedAlone (by decide) hc
  obtain ⟨m, e, hexec, ⟨honly, -⟩, hm⟩ := hdbgacc 1 rfl rfl
  rw [exec_dbgacc_opens (by decide) hc rfl] at hexec
  injection hexec with hstate
  have hdev : e = ((haltedAlone.dev.jtagIr 0x20).dbgOpened true 1).raise Ev.SEC_DBG_OPEN := (congrArg State.dev hstate).symm
  have hkept : e.sec.hbFrom = 0 := by
    rw [show e = _ from honly, hm]
    rfl
  rw [hdev, Dev.raise_sec] at hkept
  exact absurd hkept (by decide)

end Sys2Proof.Machine
end

section
/-! Votes, sequences and supplies of the power controller (16 R464-R475, R482). -/
namespace Sys2Proof.Machine

/-! ## Completions leave FRESH alone -/

theorem Dev.pause_fresh {a : Nat} (d : Dev) (ha : a < 9) : (d.pause a).rd Reg.PWR_FRESH = d.rd Reg.PWR_FRESH :=
  Dev.pause_rd_ne d ha (by unfold Reg.PWR_FRESH Reg.BIT_PAUSE_CNT; omega)
    (by unfold Reg.PWR_FRESH evtRawOff Reg.DSC_EVT_RAW Ev.BIT_PAUSE; omega)

theorem Dev.pauseOver_fresh (d : Dev) : d.pauseOver.rd Reg.PWR_FRESH = d.rd Reg.PWR_FRESH := by
  unfold Dev.pauseOver
  refine List.foldlRecOn linkActs _ (motive := fun e : Dev => e.rd Reg.PWR_FRESH = d.rd Reg.PWR_FRESH) rfl fun e he a ha => ?_
  have ha' : a < 9 := (show ∀ a ∈ linkActs, a < 9 by decide) a ha
  split
  · split
    · exact he
    · exact (e.pause_fresh ha').trans he
  · exact he

theorem Dev.transmit_fresh (d : Dev) (p : Packet) (tag : Nat) : (d.transmit p tag).rd Reg.PWR_FRESH = d.rd Reg.PWR_FRESH := by
  unfold Dev.transmit
  dsimp only
  split
  · exact Dev.rd_wr_ne _ _ (by unfold Reg.PWR_FRESH Reg.BIT_METER; omega)
  · rfl

/-- The link and the attentions hold no register. -/
theorem Dev.rd_setLnk (d : Dev) (l : Lnk) (o : Nat) : Dev.rd { d with lnk := l } o = d.rd o := rfl
theorem Dev.rd_unqueue (d : Dev) (c : Option Nat) (o : Nat) : (d.unqueue c).rd o = d.rd o := rfl
theorem Dev.rd_attnAdd (d : Dev) (a : Attn) (o : Nat) : (d.attnAdd a).rd o = d.rd o := rfl

theorem Dev.pumpGo_fresh (n : Nat) (d : Dev) : (Dev.pumpGo n d).rd Reg.PWR_FRESH = d.rd Reg.PWR_FRESH := by
  induction n generalizing d with
  | zero => rfl
  | succ n ih =>
    unfold Dev.pumpGo
    dsimp only
    split
    · exact d.pauseOver_fresh
    · rename_i c p tag _
      have hsent := (Dev.transmit_fresh (d.pauseOver.unqueue c.1) p tag).trans ((d.pauseOver.rd_unqueue c.1 _).trans d.pauseOver_fresh)
      rw [ih]
      split
      · exact (Dev.rd_setLnk ((d.pauseOver.unqueue c.1).transmit p tag) _ _).trans hsent
      · exact hsent

theorem Dev.memWrite_fresh (d : Dev) (act : Option Nat) (addr : Nat) (bs : List Byte) :
    (d.memWrite act addr bs).rd Reg.PWR_FRESH = d.rd Reg.PWR_FRESH := by
  unfold Dev.memWrite Dev.pump
  dsimp only
  split
  · exact Dev.pumpGo_fresh _ _
  · rfl

theorem Dev.advance_fresh (d : Dev) (kind ring size : Nat) {q : Nat} (h : q < 64) :
    (d.advance kind ring (Reg.DSC_CQ_TAIL q) size).rd Reg.PWR_FRESH = d.rd Reg.PWR_FRESH := by
  have hne : Reg.DSC_CQ_TAIL q ≠ Reg.PWR_FRESH := by unfold Reg.PWR_FRESH Reg.DSC_CQ_TAIL; omega
  unfold Dev.advance
  dsimp only
  split <;> exact Dev.rd_wr_ne _ _ hne

/-- The number of a completion ring has six bits. -/
theorem Dev.cqOf_lt (d : Dev) (ring : Nat) : d.cqOf ring < 64 := by
  unfold Dev.cqOf Dev.f fld bitsN
  exact Nat.mod_lt _ (by decide)

theorem Dev.putEntry_fresh (d : Dev) (e : Entry) : (d.putEntry e).rd Reg.PWR_FRESH = d.rd Reg.PWR_FRESH := by
  unfold Dev.putEntry
  dsimp only
  split
  · exact (Dev.rd_attnAdd _ _ _).trans ((Dev.advance_fresh _ _ _ _ (d.cqOf_lt _)).trans (d.memWrite_fresh _ _ _))
  · exact (Dev.advance_fresh _ _ _ _ (d.cqOf_lt _)).trans (d.memWrite_fresh _ _ _)

theorem Dev.pushEntry_fresh (d : Dev) (e : Entry) : (d.pushEntry e).rd Reg.PWR_FRESH = d.rd Reg.PWR_FRESH := by
  unfold Dev.pushEntry
  dsimp only
  split
  · exact d.putEntry_fresh e
  · split
    · rfl
    · exact Dev.rd_raise_apart _ (by decide)

/-- A completion leaves the domains that are fresh, and of the power controller all but the events that wait for CORE. -/
theorem Dev.done_fresh (d : Dev) (x : Desc) (status bytes : Nat) (r : List Byte) :
    (d.done x status bytes r).rd Reg.PWR_FRESH = d.rd Reg.PWR_FRESH := Dev.pushEntry_fresh _ _

theorem Dev.onlyCompletes_done (d : Dev) (x : Desc) (status bytes : Nat) (r : List Byte) : d.OnlyCompletes (d.done x status bytes r) :=
  (d.onlyCompletes_dsc _).trans (Dev.onlyCompletes_pushEntry _ _)

/-! ## What a wake keeps -/

/-- The parts of the power controller that a wake sets stay: the domains powered, the sequence, the held pads and the fresh domains. -/
def Dev.WakeKept (d e : Dev) : Prop := e.pwr.domains = d.pwr.domains ∧ e.pwr.seq = d.pwr.seq ∧ e.pwr.held = d.pwr.held
  ∧ e.rd Reg.PWR_FRESH = d.rd Reg.PWR_FRESH

theorem Dev.WakeKept.trans {d e g : Dev} (h : d.WakeKept e) (k : e.WakeKept g) : d.WakeKept g := by
  obtain ⟨h1, h2, h3, h4⟩ := h
  obtain ⟨k1, k2, k3, k4⟩ := k
  exact ⟨k1.trans h1, k2.trans h2, k3.trans h3, k4.trans h4⟩

theorem Dev.raise_wakeKept {n : Nat} (d : Dev) (h : Reg.PWR_FRESH ≠ evtRawOff n) : d.WakeKept (d.raise n) := by
  obtain ⟨l, hl⟩ := d.raise_pwr n
  exact ⟨by rw [hl], by rw [hl], by rw [hl], Dev.rd_raise_apart _ h⟩

theorem Dev.raiseIf_wakeKept {n : Nat} (d : Dev) (c : Bool) (h : Reg.PWR_FRESH ≠ evtRawOff n) : d.WakeKept (d.raiseIf c n) := by
  cases c with
  | false => exact ⟨rfl, rfl, rfl, rfl⟩
  | true => exact d.raise_wakeKept h

theorem Dev.noteState_wakeKept (d : Dev) : d.WakeKept d.noteState := by
  unfold Dev.noteState
  split
  · exact ⟨rfl, rfl, rfl, rfl⟩
  · exact Dev.WakeKept.trans (e := d.modPwr (fun p => { p with state := d.devSt })) ⟨rfl, rfl, rfl, rfl⟩ (Dev.raise_wakeKept _ (by decide))

theorem Dev.done_wakeKept (d : Dev) (x : Desc) (status bytes : Nat) (r : List Byte) : d.WakeKept (d.done x status bytes r) := by
  have h := d.onlyCompletes_done x status bytes r
  unfold Dev.OnlyCompletes at h
  exact ⟨by rw [h], by rw [h], by rw [h], d.done_fresh x status bytes r⟩

theorem Dev.votesDone_wakeKept (status : Nat) (wake : Bool) (d : Dev) : d.WakeKept (d.votesDone status wake) := by
  unfold Dev.votesDone
  dsimp only
  refine List.foldlRecOn _ _ (motive := fun e : Dev => d.WakeKept e) ?_ fun e he x _ => he.trans (Dev.done_wakeKept _ _ _ _ _)
  cases wake <;> exact ⟨rfl, rfl, rfl, rfl⟩

/-! ## Domains come up (R470) -/

/-- FRESH lies in AO, so that the reset of another domain keeps it. -/
theorem Dev.dropRegs_fresh {k : Nat} (d : Dev) (h : 3 < k) :
    (d.dropRegs .d (fun o => regDomain o = k)).rd Reg.PWR_FRESH = d.rd Reg.PWR_FRESH := by
  have hdom : regDomain Reg.PWR_FRESH ≠ k := by
    have hao : regDomain Reg.PWR_FRESH = domAO := by decide
    rw [hao]
    unfold domAO
    omega
  have hkeep : (!((fun o => decide (regDomain o = k)) Reg.PWR_FRESH && resets .d Reg.PWR_FRESH)) = true := by simp [hdom]
  unfold Dev.rd Dev.dropRegs tabGet
  rw [tabFind_keep _ _ hkeep]

/-- The reset of a domain beside LINK and CORE keeps what a wake sets. -/
theorem Dev.classD_wakeKept {k : Nat} (d : Dev) (h : 3 < k) : d.WakeKept (d.classD k) := by
  have hdropped : d.WakeKept (d.dropped k) := ⟨rfl, rfl, rfl, d.dropRegs_fresh h⟩
  have hlink : k ≠ domLINK := by unfold domLINK; omega
  have hcore : k ≠ domCORE := by unfold domCORE; omega
  rw [Dev.classD_eq, if_neg hlink, if_neg hcore]
  refine hdropped.trans ?_
  generalize d.dropped k = e
  split
  · exact ⟨rfl, rfl, rfl, rfl⟩
  split
  · exact ⟨rfl, rfl, rfl, rfl⟩
  split
  · exact ⟨rfl, rfl, rfl, rfl⟩
  split
  · exact ⟨rfl, rfl, rfl, rfl⟩
  split
  · exact ⟨rfl, rfl, rfl, rfl⟩
  · exact ⟨rfl, rfl, rfl, rfl⟩

/-- The domain of bit `k` of a wake's mask comes up. -/
def Dev.upIf (m k : Nat) (d : Dev) : Dev := if m.testBit k then d.domainUp k else d

/-- The domains of a mask that have come up: `n` of them have had their turn. -/
structure Dev.UpTo (m n : Nat) (d e : Dev) : Prop where
  domains : e.pwr.domains = d.pwr.domains
  seq : e.pwr.seq = d.pwr.seq
  held : ∀ k, e.pwr.held.testBit k = (d.pwr.held.testBit k || (m.testBit k && decide (k < n)))
  fresh : ∀ k, k < n → m.testBit k = true → e.b Reg.PWR_FRESH k = true

/-- One domain that comes up is marked fresh, and its pads are held. -/
theorem Dev.domainUp_facts {k : Nat} (d : Dev) (h : 3 < k) (h9 : k < 9) : (d.domainUp k).pwr.domains = d.pwr.domains
    ∧ (d.domainUp k).pwr.seq = d.pwr.seq ∧ (∀ j, (d.domainUp k).pwr.held.testBit j = (decide (k = j) || d.pwr.held.testBit j))
    ∧ (d.domainUp k).b Reg.PWR_FRESH k = true ∧ ∀ j, j ≠ k → (d.domainUp k).b Reg.PWR_FRESH j = d.b Reg.PWR_FRESH j := by
  obtain ⟨h1, h2, h3, h4⟩ := d.classD_wakeKept h
  have hlink : k ≠ domLINK := by unfold domLINK; omega
  have heq : d.domainUp k = ((d.classD k).setB Reg.PWR_FRESH k true).modPwr (fun p => { p with held := setBit p.held k }) :=
    if_neg (by simp [hlink])
  rw [heq]
  refine ⟨h1, h2, fun j => ?_, Dev.b_setB_true _ _ (by omega), fun j hj => ?_⟩
  · exact (testBit_setBit _ _ _).trans (congrArg (fun w => decide (k = j) || w.testBit j) h3)
  · exact (Dev.b_setB_true_ne (d.classD k) _ (by omega) hj.symm).trans (congrArg (fun w => bit w j) h4)

theorem Dev.UpTo.next {m n : Nat} {d e : Dev} (h : Dev.UpTo m n d e) (hm : ∀ k, m.testBit k = true → 3 < k ∧ k < 9) :
    Dev.UpTo m (n + 1) d (e.upIf m n) := by
  obtain ⟨h1, h2, h3, h4⟩ := h
  unfold Dev.upIf
  cases hn : m.testBit n with
  | false =>
    refine ⟨h1, h2, fun k => ?_, fun k hk hmk => h4 k ?_ hmk⟩
    · rw [if_neg (by decide), h3]
      by_cases hk : k = n
      · simp [hk, hn]
      · simp [show k < n + 1 ↔ k < n by omega]
    · exact lt_of_le_of_ne (Nat.lt_succ_iff.mp hk) fun hkn => absurd (hkn ▸ hmk) (by simp [hn])
  | true =>
    obtain ⟨hlow, hhigh⟩ := hm n hn
    obtain ⟨k1, k2, k3, k4, k5⟩ := e.domainUp_facts hlow hhigh
    rw [if_pos rfl]
    refine ⟨k1.trans h1, k2.trans h2, fun k => ?_, fun k hk hmk => ?_⟩
    · rw [k3, h3]
      by_cases hk : k = n
      · simp [hk, hn]
      · simp [show k < n + 1 ↔ k < n by omega, show ¬ n = k from fun h => hk h.symm]
    · by_cases hkn : k = n
      · rw [hkn]
        exact k4
      · rw [k5 k hkn]
        exact h4 k (by omega) hmk

/-- Every domain of the mask has come up once all nine have had their turn. -/
theorem Dev.upAll (m n : Nat) (d : Dev) (hm : ∀ k, m.testBit k = true → 3 < k ∧ k < 9) : Dev.UpTo m n d (forN n (Dev.upIf m) d) := by
  induction n with
  | zero => exact ⟨rfl, rfl, fun k => by simp [forN], fun k hk => absurd hk (Nat.not_lt_zero k)⟩
  | succ n ih =>
    have hstep : forN (n + 1) (Dev.upIf m) d = (forN n (Dev.upIf m) d).upIf m n := by
      unfold forN
      rw [List.range_succ, List.foldl_append]
      rfl
    rw [hstep]
    exact ih.next hm

/-- The domains of a wake are powered. -/
def Dev.powered (m : Nat) (d : Dev) : Dev := d.modPwr (fun p => { p with
  seq := none, domains := p.domains ||| m, pg := p.pg ||| railsOf (p.domains ||| m) p.selfRefresh, linkLow := d.pwr.linkLow })

/-- A wake is noted, and the votes that waited for it complete. -/
def Dev.wakeNoted (d : Dev) : Dev :=
  let e := (d.noteState.modPwr (fun p => { p with byEvent := false, mgmtMatch := false, timerLatch := false })).raiseIf d.pwr.byEvent Ev.PWR_WAKE
  if e.target &&& (0x1FF ^^^ e.pwr.domains) = 0 then e.votesDone stOK true else e

theorem Dev.wakeNoted_wakeKept (d : Dev) : d.WakeKept d.wakeNoted := by
  have hnoted : d.WakeKept ((d.noteState.modPwr (fun p => { p with byEvent := false, mgmtMatch := false, timerLatch := false })).raiseIf
      d.pwr.byEvent Ev.PWR_WAKE) :=
    (d.noteState_wakeKept.trans (e := d.noteState) ⟨rfl, rfl, rfl, rfl⟩).trans (Dev.raiseIf_wakeKept _ _ (by decide))
  unfold Dev.wakeNoted
  dsimp only
  split
  · exact hnoted.trans (Dev.votesDone_wakeKept _ _ _)
  · exact hnoted

/-- A wake of domains beside LINK and CORE that completes. -/
theorem Dev.wakeDone_eq {m us : Nat} {d : Dev} (hseq : d.pwr.seq = some (.wake m)) (hwait : d.pwr.retryWait = false)
    (hm : ∀ k, m.testBit k = true → 3 < k ∧ k < 9) : d.wakeDone us = ((forN 9 (Dev.upIf m) (d.powered m)).wakeNoted).pwr1 := by
  have hcore : m.testBit domCORE = false := by
    by_contra h
    exact absurd (hm domCORE (Bool.eq_true_of_not_eq_false h)).1 (by decide)
  unfold Dev.wakeDone
  rw [hseq]
  dsimp only
  rw [hcore, hwait]
  rfl

/-- The wake's domains are powered, fresh and with their pads held. -/
theorem Dev.woken_facts {m : Nat} (d : Dev) (hm : ∀ k, m.testBit k = true → 3 < k ∧ k < 9) :
    let x := (forN 9 (Dev.upIf m) (d.powered m)).wakeNoted
    x.pwr.domains = d.pwr.domains ||| m ∧ x.pwr.seq = none ∧ (∀ k, x.pwr.held.testBit k = (d.pwr.held.testBit k || m.testBit k))
      ∧ ∀ k, m.testBit k = true → x.b Reg.PWR_FRESH k = true := by
  obtain ⟨h1, h2, h3, h4⟩ := Dev.upAll m 9 (d.powered m) hm
  obtain ⟨k1, k2, k3, k4⟩ := (forN 9 (Dev.upIf m) (d.powered m)).wakeNoted_wakeKept
  refine ⟨k1.trans h1, k2.trans h2, fun k => ?_, fun k hk => ?_⟩
  · rw [k3, h3]
    cases hk : m.testBit k with
    | false => simp [Dev.powered, Dev.modPwr]
    | true => simp [(hm k hk).2]
  · exact (congrArg (fun w => bit w k) k4).trans (h4 k (hm k hk).2 hk)

/-! ## The commands -/

/-- A command of the power controller that changes nothing. -/
theorem State.power_same {f : Dev → Dev} {s : State} (h : f s.dev = s.dev) : s.power f = s :=
  (State.power_pos (by rw [h]) (by rw [h]) (by rw [h]) (by rw [h])).trans (by rw [h])

/-- An attempt that times out is aborted. -/
def Dev.wakeAborted (m pg : Nat) (osc : Bool) (d : Dev) : Dev := d.modPwr (fun p => { p with
  failPg := pg % 64, failOsc := osc && m.testBit domCORE, pg := p.pg &&& railsOf p.domains p.selfRefresh })

theorem Dev.wakeTimeout_eq {m pg : Nat} {osc : Bool} {d : Dev} (hseq : d.pwr.seq = some (.wake m)) (hwait : d.pwr.retryWait = false)
    (hpg : pg ≠ 0) : d.wakeTimeout pg osc =
      let e := (d.wakeAborted m pg osc).raise Ev.PWR_WAKE_ABORT
      if e.pwr.attempts < 4 then e.modPwr (fun p => { p with retryWait := true })
      else (((e.modPwr (fun p => { p with seq := none, failed := true, byEvent := false, mgmtMatch := false, timerLatch := false })).raise
        Ev.PWR_WAKE_FAILED).votesDone stREJECTED true).pwr1 := by
  unfold Dev.wakeTimeout
  rw [hseq]
  dsimp only
  rw [if_neg (by simp [hwait, hpg])]
  rfl

/-- The fourth attempt leaves WAKE_FAILED. -/
def Dev.wakeFailed (m pg : Nat) (osc : Bool) (d : Dev) : Dev := ((d.wakeAborted m pg osc).raise Ev.PWR_WAKE_ABORT).modPwr (fun p => { p with
  seq := none, failed := true, byEvent := false, mgmtMatch := false, timerLatch := false })

/-- Votes that wait for a wake are none: nothing completes. -/
theorem Dev.votesDone_none {status : Nat} {d : Dev} (h : d.pwr.waitWake = []) : d.votesDone status true = d := by
  have heq : d.modPwr (fun p => { p with waitWake := [] }) = d := by
    unfold Dev.modPwr
    rw [← h]
  unfold Dev.votesDone
  dsimp only
  rw [if_pos rfl, h]
  exact heq

theorem Dev.retryTimer_wakes {m : Nat} {d : Dev} (hseq : d.pwr.seq = some (.wake m)) (hwait : d.pwr.retryWait = true) :
    d.retryTimer = d.modPwr (fun p => { p with retryWait := false, attempts := p.attempts + 1 }) := by
  unfold Dev.retryTimer
  rw [hseq]
  exact if_pos hwait

theorem Dev.retryTimer_idle {d : Dev} (hseq : d.pwr.seq = none) : d.retryTimer = d := by
  unfold Dev.retryTimer
  rw [hseq]

/-- Pads that a write releases: of powered domains beside AO and SAFE, by the bits written. -/
theorem testBit_padsKept (held val doms : Nat) {k : Nat} (hk : k < 9) :
    (held &&& (0x1FF ^^^ (val &&& 0x1FC &&& doms))).testBit k = (held.testBit k && !(decide (2 ≤ k) && val.testBit k && doms.testBit k)) := by
  have h1 : ∀ k < 9, (0x1FF : Nat).testBit k = true := by decide
  have h2 : ∀ k < 9, (0x1FC : Nat).testBit k = decide (2 ≤ k) := by decide
  rw [Nat.testBit_and, Nat.testBit_xor, Nat.testBit_and, Nat.testBit_and, h1 k hk, h2 k hk, Bool.true_xor, Bool.and_comm (val.testBit k)]

theorem Dev.voteWrite_casts {k : Nat} {val : Word} {d : Dev} (hk : k < 2) (h : d.critHold = false) : d.voteWrite k val
    = Dev.pwr1 { d with pwr := { d.pwr with votes := setAt d.pwr.votes k (val.toNat &&& 0x1FC) } } := by
  have hhold : Dev.critHold (d.modPwr (fun p => { p with votes := setAt p.votes k (val.toNat &&& 0x1FC) })) = false := h
  unfold Dev.voteWrite Dev.cast
  rw [if_pos hk, h]
  dsimp only
  rw [if_neg (by decide), Dev.critRefuses, hhold]
  rfl

/-- Settles O50. -/
theorem votesSequencesAndWakesMoveTheDomains : Obligations.VotesSequencesAndWakesMoveTheDomains := by
  unfold Obligations.VotesSequencesAndWakesMoveTheDomains
  intro s ha hc d p go
  have live (f : State → State) : (Host.Outcome.next (s.live f) : Res) = .next (f s) := congrArg _ (State.live_pos ha f)
  have powers (f : Dev → Dev) {e : Dev} (h : f s.dev = e) : (Host.Outcome.next (s.live (State.power f)) : Res) = .next (go e) :=
    (live _).trans (congrArg _ ((State.power_const f s).trans (by rw [h])))
  have idle (f : Dev → Dev) (h : f s.dev = s.dev) : (Host.Outcome.next (s.live (State.power f)) : Res) = .next s :=
    (live _).trans (congrArg _ (State.power_same h))
  refine ⟨fun k val hk hcrit => powers _ (Dev.voteWrite_casts hk hcrit), fun k val hk => idle _ (if_neg (by omega)),
    fun hwin => powers _ (if_neg (by simp [show s.dev.inWindow = true from hwin])),
    fun hwin => idle _ (if_pos (by simp [show s.dev.inWindow = false from hwin])), fun m t hseq hwait hev hm => ?_, fun m hseq hwait t => idle _ ?_,
    fun m pg osc hseq hwait hpg hfew => ?_, fun m pg osc hseq hwait hpg hmany hnone => ?_, fun m hseq hwait => ?_,
    fun hseq => idle _ (Dev.retryTimer_idle hseq), fun hf => powers _ (if_pos hf), fun hf => idle _ (if_neg (by simp [show s.dev.pwr.failed = false from hf])),
    fun val => ?_, fun val hne => powers _ (if_neg hne), fun val h0 => idle _ (if_pos h0), fun val => live _, fun i hseq hrail => ?_,
    fun i hno => ?_⟩
  · obtain ⟨h1, h2, h3, h4⟩ := Dev.woken_facts d hm
    exact ⟨_, powers _ (Dev.wakeDone_eq hseq hwait hm), h1, h2, h3, h4⟩
  · unfold Dev.wakeDone
    rw [show s.dev.pwr.seq = _ from hseq]
    exact if_pos (by simp [show s.dev.pwr.retryWait = true from hwait])
  · have hraised := (d.wakeAborted m pg osc).raise_pwr Ev.PWR_WAKE_ABORT
    refine ⟨d.wakeAborted m pg osc, _, powers _ ((Dev.wakeTimeout_eq hseq hwait hpg).trans (if_pos ?_)), Dev.raise_noted (by exact hc) (by decide), rfl⟩
    obtain ⟨l, hl⟩ := hraised
    rw [hl]
    exact hfew
  · obtain ⟨l, hl⟩ := (d.wakeAborted m pg osc).raise_pwr Ev.PWR_WAKE_ABORT
    obtain ⟨l', hl'⟩ := (d.wakeFailed m pg osc).raise_pwr Ev.PWR_WAKE_FAILED
    have hfailed : (d.wakeFailed m pg osc).pwr.failed = true ∧ (d.wakeFailed m pg osc).pwr.seq = none
        ∧ (d.wakeFailed m pg osc).pwr.domains = p.domains ∧ (d.wakeFailed m pg osc).pwr.waitWake = p.waitWake := by
      unfold Dev.wakeFailed Dev.modPwr
      rw [hl]
      exact ⟨rfl, rfl, rfl, rfl⟩
    obtain ⟨h1, h2, h3, h4⟩ := hfailed
    have hwaits : ((d.wakeFailed m pg osc).raise Ev.PWR_WAKE_FAILED).pwr.waitWake = [] := by
      rw [hl']
      exact h4.trans hnone
    refine ⟨d.wakeFailed m pg osc, _, powers _ ((Dev.wakeTimeout_eq hseq hwait hpg).trans ((if_neg ?_).trans ?_)), Dev.raise_noted ?_ (by decide),
      h1, h2, h3⟩
    · rw [hl]
      exact Nat.not_lt.mpr hmany
    · exact congrArg Dev.pwr1 (Dev.votesDone_none hwaits)
    · exact (Dev.on_congr h3 _).trans hc
  · refine (live _).trans (congrArg _ ?_)
    rw [State.power_pos] <;> rw [Dev.retryTimer_wakes hseq hwait] <;> rfl
  · exact ⟨_, live _, fun k hk => testBit_padsKept _ _ _ hk⟩
  · exact (live _).trans (congrArg (fun e => Host.Outcome.next { s with dev := e }) 
      (if_neg (by simp [show s.dev.rails.testBit i = true from hrail, show s.dev.pwr.seq = none from hseq])))
  · refine (live _).trans (congrArg _ (State.onDev_id (if_pos ?_)))
    rcases hno with h | h
    · simp [Option.isSome_iff_ne_none.mpr (show s.dev.pwr.seq ≠ none from h)]
    · simp [show s.dev.rails.testBit i = false from h]

end Sys2Proof.Machine
end

section
/-! Descriptors that complete or wait at dispatch (15 R442-R447; 06 R180; 09 R266; 16 R480, R481). -/
namespace Sys2Proof.Machine

/-! ## Dispatch (R443, R446) -/

theorem exec_engineDev {s : State} {typ : Nat} {x : Desc} {c : Instr} (f : Desc → Dev → Dev) (hexec : exec c s = .next (State.engineDev typ f x s))
    (ha : s.alive = true) (hc : s.dev.on domCORE = true) (ht : x.typ = typ) :
    exec c s = .next (s.engineLeaves { s with dev := f x s.dev }) :=
  hexec.trans (congrArg _ (State.engine_pos (fun x s => s.onDev (f x)) ha hc ht))

/-- A descriptor that is not well formed completes BAD_DESC with its event. -/
theorem Dev.dispatch_bad {d : Dev} {x : Desc} {good : Bool} {ready : Dev → Bool} (act : Dev → Dev) (h : d.takes x) (hbad : good = false) :
    Dev.dispatch x good ready act d = ((d.taken x).raise Ev.DSC_BAD_DESC).finish x stBAD_DESC := by
  obtain ⟨hlink, hout, hmay⟩ := h
  simp [Dev.dispatch, hlink, hout, hmay, hbad, Dev.taken]

/-- A well-formed one of an engine that is always ready is carried out. -/
theorem Dev.dispatch_acts {d : Dev} {x : Desc} {good : Bool} {act : Dev → Dev} (h : d.takes x) (hgood : good = true)
    (hal : descAligned x = true) : Dev.dispatch x good (fun _ => true) act d = act (d.taken x) := Dev.dispatch_takes act h hgood hal rfl

/-- One whose engine is not ready stays known, and waits. -/
theorem Dev.dispatch_waits {d : Dev} {x : Desc} {good : Bool} {ready : Dev → Bool} (act : Dev → Dev) (h : d.takes x)
    (hgood : good = true) (hal : descAligned x = true) (hready : ready (d.known x) = false) :
    Dev.dispatch x good ready act d = d.known x := by
  obtain ⟨hlink, hout, hmay⟩ := h
  simp [Dev.dispatch, hlink, hout, hmay, hgood, hal, hready]

/-- A condition of several parts, as the model and the statements write it. -/
theorem ite_swap {α : Type} {c : Bool} {p : Prop} [Decidable p] (a b : α) (h : c = true ↔ ¬ p) : (if c then a else b) = if p then b else a := by
  by_cases hp : p
  · rw [if_pos hp, if_neg (fun hc => h.mp hc hp)]
  · rw [if_neg hp, if_pos (h.mpr hp)]

/-! ## The engines -/

theorem Dev.acqStart_takes {d : Dev} {x : Desc} (h : d.takes x) (hal : descAligned x = true)
    (hgood : (descNoA x && descNoB x && descUnusedZero x []) = true) : d.acqStart x =
      if (d.taken x).on domACQ = true ∧ (d.taken x).leaving domACQ = false then (d.taken x).waitTick .acqStart x
      else (d.taken x).finish x stNOT_READY := by
  refine (Dev.dispatch_acts h hgood hal).trans (ite_swap _ _ ?_)
  cases (d.taken x).on domACQ <;> cases (d.taken x).leaving domACQ <;> simp

theorem Dev.acqStop_takes {d : Dev} {x : Desc} (h : d.takes x) (hal : descAligned x = true)
    (hgood : (descNoA x && descNoB x && descUnusedZero x [32, 33] && decide (descPar x 32 1 ≤ 1)) = true) : d.acqStop x =
      if (descPar x 32 1 = 1 ∧ (d.taken x).on domACQ = false) ∨ (descPar x 33 1 ≠ 0 ∧ (d.taken x).on domWAVE = false)
      then (d.taken x).finish x stNOT_READY else (d.taken x).waitTick .acqStop x := by
  unfold Dev.acqStop
  dsimp only
  rw [Dev.dispatch_acts h hgood hal]
  simp only [Bool.or_eq_true, Bool.and_eq_true, decide_eq_true_eq, Bool.not_eq_true']

theorem Dev.plateArm_takes {d : Dev} {x : Desc} (h : d.takes x) (hal : descAligned x = true)
    (hgood : (descNoA x && descNoB x && descUnusedZero x [32, 33] && decide (descPar x 32 1 < 8) && decide (descPar x 33 1 ≤ 1)) = true) :
    d.plateArm x =
      if (d.taken x).on domWAVE = true ∧ (d.taken x).leaving domWAVE = false ∧ (d.taken x).wave.mem.ready = true
      then (d.taken x).waitTick .plateArm x else (d.taken x).finish x stNOT_READY := by
  unfold Dev.plateArm
  dsimp only
  rw [Dev.dispatch_acts h hgood hal]
  refine ite_swap _ _ ?_
  cases (d.taken x).on domWAVE <;> cases (d.taken x).leaving domWAVE <;> simp

theorem Dev.histDump_takes {d : Dev} {x : Desc} (h : d.takes x) (hal : descAligned x = true) (hb : descNoB x = true)
    (hu : descUnusedZero x [32, 33, 34, 35] = true) (h1 : 1 ≤ descPar x 34 2) (h2 : descPar x 34 2 ≤ 512)
    (h3 : descPar x 32 2 + descPar x 34 2 ≤ 512) (h4 : ((dumpChans x).flatMap d.dumpOf).length ≤ x.lenA) : d.histDump x =
      if (d.taken x).on domACQ = true then
        (Dev.memWrite ((d.taken x).modDsc (fun q => { q with dumps := q.dumps ++ [{
          desc := x, len := ((dumpChans x).flatMap d.dumpOf).length, age := 0 }] }))
          (some actHIST) x.addrA ((dumpChans x).flatMap d.dumpOf)).dumpsGo
      else (d.taken x).finish x stNOT_READY := by
  unfold Dev.histDump
  dsimp only
  rw [Dev.dispatch_acts h (by simp only [hb, hu, h1, h2, h3, h4, decide_true, Bool.and_self]) hal]
  refine ite_swap _ _ ?_
  cases (d.taken x).on domACQ <;> simp

/-- The drain of a descriptor. -/
def drainOf (x : Desc) : Drain := {
  desc := x, plate := descPar x 32 1, next := descPar x 36 4, left := descPar x 40 4, moving := false, pos := 0, written := 0, overwritten := 0, firstOver := 0, memErr := false }

theorem Dev.plateDrain_takes {d : Dev} {x : Desc} (h : d.takes x) (hal : descAligned x = true) (hb : descNoB x = true)
    (hu : descUnusedZero x [32, 36, 37, 38, 39, 40, 41, 42, 43] = true) (h1 : descPar x 32 1 < 8)
    (h2 : descPar x 40 4 * d.drainSlot (descPar x 32 1) ≤ x.lenA) : d.plateDrain x =
      if (d.taken x).on domWAVE = true ∧ (d.taken x).on domMEM = true ∧ (d.taken x).wave.mem.ready = true
      then ((d.taken x).modDsc (fun q => { q with drains := q.drains ++ [drainOf x] })).drainsGo
      else (d.taken x).finish x stNOT_READY := by
  unfold Dev.plateDrain
  dsimp only
  rw [Dev.dispatch_acts h (by simp only [hb, hu, h1, h2, decide_true, Bool.and_self]) hal]
  refine ite_swap _ _ ?_
  cases (d.taken x).on domWAVE <;> cases (d.taken x).on domMEM <;> simp

/-! ## Streams (R447) -/

/-- A stream of a descriptor. -/
def streamOf (x : Desc) : Stream := { desc := x, offset := 0, blocks := 0, firstFrame := 0, lost := 0, full := false }

/-- A STREAM_ECHO that is well formed. -/
structure Dev.TakesStream (d : Dev) (x : Desc) : Prop where
  takes : d.takes x
  aligned : descAligned x = true
  noB : descNoB x = true
  unused : descUnusedZero x [32, 33, 34, 35] = true
  room : blockRoom ≤ x.lenA

/-- What STREAM_ECHO checks holds. -/
theorem Dev.TakesStream.good {d : Dev} {x : Desc} (h : d.TakesStream x) :
    (descNoB x && descUnusedZero x [32, 33, 34, 35] && decide (blockRoom ≤ x.lenA)) = true := by
  simp only [h.noB, h.unused, h.room, decide_true, Bool.and_self]

theorem Dev.streamEcho_off {d : Dev} {x : Desc} (h : d.TakesStream x) (hon : (d.taken x).on domACQ = false) :
    d.streamEcho x = (d.taken x).finish x stNOT_READY := by
  unfold Dev.streamEcho
  dsimp only
  rw [Dev.dispatch_acts h.takes h.good h.aligned, if_pos (by simp [hon])]

theorem Dev.streamEcho_queues {d : Dev} {x : Desc} (h : d.TakesStream x) (hon : (d.taken x).on domACQ = true)
    (hs : (d.taken x).dsc.stream ≠ none) : d.streamEcho x = (d.taken x).modDsc (fun q => { q with streamQ := q.streamQ ++ [x] }) := by
  unfold Dev.streamEcho
  dsimp only
  rw [Dev.dispatch_acts h.takes h.good h.aligned, if_neg (by simp [hon]), if_pos (Option.isSome_iff_ne_none.mpr hs)]

theorem Dev.streamEcho_begins {d : Dev} {x : Desc} (h : d.TakesStream x) (hon : (d.taken x).on domACQ = true)
    (hs : (d.taken x).dsc.stream = none) (hw : (d.taken x).dsc.waiting = none) :
    d.streamEcho x = (d.taken x).modDsc (fun q => { q with stream := some (streamOf x) }) := by
  have hw' : ((d.taken x).modDsc (fun q => { q with stream := some (streamOf x) })).dsc.waiting = none := hw
  unfold streamOf at hw' ⊢
  unfold Dev.streamEcho
  dsimp only
  rw [Dev.dispatch_acts h.takes h.good h.aligned, if_neg (by simp [hon]), if_neg (by simp [hs]), hw']

/-! ## Calibration runs (09 R266) -/

/-- Runs that begin and end leave those that wait. -/
theorem Dev.runEnd_queue (r : CalRun) (aborted : Bool) (d : Dev) : (d.runEnd r aborted).prf.queue = d.prf.queue := by
  have hraise (e : Dev) (n : Nat) : (e.raise n).prf.queue = e.prf.queue := by rw [Dev.raise_prf]
  have hdone (e : Dev) (st n : Nat) (bs : List Byte) : (e.done r.desc st n bs).prf.queue = e.prf.queue := by
    have h := e.onlyCompletes_done r.desc st n bs
    unfold Dev.OnlyCompletes at h
    rw [h]
  have hwrite (e : Dev) (a : Option Nat) (addr : Nat) (bs : List Byte) : (e.memWrite a addr bs).prf.queue = e.prf.queue := by
    have h := e.onlyCompletes_memWrite a addr bs
    unfold Dev.OnlyCompletes at h
    rw [h]
  have habort (e : Dev) : (if aborted then e.raise Ev.PRF_RUN_ABORT else e).prf.queue = e.prf.queue := by
    split
    · exact hraise _ _
    · rfl
  unfold Dev.runEnd Dev.runReport
  dsimp only
  refine (hdone _ _ _ _).trans ?_
  split
  · exact (hraise _ _).trans ((habort _).trans rfl)
  · exact (hwrite _ _ _ _).trans ((hraise _ _).trans ((habort _).trans rfl))

theorem Dev.pause_prf (a : Nat) (d : Dev) : (d.pause a).prf = d.prf := by
  unfold Dev.pause
  split
  · rfl
  · exact Dev.raiseIf_prf _ _ _

theorem Dev.calSpend_queue (d : Dev) : d.calSpend.prf.queue = d.prf.queue := by
  unfold Dev.calSpend
  split
  · rfl
  split
  · rfl
  split
  · rfl
  · dsimp only [Dev.modPrf]
    rename_i r _ t l _
    generalize (if d.bite.paused.testBit actCAL = true then 0 else _) = n
    have hcharged : (if n = 0 then d else d.charge actCAL n).prf = d.prf := by split <;> rfl
    split
    · exact (congrArg Prf.queue (Dev.pause_prf _ _)).trans (congrArg Prf.queue hcharged)
    · exact congrArg Prf.queue hcharged

/-- Beginning a run leaves those that wait. -/
theorem Dev.runBegin_queue (r : CalRun) (d : Dev) : (d.runBegin r).prf.queue = d.prf.queue := by
  unfold Dev.runBegin
  dsimp only
  generalize (if kindBorrows r.kind = true then r else _) = r'
  split
  · exact Dev.runEnd_queue _ _ _
  · exact Dev.calSpend_queue _

/-- No run waits: none begins. -/
theorem Dev.runNext_empty (n : Nat) {d : Dev} (h : d.prf.queue = []) : Dev.runNext n d = d := by
  cases n with
  | zero => rfl
  | succ n =>
    unfold Dev.runNext
    rw [h]
    split <;> rfl

/-- A CAL_RUN that is well formed and whose domain is powered. -/
structure Dev.TakesRun (d : Dev) (x : Desc) : Prop where
  takes : d.takes x
  aligned : descAligned x = true
  good : calRunGood x = true
  on : (d.taken x).on (kindDomain (descPar x 32 1)) = true

theorem Dev.calRun_busy {d : Dev} {x : Desc} (h : d.TakesRun x) (ha : (d.taken x).prf.active ≠ none) (hq : 8 ≤ (d.taken x).prf.queue.length) :
    d.calRun x = (d.taken x).finish x stBUSY := by
  unfold Dev.calRun
  rw [Dev.dispatch_acts h.takes h.good h.aligned, if_neg (by simp [h.on]), if_pos (by simp [Option.isSome_iff_ne_none.mpr ha, hq])]

/-- Beside a run that executes, one waits. -/
theorem Dev.calRun_waits {d : Dev} {x : Desc} (h : d.TakesRun x) (ha : (d.taken x).prf.active ≠ none) (hq : (d.taken x).prf.queue.length < 8) :
    d.calRun x = (d.taken x).modPrf (fun p => { p with queue := p.queue ++ [calRunOf x] }) := by
  unfold Dev.calRun
  rw [Dev.dispatch_acts h.takes h.good h.aligned, if_neg (by simp [h.on]), if_neg (by simp; omega)]
  exact if_pos (Option.isSome_iff_ne_none.mpr ha)

/-- Alone, it begins. -/
theorem Dev.calRun_begins {d : Dev} {x : Desc} (h : d.TakesRun x) (ha : (d.taken x).prf.active = none) (hq : (d.taken x).prf.queue = []) :
    d.calRun x = (d.taken x).runBegin (calRunOf x) := by
  have hemptied : Dev.modPrf (fun p => { p with queue := [] }) ((d.taken x).modPrf (fun p => { p with queue := [calRunOf x] })) = d.taken x := by
    unfold Dev.modPrf
    dsimp only
    rw [← hq]
  have hrun : Dev.runNext 8 ((d.taken x).modPrf (fun p => { p with queue := [calRunOf x] }))
      = Dev.runNext 7 ((d.taken x).runBegin (calRunOf x)) := by
    refine (if_neg ?_).trans (congrArg (fun e => Dev.runNext 7 (Dev.runBegin (calRunOf x) e)) hemptied)
    simp [Dev.modPrf, ha]
  have hqueued : (d.taken x).modPrf (fun p => { p with queue := p.queue ++ [calRunOf x] })
      = (d.taken x).modPrf (fun p => { p with queue := [calRunOf x] }) := by
    unfold Dev.modPrf
    dsimp only
    rw [hq, List.nil_append]
  unfold Dev.calRun
  rw [Dev.dispatch_acts h.takes h.good h.aligned, if_neg (by simp [h.on]), if_neg (by simp [ha]), hqueued, hrun,
    Dev.runNext_empty 7 ((Dev.runBegin_queue _ _).trans hq)]

/-! ## Votes (16 R466, R481) -/

/-- The host's vote is cast. -/
def Dev.voted (v : Nat) (d : Dev) : Dev := { d with pwr := { d.pwr with votes := setAt d.pwr.votes 0 (v &&& 0x1FC) } }

/-- A vote that changes no target completes at once. -/
theorem Dev.powerVote_done {d : Dev} {x : Desc} (h : d.takes x) (hal : descAligned x = true)
    (hgood : (descNoA x && descNoB x && descUnusedZero x [32, 33] && descPar x 32 2 % 4 = 0 && decide (descPar x 32 2 < 512)) = true)
    (hcrit : (d.taken x).critHold = false) (hf : (d.taken x).pwr.failed = false)
    (ht : ((d.taken x).voted (descPar x 32 2)).target
      = if (d.taken x).pwr.seq.isSome then (d.taken x).pwr.goal else (d.taken x).pwr.domains) :
    d.powerVote x = (((d.taken x).voted (descPar x 32 2)).voteDone stOK x).pwr1 := by
  have hcast : (d.taken x).cast 0 (descPar x 32 2) = (d.taken x).voted (descPar x 32 2) := by
    have hhold : Dev.critHold ((d.taken x).modPwr (fun p => { p with votes := setAt p.votes 0 (descPar x 32 2 &&& 0x1FC) })) = false := hcrit
    unfold Dev.cast
    dsimp only
    rw [hcrit, if_neg (by decide), Dev.critRefuses, hhold]
    rfl
  unfold Dev.powerVote
  dsimp only
  rw [Dev.dispatch_acts h hgood hal, hcast, hf, Dev.critRefuses, hcrit, if_neg (by simp)]
  exact if_pos ht

/-- Settles O47: NOT_READY of an ACQ_STOP whose domain is off is log 84, and of a stop of plates log 43. -/
theorem descriptorsDoWhatTheirTypeSays : Obligations.DescriptorsDoWhatTheirTypeSays := by
  unfold Obligations.DescriptorsDoWhatTheirTypeSays
  intro s x ha hc ht hal d end_
  have engine {c : Instr} {typ : Nat} (f : Desc → Dev → Dev) (hexec : exec c s = .next (State.engineDev typ f x s)) (htyp : x.typ = typ) {e : Dev}
      (he : f x s.dev = e) : exec c s = .next (end_ e) := by
    rw [exec_engineDev f hexec ha hc htyp, he]
  refine ⟨fun htyp hA hB => ⟨fun hu => ?_, fun hu => ?_⟩, fun htyp hA hB hu => engine _ rfl htyp (Dev.acqStart_takes ht hal ?_),
    fun htyp hA hB hu h1 => engine _ rfl htyp (Dev.acqStop_takes ht hal ?_),
    fun htyp hA hB hu h1 h2 => engine _ rfl htyp (Dev.plateArm_takes ht hal ?_), fun htyp hB hu h1 => ?_,
    fun htyp hB hu h1 h2 h3 h4 => engine _ rfl htyp (Dev.histDump_takes ht hal hB hu h1 h2 h3 h4),
    fun htyp hB hu h1 h2 => engine _ rfl htyp (Dev.plateDrain_takes ht hal hB hu h1 h2), fun htyp hgood hon => ?_,
    fun htyp hA hB hu h1 h2 hcrit hf => ?_⟩
  · exact engine _ rfl htyp (Dev.dispatch_acts ht (by simp [hA, hB, hu]) hal)
  · refine ⟨d.raise Ev.DSC_BAD_DESC, Dev.raise_noted ((Dev.taken_on _ _ _).trans hc) (by decide), engine _ rfl htyp (Dev.dispatch_bad _ ht ?_)⟩
    simp [hu]
  · simp [hA, hB, hu]
  · simp [hA, hB, hu, h1]
  · simp [hA, hB, hu, h1, h2]
  · have hstream : s.dev.TakesStream x := ⟨ht, hal, hB, hu, h1⟩
    exact ⟨fun hon hs hw => engine _ rfl htyp (Dev.streamEcho_begins hstream hon hs hw),
      fun hon hs => engine _ rfl htyp (Dev.streamEcho_queues hstream hon hs),
      fun hoff => engine _ rfl htyp (Dev.streamEcho_off hstream hoff)⟩
  · have hrun : s.dev.TakesRun x := ⟨ht, hal, hgood, hon⟩
    exact ⟨fun hact hq => engine _ rfl htyp (Dev.calRun_waits hrun hact hq), fun hact hq => engine _ rfl htyp (Dev.calRun_busy hrun hact hq),
      fun hact hq => engine _ rfl htyp (Dev.calRun_begins hrun hact hq)⟩
  · intro m htarget
    exact engine _ rfl htyp (Dev.powerVote_done ht hal (by simp [hA, hB, hu, h1, h2]) hcrit hf htarget)

end Sys2Proof.Machine
end

section
/-! Descriptors that load images, tables and firmware (15 R449, R450, R453; 02 R54; 17 R490, R491). -/
namespace Sys2Proof.Machine

/-! ## CONFIG_APPLY (R453) -/

/-- Bits 9 and 8 of CFG_STATUS for a format failure. -/
theorem fld_setFld_format (w : Word) : fld (setFld w 9 8 2) 9 8 = 2 := by
  have hlt : ((w.toNat &&& (0xFFFFFFFF ^^^ 768)) ||| 512) < 2 ^ 32 :=
    Nat.or_lt_two_pow (lt_of_le_of_lt Nat.and_le_left w.isLt) (by decide)
  have hword : (setFld w 9 8 2).toNat = (w.toNat &&& (0xFFFFFFFF ^^^ 768)) ||| 512 := word_toNat hlt
  unfold fld bitsN
  rw [hword]
  refine Nat.eq_of_testBit_eq fun i => ?_
  rw [Nat.testBit_mod_two_pow, Nat.testBit_shiftRight, Nat.testBit_or, Nat.testBit_and]
  match i with
  | 0 => rw [show (0xFFFFFFFF ^^^ 768 : Nat).testBit (8 + 0) = false by decide, Bool.and_false]; decide
  | 1 => rw [show (512 : Nat).testBit (8 + 1) = true by decide, Bool.or_true]; decide
  | i + 2 =>
    have hsmall : (2 : Nat).testBit (i + 2) = false := Nat.testBit_lt_two_pow (lt_of_lt_of_le (by decide) (Nat.pow_le_pow_right (by decide) (Nat.le_add_left 2 i)))
    rw [hsmall, decide_eq_false (by omega), Bool.false_and]

/-- A buffer that was read in full. -/
theorem readA_full {x : Desc} {bs : List Byte} (h : bs.length = x.lenA) : readA x (some bs) = some bs := by
  rw [readA, Option.map_some, ← h, List.take_length]

/-- No image waits: none is dropped. -/
theorem Dev.dropImage_none {d : Dev} (h : d.glb.image = none) : d.dropImage = d := by
  unfold Dev.dropImage
  rw [h]

/-- A CONFIG_APPLY that is well formed, with no image waiting. -/
structure Dev.TakesImage (d : Dev) (x : Desc) : Prop where
  takes : d.takes x
  aligned : descAligned x = true
  noB : descNoB x = true
  unused : descUnusedZero x [] = true
  none : (d.taken x).glb.image = none

theorem Dev.TakesImage.good {d : Dev} {x : Desc} (h : d.TakesImage x) : (descNoB x && descUnusedZero x []) = true := by
  simp only [h.noB, h.unused, Bool.and_self]

theorem Dev.configApply_readFail {d : Dev} {x : Desc} (h : d.TakesImage x) : d.configApply x none = (d.taken x).finish x stREAD_FAIL := by
  unfold Dev.configApply
  rw [Dev.dispatch_acts h.takes h.good h.aligned]
  rfl

/-- An image that passes waits for the tick. -/
theorem Dev.configApply_stages {d : Dev} {x : Desc} {bs : List Byte} {id : Nat} {vals : List (Nat × Word)} (h : d.TakesImage x)
    (hlen : bs.length = x.lenA) (hp : parseConfig bs = some (id, vals)) : d.configApply x (some bs)
      = { d.taken x with glb := { (d.taken x).glb with image := some { ident := id, vals := vals, flight := x } } } := by
  unfold Dev.configApply
  rw [Dev.dispatch_acts h.takes h.good h.aligned, readA_full hlen]
  dsimp only
  rw [if_pos hlen, hp]
  dsimp only
  rw [Dev.dropImage_none h.none]

/-- The registers return to their defaults at the tick. -/
def Dev.formatFailed (d : Dev) : Dev :=
  let e := d.setF Reg.DSC_CFG_STATUS 9 8 2
  { e with glb := { e.glb with toDefaults := true } }

theorem Dev.configApply_format {d : Dev} {x : Desc} {bs : List Byte} (h : d.TakesImage x) (hlen : bs.length = x.lenA)
    (hp : parseConfig bs = none) :
    d.configApply x (some bs) = ((d.taken x).formatFailed.raise Ev.CFG_FORMAT).finish x stFORMAT := by
  unfold Dev.configApply
  rw [Dev.dispatch_acts h.takes h.good h.aligned, readA_full hlen]
  dsimp only
  rw [if_pos hlen, hp]
  dsimp only
  rw [Dev.dropImage_none h.none]
  rfl

/-! ## TABLE_LOAD of a code table (R450; 02 R54) -/

/-- Consecutive values of a table. -/
theorem tabGet_putFrom (vs : List Nat) (m : Tab Nat) (k j : Nat) : tabGet 0 (putFrom m k vs) j
    = if k ≤ j ∧ j < k + vs.length then vs.getD (j - k) 0 else tabGet 0 m j := by
  induction vs generalizing m k with
  | nil => rw [putFrom, if_neg (by simp only [List.length_nil]; omega)]
  | cons v vs ih =>
    rw [putFrom, ih]
    by_cases hj : k = j
    · subst hj
      rw [if_neg (by omega), tabGet_put_same, if_pos (by simp), Nat.sub_self]
      rfl
    · rw [tabGet_put_ne _ _ _ hj]
      by_cases hin : k + 1 ≤ j ∧ j < k + 1 + vs.length
      · rw [if_pos hin, if_pos (by simp only [List.length_cons]; omega), show j - k = j - (k + 1) + 1 by omega, List.getD_cons_succ]
      · rw [if_neg hin, if_neg (by simp only [List.length_cons]; omega)]

/-- The values of a code table. -/
def codeVals (bs : List Byte) : List Nat := (List.range 4096).map (fun i => leAt bs (4 + 2 * i) 2)

theorem codeVals_get (bs : List Byte) {k : Nat} (h : k < 4096) : tabGet 0 (putFrom [] 0 (codeVals bs)) k = leAt bs (4 + 2 * k) 2 := by
  rw [tabGet_putFrom, if_pos (by simp [codeVals, h])]
  simp [codeVals, h]

/-- A TABLE_LOAD of a code table that is well formed. -/
structure Dev.TakesCode (d : Dev) (x : Desc) : Prop where
  takes : d.takes x
  aligned : descAligned x = true
  noB : descNoB x = true
  unused : descUnusedZero x [32] = true
  cls : descPar x 32 1 = 2

theorem Dev.TakesCode.good {d : Dev} {x : Desc} (h : d.TakesCode x) :
    (descNoB x && descUnusedZero x [32] && decide (1 ≤ descPar x 32 1) && decide (descPar x 32 1 ≤ 5)) = true := by
  rw [h.cls, h.noB, h.unused]
  rfl

theorem Dev.tableLoad_off {d : Dev} {x : Desc} (data : Option (List Byte)) (h : d.TakesCode x) (hon : (d.taken x).on domACQ = false) :
    d.tableLoad x data = (d.taken x).finish x stNOT_READY := by
  unfold Dev.tableLoad
  dsimp only
  rw [Dev.dispatch_acts h.takes h.good h.aligned, h.cls]
  exact if_pos (by rw [show tableDomain 2 = domACQ from rfl, hon]; rfl)

theorem Dev.tableLoad_readFail {d : Dev} {x : Desc} (h : d.TakesCode x) (hon : (d.taken x).on domACQ = true) :
    d.tableLoad x none = (d.taken x).finish x stREAD_FAIL := by
  unfold Dev.tableLoad
  dsimp only
  rw [Dev.dispatch_acts h.takes h.good h.aligned, h.cls]
  exact if_neg (by rw [show tableDomain 2 = domACQ from rfl, hon]; decide)

theorem Dev.tableLoad_code {d : Dev} {x : Desc} {bs : List Byte} (h : d.TakesCode x) (hon : (d.taken x).on domACQ = true)
    (hlen : bs.length = x.lenA) : d.tableLoad x (some bs)
      = ((d.taken x).loadCode bs).2.finish x (if ((d.taken x).loadCode bs).1 then stOK else stFORMAT) := by
  unfold Dev.tableLoad
  dsimp only
  rw [Dev.dispatch_acts h.takes h.good h.aligned, h.cls, readA_full hlen]
  exact if_neg (by rw [show tableDomain 2 = domACQ from rfl, hon]; decide)

/-- A code table that passes its own checks goes to the shadow; one that does not is rejected. -/
theorem Dev.loadCode_ok {bs : List Byte} {d : Dev} (h : codeTableOk bs = true) :
    d.loadCode bs = (true, { d with brn := { d.brn with shadow := some (putFrom [] 0 (codeVals bs)) } }) := if_pos h
theorem Dev.loadCode_bad {bs : List Byte} {d : Dev} (h : codeTableOk bs = false) : d.loadCode bs = (false, d.raise Ev.BRN_TABLE_REJECT) :=
  if_neg (by simp [h])

/-! ## FW_LOAD (17 R490) -/

/-- A read that failed completes READ_FAIL. -/
theorem State.fwLoad_readFail {s : State} {q : Desc} (h : s.TakesFwLoad q) (hok : s.fwAllowed = true) :
    s.fwLoad q none = { s with dev := (s.dev.taken q).finish q stREAD_FAIL } := by
  unfold State.fwLoad State.onDev
  dsimp only
  rw [Dev.dispatch_takes _ h.takes h.good h.aligned h.ready, hok]
  rfl

/-- While the island cannot take an image, a load waits. -/
theorem State.fwLoad_waits {s : State} {q : Desc} (data : Option (List Byte)) (ht : s.dev.takes q) (hal : descAligned q = true)
    (hb : descNoB q = true) (hu : descUnusedZero q [] = true) (hr : s.fwReady = false) :
    s.fwLoad q data = { s with dev := s.dev.known q } := by
  unfold State.fwLoad State.onDev
  dsimp only
  rw [Dev.dispatch_waits _ ht (by simp [hb, hu]) hal hr]

/-- Settles O48. -/
theorem loadsAreCheckedBeforeTheyAct : Obligations.LoadsAreCheckedBeforeTheyAct := by
  unfold Obligations.LoadsAreCheckedBeforeTheyAct
  intro s x data ha hc ht hal hB d end_
  have hcore : d.on domCORE = true := (Dev.taken_on _ _ _).trans hc
  have engine {c : Instr} {typ : Nat} (f : Desc → Dev → Dev) (hexec : exec c s = .next (State.engineDev typ f x s)) (htyp : x.typ = typ) {e : Dev}
      (he : f x s.dev = e) : exec c s = .next (end_ e) := by
    rw [exec_engineDev f hexec ha hc htyp, he]
  refine ⟨fun htyp hu hnone => ?_, fun htyp hu hcls => ?_, fun htyp hu hr => ?_, fun htyp hu hr => ?_⟩
  · have himage : s.dev.TakesImage x := ⟨ht, hal, hB, hu, hnone⟩
    refine ⟨fun hdata => ?_, fun bs id vals hdata hlen hp => ?_, fun bs hdata hlen hp => ?_⟩ <;> subst hdata
    · exact engine (fun x d => Dev.configApply x none d) rfl htyp (Dev.configApply_readFail himage)
    · exact engine (fun x d => Dev.configApply x (some bs) d) rfl htyp (Dev.configApply_stages himage hlen hp)
    · refine ⟨d.formatFailed, _, Dev.raise_noted (by exact hcore) (by decide), rfl, ?_,
        engine (fun x d => Dev.configApply x (some bs) d) rfl htyp (Dev.configApply_format himage hlen hp)⟩
      exact (congrArg (fun w => fld w 9 8) (Dev.rd_wr_same d _ _)).trans (fld_setFld_format _)
  · have hcode : s.dev.TakesCode x := ⟨ht, hal, hB, hu, hcls⟩
    refine ⟨fun hoff => engine (fun x d => Dev.tableLoad x data d) rfl htyp (Dev.tableLoad_off data hcode hoff), fun hon hdata => ?_,
      fun bs hon hdata hlen hok => ?_, fun bs hon hdata hlen hbad => ?_⟩ <;> subst hdata
    · exact engine (fun x d => Dev.tableLoad x none d) rfl htyp (Dev.tableLoad_readFail hcode hon)
    · refine ⟨_, engine (fun x d => Dev.tableLoad x (some bs) d) rfl htyp ((Dev.tableLoad_code hcode hon hlen).trans (by rw [Dev.loadCode_ok hok]; rfl)),
        rfl, _, rfl, fun k hk => codeVals_get bs hk⟩
    · refine ⟨_, Dev.raise_noted hcore (by decide), engine (fun x d => Dev.tableLoad x (some bs) d) rfl htyp
        ((Dev.tableLoad_code hcode hon hlen).trans (by rw [Dev.loadCode_bad hbad]; rfl))⟩
  · have hload : s.TakesFwLoad x := ⟨ht, hal, hB, hu, hr⟩
    rw [exec_fwLoad data ha hc htyp]
    refine ⟨fun hok hdata => ?_, fun bs hok hdata => ?_, fun hno => ?_⟩
    · rw [hdata, State.fwLoad_readFail hload hok]
    · rw [hdata, State.fwLoad_taken bs hload hok]
      rfl
    · rw [State.fwLoad_denied data hload hno]
  · rw [exec_fwLoad data ha hc htyp, State.fwLoad_waits data ht hal hB hu hr]

end Sys2Proof.Machine
end
